-- ==== Sys2Proof/Word.lean ====
section
/-!
DEFINITION. Word.lean: the words of the register interface (R8: 32-bit registers, little-endian) and the plain
finite maps the state keeps its sparse tables in.
-/
namespace Sys2Proof

/-- A register is 32 bits wide (R8). -/
abbrev Word := BitVec 32

/-- One byte of a frame, a buffer or a memory. -/
abbrev Byte := BitVec 8

/-- A sparse table: entries by index. The operations of Machine/Ops.lean keep the indices strictly rising. -/
abbrev KMap (α : Type) := List (Nat × α)

end Sys2Proof
end

