-- ==== Sys2Proof/Syntax.lean ====
section
/-!
DEFINITION. Syntax.lean: the commands of the block, one constructor per row of spec/opcode_table.json, and the plain
data their operands carry. The rows have no bits (spec/opcode_table.json gives none), so there is no encoding.
-/
namespace Sys2Proof

/-- Who makes a register access: PCIe PF0 and PF1 (R377), SPI frames (R381), the secure core and the application
cores (R34, R470). -/
inductive Src where
  | pf0 | pf1 | spi | spiSec | core | app
  deriving DecidableEq, Repr

/-- The three wide values of a pulse channel (R62). -/
inductive PulseParam where
  | start | period | width
  deriving DecidableEq, Repr

/-- A coefficient request of the partner's receiver in training (R87): taps 0 to 4 are C_M2, C_M1, C0, C_P1 and C_P2. -/
inductive TrainReq where
  | inc (tap : Nat)
  | dec (tap : Nat)
  | preset
  | initialise
  deriving DecidableEq, Repr

/-- What a partner's Clause 73 base page advertises: port modes and FEC codes (R87). -/
structure Page where
  techs : List Nat
  fecs : List Nat
  deriving DecidableEq, Repr

/-- What a lane sees of its sync headers, or of its alignment marker positions: whether each is valid, in order (R89, R90). -/
structure Hunt where
  lane : Nat
  seen : List Bool
  deriving DecidableEq, Repr

/-- The edges an input slot took since its last report, as runs: the ticks of the first and the last edge of each (R238). -/
structure Edges where
  slot : Nat
  runs : List (Nat × Nat)
  deriving DecidableEq, Repr

/-- A navigation unit as received (R310). LNAV and D1: its ten words, with the last two bits of the word before in `prev`; I/NAV:
the even and the odd part of the page, and in `prev` whether they belong together. -/
structure NavUnit where
  prev : Nat
  raw : List Nat
  deriving DecidableEq, Repr

/-- What one satellite's channels give a time solution (R311): its channel on GSA and, where it is tracked on both bands, on GSB;
its elevation in degrees; for each band the offset of its system's time from network time that the channel's record, the
ephemeris and the held position give, and the delay of the broadcast ionosphere model, all in 2^-16 ns. -/
structure SatObs where
  a : Nat
  b : Option Nat := none
  elev : Int := 90
  offA : Int := 0
  offB : Int := 0
  iono : Int := 0
  deriving DecidableEq, Repr

/-- What the receive side measures of a frame: the time from its capture to now on the Leaf timebase and the variable
correction, both in 2^-16 ns (R122, R124); a code error within it; the codewords corrected and uncorrectable (R113). -/
structure RxInfo where
  ago : Nat := 0
  var : Nat := 0
  codeErr : Bool := false
  corrected : Nat := 0
  uncorrectable : Nat := 0
  deriving DecidableEq, Repr

/-- What the fuses of a part hold (R1, R2, R316, R351, R360, R370): MEMBER as SYS.ID0 shows it, the grade, the device identity,
the word of SEC.FUSE, the hashes of the owner keys of slots 0 to 3, the password hash, and SERIAL.
(DESIGN CHOICE, log entry 5) -/
structure Fuses where
  member : Nat := 8
  gradeE : Bool := false
  deviceId : Nat := 0
  sec : Word := 0#32
  keys : List (List Byte) := []
  pw : List Byte := []
  serial : Nat := 1
  deriving DecidableEq, Repr

/-- The commands of the block: one constructor per row of the opcode table (R-numbers in each docstring). `dt` is the
number of TSU ticks (1.25 ns, R49) that pass between the command before and this one.
(DESIGN CHOICE, log entry 14) -/
inductive Instr where
  /-- REGISTER_WRITE (R9): A write to a register that has no row of its own applies each field under its access type, or is discarded under the checks of its block. `be`: every byte enable is set; `took`: ticks a command that the write starts stays busy; `fault`: a reference slot that the write enables shows an activity fault. -/
  | registerWrite (dt : Nat) (src : Src) (a : Nat) (w : Word) (be : Bool) (took : Nat) (fault : Bool)
  /-- WIDE_VALUE_READ (R11): A read of the lowest word of a wide value latches its upper words at the same instant. -/
  | wideValueRead (dt : Nat) (src : Src) (a : Nat)
  /-- READ_CLEAR (R9): A read of an RC field returns its value and clears it, keeping any same-cycle hardware update. -/
  | readClear (dt : Nat) (src : Src) (a : Nat)
  /-- STITCH_MODULE_REMOVAL (R179): A stitch module with 16 CRC errors in 1 ms or 1 µs without clock is removed from service and its reservations are moved. -/
  | stitchModuleRemoval (dt : Nat) (l q : Nat)
  /-- DRAIN_COMPLETE (R45): A DRAINING Leaf's buffer and crossing queues become empty and the Leaf goes to OFF, or to STARTING if a restart was requested. -/
  | drainComplete (dt : Nat) (n : Nat)
  /-- DRAIN_LIMIT_EXPIRY (R45): The drain limit expires; frames still held are discarded as drained and the Leaf goes to OFF or STARTING. -/
  | drainLimitExpiry (dt : Nat) (n : Nat)
  /-- RESTORE_COMPLETE (R47): The firmware finishes restoring a STARTING Leaf from the shadow copy and the Leaf enters ALIGNING. -/
  | restoreComplete (dt : Nat) (n : Nat)
  /-- LEAF_ALIGNED (R48): An ALIGNING Leaf's residual comes within ±2.5 ps and it enters IN_SERVICE. -/
  | leafAligned (dt : Nat) (n : Nat)
  /-- ALIGN_TIMEOUT (R48): A Leaf fails to align within the ALIGNING limit, goes to FAULT and raises its fault event. -/
  | alignTimeout (dt : Nat) (n : Nat)
  /-- TIME_SET_WRITE (R51): A write of the lowest word of TIME.SET arms a load for the next second boundary, or sets SET_ERR if the time is invalid. `w` is the lowest word. -/
  | timeSetWrite (dt : Nat) (src : Src) (w : Word)
  /-- SET_CANCEL (R51): A write of 1 to TIME.CTRL.SET_CANCEL discards a pending TIME.SET load. -/
  | setCancel (dt : Nat) (src : Src)
  /-- TIME_SET_LOAD (R51): At the second boundary with a load pending, the master counter takes the set value and VALID sets. -/
  | timeSetLoad (dt : Nat)
  /-- LEAF_ALIGN_EXCHANGE (R53): Every 1,024 ticks the Spine exchanges an alignment word with each Leaf in service, corrects its counter and reports the residual. `resid` is the residual after correction, in 2^-16 ns. -/
  | leafAlignExchange (dt : Nat) (n : Nat) (resid : Int)
  /-- LEAF_RESID_WARN (R54): A Leaf residual outside ±2.5 ps for more than 1 ms sets WARN and raises the alignment event. -/
  | leafResidWarn (dt : Nat) (n : Nat)
  /-- CAPTURE_EDGE (R56): A selected edge at an enabled capture pin is stamped and queued, or counted lost. `sub` is the place of the edge inside the tick, in 2^-16 ns. -/
  | captureEdge (dt : Nat) (i : Nat) (rising : Bool) (sub : Nat)
  /-- CAPTURE_READ (R58): A read of the lowest word of CAP[i].TS removes the oldest stamp and latches it with its flags. -/
  | captureRead (dt : Nat) (src : Src) (i : Nat)
  /-- CAPTURE_FLUSH (R57): A write of 1 to CAP[i].CTRL.FLUSH discards all held stamps and clears LOST. -/
  | captureFlush (dt : Nat) (src : Src) (i : Nat)
  /-- PULSE_CTRL_WRITE (R61): A write of a pulse channel's MODE starts, stops or refuses its schedule with CFG_ERR or LATE. -/
  | pulseCtrlWrite (dt : Nat) (src : Src) (j : Nat) (w : Word)
  /-- PULSE_PARAM_WRITE (R62): A write of the lowest word of PERIOD, WIDTH or START stages new pulse values, or discards an invalid START. `w` is the lowest word. -/
  | pulseParamWrite (dt : Nat) (src : Src) (j : Nat) (p : PulseParam) (w : Word)
  /-- PULSE_EDGE (R60): A pulse channel reaches a scheduled leading edge, applying any staged values checked as a set. -/
  | pulseEdge (dt : Nat) (j : Nat)
  /-- ACT_PART_WRITE (R64): A write of TIME.ACT_PART moves the secure share boundary, or is discarded with IN_USE or INVALID. -/
  | actPartWrite (dt : Nat) (src : Src) (w : Word)
  /-- ACT_CMD_WRITE (R66): A WRITE operation on TIME.ACT[w] copies the staging words into a FREE entry, or reports IN_USE, INVALID, LATE or WORLD. `w` is the interface, `took` the ticks until the command completes. -/
  | actCmdWrite (dt : Nat) (src : Src) (w index took : Nat)
  /-- ACT_CMD_READ (R68): A READ operation on TIME.ACT[w] fills the staging words from the entry. -/
  | actCmdRead (dt : Nat) (src : Src) (w index took : Nat)
  /-- ACT_CMD_CANCEL (R68): A CANCEL operation on TIME.ACT[w] frees a PENDING entry, or reports LATE or INVALID. -/
  | actCmdCancel (dt : Nat) (src : Src) (w index took : Nat)
  /-- ACT_ARM (R65): Ten microseconds before its trigger an entry becomes ARMED and its action is delivered to the Leaves. -/
  | actArm (dt : Nat) (e : Nat)
  /-- PULSE_ACTION (R74): A PULSE entry fires and emits one pulse of its width on a channel in ACTION mode, or is REFUSED. -/
  | pulseAction (dt : Nat) (e : Nat)
  /-- SNAPSHOT_ACTION (R451): A SNAPSHOT entry fires and copies the selected counter groups of the selected dies at its trigger time. -/
  | snapshotAction (dt : Nat) (e : Nat)
  /-- SWAP_VLAN_BANK (R70): A SWAP_VLAN_BANK entry fires and changes the active VLAN bank, keeping the old one for 100 µs. -/
  | swapVlanBank (dt : Nat) (e : Nat)
  /-- SWAP_GROUP_BANK (R70): A SWAP_GROUP_BANK entry fires and changes the active multicast group bank. -/
  | swapGroupBank (dt : Nat) (e : Nat)
  /-- SWAP_STREAM_BANK (R70): A SWAP_STREAM_BANK entry fires and changes the active stream bank. -/
  | swapStreamBank (dt : Nat) (e : Nat)
  /-- SWAP_GCL (R195): A SWAP_GCL entry fires and makes a port's other gate control list active, or is REFUSED. -/
  | swapGcl (dt : Nat) (e : Nat)
  /-- PORT_ENABLE (R74): A PORT_ENABLE entry fires and brings the port administratively up from the trigger. -/
  | portEnable (dt : Nat) (e : Nat)
  /-- PORT_DISABLE (R74): A PORT_DISABLE entry fires and discards the port's queued and later frames as PORT_DISABLED. -/
  | portDisable (dt : Nat) (e : Nat)
  /-- PHASE_STEP (R256): A PHASE_STEP entry fires and steps a DPLL's phase in its trigger tick. -/
  | phaseStep (dt : Nat) (e : Nat)
  /-- PARAM_COMMIT_ACTION (R419): A PARAM_COMMIT entry fires and the firmware checks and commits its staging set, or reports REFUSED. -/
  | paramCommitAction (dt : Nat) (e : Nat)
  /-- DIVIDER_SYNC (R285): A DIVIDER_SYNC entry fires and loads the staged dividers of the outputs in its mask at its trigger tick. -/
  | dividerSync (dt : Nat) (e : Nat)
  /-- CLAIM_DRILL (R328): A CLAIM_DRILL entry fires and moves the domain's ACTIVE member to DRILL for its length, or is REFUSED. -/
  | claimDrill (dt : Nat) (e : Nat)
  /-- RAISE_EVENT (R74): A RAISE_EVENT entry fires and sets its TIME.ACT_EVT bit. -/
  | raiseEvent (dt : Nat) (e : Nat)
  /-- LANE_CTRL_WRITE (R84): A write of LANE[g].CTRL changes EN, MEDIA, AN_EN or ADAPT_MODE, moving the port to OFF or DETECT, or is discarded. -/
  | laneCtrlWrite (dt : Nat) (src : Src) (g : Nat) (w : Word)
  /-- LANE_RESTART (R84): A write of 1 to RESTART returns the port to DETECT and clears FAIL_COUNT and SILENT. -/
  | laneRestart (dt : Nat) (src : Src) (g : Nat)
  /-- PARTNER_DETECTED (R81): The partner is found under the media's rule and the port moves from DETECT to TRAIN or LOCK. `signal` is for how many ticks the receive signal has been present. -/
  | partnerDetected (dt : Nat) (p signal : Nat)
  /-- TERMINATION_PROBE (R81): A copper lane in DETECT probes for far-end termination at its 10 ms interval. -/
  | terminationProbe (dt : Nat) (p : Nat) (found : Bool)
  /-- AN_PAGE_EXCHANGE (R87): Clause 73 base pages are exchanged; resolution gives the port's technology or fails with AN_FAIL. -/
  | anPageExchange (dt : Nat) (p : Nat) (page : Page)
  /-- AN_TIMEOUT (R84): Signal present 1 s without valid DME pages fails the attempt with AN_FAIL. -/
  | anTimeout (dt : Nat) (p signal : Nat)
  /-- TRAIN_COMPLETE (R84): Every lane of the port is trained with both receivers ready and the port enters LOCK. `reqs` holds the partner's coefficient requests lane by lane, in order. -/
  | trainComplete (dt : Nat) (p : Nat) (reqs : List (List TrainReq))
  /-- TRAIN_FAIL (R84): The partner reports training failure or breaks the coefficient protocol and the port returns to DETECT. -/
  | trainFail (dt : Nat) (p : Nat) (lanes : List Nat)
  /-- TRAIN_TIMEOUT (R84): TRAIN_TMO elapses in TRAIN and the port returns to DETECT with a failure. -/
  | trainTimeout (dt : Nat) (p : Nat)
  /-- BLOCK_LOCK (R89): A lane declares lock; with every lane locked and the port deskewed, the port enters EXCHANGE. `h` holds the lane and what its hunt saw; `skew`: the largest skew of the lanes locked, in ps. -/
  | blockLock (dt : Nat) (h : Hunt) (skew : Nat)
  /-- LOCK_TIMEOUT (R84): LOCK_TMO elapses in LOCK and the port returns to DETECT with a failure. -/
  | lockTimeout (dt : Nat) (p : Nat)
  /-- CLAUSE_37_NEGOTIATION (R87): Clause 37 auto-negotiation in EXCHANGE completes or fails with AN_FAIL. -/
  | clause37Negotiation (dt : Nat) (p : Nat) (ok : Bool)
  /-- EXCH_WAIT_EXPIRY (R230): EXCH_WAIT expires in EXCHANGE and the port goes ACTIVE with the exchange incomplete. -/
  | exchWaitExpiry (dt : Nat) (p : Nat)
  /-- LOCK_LOSS (R89): A lane loses lock in EXCHANGE or ACTIVE and the port returns to LOCK, counting LOCK_LOSS. `h` holds the lane, and a window of its sync headers or its last marker positions. -/
  | lockLoss (dt : Nat) (h : Hunt)
  /-- SIGNAL_LOST (R84): Receive signal detect is absent for more than 100 µs and the port returns to DETECT. -/
  | signalLost (dt : Nat) (p : Nat) (lanes : List Nat)
  /-- MODULE_PRESENCE_LOST (R84): An optical module's presence is lost and the port returns to DETECT with SIGNAL_LOST. -/
  | modulePresenceLost (dt : Nat) (p : Nat)
  /-- BACKOFF_END (R93): A back-off after a failure ends and partner detection begins afresh. -/
  | backoffEnd (dt : Nat) (p : Nat)
  /-- LANE_TIMERS_WRITE (R92): A write of LANE TIMERS or RETRY takes effect at the next entry, or is discarded whole with CFG_ERR. `retry` chooses RETRY over TIMERS. -/
  | laneTimersWrite (dt : Nat) (src : Src) (g : Nat) (retry : Bool) (w : Word)
  /-- LANE_ADAPT_WRITE (R103): A write of LANE[g].ADAPT sets the freeze thresholds, or is discarded when RESUME_MIN does not exceed FREEZE_MIN. -/
  | laneAdaptWrite (dt : Nat) (src : Src) (g : Nat) (w : Word)
  /-- FFE_APPLY (R96): A write of 1 to FFE_P2.APPLY applies software FFE coefficients at a block boundary, or discards invalid ones with FFE_ERR. `w` is the word written to FFE_P2. -/
  | ffeApply (dt : Nat) (src : Src) (g : Nat) (w : Word)
  /-- EQUALISER_WRITE (R100): A write of CTLE.PEAK or DFE applies within 1 µs in OFF mode, or sets the next adaptation start point. `ctle` chooses CTLE over DFE. -/
  | equaliserWrite (dt : Nat) (src : Src) (g : Nat) (ctle : Bool) (w : Word)
  /-- ADAPTATION_STEP (R101): Adaptation applies one CTLE or DFE code step at its allowed rate. `tap` 0 is the CTLE, 1 to 3 the DFE taps. -/
  | adaptationStep (dt : Nat) (g tap : Nat) (up : Bool)
  /-- ADAPT_WINDOW_END (R102): A window of 65,536 received units ends and adaptation freezes or resumes by its data-unit count. `units` is the window's count of data units. -/
  | adaptWindowEnd (dt : Nat) (p units : Nat)
  /-- ESCAN_START (R107): A write of START begins an eye-scan point, or is refused with a REASON. -/
  | escanStart (dt : Nat) (src : Src) (g : Nat) (w : Word)
  /-- ESCAN_ABORT (R108): A write of ABORT ends a running point early with ABORTED set. -/
  | escanAbort (dt : Nat) (src : Src) (g : Nat)
  /-- ESCAN_POINT_COMPLETE (R106): A point compares its 2^DWELL unit intervals, stores its counts and sets DONE. -/
  | escanPointComplete (dt : Nat) (g errs : Nat)
  /-- PORT_MODE_WRITE (R111): A write of PORT[p].MODE changes or creates a port's mode and FEC, or is discarded with CFG_ERR. -/
  | portModeWrite (dt : Nat) (src : Src) (p : Nat) (w : Word)
  /-- FRAME_RECEIVE (R114): A frame completes at a receive MAC and is accepted into the header queue or discarded under the first failing reason. `full` holds the frame from DA to FCS. -/
  | frameReceive (dt : Nat) (p : Nat) (full : List Byte) (i : RxInfo)
  /-- PAUSE_FRAME (R116): A received PAUSE frame holds the port's non-exempt classes for its quanta when enabled. -/
  | pauseFrame (dt : Nat) (p quanta : Nat)
  /-- PFC_FRAME (R116): A received PFC frame holds each enabled class for its quanta. `vec` names the classes. -/
  | pfcFrame (dt : Nat) (p vec : Nat) (quanta : List Nat)
  /-- PAUSE_EXPIRY (R116): A pause's quanta run out and the held class may transmit again. -/
  | pauseExpiry (dt : Nat) (p : Nat)
  /-- MM_CTRL_WRITE (R121): A write of MM_CTRL sets the merge sublayer and, on EN written 1, starts verification. -/
  | mmCtrlWrite (dt : Nat) (src : Src) (p : Nat) (w : Word)
  /-- VERIFY_SEND (R121): A verify frame is sent VERIFY_TIME after the last; after the third try without response VERIFY becomes FAILED. -/
  | verifySend (dt : Nat) (p : Nat)
  /-- VERIFY_RESPONSE (R121): A response to verification sets VERIFY to SUCCEEDED. -/
  | verifyResponse (dt : Nat) (p : Nat)
  /-- FRAGMENT_RECEIVE (R120): A preemptable fragment is received and reassembled, or the partial frame is discarded as MERGE_ERR. `count` is the fragment count; the final fragment ends with the FCS. -/
  | fragmentReceive (dt : Nat) (p : Nat) (start : Bool) (count : Nat) (final : Bool) (b : List Byte) (i : RxInfo)
  /-- TX_STAMP_READ (R126): A read of the lowest word of TXQ_TS removes the oldest transmit stamp and latches it with its tag. -/
  | txStampRead (dt : Nat) (src : Src) (p : Nat)
  /-- TX_STAMP_FLUSH (R126): A write of 1 to TXQ_STAT.FLUSH empties the transmit stamp queue and clears LOST. -/
  | txStampFlush (dt : Nat) (src : Src) (p : Nat)
  /-- TDC_SERVING_CHANGE (R130): After the twin's calibration passes, serving passes to it in the first tick with no capture open. -/
  | tdcServingChange (dt : Nat) (p : Nat)
  /-- TDC_SELF_CHECK_FAIL (R131): The serving TDC fails its self-check, the twin serves within 1 µs and EVT.TDC sets. `took` is the ticks until the twin serves. -/
  | tdcSelfCheckFail (dt : Nat) (p took : Nat)
  /-- FRAME_LOOKUP (R138): The ingress pipeline takes a frame from its header queue, classifies it, chooses its destinations and sends it on. -/
  | frameLookup (dt : Nat) (n m : Nat)
  /-- LEARN_ENGINE (R150): The learn engine removes one learn and inserts, moves, locks or drops against the MAC table. -/
  | learnEngine (dt : Nat) (n : Nat)
  /-- MOVES_RESET (R151): At each second boundary the MOVES counts of MAC entries restart. -/
  | movesReset (dt : Nat)
  /-- TABLE_READ (R155): A READ command copies a table entry into the staging words. `took` is the ticks the command takes. -/
  | tableRead (dt : Nat) (src : Src) (n w t : Nat) (idx : Bool) (took : Nat)
  /-- TABLE_WRITE (R155): A WRITE command writes the staged entry by key or index. -/
  | tableWrite (dt : Nat) (src : Src) (n w t : Nat) (idx : Bool) (took : Nat)
  /-- TABLE_INSERT (R155): An INSERT command places the staged entry in its bucket or the CAM. -/
  | tableInsert (dt : Nat) (src : Src) (n w t : Nat) (idx : Bool) (took : Nat)
  /-- TABLE_DELETE (R155): A DELETE command clears an entry's VALID. -/
  | tableDelete (dt : Nat) (src : Src) (n w t : Nat) (idx : Bool) (took : Nat)
  /-- TABLE_SEARCH (R155): A SEARCH command scans upward for the next VALID entry. -/
  | tableSearch (dt : Nat) (src : Src) (n w t : Nat) (idx : Bool) (took : Nat)
  /-- TABLE_READ_CLEAR_HIT (R155): A READ_CLEAR_HIT command reads an entry and clears its HIT in the same cycle. -/
  | tableReadClearHit (dt : Nat) (src : Src) (n w t : Nat) (idx : Bool) (took : Nat)
  /-- TABLE_TEST_AND_DELETE (R155): A TEST_AND_DELETE command deletes an entry not hit, or clears HIT and keeps it. -/
  | tableTestAndDelete (dt : Nat) (src : Src) (n w t : Nat) (idx : Bool) (took : Nat)
  /-- BANK_SWAP_WRITE (R160): A write of 1 to a FWD.BANK.SWAP bit swaps that bank as a timed action at the current tick. -/
  | bankSwapWrite (dt : Nat) (src : Src) (n : Nat) (w : Word)
  /-- BANK_RETENTION_END (R70): One hundred microseconds after a swap the old bank stops being kept and accepts writes again. -/
  | bankRetentionEnd (dt : Nat) (n pair : Nat)
  /-- AGEING_SWEEP (R158): Every ageing period the firmware sweeps a Leaf's MAC table with TEST_AND_DELETE. -/
  | ageingSweep (dt : Nat) (n : Nat)
  /-- BUF_LIMIT_WRITE (R169): A write of QLIM or PLIM governs admissions from the next MEM cycle and may set OVERCOMMIT. `c` names the class of a QLIM; none is PLIM. -/
  | bufLimitWrite (dt : Nat) (src : Src) (p : Nat) (c : Option Nat) (w : Word)
  /-- CROSSBAR_SLOT (R175): In each calendar slot every source offers a cell and every destination accepts one, reserved slots first. -/
  | crossbarSlot (dt : Nat)
  /-- CELL_ARRIVAL (R178): A cell arrives over the stitch; its first cell decides admission for the frame, and bad cells are discarded. -/
  | cellArrival (dt : Nat) (d : Nat) (crcOk : Bool)
  /-- CROSS_DEADLINE_EXPIRY (R177): A frame waits in a crossing queue until its deadline and is discarded as CROSS_EXPIRED. -/
  | crossDeadlineExpiry (dt : Nat) (l j : Nat)
  /-- REPLICATION_SKIP (R180): A destination gives no credit for 256 XBAR cycles and is removed from a replicated frame's set. -/
  | replicationSkip (dt : Nat) (l d : Nat) (sched : Bool)
  /-- XBAR_CAL_WRITE (R176): A write of XBAR.CAL sets a slot reservation from the next round, or is discarded with CAL_ERR. -/
  | xbarCalWrite (dt : Nat) (src : Src) (l i : Nat) (w : Word)
  /-- FRAME_TRANSMIT (R185): At a transmit opportunity the port chooses and starts the next frame from the Ladle or its eligible classes. `pos` is the network time of an SFD position of the port in this tick, `want` the one a Ladle frame would have taken with the medium free. -/
  | frameTransmit (dt : Nat) (p want pos : Nat)
  /-- GATE_CHANGE (R191): A gate control list entry boundary is reached and the class gates change. -/
  | gateChange (dt : Nat) (p : Nat)
  /-- GATE_NO_FIT (R194): A head frame unable to start through two cycles of its list is discarded as GATE_NO_FIT. -/
  | gateNoFit (dt : Nat) (p c : Nat)
  /-- GCL_SWAP_WRITE (R195): A write of 1 to GCL_CTRL.SWAP swaps the active list at the current tick, or is refused with CFG_ERR. -/
  | gclSwapWrite (dt : Nat) (src : Src) (p : Nat)
  /-- GCL_RETENTION_END (R196): The old list stops governing once 100 µs have passed and no queued frame is bound to it; RETAIN clears. -/
  | gclRetentionEnd (dt : Nat) (p : Nat)
  /-- HOLD_POINT (R199): At H before a gate close or release time, the preemptable fragment is ended and preemptable starts are held. -/
  | holdPoint (dt : Nat) (p : Nat)
  /-- LADLE_DEPARTURE (R202): A Ladle frame's release time is reached and it departs at the first allowed SFD position. -/
  | ladleDeparture (dt : Nat) (p want pos : Nat)
  /-- DELAY_REQ (R218): A received Delay_Req is queued for the hardware responder, dropped, trapped or forwarded. -/
  | delayReq (dt : Nat) (n m : Nat)
  /-- DELAY_RESP (R219): The responder sends one queued Delay_Resp per 500 ns. -/
  | delayResp (dt : Nat) (d : Nat)
  /-- LINK_PHASE_SAMPLE (R223): At the end of each averaging interval the link phase detector reports a sample with its flags. `rx` and `tx` are the phases measured, in 2^-16 ns. -/
  | linkPhaseSample (dt : Nat) (p rx tx : Nat)
  /-- LINK_PHASE_READ (R222): A read of RX_PHASE latches TX_PHASE and the flags of the same sample. -/
  | linkPhaseRead (dt : Nat) (src : Src) (p : Nat)
  /-- TCX_SEND (R228): The port sends a timing capability exchange message on its schedule. `pos` is the network time of an SFD position of the port in this tick. -/
  | tcxSend (dt : Nat) (p pos : Nat)
  /-- TCX_RECEIVE (R229): A received exchange message is accepted into the PEER set, or refused and counted. -/
  | tcxReceive (dt : Nat) (p : Nat) (full : List Byte) (i : RxInfo)
  /-- TCX_PEER_TIMEOUT (R231): No message is accepted for TIMEOUT; XSTATE becomes LOST and PEER_VALID clears. -/
  | tcxPeerTimeout (dt : Nat) (p : Nat)
  /-- TCX_COMMIT (R232): A write of 1 to TCX.CTRL.COMMIT applies the staged values and increments GEN, or sets CFG_ERR. -/
  | tcxCommit (dt : Nat) (src : Src) (p : Nat)
  /-- PEER_READ (R229): A read of PEER_GEN latches the rest of the PEER set. -/
  | peerRead (dt : Nat) (src : Src) (p : Nat)
  /-- PTP_SYNC_SEND (R214): A PTP instance in MASTER sends a Sync and its Follow_Up on its interval. Instance and port. -/
  | ptpSyncSend (dt : Nat) (i p : Nat)
  /-- PTP_ANNOUNCE_SEND (R214): A PTP instance in MASTER sends an Announce on its interval. -/
  | ptpAnnounceSend (dt : Nat) (i p : Nat)
  /-- PTP_MESSAGE (R214): The firmware takes a trapped PTP message, refusing it by claim or using it in its servo and BMCA. -/
  | ptpMessage (dt : Nat)
  /-- PTP_MANAGEMENT (R427): A PTP management message is answered with a data set or NOT_SUPPORTED. -/
  | ptpManagement (dt : Nat)
  /-- REF_SLOT_CFG_WRITE (R237): A write of SLOT[i].CFG changes a slot's binding or EN and moves its state, or is discarded. `fault` says whether an input slot enabled by the write has an activity fault. -/
  | refSlotCfgWrite (dt : Nat) (src : Src) (i : Nat) (w : Word) (fault : Bool)
  /-- FORCE_QUAL (R241): A write of 1 to CFG.FORCE_QUAL ends RESTORING at once and the slot becomes QUALIFIED. -/
  | forceQual (dt : Nat) (src : Src) (i : Nat)
  /-- ACTIVITY_FAULT (R238): A slot meets its activity-fault condition and leaves QUALIFIED or RESTORING. `e` holds the slot, and an input slot's edges. -/
  | activityFault (dt : Nat) (e : Edges)
  /-- ACTIVITY_FAULT_CLEAR (R238): A slot's activity fault ends and it moves towards QUALIFIED. `e` is as in ACTIVITY_FAULT. -/
  | activityFaultClear (dt : Nat) (e : Edges)
  /-- FREQUENCY_READING (R240): Every second the Sieve records each slot's offset, setting or clearing frequency faults, disputes and majority. `foffs` holds each slot's measured offset in ppb. -/
  | frequencyReading (dt : Nat) (foffs : List Int)
  /-- HOLDOFF_EXPIRY (R241): A fault lasts HOLDOFF and the slot goes to FAILED. -/
  | holdoffExpiry (dt : Nat) (i : Nat)
  /-- RESTORE_EXPIRY (R241): The restore time elapses without fault and the slot becomes QUALIFIED. -/
  | restoreExpiry (dt : Nat) (i : Nat)
  /-- DPLL_REEVALUATION (R244): A DPLL re-evaluates its candidates after a change and selects, keeps, switches or enters HOLDOVER. -/
  | dpllReevaluation (dt : Nat) (d : Nat)
  /-- SWITCH_END (R248): A switch ends and the offset is built out, slewed, stepped or left pending. `offset` is the output time minus the reference time. -/
  | switchEnd (dt : Nat) (d : Nat) (offset : Int)
  /-- SLEW_END (R249): A slew's remaining offset reaches 0 and SLEWING clears. -/
  | slewEnd (dt : Nat) (d : Nat)
  /-- DPLL_LOCK (R252): A tracking DPLL holds its phase error within LOCK_THRESH for its dwell at final bandwidth and enters LOCKED. -/
  | dpllLock (dt : Nat) (d : Nat)
  /-- DPLL_LOCK_LOSS (R252): Phase error beyond 4 × LOCK_THRESH for 1 s returns the DPLL to ACQUIRING. -/
  | dpllLockLoss (dt : Nat) (d : Nat)
  /-- BANDWIDTH_STEP (R253): After its dwell at a bandwidth the loop narrows by one decade towards its final code. -/
  | bandwidthStep (dt : Nat) (d : Nat)
  /-- DPLL_MODE_WRITE (R250): A write of DPLL[d].CTRL changes mode or settings, entering HOLDOVER first where needed, or is discarded. -/
  | dpllModeWrite (dt : Nat) (src : Src) (d : Nat) (w : Word)
  /-- PSTEP_AT_SECOND (R256): A PSTEP GO with WHEN = 0 arms a step for the next second boundary. -/
  | pstepAtSecond (dt : Nat) (src : Src) (d : Nat)
  /-- PSTEP_SLEW (R256): A PSTEP GO with WHEN = 1 adds the step to the remaining slew at once. -/
  | pstepSlew (dt : Nat) (src : Src) (d : Nat)
  /-- PSTEP_APPLY (R256): At the second boundary a pending phase step applies to its DPLL. -/
  | pstepApply (dt : Nat) (d : Nat)
  /-- FREQ_SW_WRITE (R258): A write of the lowest word of FREQ_SW applies the word in OPEN within one DPLL cycle. -/
  | freqSwWrite (dt : Nat) (src : Src) (d : Nat) (w : Word)
  /-- PD_COMPARISON (R258): At the compared slot's update rate the phase detector reports a comparison in PD. `err` is the phase measured, `word` the loop's next frequency word. -/
  | pdComparison (dt : Nat) (d : Nat) (err : Int) (valid stale : Bool) (word : Int)
  /-- HOLDOVER_RECOMPUTE (R262): Once per second in holdover the DPLL recomputes its word from the models and updates HO_TIME and HO_BOUND. -/
  | holdoverRecompute (dt : Nat) (d : Nat)
  /-- TEMP_STALE (R263): Ten seconds without a usable temperature set TEMP_STALE and hold the model. -/
  | tempStale (dt : Nat) (d : Nat)
  /-- AGE_FIT (R264): Once a day the firmware refits the ageing coefficients. `up1` and `up2`: whether A1 and A2 are rounded up. -/
  | ageFit (dt : Nat) (up1 up2 : Bool)
  /-- RETURN_STEP (R267): RETURN.CMD STEP schedules a step of minus the pending offset at the next second boundary. -/
  | returnStep (dt : Nat) (src : Src) (d : Nat)
  /-- RETURN_SLEW (R267): RETURN.CMD SLEW begins tracking and slews out the whole pending offset. -/
  | returnSlew (dt : Nat) (src : Src) (d : Nat)
  /-- RETURN_HOLD (R267): RETURN.CMD HOLD clears RETURN_PENDING and keeps the DPLL in HOLDOVER. -/
  | returnHold (dt : Nat) (src : Src) (d : Nat)
  /-- APLL_CTRL_WRITE (R272): A write of APLL CTRL enables or disables the APLL, or is discarded with CFG_ERR. -/
  | apllCtrlWrite (dt : Nat) (src : Src) (a : Nat) (w : Word)
  /-- BAND_WRITE (R273): A write of a band entry updates the table and reruns selection from NO_BAND, or is discarded. -/
  | bandWrite (dt : Nat) (src : Src) (a b : Nat) (w : Word)
  /-- APLL_LOCK (R275): The APLL holds its lock conditions for 1,024 XO cycles and enters LOCKED. -/
  | apllLock (dt : Nat) (a : Nat)
  /-- APLL_LOCK_FAIL (R275): A lock attempt not locked within 5 ms fails and counts LOCK_FAIL. -/
  | apllLockFail (dt : Nat) (a : Nat)
  /-- APLL_RETRY (R275): One hundred milliseconds after a failure a new lock attempt starts with fresh band selection. -/
  | apllRetry (dt : Nat) (a : Nat)
  /-- APLL_LOSS (R275): A LOCKED APLL loses lock, mutes its outputs and returns to ACQUIRING. -/
  | apllLoss (dt : Nat) (a : Nat)
  /-- APLL_MOVE_END (R286): An APLL phase move completes and MOVING clears. -/
  | apllMoveEnd (dt : Nat) (a : Nat)
  /-- OUT_CFG_WRITE (R277): A write of OUT[j].CFG changes an output's settings and, on EN rising, causes alignment, or is discarded. -/
  | outCfgWrite (dt : Nat) (src : Src) (j : Nat) (w : Word)
  /-- OUTPUT_ALIGN (R281): An output gives its first aligned rising edge at least 1 ms after its cause and unmutes. -/
  | outputAlign (dt : Nat) (j : Nat)
  /-- SYNCIN_EDGE (R283): An accepted SYNCIN edge aligns every armed output and clears its ARM bit. `sub` is the edge's place in its tick in 2^-16 ns, `settled` says it came after 5 ns at the opposite level. -/
  | syncinEdge (dt : Nat) (falling : Bool) (sub : Nat) (settled : Bool)
  /-- SYNCIN_ARM (R283): A write of 1 to an ARM bit arms an output for SYNCIN alignment. -/
  | syncinArm (dt : Nat) (src : Src) (w : Word)
  /-- DIV_NEXT_WRITE (R284): A write of DIV_NEXT +0x00 checks and stages a divider set, or discards it with CFG_ERR. -/
  | divNextWrite (dt : Nat) (src : Src) (j : Nat) (w : Word)
  /-- DIVIDER_UPDATE (R284): A write of 1 to SYN.UPDATE.GO schedules a divider load at least 1 µs later. -/
  | dividerUpdate (dt : Nat) (src : Src) (w : Word)
  /-- DIVIDER_LOAD (R285): At the load instant DIV_NEXT is copied to DIV_NOW for the outputs in the mask without runts. -/
  | dividerLoad (dt : Nat)
  /-- LEAF_PLL_LOSS (R287): A Leaf's CORE or MEM PLL loses lock and its clock moves to the safe clock. -/
  | leafPllLoss (dt : Nat) (n : Nat) (mem : Bool)
  /-- LEAF_PLL_RELOCK_ATTEMPT (R288): The firmware starts a relock attempt of a Leaf's CORE or MEM PLL. -/
  | leafPllRelockAttempt (dt : Nat) (n : Nat) (mem : Bool)
  /-- RELOCK_ATTEMPT_TIMEOUT (R288): A relock attempt fails within 10 ms; after three, RELOCK_FAIL sets and the fault event is raised. -/
  | relockAttemptTimeout (dt : Nat) (n : Nat) (mem : Bool)
  /-- LEAF_PLL_RELOCKED (R288): The PLL holds lock for 10 ms and the clock switches back to its granted rate. -/
  | leafPllRelocked (dt : Nat) (n : Nat) (mem : Bool)
  /-- TSU_PLL_LOSS (R289): The TSU PLL loses lock; TSU_LOCK clears, stamps lose VALID, pulses mute and the counter runs on the DPLL clock. -/
  | tsuPllLoss (dt : Nat)
  /-- TSU_PLL_RETRY (R289): Every 1 ms while unlocked the hardware retries the TSU PLL's lock. -/
  | tsuPllRetry (dt : Nat)
  /-- TSU_PLL_RELOCK (R289): The TSU PLL holds lock for 1 ms and the counter and lanes return to it; TSU_LOCK sets once Leaves align. -/
  | tsuPllRelock (dt : Nat)
  /-- SAMPLE_CLOCK_LOSS (R293): A GNSS sample port clock gives no edge for 1 µs; CLK_OK clears and its channels enter LOST. -/
  | sampleClockLoss (dt : Nat) (x : Nat)
  /-- SAMPLE_CLOCK_RESTORE (R293): After 1 ms of edges CLK_OK sets again. -/
  | sampleClockRestore (dt : Nat) (x : Nat)
  /-- GNSS_FMEAS (R293): Each second a sample port's clock offset is measured into FMEAS, setting or clearing FREQ_BAD. -/
  | gnssFmeas (dt : Nat) (x : Nat) (ppb : Int)
  /-- ACQ_REQUEST (R297): A write of ACQ.REQ0.GO queues an acquisition request, or is discarded when the queue is full. -/
  | acqRequest (dt : Nat) (src : Src) (w : Word)
  /-- ACQ_CAPTURE_START (R298): A request at the head of the queue starts capturing at the next code period. -/
  | acqCaptureStart (dt : Nat)
  /-- ACQ_COMPLETE (R298): An acquisition completes and its result enters the result queue. The peak found: code phase in 2^-8 chip, Doppler in mHz, C/N0 in 0.01 dB-Hz. -/
  | acqComplete (dt : Nat) (code : Nat) (doppler : Int) (cn0 : Nat)
  /-- ACQ_RESULT_READ (R298): A read of ACQ.RES +0x0 removes the oldest result and latches the rest. -/
  | acqResultRead (dt : Nat) (src : Src)
  /-- CHANNEL_START (R299): A write of START sends an IDLE channel to PULL_IN from its initial state, or is discarded. -/
  | channelStart (dt : Nat) (src : Src) (c : Nat) (w : Word)
  /-- CHANNEL_STOP (R299): A write of STOP sends a channel to IDLE within 1 µs. -/
  | channelStop (dt : Nat) (src : Src) (c : Nat) (w : Word)
  /-- PULL_IN_DONE (R299): A channel holds PLI and C/N0 for 200 ms and enters TRACKING. -/
  | pullInDone (dt : Nat) (c : Nat)
  /-- INTEGRATION_DUMP (R301): At each integration dump hardware closes the channel's DLL, PLL and FLL. `i` and `q` hold the levels of I3 to I0 and of Q3 to Q0 at each rising edge of the port's clock since the last one; then bit synchronisation, half-cycle resolved, a slip. -/
  | integrationDump (dt : Nat) (c : Nat) (i q : List Nat) (sync half slip : Bool)
  /-- CHANNEL_LOSS (R302): A channel's C/N0 or PLI stays low for 1 s and it enters LOST. -/
  | channelLoss (dt : Nat) (c : Nat)
  /-- GNSS_OWNER_CHANGE (R299): A change of GNSS.CTRL.SW_OWN sends every channel to IDLE and empties the acquisition queues. -/
  | gnssOwnerChange (dt : Nat) (src : Src) (w : Word)
  /-- KETTLE_POWER_REQUEST (R305): Ahead of each burst window the Kettle requests SP_GNSS in the timing class. -/
  | kettlePowerRequest (dt : Nat)
  /-- BURST_START (R304): At window start sleeping burst channels enter WAKING and check their prompt power. -/
  | burstStart (dt : Nat)
  /-- WAKING_REACQUIRED (R304): A waking channel passes its check or finds the signal in its search and enters TRACKING. The check's C/N0; whether the search found the signal. -/
  | wakingReacquired (dt : Nat) (c cn0 : Nat) (found : Bool)
  /-- BURST_MISS (R304): A channel not TRACKING by S − 1 ms misses the burst and returns to SLEEP or enters LOST. -/
  | burstMiss (dt : Nat) (c : Nat)
  /-- BURST_SKIP (R305): A burst without a grant by window start is skipped and its channels stay asleep. -/
  | burstSkip (dt : Nat)
  /-- BURST_END (R303): At window end burst channels enter SLEEP and the front ends may be gated off. -/
  | burstEnd (dt : Nat)
  /-- MEASUREMENT_EPOCH (R307): At each second boundary the baseband latches every active channel's measurements. By channel in PULL_IN or TRACKING: code fraction, chips, periods, carrier. -/
  | measurementEpoch (dt : Nat) (ms : List (Nat × (Nat × Nat × Nat × Int)))
  /-- EPOCH_COMPLETE (R307): The records are written, BANK toggles, SEQ increments and EVT.EPOCH is raised. -/
  | epochComplete (dt : Nat)
  /-- NAV_RECORD (R309): A completed navigation unit enters the navigation queue or is counted lost. Network time of the first bit; the polarity found; LNAV and D1: the ten words received, with the last two bits of the word before in `prev`; I/NAV: the even and the odd part after Viterbi decoding, with `prev` 1 where the even one came first. -/
  | navRecord (dt : Nat) (c t : Nat) (inverted : Bool) (u : NavUnit)
  /-- NAV_READ (R309): A read of the lowest word of NAV.REC removes the oldest record and latches it. -/
  | navRead (dt : Nat) (src : Src)
  /-- NAV_FLUSH (R309): A write of 1 to NAV.STAT.FLUSH empties the queue and clears LOST. -/
  | navFlush (dt : Nat) (src : Src) (w : Word)
  /-- TIME_SOLUTION (R311): Once per epoch the firmware solves for GNSS time and hands it to slot 12 or withholds it. `sats` holds what each satellite's channels give; `up`: whether the offset is rounded up. -/
  | timeSolution (dt : Nat) (sats : List SatObs) (up : Bool)
  /-- JUMP_CONFIRM (R312): Withheld solutions stay consistent for JUMP_CONFIRM and are handed on again with JUMP_ACCEPTED. -/
  | jumpConfirm (dt : Nat)
  /-- SURVEY_DONE (R311): SURVEY_TIME ends, the position is held and SURVEY_DONE sets. -/
  | surveyDone (dt : Nat) (x y z : Int)
  /-- EPHEMERIS_RENEWAL (R306): The firmware returns a channel to continuous tracking to renew an ephemeris, or sets EPH_LOW. `done`: an ephemeris has just been collected, valid for `life` seconds; else a renewal begins. -/
  | ephemerisRenewal (dt : Nat) (c : Nat) (done : Bool) (life : Nat)
  /-- HEARTBEAT_SEND (R318): Every 1 ms a heartbeat is sent on each enabled ACTIVE port. `pos` is the SFD's place in network time. -/
  | heartbeatSend (dt : Nat) (p pos : Nat)
  /-- HEARTBEAT_RECEIVE (R319): A heartbeat is accepted and its claim becomes the claim heard on the port. `full` holds the frame from DA to FCS. -/
  | heartbeatReceive (dt : Nat) (p : Nat) (full : List Byte) (i : RxInfo)
  /-- HEARD_CLAIM_LAPSE (R320): No heartbeat is accepted on a port for HB_LOSS and its heard claim lapses. -/
  | heardClaimLapse (dt : Nat) (p : Nat)
  /-- ACCEPTED_CLAIM_UPDATE (R321): Within 1 µs of a change the accepted claim and accepted ports are recomputed. -/
  | acceptedClaimUpdate (dt : Nat) (d : Nat)
  /-- CAND_GATING (R323): The firmware rewrites each DPLL's CAND within 1 ms of a change of accepted ports. -/
  | candGating (dt : Nat)
  /-- WITNESS_ADMIT (R327): A hardware witness admits a member after its paths have held for WTR, or at once if no member claims. `i` is 0 for PEER0, 1 for PEER1. -/
  | witnessAdmit (dt : Nat) (d i : Nat)
  /-- ALONE_EXPIRY (R327): A member in HOLD for ALONE seconds hearing no claim and no witness leaves HOLD by itself. `witness` says whether a witness was heard meanwhile. -/
  | aloneExpiry (dt : Nat) (d : Nat) (witness : Bool)
  /-- CLM_DEPOSE (R325): A CLM.CMD DEPOSE issues a notice from a witness, or reports ROLE or INVALID. `m` is the serial named. -/
  | clmDepose (dt : Nat) (src : Src) (d m : Nat)
  /-- CLM_ADMIT (R325): A CLM.CMD ADMIT issues a notice from a witness, or reports ROLE or INVALID. `m` is the serial named. -/
  | clmAdmit (dt : Nat) (src : Src) (d m : Nat)
  /-- DRILL_END (R328): A drill's length expires and the member returns to its earlier state. -/
  | drillEnd (dt : Nat) (d : Nat)
  /-- POWER_REQUEST_KEEP (R332): A request for KEEP drains the Leaves, stops DMA, mutes outputs and switches off SP_HOST and SP_FAB. -/
  | powerRequestKeep (dt : Nat) (src : Src)
  /-- POWER_REQUEST_READY (R333): A request for READY from KEEP requests SP_HOST and SP_FAB. -/
  | powerRequestReady (dt : Nat) (src : Src)
  /-- WAKE_AT (R333): Network time reaches PWR.WAKE_AT with WAKE.EN set and acts as a request for READY. -/
  | wakeAt (dt : Nat)
  /-- READY_ENTRY (R333): SP_HOST and SP_FAB are granted and powered; the device enters READY and starts the Leaves in LEAF_MASK. -/
  | readyEntry (dt : Nat)
  /-- ARBITER_ROUND (R337): Every 250 µs the budget arbiter grants waiting requests that fit, in class and index order. -/
  | arbiterRound (dt : Nat)
  /-- DOMAIN_POWER_UP (R347): A granted domain's regulators are turned on in order and the domain is powered and clocked. -/
  | domainPowerUp (dt : Nat) (r : Nat)
  /-- REGULATOR_FAIL (R348): A regulator fails power good within PG_TMO or fails its transactions; the request becomes FAILED. `tx` says that a transaction failed after three tries. -/
  | regulatorFail (dt : Nat) (i : Nat) (tx : Bool)
  /-- PIPELINE_RELEASE (R340): One second after the last lane of an octet has EN = 0 its pipeline grant is released. -/
  | pipelineRelease (dt : Nat) (o : Nat)
  /-- BUDGET_WRITE (R338): A write of CEILING or GUARD takes effect from the next round, setting OVER, or is discarded. -/
  | budgetWrite (dt : Nat) (src : Src) (w : Word)
  /-- THROTTLE_RISE (R343): A Leaf above THR_HI for 10 ms raises its throttle level by one. -/
  | throttleRise (dt : Nat) (n : Nat)
  /-- THROTTLE_FALL (R343): A Leaf below THR_LO for 5 s lowers its throttle level by one. -/
  | throttleFall (dt : Nat) (n : Nat)
  /-- LEAF_TCRIT (R344): A Leaf at TCRIT for 1 ms is stopped into FAULT. -/
  | leafTcrit (dt : Nat) (n : Nat)
  /-- SPINE_TCRIT (R345): The Spine at TCRIT for 1 ms sets TCRIT and carries out a KEEP request with 1 ms drains. -/
  | spineTcrit (dt : Nat)
  /-- REGULATOR_POLL (R349): Every 100 ms the power manager reads STATUS_WORD from every valid regulator entry. Entry, power good, a fault bit. -/
  | regulatorPoll (dt : Nat) (reads : List (Nat × Bool × Bool))
  /-- PMB_ALERT (R349): PMB_ALERTn falls and the regulators are read within 1 ms. Entry, power good, a fault bit. -/
  | pmbAlert (dt : Nat) (reads : List (Nat × Bool × Bool))
  /-- POR_RELEASE (R351): PORn rises with supplies valid; straps are sampled, fuses read and the boot ROM starts. The levels at BOOTSEL2..0 and what the fuses hold. -/
  | porRelease (dt : Nat) (bootsel : Nat) (fuses : Fuses)
  /-- PORN_ASSERT (R351): PORn falls for at least 1 µs and the device is OFF. -/
  | pornAssert (dt : Nat)
  /-- WARM_RESET_PIN (R352): WARMn low for at least 1 µs resets all but the AON island and reboots at its rise. WARMn rises; the levels at BOOTSEL2..0. -/
  | warmResetPin (dt : Nat) (bootsel : Nat)
  /-- SUPPLY_FAULT (R485): VDD_AON or VDD_SP leaves tolerance for more than 5 µs and resets the device as PORn. -/
  | supplyFault (dt : Nat)
  /-- AON_CLOCK_SELECT (R478): Five hundred milliseconds after PORn the AON island chooses the watch crystal or XO ÷ D. Whether the watch crystal oscillates. -/
  | aonClockSelect (dt : Nat) (crystal : Bool)
  /-- SLOT_VALIDATION (R356): Validation of a flash slot or staged image completes with a pass or a REASON. Slot 0 A, 1 B, 2 the staging memory; whether the flash answered. -/
  | slotValidation (dt : Nat) (slot : Nat) (readable : Bool)
  /-- IMG_GO (R357): A write of 1 to IMG.CTRL.GO validates the staging memory, or is discarded as OVERRUN. A write of CTRL with GO = 1. -/
  | imgGo (dt : Nat) (src : Src) (page : Nat)
  /-- IMAGE_START (R361): A validated image is applied: world map locked, POWER applied and firmware started. -/
  | imageStart (dt : Nat)
  /-- FIRMWARE_RUNNING (R361): The firmware reports running, commits CONFIG and the device enters its initial state. -/
  | firmwareRunning (dt : Nat)
  /-- FIRMWARE_START_TIMEOUT (R362): Firmware not running within 10 s fails its image with START. -/
  | firmwareStartTimeout (dt : Nat)
  /-- UPDATE_TIMEOUT (R374): New firmware not running within 10 s is erased and the cores restart on the previous slot. -/
  | updateTimeout (dt : Nat)
  /-- CHALLENGE_RESPONSE_ATTEMPT (R369): A DBG_CTRL GO with METHOD 0 verifies a signed debug response and opens the scope. The attempt takes `took` ticks, at most 20 ms. -/
  | challengeResponseAttempt (dt : Nat) (src : Src) (scope took : Nat)
  /-- PASSWORD_ATTEMPT (R370): A DBG_CTRL GO with METHOD 1 checks the password hash and opens the scope. As for a challenge. -/
  | passwordAttempt (dt : Nat) (src : Src) (scope took : Nat)
  /-- JTAG_DEBUG_UNLOCK (R371): A debug-unlock request through the TAP runs on the shared engine or sees BUSY. The request in the TAP's data register. -/
  | jtagDebugUnlock (dt : Nat) (password : Bool) (scope : Nat) (resp : List Byte) (took : Nat)
  /-- DBG_STAT_READ (R460): A read of SEC.DBG_STAT clears event source 2. -/
  | dbgStatRead (dt : Nat) (src : Src)
  /-- FUNCTION_LEVEL_RESET (R379): A function level reset stops that world's rings, clears its mailboxes and masks its vectors. `f` is 0 for PF0, 1 for PF1. -/
  | functionLevelReset (dt : Nat) (f : Nat)
  /-- SPI_READ (R382): An SPI READ frame returns STATUS and the words read, once its CRC passes. `b` is the frame as received, `sent` the words its reply carries before chip select rises. -/
  | spiRead (dt : Nat) (b : List Byte) (sent : Nat)
  /-- SPI_WRITE (R383): An SPI WRITE frame applies its words after its CRC passes and replies with STATUS. `b` is the frame as received; `took` and `fault` as for REGISTER_WRITE. -/
  | spiWrite (dt : Nat) (b : List Byte) (took : Nat) (fault : Bool)
  /-- I2C_TRANSACTION (R384): An I2C transaction reads board-management registers or writes PWR_REQ. The register pointer, a word written, and the bytes read. -/
  | i2cTransaction (dt : Nat) (ptr : Nat) (wr : Option Word) (n : Nat)
  /-- MAILBOX_SUBMIT (R387): A write of DOORBELL.GO submits a request and sets BUSY, or is discarded as OVERRUN. Mailboxes NS0 to NS3 are 0 to 3, S0 to S3 are 4 to 7. -/
  | mailboxSubmit (dt : Nat) (src : Src) (m : Nat)
  /-- MAILBOX_RELEASE (R387): A write of 1 to RESP_READY releases the mailbox and clears its event source. -/
  | mailboxRelease (dt : Nat) (src : Src) (m : Nat)
  /-- MAILBOX_TRANSPORT_ERROR (R390): A taken request with a bad length, header, opcode or world is answered with a transport code. `m` is the mailbox at which the firmware is; so in every command of the firmware. -/
  | mailboxTransportError (dt : Nat) (m : Nat)
  /-- MSIX_PENDING_SEND (R392): A due MSI-X message held in the PBA is sent once its function and vector allow it. The configuration bits of the vector's function. -/
  | msixPendingSend (dt : Nat) (v : Nat) (en busMaster masked : Bool)
  /-- TAIL_WRITE (R395): A write of a ring's TAIL hands descriptors to the device, or is discarded with CFG_ERR. `q` is 0 for a transmit ring, 1 for a receive ring. -/
  | tailWrite (dt : Nat) (src : Src) (q r : Nat) (w : Word)
  /-- DESCRIPTOR_FETCH (R397): The DMA engine takes a transmit descriptor in ring order and sends its frame, or refuses it as BAD_DESC. The descriptor's eight words and the bytes of its buffer. -/
  | descriptorFetch (dt : Nat) (d : List Word) (bytes : List Byte)
  /-- TX_WRITEBACK (R398): A transmit descriptor is written back with its STATUS and stamp, in ring order. -/
  | txWriteback (dt : Nat) (r : Nat)
  /-- TS_TIMEOUT (R398): A descriptor with TS_REQ sees no stamp or discard within TS_TIMEOUT and is written back TS_TIMEOUT. -/
  | tsTimeout (dt : Nat) (r : Nat)
  /-- RING_DISABLE (R403): A write of 0 to a ring's EN stops it, aborting unfetched descriptors. -/
  | ringDisable (dt : Nat) (src : Src) (q r : Nat)
  /-- DMA_PCIE_ERROR (R403): A PCIe error on a ring's access stops it with FETCH_ERR and sets its ERR_EVT bit. -/
  | dmaPcieError (dt : Nat) (q r : Nat)
  /-- RX_DELIVERY (R400): A frame for port 258 is mapped to a ring and delivered, discarded, or waits for a descriptor. The address the ring's next descriptor holds. -/
  | rxDelivery (dt : Nat) (buf : Nat)
  /-- RING_SIGNAL_TIMER (R404): T µs after an unsignalled write-back the ring signals. -/
  | ringSignalTimer (dt : Nat) (q r : Nat)
  /-- SYS_INFO (R409): The SYS_INFO command returns the identity, firmware version and boot status. -/
  | sysInfo (dt : Nat) (m : Nat)
  /-- LEAF_DRAIN (R412): The LEAF_DRAIN command puts a Leaf into DRAINING with the given limit. -/
  | leafDrain (dt : Nat) (m : Nat)
  /-- LEAF_START (R412): The LEAF_START command requests power for an OFF Leaf to start it. -/
  | leafStart (dt : Nat) (m : Nat)
  /-- LEAF_STOP (R409): The LEAF_STOP command stops a Leaf in FAULT and takes it to OFF. -/
  | leafStop (dt : Nat) (m : Nat)
  /-- LEAF_WRITE (R411): The LEAF_WRITE command writes register pairs of a Leaf and records them in the shadow copy. -/
  | leafWrite (dt : Nat) (m : Nat)
  /-- PARAM_GET (R416): The PARAM_GET command returns a parameter's committed value. -/
  | paramGet (dt : Nat) (m : Nat)
  /-- PARAM_STAGE (R417): The PARAM_STAGE command adds or replaces an entry in a staging set. -/
  | paramStage (dt : Nat) (m : Nat)
  /-- PARAM_COMMIT (R418): The PARAM_COMMIT command commits a staging set at once or schedules it as a timed action. -/
  | paramCommit (dt : Nat) (m : Nat)
  /-- PARAM_DISCARD (R417): The PARAM_DISCARD command empties a staging set. -/
  | paramDiscard (dt : Nat) (m : Nat)
  /-- PARAM_LIST (R422): The PARAM_LIST command returns descriptors of a class's items in key order. -/
  | paramList (dt : Nat) (m : Nat)
  /-- PARAM_STATUS (R420): The PARAM_STATUS command returns a set's state and last commit result. -/
  | paramStatus (dt : Nat) (m : Nat)
  /-- TABLE_OP (R410): The TABLE_OP command runs a FWD command on each Leaf of its mask in turn. -/
  | tableOp (dt : Nat) (m : Nat)
  /-- TABLE_FLUSH_PORT (R410): The TABLE_FLUSH_PORT command deletes the MAC entries whose DEST is a port. -/
  | tableFlushPort (dt : Nat) (m : Nat)
  /-- BANK_COPY (R410): The BANK_COPY command copies each named active bank into its inactive bank. -/
  | bankCopy (dt : Nat) (m : Nat)
  /-- PORT_MODE (R412): The PORT_MODE command changes or creates a port's mode and FEC under the sequence of R111. -/
  | portMode (dt : Nat) (m : Nat)
  /-- PORT_ADMIN (R409): The PORT_ADMIN command enables or disables a port. -/
  | portAdmin (dt : Nat) (m : Nat)
  /-- PORT_STATUS (R409): The PORT_STATUS command returns the port's lane states, status and module state. `present` is the presence input of the port's cage. -/
  | portStatus (dt : Nat) (m : Nat) (present : Bool)
  /-- MODULE_READ (R413): The MODULE_READ command reads a module's management memory. The cage's presence, whether its module is SFF-8636, the bytes read or none on failure. -/
  | moduleRead (dt : Nat) (m : Nat) (present sff : Bool) (data : Option (List Byte))
  /-- MODULE_WRITE (R413): The MODULE_WRITE command writes a module's management memory. -/
  | moduleWrite (dt : Nat) (m : Nat) (present sff ok : Bool)
  /-- MODULE_READY (R413): The firmware's module management finds a module ready and sets its lanes' module ready. -/
  | moduleReady (dt : Nat) (p : Nat)
  /-- LLDP_NEIGHBOUR (R429): The LLDP_NEIGHBOUR command returns the neighbour held for a port. -/
  | lldpNeighbour (dt : Nat) (m : Nat)
  /-- TIME_GET (R409): The TIME_GET command returns TIME.NOW and TIME.STATUS. -/
  | timeGet (dt : Nat) (m : Nat)
  /-- TIME_SET (R409): The TIME_SET command arms a load of network time under R51. -/
  | timeSet (dt : Nat) (m : Nat)
  /-- ACT_WRITE (R409): The ACT_WRITE command writes a timed-action entry of the mailbox's world. -/
  | actWrite (dt : Nat) (m : Nat)
  /-- ACT_READ (R409): The ACT_READ command returns an entry and its status. -/
  | actRead (dt : Nat) (m : Nat)
  /-- ACT_CANCEL (R409): The ACT_CANCEL command cancels a PENDING entry. -/
  | actCancel (dt : Nat) (m : Nat)
  /-- ACT_BROADCAST (R424): The ACT_BROADCAST command sends a timed-action broadcast and writes the entry locally. -/
  | actBroadcast (dt : Nat) (m : Nat)
  /-- REF_STATUS (R409): The REF_STATUS command returns every slot's status and offset. -/
  | refStatus (dt : Nat) (m : Nat)
  /-- DPLL_STATUS (R409): The DPLL_STATUS command returns a DPLL's status, word, offset and holdover bound. -/
  | dpllStatus (dt : Nat) (m : Nat)
  /-- DPLL_RETURN (R409): The DPLL_RETURN command decides a pending return as RETURN.CMD would. -/
  | dpllReturn (dt : Nat) (m : Nat)
  /-- SYN_STATUS (R409): The SYN_STATUS command returns the APLL and output status words. -/
  | synStatus (dt : Nat) (m : Nat)
  /-- BAND_CAL (R433): The BAND_CAL command runs band calibration on an APLL that is OFF or NO_BAND. -/
  | bandCal (dt : Nat) (m : Nat)
  /-- GNSS_STATUS (R409): The GNSS_STATUS command returns the solution state and channel count. -/
  | gnssStatus (dt : Nat) (m : Nat)
  /-- GNSS_SURVEY (R311): The GNSS_SURVEY command restarts the position survey. -/
  | gnssSurvey (dt : Nat) (m : Nat)
  /-- CLAIM_STATUS (R409): The CLAIM_STATUS command returns a claim domain's registers. -/
  | claimStatus (dt : Nat) (m : Nat)
  /-- CLAIM_NOTICE (R325): The CLAIM_NOTICE command issues DEPOSE or ADMIT from a software witness. -/
  | claimNotice (dt : Nat) (m : Nat)
  /-- POWER_STATUS (R409): The POWER_STATUS command returns power state, grants, throttle and regulator status. -/
  | powerStatus (dt : Nat) (m : Nat)
  /-- PMBUS_XFER (R346): The PMBUS_XFER command runs a PMBus transaction behind the power manager's own. The bytes read, or none on failure. -/
  | pmbusXfer (dt : Nat) (m : Nat) (data : Option (List Byte))
  /-- FLASH_ERASE (R414): The FLASH_ERASE command erases sectors of a flash slot not in use. `ok`: the flash verifies. -/
  | flashErase (dt : Nat) (m : Nat) (ok : Bool)
  /-- FLASH_WRITE (R414): The FLASH_WRITE command writes and verifies data in a flash slot not in use. -/
  | flashWrite (dt : Nat) (m : Nat) (ok : Bool)
  /-- FLASH_READ (R409): The FLASH_READ command returns data from a flash slot. -/
  | flashRead (dt : Nat) (m : Nat) (ok : Bool)
  /-- IMAGE_CHECK (R414): The IMAGE_CHECK command validates a slot and returns its version, SVN and GEN. `readable`: the slot can be read. -/
  | imageCheck (dt : Nat) (m : Nat) (readable : Bool)
  /-- IMAGE_ACTIVATE (R372): The IMAGE_ACTIVATE command validates a slot and restarts the cores on it in service. -/
  | imageActivate (dt : Nat) (m : Nat) (readable : Bool)
  /-- SEC_STATUS (R409): The SEC_STATUS command returns the fuses, world map and debug status. -/
  | secStatus (dt : Nat) (m : Nat)
  /-- WARM_RESET (R409): The WARM_RESET command is answered and resets the device as WARMn 10 ms later. -/
  | warmReset (dt : Nat) (m : Nat)
  /-- SNAPSHOT (R451): The SNAPSHOT command takes a counter snapshot at the current tick, or answers BUSY. -/
  | snapshot (dt : Nat) (m : Nat)
  /-- FREEZE (R450): The FREEZE command freezes or unfreezes the live counter view. -/
  | freeze (dt : Nat) (m : Nat)
  /-- USER_WINDOW (R453): The USER_WINDOW command sets the groups shown in the user telemetry window. -/
  | userWindow (dt : Nat) (m : Nat)
  /-- CAL_RUN (R437): The CAL_RUN command requests a calibration run and returns its result word. -/
  | calRun (dt : Nat) (m : Nat)
  /-- CAL_STATUS (R409): The CAL_STATUS command returns an instance's last result and its age. -/
  | calStatus (dt : Nat) (m : Nat)
  /-- BROADCAST_RECEIVE (R425): A received timed-action broadcast is checked, deduplicated and written into a non-secure entry. -/
  | broadcastReceive (dt : Nat)
  /-- LLDP_TRANSMIT (R429): LLDP frames are sent on each enabled port every TX_INTERVAL. -/
  | lldpTransmit (dt : Nat) (p : Nat)
  /-- LLDP_RECEIVE (R429): A received LLDP frame updates the port's neighbour. -/
  | lldpReceive (dt : Nat)
  /-- SNOOP_REPORT (R428): A trapped IGMP or MLD message updates the snooping service's group entries. -/
  | snoopReport (dt : Nat)
  /-- SNOOP_QUERY (R428): As querier, the snooping service sends a query every QUERY_INTERVAL. -/
  | snoopQuery (dt : Nat) (vid : Nat) (v6 : Bool)
  /-- SNOOP_MEMBER_TIMEOUT (R428): A member port is removed MEMBER_TIMEOUT after its last report. -/
  | snoopMemberTimeout (dt : Nat)
  /-- CAL_REQUEST (R437): A write of CAL.REQ[w].GO queues a calibration request, or refuses it. A write of CAL.REQ[w] with GO = 1. -/
  | calRequest (dt : Nat) (src : Src) (w item inst : Nat)
  /-- CAL_SCHEDULE (R439): An instance's PERIOD expires and an automatic calibration is requested. -/
  | calSchedule (dt : Nat) (item inst : Nat)
  /-- CAL_RUN_START (R438): A queued run leaves the queue, checks its preconditions and starts or aborts. -/
  | calRunStart (dt : Nat)
  /-- CAL_RUN_COMPLETE (R435): A run's measurement passes and its correction applies at its boundary in one step. The residual with the DAC, the best redundant element with its residual (none: out of range), and the bands of an APLL_BAND run. -/
  | calRunComplete (dt : Nat) (item inst : Nat) (dac : Option Int) (el : Option (Nat × Int)) (bands : List Word)
  /-- MONITOR_CONVERSION (R441): Every 10 ms each temperature and voltage monitor converts a reading. A temperature in 1/256 °C, or a voltage in mV. -/
  | monitorConversion (dt : Nat) (volt : Bool) (m : Nat) (value : Int)
  /-- FREEZE_WRITE (R450): A write of TEL.CTRL.FREEZE freezes or unfreezes the live counter view from one tick. -/
  | freezeWrite (dt : Nat) (src : Src) (on : Bool)
  /-- SNAP_REQ (R452): A write of 1 to TEL.SNAP_REQ.GO requests a snapshot, or is refused with SNAP_REFUSED. A write with GO = 1. -/
  | snapReq (dt : Nat) (src : Src) (target : Nat)
  /-- SNAPSHOT_SWAP (R451): Within 100 µs of T the shadow banks swap on every selected die, SEQ increments and SNAP_DONE sets. -/
  | snapshotSwap (dt : Nat)
  /-- SAMPLER_CTRL_WRITE (R454): A write of SMP.CTRL, SEED or FILT sets selection, or is discarded while EN is 1. CTRL, SEED, FILT and FILT_STREAM of Leaf n are e = 0 to 3. -/
  | samplerCtrlWrite (dt : Nat) (src : Src) (n e : Nat) (w : Word)
  /-- SAMPLER_FLUSH (R457): A write of FLUSH empties the sampler store and clears STOPPED. -/
  | samplerFlush (dt : Nat) (src : Src) (n : Nat)
  /-- SAMPLER_READ (R457): A read of SMP.REC +0x00 removes the oldest record and latches it. -/
  | samplerRead (dt : Nat) (src : Src) (n : Nat)
  /-- EVT_ROUTE_WRITE (R465): A write of EVT.ROUTE[s] changes a source's route, or is discarded with CFG_ERR. -/
  | evtRouteWrite (dt : Nat) (src : Src) (i : Nat) (w : Word)
  /-- EVT_ENABLE_WRITE (R464): A write of EVT.ENABLE makes sources pending or not, treated as rises or falls at their destinations. -/
  | evtEnableWrite (dt : Nat) (src : Src) (k : Nat) (w : Word)
  /-- PTP_DELAY_REQ_SEND (R426): A PTP instance sends a Delay_Req on its SLAVE port, or a Pdelay_Req in the peer profiles, every 2^LOG_DELAY_REQ seconds. -/
  | ptpDelayReqSend (dt : Nat) (i p : Nat)
  /-- ANNOUNCE_RECEIPT_TIMEOUT (R426): A port that receives no Announce for ANNOUNCE_TIMEOUT announce intervals has its foreign master lapse and the instance reruns its BMCA. -/
  | announceReceiptTimeout (dt : Nat) (i p : Nat)
  /-- LLDP_TTL_EXPIRY (R429): A port's LLDP neighbour whose time-to-live runs out without a new frame is removed, so LLDP_NEIGHBOUR answers NOT_FOUND. -/
  | lldpTtlExpiry (dt : Nat) (p : Nat)
  /-- FE_LEAD_PWREN_HIGH (R305): With FE_GATE = 1, GSA_PWREN and GSB_PWREN go high FE_LEAD before the burst window. -/
  | feLeadPwrenHigh (dt : Nat)
  deriving DecidableEq, Repr

end Sys2Proof
end

