-- ==== Sys2Proof/Decode.lean ====
section
/-!
DEFINITION. Decode.lean: the commands that words spell. The command table gives no row any bits, so no word spells a command.
-/
namespace Sys2Proof

/-- The command whose bits are w: none, since no row of the table has bits. -/
def decodeTableWord (_nbits _w : Nat) : Option Instr := none

end Sys2Proof
end

