-- ==== Sys2Proof/Machine/Fields.lean ====
section
/-!
DEFINITION. Fields.lean: the address of every register word (namespace `Reg`) and every field of it (namespace `Fld`),
under the spec's names. Instances follow R24 and R29: `g` is a global lane or port number, `lf` a Leaf.
-/
namespace Sys2Proof.Machine

/-- A register field: the address of its word, its lowest bit and its length. -/
structure FRef where
  addr : Nat
  lo : Nat
  len : Nat
  deriving DecidableEq, Repr

/-- Where PF1 BAR0 lies in the model's one address space (R40, R469). -/
def pf1 : Nat := 0x100000000

/-- The window of Leaf n (R37). -/
def leafBase (n : Nat) : Nat := 0x1000000 + 0x400000 * n

/-- The LANE instance of lane or port g: in its Leaf's window, or on the Spine for ports 256 and 257 (R29, R467). -/
def laneBase (g : Nat) : Nat :=
  if g < 256 then leafBase (g / 32) + 0x40000 + 0x1000 * (g % 32) else 0x170000 + 0x1000 * (g - 256)

/-- The PORT instance of lane or port g: in its Leaf's window, or on the Spine for ports 256 and 257 (R29, R467). -/
def portBase (g : Nat) : Nat :=
  if g < 256 then leafBase (g / 32) + 0x80000 + 0x1000 * (g % 32) else 0x180000 + 0x1000 * (g - 256)

/-- The TSU instance of lane or port g: in its Leaf's window, or on the Spine for ports 256 and 257 (R29, R467). -/
def tsuBase (g : Nat) : Nat :=
  if g < 256 then leafBase (g / 32) + 0xC0000 + 0x400 * (g % 32) else 0x1C0000 + 0x400 * (g - 256)

/-- The LPH instance of lane or port g: in its Leaf's window, or on the Spine for ports 256 and 257 (R29, R467). -/
def lphBase (g : Nat) : Nat :=
  if g < 256 then leafBase (g / 32) + 0xC8000 + 0x40 * (g % 32) else 0x1C8000 + 0x40 * (g - 256)

/-- The TCX instance of lane or port g: in its Leaf's window, or on the Spine for ports 256 and 257 (R29, R467). -/
def tcxBase (g : Nat) : Nat :=
  if g < 256 then leafBase (g / 32) + 0xC9000 + 0x80 * (g % 32) else 0x1C9000 + 0x80 * (g - 256)

/-- The RESP instance of lane or port g: in its Leaf's window, or on the Spine for ports 256 and 257 (R29, R467). -/
def respPortBase (g : Nat) : Nat :=
  if g < 256 then leafBase (g / 32) + 0xCA100 + 0x20 * (g % 32) else 0x1CA100 + 0x20 * (g - 256)

/-- The EGR instance of lane or port g: in its Leaf's window, or on the Spine for ports 256 and 257 (R29, R467). -/
def egrBase (g : Nat) : Nat :=
  if g < 256 then leafBase (g / 32) + 0x200000 + 0x400 * (g % 32) else 0x1D0000 + 0x400 * (g - 256)

/-- The GCL instance of lane or port g: in its Leaf's window, or on the Spine for ports 256 and 257 (R29, R467). -/
def gclBase (g : Nat) : Nat :=
  if g < 256 then leafBase (g / 32) + 0x280000 + 0x4000 * (g % 32) else 0x1E0000 + 0x4000 * (g - 256)

/-- The responder block of Leaf n, or of the Spine for n = 8 (R467, R468). -/
def respBase (n : Nat) : Nat := if n < 8 then leafBase n + 0xCA000 else 0x1CA000

/-- Mailbox m: NS0 to NS3 are 0 to 3, S0 to S3 are 4 to 7 (R385). -/
def mbxBase (m : Nat) : Nat := if m < 4 then 0x10000 + 0x3000 * m else pf1 + 0x100000 + 0x3000 * (m - 4)

/-- The host access error registers of a world: 0 non-secure, 1 secure (R380). -/
def herrBase (w : Nat) : Nat := if w = 0 then 0x1E000 else pf1 + 0x10E000

namespace Reg

/-- spec/01_spine_and_leaves.md -/
def SYS_LEAF_STATE : Nat := 0x100
/-- spec/02_network_time_and_timed_actions.md -/
def TIME_CTRL : Nat := 0x40000
/-- spec/02_network_time_and_timed_actions.md -/
def TIME_STATUS : Nat := 0x40004
/-- spec/02_network_time_and_timed_actions.md -/
def TIME_NOW0 : Nat := 0x40010
/-- spec/02_network_time_and_timed_actions.md -/
def TIME_NOW1 : Nat := 0x40014
/-- spec/02_network_time_and_timed_actions.md -/
def TIME_NOW2 : Nat := 0x40018
/-- spec/02_network_time_and_timed_actions.md -/
def TIME_SET0 : Nat := 0x40020
/-- spec/02_network_time_and_timed_actions.md -/
def TIME_SET1 : Nat := 0x40024
/-- spec/02_network_time_and_timed_actions.md -/
def TIME_SET2 : Nat := 0x40028
/-- spec/02_network_time_and_timed_actions.md -/
def TIME_ACT_PART : Nat := 0x40030
/-- spec/02_network_time_and_timed_actions.md -/
def TIME_ACT_EVT : Nat := 0x40034
/-- spec/02_network_time_and_timed_actions.md -/
def TIME_LEAF_RESID (n : Nat) : Nat := 0x40040 + 0x4 * n
/-- spec/02_network_time_and_timed_actions.md -/
def TIME_CAP_CTRL (i : Nat) : Nat := 0x40100 + 0x20 * i
/-- spec/02_network_time_and_timed_actions.md -/
def TIME_CAP_STAT (i : Nat) : Nat := 0x40104 + 0x20 * i
/-- spec/02_network_time_and_timed_actions.md -/
def TIME_CAP_TS0 (i : Nat) : Nat := 0x40108 + 0x20 * i
/-- spec/02_network_time_and_timed_actions.md -/
def TIME_CAP_TS1 (i : Nat) : Nat := 0x4010C + 0x20 * i
/-- spec/02_network_time_and_timed_actions.md -/
def TIME_CAP_TS2 (i : Nat) : Nat := 0x40110 + 0x20 * i
/-- spec/02_network_time_and_timed_actions.md -/
def TIME_CAP_TSX (i : Nat) : Nat := 0x40114 + 0x20 * i
/-- spec/02_network_time_and_timed_actions.md -/
def TIME_PULSE_CTRL (j : Nat) : Nat := 0x40200 + 0x40 * j
/-- spec/02_network_time_and_timed_actions.md -/
def TIME_PULSE_STAT (j : Nat) : Nat := 0x40204 + 0x40 * j
/-- spec/02_network_time_and_timed_actions.md -/
def TIME_PULSE_START0 (j : Nat) : Nat := 0x40208 + 0x40 * j
/-- spec/02_network_time_and_timed_actions.md -/
def TIME_PULSE_START1 (j : Nat) : Nat := 0x4020C + 0x40 * j
/-- spec/02_network_time_and_timed_actions.md -/
def TIME_PULSE_START2 (j : Nat) : Nat := 0x40210 + 0x40 * j
/-- spec/02_network_time_and_timed_actions.md -/
def TIME_PULSE_PERIOD0 (j : Nat) : Nat := 0x40214 + 0x40 * j
/-- spec/02_network_time_and_timed_actions.md -/
def TIME_PULSE_PERIOD1 (j : Nat) : Nat := 0x40218 + 0x40 * j
/-- spec/02_network_time_and_timed_actions.md -/
def TIME_PULSE_WIDTH0 (j : Nat) : Nat := 0x4021C + 0x40 * j
/-- spec/02_network_time_and_timed_actions.md -/
def TIME_PULSE_WIDTH1 (j : Nat) : Nat := 0x40220 + 0x40 * j
/-- spec/02_network_time_and_timed_actions.md -/
def TIME_PULSE_TRIM (j : Nat) : Nat := 0x40224 + 0x40 * j
/-- spec/02_network_time_and_timed_actions.md -/
def TIME_ACT_CMD (w : Nat) : Nat := 0x41000 + 0x800 * w
/-- spec/02_network_time_and_timed_actions.md -/
def TIME_ACT_STAT (w : Nat) : Nat := 0x41004 + 0x800 * w
/-- spec/02_network_time_and_timed_actions.md -/
def TIME_ACT_FREE (w : Nat) : Nat := 0x41008 + 0x800 * w
/-- spec/02_network_time_and_timed_actions.md -/
def TIME_ACT_ENTRY (w : Nat) (e : Nat) : Nat := 0x41010 + 0x800 * w + 0x4 * e
/-- spec/03_lanes.md -/
def LANE_CTRL (g : Nat) : Nat := laneBase g + 0x0
/-- spec/03_lanes.md -/
def LANE_STATE (g : Nat) : Nat := laneBase g + 0x4
/-- spec/03_lanes.md -/
def LANE_EVT (g : Nat) : Nat := laneBase g + 0x8
/-- spec/03_lanes.md -/
def LANE_EVT_EN (g : Nat) : Nat := laneBase g + 0xC
/-- spec/03_lanes.md -/
def LANE_TIMERS (g : Nat) : Nat := laneBase g + 0x10
/-- spec/03_lanes.md -/
def LANE_RETRY (g : Nat) : Nat := laneBase g + 0x14
/-- spec/03_lanes.md -/
def LANE_FFE (g : Nat) : Nat := laneBase g + 0x20
/-- spec/03_lanes.md -/
def LANE_FFE_P2 (g : Nat) : Nat := laneBase g + 0x24
/-- spec/03_lanes.md -/
def LANE_FFE_NOW (g : Nat) : Nat := laneBase g + 0x28
/-- spec/03_lanes.md -/
def LANE_FFE_NOW_P2 (g : Nat) : Nat := laneBase g + 0x2C
/-- spec/03_lanes.md -/
def LANE_CTLE (g : Nat) : Nat := laneBase g + 0x30
/-- spec/03_lanes.md -/
def LANE_DFE (g : Nat) : Nat := laneBase g + 0x34
/-- spec/03_lanes.md -/
def LANE_DFE_NOW (g : Nat) : Nat := laneBase g + 0x38
/-- spec/03_lanes.md -/
def LANE_ADAPT (g : Nat) : Nat := laneBase g + 0x40
/-- spec/03_lanes.md -/
def LANE_LOCK_LOSS (g : Nat) : Nat := laneBase g + 0x50
/-- spec/03_lanes.md -/
def LANE_ESCAN_CTRL (g : Nat) : Nat := laneBase g + 0x80
/-- spec/03_lanes.md -/
def LANE_ESCAN_STAT (g : Nat) : Nat := laneBase g + 0x84
/-- spec/03_lanes.md -/
def LANE_ESCAN_BITS0 (g : Nat) : Nat := laneBase g + 0x88
/-- spec/03_lanes.md -/
def LANE_ESCAN_BITS1 (g : Nat) : Nat := laneBase g + 0x8C
/-- spec/03_lanes.md -/
def LANE_ESCAN_ERR0 (g : Nat) : Nat := laneBase g + 0x90
/-- spec/03_lanes.md -/
def LANE_ESCAN_ERR1 (g : Nat) : Nat := laneBase g + 0x94
/-- spec/04_ports_and_timestamps.md -/
def PORT_MODE (g : Nat) : Nat := portBase g + 0x0
/-- spec/04_ports_and_timestamps.md -/
def PORT_MAC (g : Nat) : Nat := portBase g + 0x4
/-- spec/04_ports_and_timestamps.md -/
def PORT_FC (g : Nat) : Nat := portBase g + 0x8
/-- spec/04_ports_and_timestamps.md -/
def PORT_MM_CTRL (g : Nat) : Nat := portBase g + 0xC
/-- spec/04_ports_and_timestamps.md -/
def PORT_MM_STAT (g : Nat) : Nat := portBase g + 0x10
/-- spec/04_ports_and_timestamps.md -/
def PORT_STATUS (g : Nat) : Nat := portBase g + 0x14
/-- spec/04_ports_and_timestamps.md -/
def PORT_EVT (g : Nat) : Nat := portBase g + 0x18
/-- spec/04_ports_and_timestamps.md -/
def PORT_EVT_EN (g : Nat) : Nat := portBase g + 0x1C
/-- spec/04_ports_and_timestamps.md -/
def PORT_FEC_CW_CORR (g : Nat) : Nat := portBase g + 0x20
/-- spec/04_ports_and_timestamps.md -/
def PORT_FEC_CW_UNCORR (g : Nat) : Nat := portBase g + 0x24
/-- spec/04_ports_and_timestamps.md -/
def TSU_FIX_RX (g : Nat) : Nat := tsuBase g + 0x0
/-- spec/04_ports_and_timestamps.md -/
def TSU_FIX_TX (g : Nat) : Nat := tsuBase g + 0x4
/-- spec/04_ports_and_timestamps.md -/
def TSU_TDC (g : Nat) : Nat := tsuBase g + 0x8
/-- spec/04_ports_and_timestamps.md -/
def TSU_TXQ_STAT (g : Nat) : Nat := tsuBase g + 0x10
/-- spec/04_ports_and_timestamps.md -/
def TSU_TXQ_TS0 (g : Nat) : Nat := tsuBase g + 0x14
/-- spec/04_ports_and_timestamps.md -/
def TSU_TXQ_TS1 (g : Nat) : Nat := tsuBase g + 0x18
/-- spec/04_ports_and_timestamps.md -/
def TSU_TXQ_TS2 (g : Nat) : Nat := tsuBase g + 0x1C
/-- spec/04_ports_and_timestamps.md -/
def TSU_TXQ_TAG (g : Nat) : Nat := tsuBase g + 0x20
/-- spec/05_forwarding_and_learning.md -/
def FWD_CMD_CTRL (lf : Nat) (w : Nat) : Nat := leafBase lf + 0x100000 + 0x100 * w
/-- spec/05_forwarding_and_learning.md -/
def FWD_CMD_STAT (lf : Nat) (w : Nat) : Nat := leafBase lf + 0x100004 + 0x100 * w
/-- spec/05_forwarding_and_learning.md -/
def FWD_CMD_INDEX (lf : Nat) (w : Nat) : Nat := leafBase lf + 0x100008 + 0x100 * w
/-- spec/05_forwarding_and_learning.md -/
def FWD_CMD_XDATA (lf : Nat) (w : Nat) : Nat := leafBase lf + 0x10000C + 0x100 * w
/-- spec/05_forwarding_and_learning.md -/
def FWD_CMD_DATA (lf : Nat) (w : Nat) (e : Nat) : Nat := leafBase lf + 0x100010 + 0x100 * w + 0x4 * e
/-- spec/05_forwarding_and_learning.md -/
def FWD_BANK (lf : Nat) : Nat := leafBase lf + 0x100200
/-- spec/05_forwarding_and_learning.md -/
def FWD_WORLD (lf : Nat) : Nat := leafBase lf + 0x100204
/-- spec/05_forwarding_and_learning.md -/
def FWD_LEARN_CFG (lf : Nat) : Nat := leafBase lf + 0x100210
/-- spec/05_forwarding_and_learning.md -/
def FWD_HASH_SEED (lf : Nat) : Nat := leafBase lf + 0x100214
/-- spec/05_forwarding_and_learning.md -/
def FWD_LEARN_STAT (lf : Nat) : Nat := leafBase lf + 0x100218
/-- spec/05_forwarding_and_learning.md -/
def FWD_STORM_IDX (lf : Nat) : Nat := leafBase lf + 0x10021C
/-- spec/05_forwarding_and_learning.md -/
def FWD_LEARN_CNT (lf : Nat) (e : Nat) : Nat := leafBase lf + 0x100220 + 0x4 * e
/-- spec/05_forwarding_and_learning.md -/
def FWD_EVT (lf : Nat) : Nat := leafBase lf + 0x100240
/-- spec/05_forwarding_and_learning.md -/
def FWD_EVT_EN (lf : Nat) : Nat := leafBase lf + 0x100244
/-- spec/05_forwarding_and_learning.md -/
def FWD_OWN_MAC0 (lf : Nat) : Nat := leafBase lf + 0x100250
/-- spec/05_forwarding_and_learning.md -/
def FWD_OWN_MAC1 (lf : Nat) : Nat := leafBase lf + 0x100254
/-- spec/05_forwarding_and_learning.md -/
def FWD_PORT_CFG (lf : Nat) (k : Nat) : Nat := leafBase lf + 0x101000 + 0x10 * k
/-- spec/05_forwarding_and_learning.md -/
def FWD_PORT_PCP_MAP (lf : Nat) (k : Nat) : Nat := leafBase lf + 0x101004 + 0x10 * k
/-- spec/06_buffer_and_crossing.md -/
def BUF_QLIM (lf : Nat) (k : Nat) (c : Nat) : Nat := leafBase lf + 0x180000 + 0x20 * k + 0x4 * c
/-- spec/06_buffer_and_crossing.md -/
def BUF_PLIM (lf : Nat) (k : Nat) : Nat := leafBase lf + 0x180400 + 0x4 * k
/-- spec/06_buffer_and_crossing.md -/
def BUF_POOL (lf : Nat) : Nat := leafBase lf + 0x180500
/-- spec/06_buffer_and_crossing.md -/
def BUF_XQ_CFG (lf : Nat) : Nat := leafBase lf + 0x180504
/-- spec/06_buffer_and_crossing.md -/
def BUF_EVT (lf : Nat) : Nat := leafBase lf + 0x180508
/-- spec/06_buffer_and_crossing.md -/
def BUF_EVT_EN (lf : Nat) : Nat := leafBase lf + 0x18050C
/-- spec/06_buffer_and_crossing.md -/
def BUF_QLEVEL (lf : Nat) (k : Nat) (c : Nat) : Nat := leafBase lf + 0x180800 + 0x20 * k + 0x4 * c
/-- spec/06_buffer_and_crossing.md -/
def BUF_PLEVEL (lf : Nat) (k : Nat) : Nat := leafBase lf + 0x180C00 + 0x4 * k
/-- spec/06_buffer_and_crossing.md -/
def BUF_XQ_STAT (lf : Nat) (j : Nat) : Nat := leafBase lf + 0x181000 + 0x10 * j
/-- spec/06_buffer_and_crossing.md -/
def XBAR_CAL (l : Nat) (s : Nat) : Nat := 0x100000 + 0x100 * l + 0x4 * s
/-- spec/06_buffer_and_crossing.md -/
def XBAR_LINK_STAT (l : Nat) : Nat := 0x101000 + 0x10 * l
/-- spec/06_buffer_and_crossing.md -/
def XBAR_LINK_CRC_ERR (l : Nat) : Nat := 0x101004 + 0x10 * l
/-- spec/06_buffer_and_crossing.md -/
def XBAR_EVT : Nat := 0x101100
/-- spec/06_buffer_and_crossing.md -/
def XBAR_EVT_EN : Nat := 0x101104
/-- spec/06_buffer_and_crossing.md -/
def SPB_QLIM (i : Nat) (c : Nat) : Nat := 0x120000 + 0x20 * i + 0x4 * c
/-- spec/06_buffer_and_crossing.md -/
def SPB_PLIM (i : Nat) : Nat := 0x120080 + 0x4 * i
/-- spec/06_buffer_and_crossing.md -/
def SPB_POOL : Nat := 0x120090
/-- spec/06_buffer_and_crossing.md -/
def SPB_XQ_CFG : Nat := 0x120094
/-- spec/06_buffer_and_crossing.md -/
def SPB_QLEVEL (i : Nat) (c : Nat) : Nat := 0x120100 + 0x20 * i + 0x4 * c
/-- spec/06_buffer_and_crossing.md -/
def SPB_PLEVEL (i : Nat) : Nat := 0x120180 + 0x4 * i
/-- spec/07_timed_egress.md -/
def EGR_PORT_CTRL (g : Nat) : Nat := egrBase g + 0x0
/-- spec/07_timed_egress.md -/
def EGR_PORT_QUANTUM (g : Nat) (c : Nat) : Nat := egrBase g + 0x10 + 0x4 * c
/-- spec/07_timed_egress.md -/
def EGR_PORT_IDLE_SLOPE (g : Nat) (c : Nat) : Nat := egrBase g + 0x30 + 0x4 * c
/-- spec/07_timed_egress.md -/
def EGR_PORT_GCL_CTRL (g : Nat) : Nat := egrBase g + 0x50
/-- spec/07_timed_egress.md -/
def EGR_PORT_STAT (g : Nat) : Nat := egrBase g + 0x90
/-- spec/07_timed_egress.md -/
def EGR_PORT_LADLE_LIM (g : Nat) : Nat := egrBase g + 0x94
/-- spec/07_timed_egress.md -/
def EGR_PORT_LADLE_LEVEL (g : Nat) : Nat := egrBase g + 0x98
/-- spec/07_timed_egress.md -/
def EGR_PORT_MAX_DEFER (g : Nat) : Nat := egrBase g + 0x9C
/-- spec/07_timed_egress.md -/
def EGR_PORT_EVT (g : Nat) : Nat := egrBase g + 0xA0
/-- spec/07_timed_egress.md -/
def EGR_PORT_EVT_EN (g : Nat) : Nat := egrBase g + 0xA4
/-- spec/07_timed_egress.md -/
def EGR_PORT_GCL_BASE0 (g : Nat) (L : Nat) : Nat := egrBase g + 0xC0 + 0x20 * L
/-- spec/07_timed_egress.md -/
def EGR_PORT_GCL_BASE1 (g : Nat) (L : Nat) : Nat := egrBase g + 0xC4 + 0x20 * L
/-- spec/07_timed_egress.md -/
def EGR_PORT_GCL_BASE2 (g : Nat) (L : Nat) : Nat := egrBase g + 0xC8 + 0x20 * L
/-- spec/07_timed_egress.md -/
def EGR_PORT_GCL_CYCLE0 (g : Nat) (L : Nat) : Nat := egrBase g + 0xCC + 0x20 * L
/-- spec/07_timed_egress.md -/
def EGR_PORT_GCL_CYCLE1 (g : Nat) (L : Nat) : Nat := egrBase g + 0xD0 + 0x20 * L
/-- spec/07_timed_egress.md -/
def EGR_PORT_GCL_LEN (g : Nat) (L : Nat) : Nat := egrBase g + 0xD4 + 0x20 * L
/-- spec/07_timed_egress.md -/
def EGR_PROFILE (lf : Nat) (i : Nat) : Nat := leafBase lf + 0x210000 + 0x10 * i
/-- spec/07_timed_egress.md -/
def EGR_LADLE (lf : Nat) : Nat := leafBase lf + 0x210100
/-- spec/07_timed_egress.md -/
def EGR_PROF_EVT (lf : Nat) : Nat := leafBase lf + 0x210104
/-- spec/07_timed_egress.md -/
def EGR_PROF_EVT_EN (lf : Nat) : Nat := leafBase lf + 0x210108
/-- spec/07_timed_egress.md -/
def EGR_GCL_GATES (g : Nat) (L : Nat) (e : Nat) : Nat := gclBase g + 0x0 + 0x2000 * L + 0x8 * e
/-- spec/07_timed_egress.md -/
def EGR_GCL_INTERVAL (g : Nat) (L : Nat) (e : Nat) : Nat := gclBase g + 0x4 + 0x2000 * L + 0x8 * e
/-- spec/08_time_transfer.md -/
def LPH_CTRL (g : Nat) : Nat := lphBase g + 0x0
/-- spec/08_time_transfer.md -/
def LPH_STAT (g : Nat) : Nat := lphBase g + 0x4
/-- spec/08_time_transfer.md -/
def LPH_RX_PHASE (g : Nat) : Nat := lphBase g + 0x8
/-- spec/08_time_transfer.md -/
def LPH_TX_PHASE (g : Nat) : Nat := lphBase g + 0xC
/-- spec/08_time_transfer.md -/
def TCX_CTRL (g : Nat) : Nat := tcxBase g + 0x0
/-- spec/08_time_transfer.md -/
def TCX_CAP (g : Nat) : Nat := tcxBase g + 0x4
/-- spec/08_time_transfer.md -/
def TCX_TXFIX (g : Nat) : Nat := tcxBase g + 0x8
/-- spec/08_time_transfer.md -/
def TCX_RXFIX (g : Nat) : Nat := tcxBase g + 0xC
/-- spec/08_time_transfer.md -/
def TCX_ASYM0 (g : Nat) : Nat := tcxBase g + 0x10
/-- spec/08_time_transfer.md -/
def TCX_ASYM1 (g : Nat) : Nat := tcxBase g + 0x14
/-- spec/08_time_transfer.md -/
def TCX_GEN (g : Nat) : Nat := tcxBase g + 0x18
/-- spec/08_time_transfer.md -/
def TCX_STAT (g : Nat) : Nat := tcxBase g + 0x1C
/-- spec/08_time_transfer.md -/
def TCX_PEER_GEN (g : Nat) : Nat := tcxBase g + 0x20
/-- spec/08_time_transfer.md -/
def TCX_PEER_CAP (g : Nat) : Nat := tcxBase g + 0x24
/-- spec/08_time_transfer.md -/
def TCX_PEER_TXFIX (g : Nat) : Nat := tcxBase g + 0x28
/-- spec/08_time_transfer.md -/
def TCX_PEER_RXFIX (g : Nat) : Nat := tcxBase g + 0x2C
/-- spec/08_time_transfer.md -/
def TCX_PEER_ASYM0 (g : Nat) : Nat := tcxBase g + 0x30
/-- spec/08_time_transfer.md -/
def TCX_PEER_ASYM1 (g : Nat) : Nat := tcxBase g + 0x34
/-- spec/08_time_transfer.md -/
def TCX_PEER_CLAIM (g : Nat) : Nat := tcxBase g + 0x38
/-- spec/08_time_transfer.md -/
def TCX_PEER_CLOCK_ID0 (g : Nat) : Nat := tcxBase g + 0x3C
/-- spec/08_time_transfer.md -/
def TCX_PEER_CLOCK_ID1 (g : Nat) : Nat := tcxBase g + 0x40
/-- spec/08_time_transfer.md -/
def TCX_PEER_PORT (g : Nat) : Nat := tcxBase g + 0x44
/-- spec/08_time_transfer.md -/
def TCX_PEER_RX_PHASE (g : Nat) : Nat := tcxBase g + 0x48
/-- spec/08_time_transfer.md -/
def TCX_PEER_TX_PHASE (g : Nat) : Nat := tcxBase g + 0x4C
/-- spec/08_time_transfer.md -/
def TCX_PEER_PH (g : Nat) : Nat := tcxBase g + 0x50
/-- spec/08_time_transfer.md -/
def CLOCK_ID0 (lf : Nat) : Nat := respBase lf + 0x0
/-- spec/08_time_transfer.md -/
def CLOCK_ID1 (lf : Nat) : Nat := respBase lf + 0x4
/-- spec/08_time_transfer.md -/
def RESP_CFG (lf : Nat) : Nat := respBase lf + 0x8
/-- spec/08_time_transfer.md -/
def RESP_CNT_ANSWERED (lf : Nat) : Nat := respBase lf + 0x10
/-- spec/08_time_transfer.md -/
def RESP_CNT_OVERFLOW (lf : Nat) : Nat := respBase lf + 0x14
/-- spec/08_time_transfer.md -/
def RESP_CNT_NOT_VALID (lf : Nat) : Nat := respBase lf + 0x18
/-- spec/08_time_transfer.md -/
def RESP_STAT (lf : Nat) : Nat := respBase lf + 0x1C
/-- spec/08_time_transfer.md -/
def RESP_PORT_CFG (g : Nat) : Nat := respPortBase g + 0x0
/-- spec/08_time_transfer.md -/
def RESP_PORT_DOMAIN (g : Nat) : Nat := respPortBase g + 0x4
/-- spec/08_time_transfer.md -/
def RESP_PORT_IPV4 (g : Nat) : Nat := respPortBase g + 0x8
/-- spec/08_time_transfer.md -/
def RESP_PORT_IPV60 (g : Nat) : Nat := respPortBase g + 0xC
/-- spec/08_time_transfer.md -/
def RESP_PORT_IPV61 (g : Nat) : Nat := respPortBase g + 0x10
/-- spec/08_time_transfer.md -/
def RESP_PORT_IPV62 (g : Nat) : Nat := respPortBase g + 0x14
/-- spec/08_time_transfer.md -/
def RESP_PORT_IPV63 (g : Nat) : Nat := respPortBase g + 0x18
/-- spec/09_references_and_holdover.md -/
def REF_SLOT_CFG (i : Nat) : Nat := 0x60000 + 0x40 * i
/-- spec/09_references_and_holdover.md -/
def REF_SLOT_NOMINAL (i : Nat) : Nat := 0x60004 + 0x40 * i
/-- spec/09_references_and_holdover.md -/
def REF_SLOT_LIMITS (i : Nat) : Nat := 0x60008 + 0x40 * i
/-- spec/09_references_and_holdover.md -/
def REF_SLOT_TIMERS (i : Nat) : Nat := 0x6000C + 0x40 * i
/-- spec/09_references_and_holdover.md -/
def REF_SLOT_STAT (i : Nat) : Nat := 0x60010 + 0x40 * i
/-- spec/09_references_and_holdover.md -/
def REF_SLOT_FOFF (i : Nat) : Nat := 0x60014 + 0x40 * i
/-- spec/09_references_and_holdover.md -/
def REF_CFG : Nat := 0x60400
/-- spec/09_references_and_holdover.md -/
def REF_EVT : Nat := 0x60404
/-- spec/09_references_and_holdover.md -/
def REF_EVT_EN : Nat := 0x60408
/-- spec/09_references_and_holdover.md -/
def REF_DISPUTE : Nat := 0x6040C
/-- spec/09_references_and_holdover.md -/
def DPLL_CTRL (d : Nat) : Nat := 0x70000 + 0x100 * d
/-- spec/09_references_and_holdover.md -/
def DPLL_CAND (d : Nat) : Nat := 0x70004 + 0x100 * d
/-- spec/09_references_and_holdover.md -/
def DPLL_STAT (d : Nat) : Nat := 0x70008 + 0x100 * d
/-- spec/09_references_and_holdover.md -/
def DPLL_SLEW_MAX (d : Nat) : Nat := 0x7000C + 0x100 * d
/-- spec/09_references_and_holdover.md -/
def DPLL_SLEW_THRESH (d : Nat) : Nat := 0x70010 + 0x100 * d
/-- spec/09_references_and_holdover.md -/
def DPLL_LOCK (d : Nat) : Nat := 0x70014 + 0x100 * d
/-- spec/09_references_and_holdover.md -/
def DPLL_CLAMP (d : Nat) : Nat := 0x70018 + 0x100 * d
/-- spec/09_references_and_holdover.md -/
def DPLL_FREQ_SW0 (d : Nat) : Nat := 0x70020 + 0x100 * d
/-- spec/09_references_and_holdover.md -/
def DPLL_FREQ_SW1 (d : Nat) : Nat := 0x70024 + 0x100 * d
/-- spec/09_references_and_holdover.md -/
def DPLL_FREQ_NOW0 (d : Nat) : Nat := 0x70028 + 0x100 * d
/-- spec/09_references_and_holdover.md -/
def DPLL_FREQ_NOW1 (d : Nat) : Nat := 0x7002C + 0x100 * d
/-- spec/09_references_and_holdover.md -/
def DPLL_PSTEP0 (d : Nat) : Nat := 0x70030 + 0x100 * d
/-- spec/09_references_and_holdover.md -/
def DPLL_PSTEP1 (d : Nat) : Nat := 0x70034 + 0x100 * d
/-- spec/09_references_and_holdover.md -/
def DPLL_PSTEP_CTRL (d : Nat) : Nat := 0x70038 + 0x100 * d
/-- spec/09_references_and_holdover.md -/
def DPLL_OFFSET0 (d : Nat) : Nat := 0x70040 + 0x100 * d
/-- spec/09_references_and_holdover.md -/
def DPLL_OFFSET1 (d : Nat) : Nat := 0x70044 + 0x100 * d
/-- spec/09_references_and_holdover.md -/
def DPLL_PD0 (d : Nat) : Nat := 0x70048 + 0x100 * d
/-- spec/09_references_and_holdover.md -/
def DPLL_PD1 (d : Nat) : Nat := 0x7004C + 0x100 * d
/-- spec/09_references_and_holdover.md -/
def DPLL_PDX (d : Nat) : Nat := 0x70050 + 0x100 * d
/-- spec/09_references_and_holdover.md -/
def DPLL_PEND_OFFSET0 (d : Nat) : Nat := 0x70058 + 0x100 * d
/-- spec/09_references_and_holdover.md -/
def DPLL_PEND_OFFSET1 (d : Nat) : Nat := 0x7005C + 0x100 * d
/-- spec/09_references_and_holdover.md -/
def DPLL_RETURN (d : Nat) : Nat := 0x70060 + 0x100 * d
/-- spec/09_references_and_holdover.md -/
def DPLL_HO_CFG (d : Nat) : Nat := 0x70064 + 0x100 * d
/-- spec/09_references_and_holdover.md -/
def DPLL_HO_TIME (d : Nat) : Nat := 0x70068 + 0x100 * d
/-- spec/09_references_and_holdover.md -/
def DPLL_HO_BOUND (d : Nat) : Nat := 0x7006C + 0x100 * d
/-- spec/09_references_and_holdover.md -/
def DPLL_HO_LIMIT (d : Nat) : Nat := 0x70070 + 0x100 * d
/-- spec/09_references_and_holdover.md -/
def DPLL_TEMP_SW (d : Nat) : Nat := 0x70074 + 0x100 * d
/-- spec/09_references_and_holdover.md -/
def DPLL_EVT (d : Nat) : Nat := 0x70078 + 0x100 * d
/-- spec/09_references_and_holdover.md -/
def DPLL_EVT_EN (d : Nat) : Nat := 0x7007C + 0x100 * d
/-- spec/10_synthesis_and_clock_outputs.md -/
def APLL_CTRL (a : Nat) : Nat := 0x80000 + 0x100 * a
/-- spec/10_synthesis_and_clock_outputs.md -/
def APLL_FVCO0 (a : Nat) : Nat := 0x80004 + 0x100 * a
/-- spec/10_synthesis_and_clock_outputs.md -/
def APLL_FVCO1 (a : Nat) : Nat := 0x80008 + 0x100 * a
/-- spec/10_synthesis_and_clock_outputs.md -/
def APLL_STAT (a : Nat) : Nat := 0x8000C + 0x100 * a
/-- spec/10_synthesis_and_clock_outputs.md -/
def APLL_EVT (a : Nat) : Nat := 0x80010 + 0x100 * a
/-- spec/10_synthesis_and_clock_outputs.md -/
def APLL_EVT_EN (a : Nat) : Nat := 0x80014 + 0x100 * a
/-- spec/10_synthesis_and_clock_outputs.md -/
def APLL_LOSS (a : Nat) : Nat := 0x80018 + 0x100 * a
/-- spec/10_synthesis_and_clock_outputs.md -/
def SYN_BAND (a : Nat) (b : Nat) : Nat := 0x81000 + 0x400 * a + 0x4 * b
/-- spec/10_synthesis_and_clock_outputs.md -/
def OUT_CFG (j : Nat) : Nat := 0x82000 + 0x40 * j
/-- spec/10_synthesis_and_clock_outputs.md -/
def OUT_DIV_NEXT0 (j : Nat) : Nat := 0x82004 + 0x40 * j
/-- spec/10_synthesis_and_clock_outputs.md -/
def OUT_DIV_NEXT1 (j : Nat) : Nat := 0x82008 + 0x40 * j
/-- spec/10_synthesis_and_clock_outputs.md -/
def OUT_DIV_NOW0 (j : Nat) : Nat := 0x8200C + 0x40 * j
/-- spec/10_synthesis_and_clock_outputs.md -/
def OUT_DIV_NOW1 (j : Nat) : Nat := 0x82010 + 0x40 * j
/-- spec/10_synthesis_and_clock_outputs.md -/
def OUT_STAT (j : Nat) : Nat := 0x82014 + 0x40 * j
/-- spec/10_synthesis_and_clock_outputs.md -/
def SYN_UPDATE : Nat := 0x83000
/-- spec/10_synthesis_and_clock_outputs.md -/
def SYN_SYNCIN : Nat := 0x83004
/-- spec/10_synthesis_and_clock_outputs.md -/
def OUT_EVT : Nat := 0x83008
/-- spec/10_synthesis_and_clock_outputs.md -/
def OUT_EVT_EN : Nat := 0x8300C
/-- spec/10_synthesis_and_clock_outputs.md -/
def TSU_PLL : Nat := 0x83010
/-- spec/10_synthesis_and_clock_outputs.md -/
def LCTL_CLK (lf : Nat) : Nat := leafBase lf + 0x40
/-- spec/10_synthesis_and_clock_outputs.md -/
def LCTL_CLK_EVT (lf : Nat) : Nat := leafBase lf + 0x44
/-- spec/10_synthesis_and_clock_outputs.md -/
def LCTL_CLK_EVT_EN (lf : Nat) : Nat := leafBase lf + 0x48
/-- spec/11_gnss_baseband.md -/
def GNSS_CTRL : Nat := 0xA0000
/-- spec/11_gnss_baseband.md -/
def GNSS_PORT_CFG (x : Nat) : Nat := 0xA0010 + 0x10 * x
/-- spec/11_gnss_baseband.md -/
def GNSS_PORT_LO (x : Nat) : Nat := 0xA0014 + 0x10 * x
/-- spec/11_gnss_baseband.md -/
def GNSS_PORT_STAT (x : Nat) : Nat := 0xA0018 + 0x10 * x
/-- spec/11_gnss_baseband.md -/
def GNSS_PORT_FMEAS (x : Nat) : Nat := 0xA001C + 0x10 * x
/-- spec/11_gnss_baseband.md -/
def GNSS_ACQ_REQ0 : Nat := 0xA0100
/-- spec/11_gnss_baseband.md -/
def GNSS_ACQ_REQ1 : Nat := 0xA0104
/-- spec/11_gnss_baseband.md -/
def GNSS_ACQ_REQ2 : Nat := 0xA0108
/-- spec/11_gnss_baseband.md -/
def GNSS_ACQ_STAT : Nat := 0xA010C
/-- spec/11_gnss_baseband.md -/
def GNSS_ACQ_RES0 : Nat := 0xA0110
/-- spec/11_gnss_baseband.md -/
def GNSS_ACQ_RES1 : Nat := 0xA0114
/-- spec/11_gnss_baseband.md -/
def GNSS_ACQ_RES2 : Nat := 0xA0118
/-- spec/11_gnss_baseband.md -/
def GNSS_ACQ_RES3 : Nat := 0xA011C
/-- spec/11_gnss_baseband.md -/
def KETTLE_CTRL : Nat := 0xA0200
/-- spec/11_gnss_baseband.md -/
def KETTLE_STAT : Nat := 0xA0204
/-- spec/11_gnss_baseband.md -/
def KETTLE_CNT : Nat := 0xA0208
/-- spec/11_gnss_baseband.md -/
def GNSS_EPOCH_STAT : Nat := 0xA0300
/-- spec/11_gnss_baseband.md -/
def GNSS_EPOCH_TIME0 : Nat := 0xA0304
/-- spec/11_gnss_baseband.md -/
def GNSS_EPOCH_TIME1 : Nat := 0xA0308
/-- spec/11_gnss_baseband.md -/
def GNSS_EPOCH_TIME2 : Nat := 0xA030C
/-- spec/11_gnss_baseband.md -/
def GNSS_NAV_STAT : Nat := 0xA0400
/-- spec/11_gnss_baseband.md -/
def GNSS_NAV_REC (e : Nat) : Nat := 0xA0440 + 0x4 * e
/-- spec/11_gnss_baseband.md -/
def GNSS_EVT : Nat := 0xA0500
/-- spec/11_gnss_baseband.md -/
def GNSS_EVT_EN : Nat := 0xA0504
/-- spec/11_gnss_baseband.md -/
def GNSS_FW_EVT : Nat := 0xA0508
/-- spec/11_gnss_baseband.md -/
def GNSS_SOL_STAT : Nat := 0xA0510
/-- spec/11_gnss_baseband.md -/
def GNSS_SOL_OFFSET0 : Nat := 0xA0514
/-- spec/11_gnss_baseband.md -/
def GNSS_SOL_OFFSET1 : Nat := 0xA0518
/-- spec/11_gnss_baseband.md -/
def GNSS_CH_CTRL (c : Nat) : Nat := 0xA1000 + 0x40 * c
/-- spec/11_gnss_baseband.md -/
def GNSS_CH_INIT_CODE (c : Nat) : Nat := 0xA1004 + 0x40 * c
/-- spec/11_gnss_baseband.md -/
def GNSS_CH_INIT_DOPPLER (c : Nat) : Nat := 0xA1008 + 0x40 * c
/-- spec/11_gnss_baseband.md -/
def GNSS_CH_LOOP (c : Nat) : Nat := 0xA100C + 0x40 * c
/-- spec/11_gnss_baseband.md -/
def GNSS_CH_TAPS0 (c : Nat) : Nat := 0xA1010 + 0x40 * c
/-- spec/11_gnss_baseband.md -/
def GNSS_CH_TAPS1 (c : Nat) : Nat := 0xA1014 + 0x40 * c
/-- spec/11_gnss_baseband.md -/
def GNSS_CH_THR (c : Nat) : Nat := 0xA1018 + 0x40 * c
/-- spec/11_gnss_baseband.md -/
def GNSS_CH_STAT (c : Nat) : Nat := 0xA101C + 0x40 * c
/-- spec/11_gnss_baseband.md -/
def GNSS_MEAS (b : Nat) (c : Nat) (e : Nat) : Nat := 0xA4000 + 0x800 * b + 0x20 * c + 0x4 * e
/-- spec/12_claims_and_failover.md -/
def CLM_CTRL : Nat := 0xE0000
/-- spec/12_claims_and_failover.md -/
def CLM_ID : Nat := 0xE0004
/-- spec/12_claims_and_failover.md -/
def CLM_WTR : Nat := 0xE0008
/-- spec/12_claims_and_failover.md -/
def CLM_HB_PORTS (i : Nat) : Nat := 0xE0010 + 0x4 * i
/-- spec/12_claims_and_failover.md -/
def CLM_CMD : Nat := 0xE0040
/-- spec/12_claims_and_failover.md -/
def CLM_CMD_STAT : Nat := 0xE0044
/-- spec/12_claims_and_failover.md -/
def CLM_EVT : Nat := 0xE0048
/-- spec/12_claims_and_failover.md -/
def CLM_EVT_EN : Nat := 0xE004C
/-- spec/12_claims_and_failover.md -/
def CLM_DOM_CFG (d : Nat) : Nat := 0xE0100 + 0x20 * d
/-- spec/12_claims_and_failover.md -/
def CLM_DOM_PEERS (d : Nat) : Nat := 0xE0104 + 0x20 * d
/-- spec/12_claims_and_failover.md -/
def CLM_DOM_CLAIM (d : Nat) : Nat := 0xE0108 + 0x20 * d
/-- spec/12_claims_and_failover.md -/
def CLM_DOM_STAT (d : Nat) : Nat := 0xE010C + 0x20 * d
/-- spec/12_claims_and_failover.md -/
def CLM_DOM_NOTICE (d : Nat) : Nat := 0xE0110 + 0x20 * d
/-- spec/12_claims_and_failover.md -/
def CLM_DOM_REMAIN (d : Nat) : Nat := 0xE0114 + 0x20 * d
/-- spec/12_claims_and_failover.md -/
def CLM_DOM_REFUSED (d : Nat) : Nat := 0xE0118 + 0x20 * d
/-- spec/12_claims_and_failover.md -/
def CLM_DOM_SWITCHES (d : Nat) : Nat := 0xE011C + 0x20 * d
/-- spec/13_power_and_sleep.md -/
def PWR_STATE : Nat := 0x30000
/-- spec/13_power_and_sleep.md -/
def PWR_REQ : Nat := 0x30004
/-- spec/13_power_and_sleep.md -/
def PWR_WAKE : Nat := 0x30008
/-- spec/13_power_and_sleep.md -/
def PWR_WAKE_AT0 : Nat := 0x30010
/-- spec/13_power_and_sleep.md -/
def PWR_WAKE_AT1 : Nat := 0x30014
/-- spec/13_power_and_sleep.md -/
def PWR_WAKE_AT2 : Nat := 0x30018
/-- spec/13_power_and_sleep.md -/
def PWR_BUDGET : Nat := 0x30020
/-- spec/13_power_and_sleep.md -/
def PWR_GRANT : Nat := 0x30024
/-- spec/13_power_and_sleep.md -/
def PWR_ARB_CFG : Nat := 0x30028
/-- spec/13_power_and_sleep.md -/
def PWR_THERM : Nat := 0x30030
/-- spec/13_power_and_sleep.md -/
def PWR_THROTTLE : Nat := 0x30034
/-- spec/13_power_and_sleep.md -/
def PWR_EVT : Nat := 0x30038
/-- spec/13_power_and_sleep.md -/
def PWR_EVT_EN : Nat := 0x3003C
/-- spec/13_power_and_sleep.md -/
def PWR_PMB_CFG : Nat := 0x30040
/-- spec/13_power_and_sleep.md -/
def PWR_RQ (r : Nat) : Nat := 0x30100 + 0x4 * r
/-- spec/13_power_and_sleep.md -/
def PWR_REG_CFG (i : Nat) : Nat := 0x30400 + 0x10 * i
/-- spec/13_power_and_sleep.md -/
def PWR_REG_TIME (i : Nat) : Nat := 0x30404 + 0x10 * i
/-- spec/13_power_and_sleep.md -/
def PWR_REG_VOUT (i : Nat) : Nat := 0x30408 + 0x10 * i
/-- spec/13_power_and_sleep.md -/
def PWR_REG_STAT (i : Nat) : Nat := 0x3040C + 0x10 * i
/-- spec/14_boot_images_and_worlds.md -/
def SYS_ID0 : Nat := 0x0
/-- spec/14_boot_images_and_worlds.md -/
def SYS_ID1 : Nat := 0x4
/-- spec/14_boot_images_and_worlds.md -/
def SYS_ID2 : Nat := 0x8
/-- spec/14_boot_images_and_worlds.md -/
def SYS_BOOT_STATUS : Nat := 0x10
/-- spec/14_boot_images_and_worlds.md -/
def SYS_BOOT_GEN : Nat := 0x14
/-- spec/14_boot_images_and_worlds.md -/
def SYS_FW_VER : Nat := 0x18
/-- spec/14_boot_images_and_worlds.md -/
def SYS_RESET_CAUSE : Nat := 0x1C
/-- spec/14_boot_images_and_worlds.md -/
def SEC_FUSE : Nat := pf1 + 0x0
/-- spec/14_boot_images_and_worlds.md -/
def SEC_WORLD : Nat := pf1 + 0x10
/-- spec/14_boot_images_and_worlds.md -/
def SEC_DBG_CTRL : Nat := pf1 + 0x100
/-- spec/14_boot_images_and_worlds.md -/
def SEC_DBG_STAT : Nat := pf1 + 0x104
/-- spec/14_boot_images_and_worlds.md -/
def SEC_DBG_NONCE (e : Nat) : Nat := pf1 + 0x110 + 0x4 * e
/-- spec/14_boot_images_and_worlds.md -/
def SEC_DBG_RESP (e : Nat) : Nat := pf1 + 0x200 + 0x4 * e
/-- spec/14_boot_images_and_worlds.md -/
def IMG_CTRL : Nat := pf1 + 0x200000
/-- spec/14_boot_images_and_worlds.md -/
def IMG_STAT : Nat := pf1 + 0x200004
/-- spec/14_boot_images_and_worlds.md -/
def IMG_WIN (e : Nat) : Nat := pf1 + 0x300000 + 0x4 * e
/-- spec/15_host_interface_and_mailboxes.md -/
def MBX_DOORBELL (m : Nat) : Nat := mbxBase m + 0x0
/-- spec/15_host_interface_and_mailboxes.md -/
def MBX_STATUS (m : Nat) : Nat := mbxBase m + 0x4
/-- spec/15_host_interface_and_mailboxes.md -/
def MBX_EVT_EN (m : Nat) : Nat := mbxBase m + 0x8
/-- spec/15_host_interface_and_mailboxes.md -/
def MBX_REQ (m : Nat) (e : Nat) : Nat := mbxBase m + 0x1000 + 0x4 * e
/-- spec/15_host_interface_and_mailboxes.md -/
def MBX_RESP (m : Nat) (e : Nat) : Nat := mbxBase m + 0x2000 + 0x4 * e
/-- spec/15_host_interface_and_mailboxes.md -/
def HERR_STAT (w : Nat) : Nat := herrBase w + 0x0
/-- spec/15_host_interface_and_mailboxes.md -/
def HERR_ADDR (w : Nat) : Nat := herrBase w + 0x4
/-- spec/15_host_interface_and_mailboxes.md -/
def DMA_WORLD : Nat := 0xF0004
/-- spec/15_host_interface_and_mailboxes.md -/
def DMA_RX_MAP : Nat := 0xF0010
/-- spec/15_host_interface_and_mailboxes.md -/
def DMA_RX_MAP2 : Nat := 0xF0014
/-- spec/15_host_interface_and_mailboxes.md -/
def DMA_TX_EVT : Nat := 0xF0020
/-- spec/15_host_interface_and_mailboxes.md -/
def DMA_RX_EVT : Nat := 0xF0024
/-- spec/15_host_interface_and_mailboxes.md -/
def DMA_ERR_EVT : Nat := 0xF0028
/-- spec/15_host_interface_and_mailboxes.md -/
def DMA_TX_EVT_EN : Nat := 0xF0030
/-- spec/15_host_interface_and_mailboxes.md -/
def DMA_RX_EVT_EN : Nat := 0xF0034
/-- spec/15_host_interface_and_mailboxes.md -/
def DMA_ERR_EVT_EN : Nat := 0xF0038
/-- spec/15_host_interface_and_mailboxes.md -/
def RING_BASE0 (q : Nat) (r : Nat) : Nat := 0xF1000 + 0x1000 * q + 0x40 * r
/-- spec/15_host_interface_and_mailboxes.md -/
def RING_BASE1 (q : Nat) (r : Nat) : Nat := 0xF1004 + 0x1000 * q + 0x40 * r
/-- spec/15_host_interface_and_mailboxes.md -/
def RING_LOG2 (q : Nat) (r : Nat) : Nat := 0xF1008 + 0x1000 * q + 0x40 * r
/-- spec/15_host_interface_and_mailboxes.md -/
def RING_TAIL (q : Nat) (r : Nat) : Nat := 0xF100C + 0x1000 * q + 0x40 * r
/-- spec/15_host_interface_and_mailboxes.md -/
def RING_HEAD (q : Nat) (r : Nat) : Nat := 0xF1010 + 0x1000 * q + 0x40 * r
/-- spec/15_host_interface_and_mailboxes.md -/
def RING_CTRL (q : Nat) (r : Nat) : Nat := 0xF1014 + 0x1000 * q + 0x40 * r
/-- spec/15_host_interface_and_mailboxes.md -/
def RING_SIG (q : Nat) (r : Nat) : Nat := 0xF1018 + 0x1000 * q + 0x40 * r
/-- spec/15_host_interface_and_mailboxes.md -/
def RING_STAT (q : Nat) (r : Nat) : Nat := 0xF101C + 0x1000 * q + 0x40 * r
/-- spec/15_host_interface_and_mailboxes.md -/
def RING_DROPS (q : Nat) (r : Nat) : Nat := 0xF1020 + 0x1000 * q + 0x40 * r
/-- spec/15_host_interface_and_mailboxes.md -/
def MSIX_TABLE0 (v : Nat) (e : Nat) : Nat := 0x1C000 + 0x10 * v + 0x4 * e
/-- spec/15_host_interface_and_mailboxes.md -/
def MSIX_VCTRL0 (v : Nat) : Nat := 0x1C00C + 0x10 * v
/-- spec/15_host_interface_and_mailboxes.md -/
def MSIX_PBA0 : Nat := 0x1D000
/-- spec/15_host_interface_and_mailboxes.md -/
def MSIX_TABLE1 (v : Nat) (e : Nat) : Nat := pf1 + 0x10C000 + 0x10 * v + 0x4 * e
/-- spec/15_host_interface_and_mailboxes.md -/
def MSIX_VCTRL1 (v : Nat) : Nat := pf1 + 0x10C00C + 0x10 * v
/-- spec/15_host_interface_and_mailboxes.md -/
def MSIX_PBA1 : Nat := pf1 + 0x10D000
/-- spec/17_calibration_and_monitors.md -/
def CAL_REQ (w : Nat) : Nat := 0xC0000 + 0x10 * w
/-- spec/17_calibration_and_monitors.md -/
def CAL_REQ_STAT (w : Nat) : Nat := 0xC0004 + 0x10 * w
/-- spec/17_calibration_and_monitors.md -/
def CAL_ITEM_CFG (i : Nat) : Nat := 0xC0100 + 0x10 * i
/-- spec/17_calibration_and_monitors.md -/
def CAL_ITEM_CNT (i : Nat) : Nat := 0xC0104 + 0x10 * i
/-- spec/17_calibration_and_monitors.md -/
def CAL_EVT : Nat := 0xC0200
/-- spec/17_calibration_and_monitors.md -/
def CAL_EVT_EN : Nat := 0xC0204
/-- spec/17_calibration_and_monitors.md -/
def CAL_MON_TEMP (m : Nat) : Nat := 0xC0400 + 0x4 * m
/-- spec/17_calibration_and_monitors.md -/
def CAL_MON_TEMP_LIM (m : Nat) : Nat := 0xC0440 + 0x4 * m
/-- spec/17_calibration_and_monitors.md -/
def CAL_MON_VOLT (v : Nat) : Nat := 0xC0500 + 0x4 * v
/-- spec/17_calibration_and_monitors.md -/
def CAL_MON_VOLT_LIM (v : Nat) : Nat := 0xC0600 + 0x4 * v
/-- spec/17_calibration_and_monitors.md -/
def CAL_MON_TEMP_EVT : Nat := 0xC0700
/-- spec/17_calibration_and_monitors.md -/
def CAL_MON_VOLT_EVT : Nat := 0xC0704
/-- spec/17_calibration_and_monitors.md -/
def CAL_RES (i : Nat) (k : Nat) : Nat := 0xC2000 + 0x800 * i + 0x4 * k
/-- spec/18_counters_and_colophon_sampling.md -/
def TEL_CTRL : Nat := 0xD0000
/-- spec/18_counters_and_colophon_sampling.md -/
def TEL_SNAP : Nat := 0xD0004
/-- spec/18_counters_and_colophon_sampling.md -/
def TEL_SNAP_REQ : Nat := 0xD0008
/-- spec/18_counters_and_colophon_sampling.md -/
def TEL_SNAP_MASK0 : Nat := 0xD0010
/-- spec/18_counters_and_colophon_sampling.md -/
def TEL_SNAP_MASK1 : Nat := 0xD0014
/-- spec/18_counters_and_colophon_sampling.md -/
def TEL_SNAP_TIME0 : Nat := 0xD0018
/-- spec/18_counters_and_colophon_sampling.md -/
def TEL_SNAP_TIME1 : Nat := 0xD001C
/-- spec/18_counters_and_colophon_sampling.md -/
def TEL_SNAP_TIME2 : Nat := 0xD0020
/-- spec/18_counters_and_colophon_sampling.md -/
def TEL_USER_MASK : Nat := 0xD0030
/-- spec/18_counters_and_colophon_sampling.md -/
def TEL_OOS_DROP0 (n : Nat) : Nat := 0xD0040 + 0x8 * n
/-- spec/18_counters_and_colophon_sampling.md -/
def TEL_OOS_DROP1 (n : Nat) : Nat := 0xD0044 + 0x8 * n
/-- spec/18_counters_and_colophon_sampling.md -/
def TEL_EVT : Nat := 0xD0080
/-- spec/18_counters_and_colophon_sampling.md -/
def TEL_EVT_EN : Nat := 0xD0084
/-- spec/18_counters_and_colophon_sampling.md -/
def CNT_SNAP (lf : Nat) : Nat := leafBase lf + 0x30C000
/-- spec/18_counters_and_colophon_sampling.md -/
def SMP_CTRL (lf : Nat) : Nat := leafBase lf + 0x380000
/-- spec/18_counters_and_colophon_sampling.md -/
def SMP_SEED (lf : Nat) : Nat := leafBase lf + 0x380004
/-- spec/18_counters_and_colophon_sampling.md -/
def SMP_FILT (lf : Nat) : Nat := leafBase lf + 0x380008
/-- spec/18_counters_and_colophon_sampling.md -/
def SMP_FILT_STREAM (lf : Nat) : Nat := leafBase lf + 0x38000C
/-- spec/18_counters_and_colophon_sampling.md -/
def SMP_STAT (lf : Nat) : Nat := leafBase lf + 0x380010
/-- spec/18_counters_and_colophon_sampling.md -/
def SMP_CNT_OVERWRITTEN (lf : Nat) : Nat := leafBase lf + 0x380014
/-- spec/18_counters_and_colophon_sampling.md -/
def SMP_CNT_LOST (lf : Nat) : Nat := leafBase lf + 0x380018
/-- spec/18_counters_and_colophon_sampling.md -/
def SMP_EVT (lf : Nat) : Nat := leafBase lf + 0x380020
/-- spec/18_counters_and_colophon_sampling.md -/
def SMP_EVT_EN (lf : Nat) : Nat := leafBase lf + 0x380024
/-- spec/18_counters_and_colophon_sampling.md -/
def SMP_REC (lf : Nat) (e : Nat) : Nat := leafBase lf + 0x380040 + 0x4 * e
/-- spec/19_events_and_address_map.md -/
def EVT_RAW (k : Nat) : Nat := 0x20000 + 0x4 * k
/-- spec/19_events_and_address_map.md -/
def EVT_ENABLE (k : Nat) : Nat := 0x20010 + 0x4 * k
/-- spec/19_events_and_address_map.md -/
def EVT_PEND (k : Nat) : Nat := 0x20020 + 0x4 * k
/-- spec/19_events_and_address_map.md -/
def EVT_STAT : Nat := 0x20030
/-- spec/19_events_and_address_map.md -/
def EVT_ROUTE (s : Nat) : Nat := 0x20100 + 0x4 * s
/-- spec/19_events_and_address_map.md -/
def LCTL_SUM (lf : Nat) : Nat := leafBase lf + 0x0
/-- spec/19_events_and_address_map.md -/
def LCTL_LANE_SUM (lf : Nat) : Nat := leafBase lf + 0x4
/-- spec/19_events_and_address_map.md -/
def LCTL_PORT_SUM (lf : Nat) : Nat := leafBase lf + 0x8
/-- spec/19_events_and_address_map.md -/
def LCTL_FAULT (lf : Nat) : Nat := leafBase lf + 0x10
/-- spec/19_events_and_address_map.md -/
def LCTL_FAULT_EN (lf : Nat) : Nat := leafBase lf + 0x14

end Reg

namespace Fld

def SYS_LEAF_STATE_LEAF0 : FRef := ⟨Reg.SYS_LEAF_STATE, 0, 4⟩
def SYS_LEAF_STATE_LEAF1 : FRef := ⟨Reg.SYS_LEAF_STATE, 4, 4⟩
def SYS_LEAF_STATE_LEAF2 : FRef := ⟨Reg.SYS_LEAF_STATE, 8, 4⟩
def SYS_LEAF_STATE_LEAF3 : FRef := ⟨Reg.SYS_LEAF_STATE, 12, 4⟩
def SYS_LEAF_STATE_LEAF4 : FRef := ⟨Reg.SYS_LEAF_STATE, 16, 4⟩
def SYS_LEAF_STATE_LEAF5 : FRef := ⟨Reg.SYS_LEAF_STATE, 20, 4⟩
def SYS_LEAF_STATE_LEAF6 : FRef := ⟨Reg.SYS_LEAF_STATE, 24, 4⟩
def SYS_LEAF_STATE_LEAF7 : FRef := ⟨Reg.SYS_LEAF_STATE, 28, 4⟩
def TIME_CTRL_SET_CANCEL : FRef := ⟨Reg.TIME_CTRL, 0, 1⟩
def TIME_STATUS_LEAF_STAMP_INVALID : FRef := ⟨Reg.TIME_STATUS, 16, 8⟩
def TIME_STATUS_LEAF_ALIGNED : FRef := ⟨Reg.TIME_STATUS, 8, 8⟩
def TIME_STATUS_VALID : FRef := ⟨Reg.TIME_STATUS, 4, 1⟩
def TIME_STATUS_TSU_LOCK : FRef := ⟨Reg.TIME_STATUS, 3, 1⟩
def TIME_STATUS_STEPPED : FRef := ⟨Reg.TIME_STATUS, 2, 1⟩
def TIME_STATUS_SET_ERR : FRef := ⟨Reg.TIME_STATUS, 1, 1⟩
def TIME_STATUS_SET_PENDING : FRef := ⟨Reg.TIME_STATUS, 0, 1⟩
def TIME_NOW0_NOW : FRef := ⟨Reg.TIME_NOW0, 0, 32⟩
def TIME_NOW1_NOW : FRef := ⟨Reg.TIME_NOW1, 0, 32⟩
def TIME_NOW2_NOW : FRef := ⟨Reg.TIME_NOW2, 0, 32⟩
def TIME_SET0_SET : FRef := ⟨Reg.TIME_SET0, 0, 32⟩
def TIME_SET1_SET : FRef := ⟨Reg.TIME_SET1, 0, 32⟩
def TIME_SET2_SET : FRef := ⟨Reg.TIME_SET2, 0, 32⟩
def TIME_ACT_PART_SECURE_ENTRIES : FRef := ⟨Reg.TIME_ACT_PART, 0, 9⟩
def TIME_ACT_EVT_USER : FRef := ⟨Reg.TIME_ACT_EVT, 0, 16⟩
def TIME_LEAF_RESID_WARN (n : Nat) : FRef := ⟨Reg.TIME_LEAF_RESID n, 16, 1⟩
def TIME_LEAF_RESID_RESID (n : Nat) : FRef := ⟨Reg.TIME_LEAF_RESID n, 0, 16⟩
def TIME_CAP_CTRL_FLUSH (i : Nat) : FRef := ⟨Reg.TIME_CAP_CTRL i, 3, 1⟩
def TIME_CAP_CTRL_EDGE (i : Nat) : FRef := ⟨Reg.TIME_CAP_CTRL i, 1, 2⟩
def TIME_CAP_CTRL_EN (i : Nat) : FRef := ⟨Reg.TIME_CAP_CTRL i, 0, 1⟩
def TIME_CAP_STAT_LOST (i : Nat) : FRef := ⟨Reg.TIME_CAP_STAT i, 16, 16⟩
def TIME_CAP_STAT_TOO_CLOSE (i : Nat) : FRef := ⟨Reg.TIME_CAP_STAT i, 9, 1⟩
def TIME_CAP_STAT_OVERFLOW (i : Nat) : FRef := ⟨Reg.TIME_CAP_STAT i, 8, 1⟩
def TIME_CAP_STAT_LEVEL (i : Nat) : FRef := ⟨Reg.TIME_CAP_STAT i, 0, 5⟩
def TIME_CAP_TS0_TS (i : Nat) : FRef := ⟨Reg.TIME_CAP_TS0 i, 0, 32⟩
def TIME_CAP_TS1_TS (i : Nat) : FRef := ⟨Reg.TIME_CAP_TS1 i, 0, 32⟩
def TIME_CAP_TS2_TS (i : Nat) : FRef := ⟨Reg.TIME_CAP_TS2 i, 0, 32⟩
def TIME_CAP_TSX_VALID (i : Nat) : FRef := ⟨Reg.TIME_CAP_TSX i, 1, 1⟩
def TIME_CAP_TSX_RISING (i : Nat) : FRef := ⟨Reg.TIME_CAP_TSX i, 0, 1⟩
def TIME_PULSE_CTRL_MUTE_HIZ (j : Nat) : FRef := ⟨Reg.TIME_PULSE_CTRL j, 3, 1⟩
def TIME_PULSE_CTRL_POL (j : Nat) : FRef := ⟨Reg.TIME_PULSE_CTRL j, 2, 1⟩
def TIME_PULSE_CTRL_MODE (j : Nat) : FRef := ⟨Reg.TIME_PULSE_CTRL j, 0, 2⟩
def TIME_PULSE_STAT_CFG_ERR (j : Nat) : FRef := ⟨Reg.TIME_PULSE_STAT j, 3, 1⟩
def TIME_PULSE_STAT_LATE (j : Nat) : FRef := ⟨Reg.TIME_PULSE_STAT j, 2, 1⟩
def TIME_PULSE_STAT_MUTED (j : Nat) : FRef := ⟨Reg.TIME_PULSE_STAT j, 1, 1⟩
def TIME_PULSE_STAT_RUNNING (j : Nat) : FRef := ⟨Reg.TIME_PULSE_STAT j, 0, 1⟩
def TIME_PULSE_START0_START (j : Nat) : FRef := ⟨Reg.TIME_PULSE_START0 j, 0, 32⟩
def TIME_PULSE_START1_START (j : Nat) : FRef := ⟨Reg.TIME_PULSE_START1 j, 0, 32⟩
def TIME_PULSE_START2_START (j : Nat) : FRef := ⟨Reg.TIME_PULSE_START2 j, 0, 32⟩
def TIME_PULSE_PERIOD0_FRAC (j : Nat) : FRef := ⟨Reg.TIME_PULSE_PERIOD0 j, 0, 16⟩
def TIME_PULSE_PERIOD1_NS (j : Nat) : FRef := ⟨Reg.TIME_PULSE_PERIOD1 j, 0, 32⟩
def TIME_PULSE_WIDTH0_FRAC (j : Nat) : FRef := ⟨Reg.TIME_PULSE_WIDTH0 j, 0, 16⟩
def TIME_PULSE_WIDTH1_NS (j : Nat) : FRef := ⟨Reg.TIME_PULSE_WIDTH1 j, 0, 32⟩
def TIME_PULSE_TRIM_TRIM (j : Nat) : FRef := ⟨Reg.TIME_PULSE_TRIM j, 0, 12⟩
def TIME_ACT_CMD_GO (w : Nat) : FRef := ⟨Reg.TIME_ACT_CMD w, 31, 1⟩
def TIME_ACT_CMD_OP (w : Nat) : FRef := ⟨Reg.TIME_ACT_CMD w, 8, 3⟩
def TIME_ACT_CMD_INDEX (w : Nat) : FRef := ⟨Reg.TIME_ACT_CMD w, 0, 8⟩
def TIME_ACT_STAT_FIRES (w : Nat) : FRef := ⟨Reg.TIME_ACT_STAT w, 16, 16⟩
def TIME_ACT_STAT_LAST_FIRE (w : Nat) : FRef := ⟨Reg.TIME_ACT_STAT w, 12, 4⟩
def TIME_ACT_STAT_STATE (w : Nat) : FRef := ⟨Reg.TIME_ACT_STAT w, 8, 2⟩
def TIME_ACT_STAT_RESULT (w : Nat) : FRef := ⟨Reg.TIME_ACT_STAT w, 4, 3⟩
def TIME_ACT_STAT_OVERRUN (w : Nat) : FRef := ⟨Reg.TIME_ACT_STAT w, 1, 1⟩
def TIME_ACT_STAT_BUSY (w : Nat) : FRef := ⟨Reg.TIME_ACT_STAT w, 0, 1⟩
def TIME_ACT_FREE_COUNT (w : Nat) : FRef := ⟨Reg.TIME_ACT_FREE w, 0, 9⟩
def TIME_ACT_ENTRY_WORD (w : Nat) (e : Nat) : FRef := ⟨Reg.TIME_ACT_ENTRY w e, 0, 32⟩
def LANE_CTRL_ADAPT_MODE (g : Nat) : FRef := ⟨Reg.LANE_CTRL g, 10, 2⟩
def LANE_CTRL_FFE_SRC (g : Nat) : FRef := ⟨Reg.LANE_CTRL g, 9, 1⟩
def LANE_CTRL_AN_EN (g : Nat) : FRef := ⟨Reg.LANE_CTRL g, 8, 1⟩
def LANE_CTRL_MEDIA (g : Nat) : FRef := ⟨Reg.LANE_CTRL g, 4, 2⟩
def LANE_CTRL_RESTART (g : Nat) : FRef := ⟨Reg.LANE_CTRL g, 1, 1⟩
def LANE_CTRL_EN (g : Nat) : FRef := ⟨Reg.LANE_CTRL g, 0, 1⟩
def LANE_STATE_FAIL_COUNT (g : Nat) : FRef := ⟨Reg.LANE_STATE g, 24, 8⟩
def LANE_STATE_LAST_EXIT (g : Nat) : FRef := ⟨Reg.LANE_STATE g, 20, 4⟩
def LANE_STATE_SILENT (g : Nat) : FRef := ⟨Reg.LANE_STATE g, 16, 1⟩
def LANE_STATE_FROZEN (g : Nat) : FRef := ⟨Reg.LANE_STATE g, 15, 1⟩
def LANE_STATE_BACKOFF (g : Nat) : FRef := ⟨Reg.LANE_STATE g, 14, 1⟩
def LANE_STATE_RATE (g : Nat) : FRef := ⟨Reg.LANE_STATE g, 8, 4⟩
def LANE_STATE_STATE (g : Nat) : FRef := ⟨Reg.LANE_STATE g, 0, 4⟩
def LANE_EVT_FREEZE (g : Nat) : FRef := ⟨Reg.LANE_EVT g, 6, 1⟩
def LANE_EVT_FFE_ERR (g : Nat) : FRef := ⟨Reg.LANE_EVT g, 5, 1⟩
def LANE_EVT_CFG_ERR (g : Nat) : FRef := ⟨Reg.LANE_EVT g, 4, 1⟩
def LANE_EVT_SILENT (g : Nat) : FRef := ⟨Reg.LANE_EVT g, 3, 1⟩
def LANE_EVT_LOCK_LOSS (g : Nat) : FRef := ⟨Reg.LANE_EVT g, 2, 1⟩
def LANE_EVT_DOWN (g : Nat) : FRef := ⟨Reg.LANE_EVT g, 1, 1⟩
def LANE_EVT_UP (g : Nat) : FRef := ⟨Reg.LANE_EVT g, 0, 1⟩
def LANE_EVT_EN_EN (g : Nat) : FRef := ⟨Reg.LANE_EVT_EN g, 0, 7⟩
def LANE_TIMERS_TRAIN_TMO (g : Nat) : FRef := ⟨Reg.LANE_TIMERS g, 20, 12⟩
def LANE_TIMERS_LOCK_TMO (g : Nat) : FRef := ⟨Reg.LANE_TIMERS g, 10, 10⟩
def LANE_TIMERS_EXCH_WAIT (g : Nat) : FRef := ⟨Reg.LANE_TIMERS g, 0, 10⟩
def LANE_RETRY_SILENT_LIMIT (g : Nat) : FRef := ⟨Reg.LANE_RETRY g, 24, 8⟩
def LANE_RETRY_SLOW_PERIOD (g : Nat) : FRef := ⟨Reg.LANE_RETRY g, 16, 8⟩
def LANE_RETRY_BACKOFF_BASE (g : Nat) : FRef := ⟨Reg.LANE_RETRY g, 8, 8⟩
def LANE_RETRY_BACKOFF_CAP (g : Nat) : FRef := ⟨Reg.LANE_RETRY g, 4, 4⟩
def LANE_FFE_C_M2 (g : Nat) : FRef := ⟨Reg.LANE_FFE g, 24, 8⟩
def LANE_FFE_C_M1 (g : Nat) : FRef := ⟨Reg.LANE_FFE g, 16, 8⟩
def LANE_FFE_C0 (g : Nat) : FRef := ⟨Reg.LANE_FFE g, 8, 8⟩
def LANE_FFE_C_P1 (g : Nat) : FRef := ⟨Reg.LANE_FFE g, 0, 8⟩
def LANE_FFE_P2_APPLY (g : Nat) : FRef := ⟨Reg.LANE_FFE_P2 g, 31, 1⟩
def LANE_FFE_P2_C_P2 (g : Nat) : FRef := ⟨Reg.LANE_FFE_P2 g, 0, 8⟩
def LANE_FFE_NOW_C_M2 (g : Nat) : FRef := ⟨Reg.LANE_FFE_NOW g, 24, 8⟩
def LANE_FFE_NOW_C_M1 (g : Nat) : FRef := ⟨Reg.LANE_FFE_NOW g, 16, 8⟩
def LANE_FFE_NOW_C0 (g : Nat) : FRef := ⟨Reg.LANE_FFE_NOW g, 8, 8⟩
def LANE_FFE_NOW_C_P1 (g : Nat) : FRef := ⟨Reg.LANE_FFE_NOW g, 0, 8⟩
def LANE_FFE_NOW_P2_C_P2 (g : Nat) : FRef := ⟨Reg.LANE_FFE_NOW_P2 g, 0, 8⟩
def LANE_CTLE_PEAK_NOW (g : Nat) : FRef := ⟨Reg.LANE_CTLE g, 16, 5⟩
def LANE_CTLE_PEAK (g : Nat) : FRef := ⟨Reg.LANE_CTLE g, 0, 5⟩
def LANE_DFE_TAP3 (g : Nat) : FRef := ⟨Reg.LANE_DFE g, 16, 8⟩
def LANE_DFE_TAP2 (g : Nat) : FRef := ⟨Reg.LANE_DFE g, 8, 8⟩
def LANE_DFE_TAP1 (g : Nat) : FRef := ⟨Reg.LANE_DFE g, 0, 8⟩
def LANE_DFE_NOW_TAP3 (g : Nat) : FRef := ⟨Reg.LANE_DFE_NOW g, 16, 8⟩
def LANE_DFE_NOW_TAP2 (g : Nat) : FRef := ⟨Reg.LANE_DFE_NOW g, 8, 8⟩
def LANE_DFE_NOW_TAP1 (g : Nat) : FRef := ⟨Reg.LANE_DFE_NOW g, 0, 8⟩
def LANE_ADAPT_RESUME_MIN (g : Nat) : FRef := ⟨Reg.LANE_ADAPT g, 16, 16⟩
def LANE_ADAPT_FREEZE_MIN (g : Nat) : FRef := ⟨Reg.LANE_ADAPT g, 0, 16⟩
def LANE_LOCK_LOSS_COUNT (g : Nat) : FRef := ⟨Reg.LANE_LOCK_LOSS g, 0, 16⟩
def LANE_ESCAN_CTRL_START (g : Nat) : FRef := ⟨Reg.LANE_ESCAN_CTRL g, 31, 1⟩
def LANE_ESCAN_CTRL_ABORT (g : Nat) : FRef := ⟨Reg.LANE_ESCAN_CTRL g, 30, 1⟩
def LANE_ESCAN_CTRL_DWELL (g : Nat) : FRef := ⟨Reg.LANE_ESCAN_CTRL g, 24, 6⟩
def LANE_ESCAN_CTRL_EYE (g : Nat) : FRef := ⟨Reg.LANE_ESCAN_CTRL g, 20, 2⟩
def LANE_ESCAN_CTRL_VOFF (g : Nat) : FRef := ⟨Reg.LANE_ESCAN_CTRL g, 8, 8⟩
def LANE_ESCAN_CTRL_HOFF (g : Nat) : FRef := ⟨Reg.LANE_ESCAN_CTRL g, 0, 6⟩
def LANE_ESCAN_STAT_REASON (g : Nat) : FRef := ⟨Reg.LANE_ESCAN_STAT g, 4, 4⟩
def LANE_ESCAN_STAT_REFUSED (g : Nat) : FRef := ⟨Reg.LANE_ESCAN_STAT g, 3, 1⟩
def LANE_ESCAN_STAT_ABORTED (g : Nat) : FRef := ⟨Reg.LANE_ESCAN_STAT g, 2, 1⟩
def LANE_ESCAN_STAT_DONE (g : Nat) : FRef := ⟨Reg.LANE_ESCAN_STAT g, 1, 1⟩
def LANE_ESCAN_STAT_BUSY (g : Nat) : FRef := ⟨Reg.LANE_ESCAN_STAT g, 0, 1⟩
def LANE_ESCAN_BITS0_BITS (g : Nat) : FRef := ⟨Reg.LANE_ESCAN_BITS0 g, 0, 32⟩
def LANE_ESCAN_BITS1_BITS (g : Nat) : FRef := ⟨Reg.LANE_ESCAN_BITS1 g, 0, 32⟩
def LANE_ESCAN_ERR0_ERR (g : Nat) : FRef := ⟨Reg.LANE_ESCAN_ERR0 g, 0, 32⟩
def LANE_ESCAN_ERR1_ERR (g : Nat) : FRef := ⟨Reg.LANE_ESCAN_ERR1 g, 0, 32⟩
def PORT_MODE_FEC (g : Nat) : FRef := ⟨Reg.PORT_MODE g, 8, 3⟩
def PORT_MODE_MODE (g : Nat) : FRef := ⟨Reg.PORT_MODE g, 0, 6⟩
def PORT_MAC_MAX_FRAME (g : Nat) : FRef := ⟨Reg.PORT_MAC g, 0, 14⟩
def PORT_FC_RX_PAUSE_EN (g : Nat) : FRef := ⟨Reg.PORT_FC g, 16, 1⟩
def PORT_FC_EXPRESS_IGNORE (g : Nat) : FRef := ⟨Reg.PORT_FC g, 8, 8⟩
def PORT_FC_RX_PFC_MASK (g : Nat) : FRef := ⟨Reg.PORT_FC g, 0, 8⟩
def PORT_MM_CTRL_VERIFY_TIME (g : Nat) : FRef := ⟨Reg.PORT_MM_CTRL g, 8, 8⟩
def PORT_MM_CTRL_ADD_FRAG (g : Nat) : FRef := ⟨Reg.PORT_MM_CTRL g, 4, 2⟩
def PORT_MM_CTRL_VERIFY_DIS (g : Nat) : FRef := ⟨Reg.PORT_MM_CTRL g, 1, 1⟩
def PORT_MM_CTRL_EN (g : Nat) : FRef := ⟨Reg.PORT_MM_CTRL g, 0, 1⟩
def PORT_MM_STAT_TX_ACTIVE (g : Nat) : FRef := ⟨Reg.PORT_MM_STAT g, 4, 1⟩
def PORT_MM_STAT_VERIFY (g : Nat) : FRef := ⟨Reg.PORT_MM_STAT g, 0, 3⟩
def PORT_STATUS_FEC_LOCK (g : Nat) : FRef := ⟨Reg.PORT_STATUS g, 8, 1⟩
def PORT_STATUS_PFC_HELD (g : Nat) : FRef := ⟨Reg.PORT_STATUS g, 4, 1⟩
def PORT_STATUS_STATE (g : Nat) : FRef := ⟨Reg.PORT_STATUS g, 0, 4⟩
def PORT_EVT_TDC (g : Nat) : FRef := ⟨Reg.PORT_EVT g, 3, 1⟩
def PORT_EVT_MM (g : Nat) : FRef := ⟨Reg.PORT_EVT g, 2, 1⟩
def PORT_EVT_FEC_UNCORR (g : Nat) : FRef := ⟨Reg.PORT_EVT g, 1, 1⟩
def PORT_EVT_CFG_ERR (g : Nat) : FRef := ⟨Reg.PORT_EVT g, 0, 1⟩
def PORT_EVT_EN_EN (g : Nat) : FRef := ⟨Reg.PORT_EVT_EN g, 0, 4⟩
def PORT_FEC_CW_CORR_CORRECTED (g : Nat) : FRef := ⟨Reg.PORT_FEC_CW_CORR g, 0, 32⟩
def PORT_FEC_CW_UNCORR_UNCORRECTABLE (g : Nat) : FRef := ⟨Reg.PORT_FEC_CW_UNCORR g, 0, 32⟩
def TSU_FIX_RX_FIX_RX (g : Nat) : FRef := ⟨Reg.TSU_FIX_RX g, 0, 32⟩
def TSU_FIX_TX_FIX_TX (g : Nat) : FRef := ⟨Reg.TSU_FIX_TX g, 0, 32⟩
def TSU_TDC_BOTH_FAIL (g : Nat) : FRef := ⟨Reg.TSU_TDC g, 5, 1⟩
def TSU_TDC_B_OK (g : Nat) : FRef := ⟨Reg.TSU_TDC g, 4, 1⟩
def TSU_TDC_A_OK (g : Nat) : FRef := ⟨Reg.TSU_TDC g, 3, 1⟩
def TSU_TDC_CAL_BUSY (g : Nat) : FRef := ⟨Reg.TSU_TDC g, 2, 1⟩
def TSU_TDC_SERVING (g : Nat) : FRef := ⟨Reg.TSU_TDC g, 0, 1⟩
def TSU_TXQ_STAT_LOST (g : Nat) : FRef := ⟨Reg.TSU_TXQ_STAT g, 16, 16⟩
def TSU_TXQ_STAT_OVERFLOW (g : Nat) : FRef := ⟨Reg.TSU_TXQ_STAT g, 8, 1⟩
def TSU_TXQ_STAT_FLUSH (g : Nat) : FRef := ⟨Reg.TSU_TXQ_STAT g, 7, 1⟩
def TSU_TXQ_STAT_LEVEL (g : Nat) : FRef := ⟨Reg.TSU_TXQ_STAT g, 0, 7⟩
def TSU_TXQ_TS0_TS (g : Nat) : FRef := ⟨Reg.TSU_TXQ_TS0 g, 0, 32⟩
def TSU_TXQ_TS1_TS (g : Nat) : FRef := ⟨Reg.TSU_TXQ_TS1 g, 0, 32⟩
def TSU_TXQ_TS2_TS (g : Nat) : FRef := ⟨Reg.TSU_TXQ_TS2 g, 0, 32⟩
def TSU_TXQ_TAG_FLAGS (g : Nat) : FRef := ⟨Reg.TSU_TXQ_TAG g, 16, 4⟩
def TSU_TXQ_TAG_TAG (g : Nat) : FRef := ⟨Reg.TSU_TXQ_TAG g, 0, 16⟩
def FWD_CMD_CTRL_GO (lf : Nat) (w : Nat) : FRef := ⟨Reg.FWD_CMD_CTRL lf w, 31, 1⟩
def FWD_CMD_CTRL_OPCODE (lf : Nat) (w : Nat) : FRef := ⟨Reg.FWD_CMD_CTRL lf w, 24, 4⟩
def FWD_CMD_CTRL_TABLE (lf : Nat) (w : Nat) : FRef := ⟨Reg.FWD_CMD_CTRL lf w, 16, 4⟩
def FWD_CMD_CTRL_MODE (lf : Nat) (w : Nat) : FRef := ⟨Reg.FWD_CMD_CTRL lf w, 0, 1⟩
def FWD_CMD_STAT_RESULT (lf : Nat) (w : Nat) : FRef := ⟨Reg.FWD_CMD_STAT lf w, 28, 4⟩
def FWD_CMD_STAT_FOUND_IDX (lf : Nat) (w : Nat) : FRef := ⟨Reg.FWD_CMD_STAT lf w, 8, 20⟩
def FWD_CMD_STAT_OVERRUN (lf : Nat) (w : Nat) : FRef := ⟨Reg.FWD_CMD_STAT lf w, 1, 1⟩
def FWD_CMD_STAT_BUSY (lf : Nat) (w : Nat) : FRef := ⟨Reg.FWD_CMD_STAT lf w, 0, 1⟩
def FWD_CMD_INDEX_INDEX (lf : Nat) (w : Nat) : FRef := ⟨Reg.FWD_CMD_INDEX lf w, 0, 20⟩
def FWD_CMD_XDATA_XDATA (lf : Nat) (w : Nat) : FRef := ⟨Reg.FWD_CMD_XDATA lf w, 0, 32⟩
def FWD_CMD_DATA_DATA (lf : Nat) (w : Nat) (e : Nat) : FRef := ⟨Reg.FWD_CMD_DATA lf w e, 0, 32⟩
def FWD_BANK_RETAIN (lf : Nat) : FRef := ⟨Reg.FWD_BANK lf, 16, 3⟩
def FWD_BANK_SWAP (lf : Nat) : FRef := ⟨Reg.FWD_BANK lf, 8, 3⟩
def FWD_BANK_ACTIVE (lf : Nat) : FRef := ⟨Reg.FWD_BANK lf, 0, 3⟩
def FWD_WORLD_SECURE (lf : Nat) : FRef := ⟨Reg.FWD_WORLD lf, 0, 9⟩
def FWD_LEARN_CFG_LEARN_EN (lf : Nat) : FRef := ⟨Reg.FWD_LEARN_CFG lf, 4, 1⟩
def FWD_LEARN_CFG_MOVE_LIMIT (lf : Nat) : FRef := ⟨Reg.FWD_LEARN_CFG lf, 0, 4⟩
def FWD_HASH_SEED_SEED (lf : Nat) : FRef := ⟨Reg.FWD_HASH_SEED lf, 0, 32⟩
def FWD_LEARN_STAT_LEVEL (lf : Nat) : FRef := ⟨Reg.FWD_LEARN_STAT lf, 0, 13⟩
def FWD_STORM_IDX_IDX (lf : Nat) : FRef := ⟨Reg.FWD_STORM_IDX lf, 0, 20⟩
def FWD_LEARN_CNT_COUNT (lf : Nat) (e : Nat) : FRef := ⟨Reg.FWD_LEARN_CNT lf e, 0, 32⟩
def FWD_EVT_CFG_ERR (lf : Nat) : FRef := ⟨Reg.FWD_EVT lf, 3, 1⟩
def FWD_EVT_FULL (lf : Nat) : FRef := ⟨Reg.FWD_EVT lf, 2, 1⟩
def FWD_EVT_OVERFLOW (lf : Nat) : FRef := ⟨Reg.FWD_EVT lf, 1, 1⟩
def FWD_EVT_MOVE_STORM (lf : Nat) : FRef := ⟨Reg.FWD_EVT lf, 0, 1⟩
def FWD_EVT_EN_EN (lf : Nat) : FRef := ⟨Reg.FWD_EVT_EN lf, 0, 4⟩
def FWD_OWN_MAC0_MAC_LO (lf : Nat) : FRef := ⟨Reg.FWD_OWN_MAC0 lf, 0, 32⟩
def FWD_OWN_MAC1_MAC_HI (lf : Nat) : FRef := ⟨Reg.FWD_OWN_MAC1 lf, 0, 16⟩
def FWD_PORT_CFG_PTP_TRAP (lf : Nat) (k : Nat) : FRef := ⟨Reg.FWD_PORT_CFG lf k, 26, 1⟩
def FWD_PORT_CFG_UNK_UC_FLOOD (lf : Nat) (k : Nat) : FRef := ⟨Reg.FWD_PORT_CFG lf k, 25, 1⟩
def FWD_PORT_CFG_LEARN_EN (lf : Nat) (k : Nat) : FRef := ⟨Reg.FWD_PORT_CFG lf k, 24, 1⟩
def FWD_PORT_CFG_EGRESS_TAG (lf : Nat) (k : Nat) : FRef := ⟨Reg.FWD_PORT_CFG lf k, 20, 2⟩
def FWD_PORT_CFG_STAG_EN (lf : Nat) (k : Nat) : FRef := ⟨Reg.FWD_PORT_CFG lf k, 19, 1⟩
def FWD_PORT_CFG_INGRESS_FILTER (lf : Nat) (k : Nat) : FRef := ⟨Reg.FWD_PORT_CFG lf k, 18, 1⟩
def FWD_PORT_CFG_ACCEPT (lf : Nat) (k : Nat) : FRef := ⟨Reg.FWD_PORT_CFG lf k, 16, 2⟩
def FWD_PORT_CFG_DEF_PRI (lf : Nat) (k : Nat) : FRef := ⟨Reg.FWD_PORT_CFG lf k, 12, 3⟩
def FWD_PORT_CFG_PVID (lf : Nat) (k : Nat) : FRef := ⟨Reg.FWD_PORT_CFG lf k, 0, 12⟩
def FWD_PORT_PCP_MAP_MAP (lf : Nat) (k : Nat) : FRef := ⟨Reg.FWD_PORT_PCP_MAP lf k, 0, 24⟩
def BUF_QLIM_CELLS (lf : Nat) (k : Nat) (c : Nat) : FRef := ⟨Reg.BUF_QLIM lf k c, 0, 17⟩
def BUF_PLIM_CELLS (lf : Nat) (k : Nat) : FRef := ⟨Reg.BUF_PLIM lf k, 0, 17⟩
def BUF_POOL_OVERCOMMIT (lf : Nat) : FRef := ⟨Reg.BUF_POOL lf, 31, 1⟩
def BUF_POOL_FREE (lf : Nat) : FRef := ⟨Reg.BUF_POOL lf, 0, 17⟩
def BUF_XQ_CFG_DEADLINE (lf : Nat) : FRef := ⟨Reg.BUF_XQ_CFG lf, 0, 20⟩
def BUF_EVT_CFG_ERR (lf : Nat) : FRef := ⟨Reg.BUF_EVT lf, 3, 1⟩
def BUF_EVT_POOL_EMPTY (lf : Nat) : FRef := ⟨Reg.BUF_EVT lf, 2, 1⟩
def BUF_EVT_CROSS_EXPIRED (lf : Nat) : FRef := ⟨Reg.BUF_EVT lf, 1, 1⟩
def BUF_EVT_CROSS_FULL (lf : Nat) : FRef := ⟨Reg.BUF_EVT lf, 0, 1⟩
def BUF_EVT_EN_EN (lf : Nat) : FRef := ⟨Reg.BUF_EVT_EN lf, 0, 4⟩
def BUF_QLEVEL_CELLS (lf : Nat) (k : Nat) (c : Nat) : FRef := ⟨Reg.BUF_QLEVEL lf k c, 0, 17⟩
def BUF_PLEVEL_CELLS (lf : Nat) (k : Nat) : FRef := ⟨Reg.BUF_PLEVEL lf k, 0, 17⟩
def BUF_XQ_STAT_CREDIT (lf : Nat) (j : Nat) : FRef := ⟨Reg.BUF_XQ_STAT lf j, 24, 8⟩
def BUF_XQ_STAT_LEVEL (lf : Nat) (j : Nat) : FRef := ⟨Reg.BUF_XQ_STAT lf j, 0, 13⟩
def XBAR_CAL_DEST_MASK (l : Nat) (s : Nat) : FRef := ⟨Reg.XBAR_CAL l s, 0, 9⟩
def XBAR_LINK_STAT_RES_SUSPENDED (l : Nat) : FRef := ⟨Reg.XBAR_LINK_STAT l, 8, 1⟩
def XBAR_LINK_STAT_MODULES_UP (l : Nat) : FRef := ⟨Reg.XBAR_LINK_STAT l, 0, 4⟩
def XBAR_LINK_CRC_ERR_COUNT (l : Nat) : FRef := ⟨Reg.XBAR_LINK_CRC_ERR l, 0, 32⟩
def XBAR_EVT_MODULE_LOST : FRef := ⟨Reg.XBAR_EVT, 2, 1⟩
def XBAR_EVT_RES_SUSPENDED : FRef := ⟨Reg.XBAR_EVT, 1, 1⟩
def XBAR_EVT_CAL_ERR : FRef := ⟨Reg.XBAR_EVT, 0, 1⟩
def XBAR_EVT_EN_EN : FRef := ⟨Reg.XBAR_EVT_EN, 0, 3⟩
def SPB_QLIM_CELLS (i : Nat) (c : Nat) : FRef := ⟨Reg.SPB_QLIM i c, 0, 15⟩
def SPB_PLIM_CELLS (i : Nat) : FRef := ⟨Reg.SPB_PLIM i, 0, 15⟩
def SPB_POOL_OVERCOMMIT : FRef := ⟨Reg.SPB_POOL, 31, 1⟩
def SPB_POOL_FREE : FRef := ⟨Reg.SPB_POOL, 0, 15⟩
def SPB_XQ_CFG_DEADLINE : FRef := ⟨Reg.SPB_XQ_CFG, 0, 20⟩
def SPB_QLEVEL_CELLS (i : Nat) (c : Nat) : FRef := ⟨Reg.SPB_QLEVEL i c, 0, 15⟩
def SPB_PLEVEL_CELLS (i : Nat) : FRef := ⟨Reg.SPB_PLEVEL i, 0, 15⟩
def EGR_PORT_CTRL_PREEMPT (g : Nat) : FRef := ⟨Reg.EGR_PORT_CTRL g, 24, 8⟩
def EGR_PORT_CTRL_DWRR (g : Nat) : FRef := ⟨Reg.EGR_PORT_CTRL g, 16, 8⟩
def EGR_PORT_CTRL_CBS_EN (g : Nat) : FRef := ⟨Reg.EGR_PORT_CTRL g, 8, 8⟩
def EGR_PORT_CTRL_GCL_EN (g : Nat) : FRef := ⟨Reg.EGR_PORT_CTRL g, 0, 1⟩
def EGR_PORT_QUANTUM_BYTES (g : Nat) (c : Nat) : FRef := ⟨Reg.EGR_PORT_QUANTUM g c, 0, 16⟩
def EGR_PORT_IDLE_SLOPE_KBPS (g : Nat) (c : Nat) : FRef := ⟨Reg.EGR_PORT_IDLE_SLOPE g c, 0, 32⟩
def EGR_PORT_GCL_CTRL_SWAP (g : Nat) : FRef := ⟨Reg.EGR_PORT_GCL_CTRL g, 31, 1⟩
def EGR_PORT_GCL_CTRL_RETAIN (g : Nat) : FRef := ⟨Reg.EGR_PORT_GCL_CTRL g, 1, 1⟩
def EGR_PORT_GCL_CTRL_ACTIVE (g : Nat) : FRef := ⟨Reg.EGR_PORT_GCL_CTRL g, 0, 1⟩
def EGR_PORT_STAT_HOLD (g : Nat) : FRef := ⟨Reg.EGR_PORT_STAT g, 9, 1⟩
def EGR_PORT_STAT_OPEN (g : Nat) : FRef := ⟨Reg.EGR_PORT_STAT g, 0, 8⟩
def EGR_PORT_LADLE_LIM_LIM (g : Nat) : FRef := ⟨Reg.EGR_PORT_LADLE_LIM g, 0, 15⟩
def EGR_PORT_LADLE_LEVEL_LEVEL (g : Nat) : FRef := ⟨Reg.EGR_PORT_LADLE_LEVEL g, 0, 15⟩
def EGR_PORT_MAX_DEFER_PS (g : Nat) : FRef := ⟨Reg.EGR_PORT_MAX_DEFER g, 0, 32⟩
def EGR_PORT_EVT_DEFERRED (g : Nat) : FRef := ⟨Reg.EGR_PORT_EVT g, 4, 1⟩
def EGR_PORT_EVT_LATE (g : Nat) : FRef := ⟨Reg.EGR_PORT_EVT g, 3, 1⟩
def EGR_PORT_EVT_GATE_NO_FIT (g : Nat) : FRef := ⟨Reg.EGR_PORT_EVT g, 2, 1⟩
def EGR_PORT_EVT_GCL_BUSY (g : Nat) : FRef := ⟨Reg.EGR_PORT_EVT g, 1, 1⟩
def EGR_PORT_EVT_CFG_ERR (g : Nat) : FRef := ⟨Reg.EGR_PORT_EVT g, 0, 1⟩
def EGR_PORT_EVT_EN_EN (g : Nat) : FRef := ⟨Reg.EGR_PORT_EVT_EN g, 0, 5⟩
def EGR_PORT_GCL_BASE0_BASE (g : Nat) (L : Nat) : FRef := ⟨Reg.EGR_PORT_GCL_BASE0 g L, 0, 32⟩
def EGR_PORT_GCL_BASE1_BASE (g : Nat) (L : Nat) : FRef := ⟨Reg.EGR_PORT_GCL_BASE1 g L, 0, 32⟩
def EGR_PORT_GCL_BASE2_BASE (g : Nat) (L : Nat) : FRef := ⟨Reg.EGR_PORT_GCL_BASE2 g L, 0, 32⟩
def EGR_PORT_GCL_CYCLE0_CYCLE_FRAC (g : Nat) (L : Nat) : FRef := ⟨Reg.EGR_PORT_GCL_CYCLE0 g L, 0, 16⟩
def EGR_PORT_GCL_CYCLE1_CYCLE_NS (g : Nat) (L : Nat) : FRef := ⟨Reg.EGR_PORT_GCL_CYCLE1 g L, 0, 32⟩
def EGR_PORT_GCL_LEN_LEN (g : Nat) (L : Nat) : FRef := ⟨Reg.EGR_PORT_GCL_LEN g L, 0, 11⟩
def EGR_PROFILE_EN (lf : Nat) (i : Nat) : FRef := ⟨Reg.EGR_PROFILE lf i, 31, 1⟩
def EGR_PROFILE_LATE_ACT (lf : Nat) (i : Nat) : FRef := ⟨Reg.EGR_PROFILE lf i, 30, 1⟩
def EGR_PROFILE_RESIDENCE (lf : Nat) (i : Nat) : FRef := ⟨Reg.EGR_PROFILE lf i, 0, 20⟩
def EGR_LADLE_HALTED (lf : Nat) : FRef := ⟨Reg.EGR_LADLE lf, 31, 1⟩
def EGR_LADLE_FREE (lf : Nat) : FRef := ⟨Reg.EGR_LADLE lf, 0, 15⟩
def EGR_PROF_EVT_CFG_ERR (lf : Nat) : FRef := ⟨Reg.EGR_PROF_EVT lf, 0, 1⟩
def EGR_PROF_EVT_EN_EN (lf : Nat) : FRef := ⟨Reg.EGR_PROF_EVT_EN lf, 0, 1⟩
def EGR_GCL_GATES_GATES (g : Nat) (L : Nat) (e : Nat) : FRef := ⟨Reg.EGR_GCL_GATES g L e, 0, 8⟩
def EGR_GCL_INTERVAL_INTERVAL (g : Nat) (L : Nat) (e : Nat) : FRef := ⟨Reg.EGR_GCL_INTERVAL g L e, 0, 32⟩
def LPH_CTRL_EN (g : Nat) : FRef := ⟨Reg.LPH_CTRL g, 31, 1⟩
def LPH_CTRL_AVG (g : Nat) : FRef := ⟨Reg.LPH_CTRL g, 0, 10⟩
def LPH_STAT_SEQ (g : Nat) : FRef := ⟨Reg.LPH_STAT g, 16, 16⟩
def LPH_STAT_SLIP (g : Nat) : FRef := ⟨Reg.LPH_STAT g, 3, 1⟩
def LPH_STAT_STALE (g : Nat) : FRef := ⟨Reg.LPH_STAT g, 2, 1⟩
def LPH_STAT_VALID (g : Nat) : FRef := ⟨Reg.LPH_STAT g, 1, 1⟩
def LPH_STAT_NEW (g : Nat) : FRef := ⟨Reg.LPH_STAT g, 0, 1⟩
def LPH_RX_PHASE_PHASE (g : Nat) : FRef := ⟨Reg.LPH_RX_PHASE g, 0, 32⟩
def LPH_TX_PHASE_PHASE (g : Nat) : FRef := ⟨Reg.LPH_TX_PHASE g, 0, 32⟩
def TCX_CTRL_COMMIT (g : Nat) : FRef := ⟨Reg.TCX_CTRL g, 31, 1⟩
def TCX_CTRL_TIMEOUT (g : Nat) : FRef := ⟨Reg.TCX_CTRL g, 20, 8⟩
def TCX_CTRL_CLAIM_DOM (g : Nat) : FRef := ⟨Reg.TCX_CTRL g, 16, 4⟩
def TCX_CTRL_PERIOD (g : Nat) : FRef := ⟨Reg.TCX_CTRL g, 4, 10⟩
def TCX_CTRL_PHASE_TX_EN (g : Nat) : FRef := ⟨Reg.TCX_CTRL g, 1, 1⟩
def TCX_CTRL_EN (g : Nat) : FRef := ⟨Reg.TCX_CTRL g, 0, 1⟩
def TCX_CAP_CAP (g : Nat) : FRef := ⟨Reg.TCX_CAP g, 0, 32⟩
def TCX_TXFIX_TXFIX (g : Nat) : FRef := ⟨Reg.TCX_TXFIX g, 0, 32⟩
def TCX_RXFIX_RXFIX (g : Nat) : FRef := ⟨Reg.TCX_RXFIX g, 0, 32⟩
def TCX_ASYM0_ASYM (g : Nat) : FRef := ⟨Reg.TCX_ASYM0 g, 0, 32⟩
def TCX_ASYM1_ASYM (g : Nat) : FRef := ⟨Reg.TCX_ASYM1 g, 0, 32⟩
def TCX_GEN_GEN (g : Nat) : FRef := ⟨Reg.TCX_GEN g, 0, 32⟩
def TCX_STAT_BAD (g : Nat) : FRef := ⟨Reg.TCX_STAT g, 16, 16⟩
def TCX_STAT_VERSION_SEEN (g : Nat) : FRef := ⟨Reg.TCX_STAT g, 7, 1⟩
def TCX_STAT_CFG_ERR (g : Nat) : FRef := ⟨Reg.TCX_STAT g, 6, 1⟩
def TCX_STAT_MISMATCH (g : Nat) : FRef := ⟨Reg.TCX_STAT g, 5, 1⟩
def TCX_STAT_PEER_VALID (g : Nat) : FRef := ⟨Reg.TCX_STAT g, 4, 1⟩
def TCX_STAT_XSTATE (g : Nat) : FRef := ⟨Reg.TCX_STAT g, 0, 2⟩
def TCX_PEER_GEN_GEN (g : Nat) : FRef := ⟨Reg.TCX_PEER_GEN g, 0, 32⟩
def TCX_PEER_CAP_CAP (g : Nat) : FRef := ⟨Reg.TCX_PEER_CAP g, 0, 32⟩
def TCX_PEER_TXFIX_TXFIX (g : Nat) : FRef := ⟨Reg.TCX_PEER_TXFIX g, 0, 32⟩
def TCX_PEER_RXFIX_RXFIX (g : Nat) : FRef := ⟨Reg.TCX_PEER_RXFIX g, 0, 32⟩
def TCX_PEER_ASYM0_ASYM (g : Nat) : FRef := ⟨Reg.TCX_PEER_ASYM0 g, 0, 32⟩
def TCX_PEER_ASYM1_ASYM (g : Nat) : FRef := ⟨Reg.TCX_PEER_ASYM1 g, 0, 32⟩
def TCX_PEER_CLAIM_CLAIM_DOM (g : Nat) : FRef := ⟨Reg.TCX_PEER_CLAIM g, 16, 4⟩
def TCX_PEER_CLAIM_CLAIM (g : Nat) : FRef := ⟨Reg.TCX_PEER_CLAIM g, 0, 16⟩
def TCX_PEER_CLOCK_ID0_CLOCK_ID (g : Nat) : FRef := ⟨Reg.TCX_PEER_CLOCK_ID0 g, 0, 32⟩
def TCX_PEER_CLOCK_ID1_CLOCK_ID (g : Nat) : FRef := ⟨Reg.TCX_PEER_CLOCK_ID1 g, 0, 32⟩
def TCX_PEER_PORT_PORT (g : Nat) : FRef := ⟨Reg.TCX_PEER_PORT g, 0, 16⟩
def TCX_PEER_RX_PHASE_PHASE (g : Nat) : FRef := ⟨Reg.TCX_PEER_RX_PHASE g, 0, 32⟩
def TCX_PEER_TX_PHASE_PHASE (g : Nat) : FRef := ⟨Reg.TCX_PEER_TX_PHASE g, 0, 32⟩
def TCX_PEER_PH_FLAGS (g : Nat) : FRef := ⟨Reg.TCX_PEER_PH g, 16, 3⟩
def TCX_PEER_PH_AVG (g : Nat) : FRef := ⟨Reg.TCX_PEER_PH g, 0, 16⟩
def CLOCK_ID0_CLOCK_ID (lf : Nat) : FRef := ⟨Reg.CLOCK_ID0 lf, 0, 32⟩
def CLOCK_ID1_CLOCK_ID (lf : Nat) : FRef := ⟨Reg.CLOCK_ID1 lf, 0, 32⟩
def RESP_CFG_LOG_INTERVAL (lf : Nat) : FRef := ⟨Reg.RESP_CFG lf, 24, 8⟩
def RESP_CFG_TC (lf : Nat) : FRef := ⟨Reg.RESP_CFG lf, 20, 3⟩
def RESP_CFG_TTL (lf : Nat) : FRef := ⟨Reg.RESP_CFG lf, 8, 8⟩
def RESP_CFG_DSCP (lf : Nat) : FRef := ⟨Reg.RESP_CFG lf, 0, 6⟩
def RESP_CNT_ANSWERED_COUNT (lf : Nat) : FRef := ⟨Reg.RESP_CNT_ANSWERED lf, 0, 32⟩
def RESP_CNT_OVERFLOW_COUNT (lf : Nat) : FRef := ⟨Reg.RESP_CNT_OVERFLOW lf, 0, 32⟩
def RESP_CNT_NOT_VALID_COUNT (lf : Nat) : FRef := ⟨Reg.RESP_CNT_NOT_VALID lf, 0, 32⟩
def RESP_STAT_LEVEL (lf : Nat) : FRef := ⟨Reg.RESP_STAT lf, 0, 9⟩
def RESP_PORT_CFG_PORT_NUMBER (g : Nat) : FRef := ⟨Reg.RESP_PORT_CFG g, 16, 16⟩
def RESP_PORT_CFG_CLAIM_GATE (g : Nat) : FRef := ⟨Reg.RESP_PORT_CFG g, 12, 1⟩
def RESP_PORT_CFG_SDO (g : Nat) : FRef := ⟨Reg.RESP_PORT_CFG g, 8, 4⟩
def RESP_PORT_CFG_UNICAST (g : Nat) : FRef := ⟨Reg.RESP_PORT_CFG g, 7, 1⟩
def RESP_PORT_CFG_UDP6 (g : Nat) : FRef := ⟨Reg.RESP_PORT_CFG g, 6, 1⟩
def RESP_PORT_CFG_UDP4 (g : Nat) : FRef := ⟨Reg.RESP_PORT_CFG g, 5, 1⟩
def RESP_PORT_CFG_L2 (g : Nat) : FRef := ⟨Reg.RESP_PORT_CFG g, 4, 1⟩
def RESP_PORT_CFG_DOM_EN (g : Nat) : FRef := ⟨Reg.RESP_PORT_CFG g, 0, 4⟩
def RESP_PORT_DOMAIN_DOMAIN (g : Nat) : FRef := ⟨Reg.RESP_PORT_DOMAIN g, 0, 32⟩
def RESP_PORT_IPV4_IPV4 (g : Nat) : FRef := ⟨Reg.RESP_PORT_IPV4 g, 0, 32⟩
def RESP_PORT_IPV60_IPV6 (g : Nat) : FRef := ⟨Reg.RESP_PORT_IPV60 g, 0, 32⟩
def RESP_PORT_IPV61_IPV6 (g : Nat) : FRef := ⟨Reg.RESP_PORT_IPV61 g, 0, 32⟩
def RESP_PORT_IPV62_IPV6 (g : Nat) : FRef := ⟨Reg.RESP_PORT_IPV62 g, 0, 32⟩
def RESP_PORT_IPV63_IPV6 (g : Nat) : FRef := ⟨Reg.RESP_PORT_IPV63 g, 0, 32⟩
def REF_SLOT_CFG_EN (i : Nat) : FRef := ⟨Reg.REF_SLOT_CFG i, 31, 1⟩
def REF_SLOT_CFG_FORCE_QUAL (i : Nat) : FRef := ⟨Reg.REF_SLOT_CFG i, 30, 1⟩
def REF_SLOT_CFG_RANK (i : Nat) : FRef := ⟨Reg.REF_SLOT_CFG i, 24, 4⟩
def REF_SLOT_CFG_PPS (i : Nat) : FRef := ⟨Reg.REF_SLOT_CFG i, 16, 1⟩
def REF_SLOT_CFG_EDGE (i : Nat) : FRef := ⟨Reg.REF_SLOT_CFG i, 12, 1⟩
def REF_SLOT_CFG_PORT (i : Nat) : FRef := ⟨Reg.REF_SLOT_CFG i, 0, 9⟩
def REF_SLOT_NOMINAL_HZ (i : Nat) : FRef := ⟨Reg.REF_SLOT_NOMINAL i, 0, 32⟩
def REF_SLOT_LIMITS_REJECT (i : Nat) : FRef := ⟨Reg.REF_SLOT_LIMITS i, 16, 16⟩
def REF_SLOT_LIMITS_ACCEPT (i : Nat) : FRef := ⟨Reg.REF_SLOT_LIMITS i, 0, 16⟩
def REF_SLOT_TIMERS_HOLDOFF (i : Nat) : FRef := ⟨Reg.REF_SLOT_TIMERS i, 24, 8⟩
def REF_SLOT_TIMERS_WTR (i : Nat) : FRef := ⟨Reg.REF_SLOT_TIMERS i, 12, 12⟩
def REF_SLOT_TIMERS_ACT_MISS (i : Nat) : FRef := ⟨Reg.REF_SLOT_TIMERS i, 0, 4⟩
def REF_SLOT_STAT_REMAIN (i : Nat) : FRef := ⟨Reg.REF_SLOT_STAT i, 16, 16⟩
def REF_SLOT_STAT_FOFF_VALID (i : Nat) : FRef := ⟨Reg.REF_SLOT_STAT i, 9, 1⟩
def REF_SLOT_STAT_MAJORITY (i : Nat) : FRef := ⟨Reg.REF_SLOT_STAT i, 8, 1⟩
def REF_SLOT_STAT_DISPUTED (i : Nat) : FRef := ⟨Reg.REF_SLOT_STAT i, 7, 1⟩
def REF_SLOT_STAT_FORCED_OUT (i : Nat) : FRef := ⟨Reg.REF_SLOT_STAT i, 6, 1⟩
def REF_SLOT_STAT_FREQ_FAULT (i : Nat) : FRef := ⟨Reg.REF_SLOT_STAT i, 5, 1⟩
def REF_SLOT_STAT_ACT_FAULT (i : Nat) : FRef := ⟨Reg.REF_SLOT_STAT i, 4, 1⟩
def REF_SLOT_STAT_STATE (i : Nat) : FRef := ⟨Reg.REF_SLOT_STAT i, 0, 3⟩
def REF_SLOT_FOFF_PPB (i : Nat) : FRef := ⟨Reg.REF_SLOT_FOFF i, 0, 32⟩
def REF_CFG_PAIR_LIMIT : FRef := ⟨Reg.REF_CFG, 0, 10⟩
def REF_EVT_CFG_ERR : FRef := ⟨Reg.REF_EVT, 17, 1⟩
def REF_EVT_DISPUTE : FRef := ⟨Reg.REF_EVT, 16, 1⟩
def REF_EVT_SLOT : FRef := ⟨Reg.REF_EVT, 0, 16⟩
def REF_EVT_EN_EN : FRef := ⟨Reg.REF_EVT_EN, 0, 18⟩
def REF_DISPUTE_MAJORITY : FRef := ⟨Reg.REF_DISPUTE, 16, 16⟩
def REF_DISPUTE_DISPUTED : FRef := ⟨Reg.REF_DISPUTE, 0, 16⟩
def DPLL_CTRL_BW (d : Nat) : FRef := ⟨Reg.DPLL_CTRL d, 24, 8⟩
def DPLL_CTRL_PD_SLOT (d : Nat) : FRef := ⟨Reg.DPLL_CTRL d, 20, 4⟩
def DPLL_CTRL_FORCE_SLOT (d : Nat) : FRef := ⟨Reg.DPLL_CTRL d, 16, 4⟩
def DPLL_CTRL_RET_POLICY (d : Nat) : FRef := ⟨Reg.DPLL_CTRL d, 12, 1⟩
def DPLL_CTRL_ALIGN (d : Nat) : FRef := ⟨Reg.DPLL_CTRL d, 11, 1⟩
def DPLL_CTRL_REVERTIVE (d : Nat) : FRef := ⟨Reg.DPLL_CTRL d, 10, 1⟩
def DPLL_CTRL_MODE (d : Nat) : FRef := ⟨Reg.DPLL_CTRL d, 0, 3⟩
def DPLL_CAND_MASK (d : Nat) : FRef := ⟨Reg.DPLL_CAND d, 0, 16⟩
def DPLL_STAT_BW_NOW (d : Nat) : FRef := ⟨Reg.DPLL_STAT d, 24, 8⟩
def DPLL_STAT_SELECTED (d : Nat) : FRef := ⟨Reg.DPLL_STAT d, 20, 4⟩
def DPLL_STAT_SEL_VALID (d : Nat) : FRef := ⟨Reg.DPLL_STAT d, 19, 1⟩
def DPLL_STAT_BW_LIMITED (d : Nat) : FRef := ⟨Reg.DPLL_STAT d, 18, 1⟩
def DPLL_STAT_CLAMPED (d : Nat) : FRef := ⟨Reg.DPLL_STAT d, 17, 1⟩
def DPLL_STAT_HO_READY (d : Nat) : FRef := ⟨Reg.DPLL_STAT d, 16, 1⟩
def DPLL_STAT_RETURN_PENDING (d : Nat) : FRef := ⟨Reg.DPLL_STAT d, 15, 1⟩
def DPLL_STAT_SLEWING (d : Nat) : FRef := ⟨Reg.DPLL_STAT d, 14, 1⟩
def DPLL_STAT_TEMP_STALE (d : Nat) : FRef := ⟨Reg.DPLL_STAT d, 13, 1⟩
def DPLL_STAT_STATE (d : Nat) : FRef := ⟨Reg.DPLL_STAT d, 0, 4⟩
def DPLL_SLEW_MAX_PPB (d : Nat) : FRef := ⟨Reg.DPLL_SLEW_MAX d, 0, 17⟩
def DPLL_SLEW_THRESH_NS (d : Nat) : FRef := ⟨Reg.DPLL_SLEW_THRESH d, 0, 32⟩
def DPLL_LOCK_LOCK_THRESH (d : Nat) : FRef := ⟨Reg.DPLL_LOCK d, 0, 24⟩
def DPLL_CLAMP_FREQ_CLAMP (d : Nat) : FRef := ⟨Reg.DPLL_CLAMP d, 0, 9⟩
def DPLL_FREQ_SW0_WORD (d : Nat) : FRef := ⟨Reg.DPLL_FREQ_SW0 d, 0, 32⟩
def DPLL_FREQ_SW1_WORD (d : Nat) : FRef := ⟨Reg.DPLL_FREQ_SW1 d, 0, 32⟩
def DPLL_FREQ_NOW0_WORD (d : Nat) : FRef := ⟨Reg.DPLL_FREQ_NOW0 d, 0, 32⟩
def DPLL_FREQ_NOW1_WORD (d : Nat) : FRef := ⟨Reg.DPLL_FREQ_NOW1 d, 0, 32⟩
def DPLL_PSTEP0_STEP (d : Nat) : FRef := ⟨Reg.DPLL_PSTEP0 d, 0, 32⟩
def DPLL_PSTEP1_STEP (d : Nat) : FRef := ⟨Reg.DPLL_PSTEP1 d, 0, 32⟩
def DPLL_PSTEP_CTRL_GO (d : Nat) : FRef := ⟨Reg.DPLL_PSTEP_CTRL d, 31, 1⟩
def DPLL_PSTEP_CTRL_PENDING (d : Nat) : FRef := ⟨Reg.DPLL_PSTEP_CTRL d, 1, 1⟩
def DPLL_PSTEP_CTRL_WHEN (d : Nat) : FRef := ⟨Reg.DPLL_PSTEP_CTRL d, 0, 1⟩
def DPLL_OFFSET0_OFFSET (d : Nat) : FRef := ⟨Reg.DPLL_OFFSET0 d, 0, 32⟩
def DPLL_OFFSET1_OFFSET (d : Nat) : FRef := ⟨Reg.DPLL_OFFSET1 d, 0, 32⟩
def DPLL_PD0_PD (d : Nat) : FRef := ⟨Reg.DPLL_PD0 d, 0, 32⟩
def DPLL_PD1_PD (d : Nat) : FRef := ⟨Reg.DPLL_PD1 d, 0, 32⟩
def DPLL_PDX_PD_SEQ (d : Nat) : FRef := ⟨Reg.DPLL_PDX d, 16, 16⟩
def DPLL_PDX_PD_STALE (d : Nat) : FRef := ⟨Reg.DPLL_PDX d, 1, 1⟩
def DPLL_PDX_PD_VALID (d : Nat) : FRef := ⟨Reg.DPLL_PDX d, 0, 1⟩
def DPLL_PEND_OFFSET0_OFFSET (d : Nat) : FRef := ⟨Reg.DPLL_PEND_OFFSET0 d, 0, 32⟩
def DPLL_PEND_OFFSET1_OFFSET (d : Nat) : FRef := ⟨Reg.DPLL_PEND_OFFSET1 d, 0, 32⟩
def DPLL_RETURN_CMD (d : Nat) : FRef := ⟨Reg.DPLL_RETURN d, 0, 2⟩
def DPLL_HO_CFG_HO_AVG (d : Nat) : FRef := ⟨Reg.DPLL_HO_CFG d, 16, 16⟩
def DPLL_HO_CFG_AGE_EN (d : Nat) : FRef := ⟨Reg.DPLL_HO_CFG d, 4, 1⟩
def DPLL_HO_CFG_MODEL_EN (d : Nat) : FRef := ⟨Reg.DPLL_HO_CFG d, 3, 1⟩
def DPLL_HO_CFG_TEMP_SRC (d : Nat) : FRef := ⟨Reg.DPLL_HO_CFG d, 1, 2⟩
def DPLL_HO_TIME_S (d : Nat) : FRef := ⟨Reg.DPLL_HO_TIME d, 0, 32⟩
def DPLL_HO_BOUND_NS (d : Nat) : FRef := ⟨Reg.DPLL_HO_BOUND d, 0, 32⟩
def DPLL_HO_LIMIT_NS (d : Nat) : FRef := ⟨Reg.DPLL_HO_LIMIT d, 0, 32⟩
def DPLL_TEMP_SW_TEMP (d : Nat) : FRef := ⟨Reg.DPLL_TEMP_SW d, 0, 16⟩
def DPLL_EVT_TEMP_STALE (d : Nat) : FRef := ⟨Reg.DPLL_EVT d, 6, 1⟩
def DPLL_EVT_CFG_ERR (d : Nat) : FRef := ⟨Reg.DPLL_EVT d, 5, 1⟩
def DPLL_EVT_CLAMPED (d : Nat) : FRef := ⟨Reg.DPLL_EVT d, 4, 1⟩
def DPLL_EVT_HO_LIMIT (d : Nat) : FRef := ⟨Reg.DPLL_EVT d, 3, 1⟩
def DPLL_EVT_RETURN (d : Nat) : FRef := ⟨Reg.DPLL_EVT d, 2, 1⟩
def DPLL_EVT_SWITCH (d : Nat) : FRef := ⟨Reg.DPLL_EVT d, 1, 1⟩
def DPLL_EVT_STATE (d : Nat) : FRef := ⟨Reg.DPLL_EVT d, 0, 1⟩
def DPLL_EVT_EN_EN (d : Nat) : FRef := ⟨Reg.DPLL_EVT_EN d, 0, 7⟩
def APLL_CTRL_SRC (a : Nat) : FRef := ⟨Reg.APLL_CTRL a, 1, 1⟩
def APLL_CTRL_EN (a : Nat) : FRef := ⟨Reg.APLL_CTRL a, 0, 1⟩
def APLL_FVCO0_HZ_LO (a : Nat) : FRef := ⟨Reg.APLL_FVCO0 a, 16, 16⟩
def APLL_FVCO0_FRAC (a : Nat) : FRef := ⟨Reg.APLL_FVCO0 a, 0, 16⟩
def APLL_FVCO1_HZ_HI (a : Nat) : FRef := ⟨Reg.APLL_FVCO1 a, 0, 32⟩
def APLL_STAT_BAND (a : Nat) : FRef := ⟨Reg.APLL_STAT a, 16, 8⟩
def APLL_STAT_BAND_VALID (a : Nat) : FRef := ⟨Reg.APLL_STAT a, 8, 1⟩
def APLL_STAT_MOVING (a : Nat) : FRef := ⟨Reg.APLL_STAT a, 4, 1⟩
def APLL_STAT_STATE (a : Nat) : FRef := ⟨Reg.APLL_STAT a, 0, 2⟩
def APLL_EVT_CFG_ERR (a : Nat) : FRef := ⟨Reg.APLL_EVT a, 3, 1⟩
def APLL_EVT_NO_BAND (a : Nat) : FRef := ⟨Reg.APLL_EVT a, 2, 1⟩
def APLL_EVT_LOCK_FAIL (a : Nat) : FRef := ⟨Reg.APLL_EVT a, 1, 1⟩
def APLL_EVT_LOSS (a : Nat) : FRef := ⟨Reg.APLL_EVT a, 0, 1⟩
def APLL_EVT_EN_EN (a : Nat) : FRef := ⟨Reg.APLL_EVT_EN a, 0, 4⟩
def APLL_LOSS_LOCK_FAIL (a : Nat) : FRef := ⟨Reg.APLL_LOSS a, 16, 16⟩
def APLL_LOSS_LOSS (a : Nat) : FRef := ⟨Reg.APLL_LOSS a, 0, 16⟩
def SYN_BAND_VALID (a : Nat) (b : Nat) : FRef := ⟨Reg.SYN_BAND a b, 31, 1⟩
def SYN_BAND_HI_MHZ (a : Nat) (b : Nat) : FRef := ⟨Reg.SYN_BAND a b, 14, 14⟩
def SYN_BAND_LO_MHZ (a : Nat) (b : Nat) : FRef := ⟨Reg.SYN_BAND a b, 0, 14⟩
def OUT_CFG_KEEP (j : Nat) : FRef := ⟨Reg.OUT_CFG j, 16, 1⟩
def OUT_CFG_MUTE_HIZ (j : Nat) : FRef := ⟨Reg.OUT_CFG j, 15, 1⟩
def OUT_CFG_FALLBACK (j : Nat) : FRef := ⟨Reg.OUT_CFG j, 14, 1⟩
def OUT_CFG_ALIGN (j : Nat) : FRef := ⟨Reg.OUT_CFG j, 12, 2⟩
def OUT_CFG_FORMAT (j : Nat) : FRef := ⟨Reg.OUT_CFG j, 8, 3⟩
def OUT_CFG_SRC (j : Nat) : FRef := ⟨Reg.OUT_CFG j, 4, 2⟩
def OUT_CFG_EN (j : Nat) : FRef := ⟨Reg.OUT_CFG j, 0, 1⟩
def OUT_DIV_NEXT0_DELAY (j : Nat) : FRef := ⟨Reg.OUT_DIV_NEXT0 j, 16, 12⟩
def OUT_DIV_NEXT0_HS (j : Nat) : FRef := ⟨Reg.OUT_DIV_NEXT0 j, 0, 8⟩
def OUT_DIV_NEXT1_LS (j : Nat) : FRef := ⟨Reg.OUT_DIV_NEXT1 j, 0, 32⟩
def OUT_DIV_NOW0_DELAY (j : Nat) : FRef := ⟨Reg.OUT_DIV_NOW0 j, 16, 12⟩
def OUT_DIV_NOW0_HS (j : Nat) : FRef := ⟨Reg.OUT_DIV_NOW0 j, 0, 8⟩
def OUT_DIV_NOW1_LS (j : Nat) : FRef := ⟨Reg.OUT_DIV_NOW1 j, 0, 32⟩
def OUT_STAT_FALLBACK_USED (j : Nat) : FRef := ⟨Reg.OUT_STAT j, 5, 1⟩
def OUT_STAT_EPOCH_OK (j : Nat) : FRef := ⟨Reg.OUT_STAT j, 4, 1⟩
def OUT_STAT_STATE (j : Nat) : FRef := ⟨Reg.OUT_STAT j, 0, 3⟩
def SYN_UPDATE_GO : FRef := ⟨Reg.SYN_UPDATE, 31, 1⟩
def SYN_UPDATE_MASK : FRef := ⟨Reg.SYN_UPDATE, 0, 12⟩
def SYN_SYNCIN_SEEN : FRef := ⟨Reg.SYN_SYNCIN, 17, 1⟩
def SYN_SYNCIN_EDGE : FRef := ⟨Reg.SYN_SYNCIN, 16, 1⟩
def SYN_SYNCIN_ARM : FRef := ⟨Reg.SYN_SYNCIN, 0, 12⟩
def OUT_EVT_CFG_ERR : FRef := ⟨Reg.OUT_EVT, 16, 1⟩
def OUT_EVT_MUTED : FRef := ⟨Reg.OUT_EVT, 0, 12⟩
def OUT_EVT_EN_CFG_ERR : FRef := ⟨Reg.OUT_EVT_EN, 16, 1⟩
def OUT_EVT_EN_MUTED : FRef := ⟨Reg.OUT_EVT_EN, 0, 12⟩
def TSU_PLL_COUNT : FRef := ⟨Reg.TSU_PLL, 16, 16⟩
def TSU_PLL_LOSS : FRef := ⟨Reg.TSU_PLL, 2, 1⟩
def TSU_PLL_LANES_ON_XO : FRef := ⟨Reg.TSU_PLL, 1, 1⟩
def TSU_PLL_LOCK : FRef := ⟨Reg.TSU_PLL, 0, 1⟩
def LCTL_CLK_RELOCK_FAIL (lf : Nat) : FRef := ⟨Reg.LCTL_CLK lf, 12, 1⟩
def LCTL_CLK_ATTEMPTS (lf : Nat) : FRef := ⟨Reg.LCTL_CLK lf, 8, 2⟩
def LCTL_CLK_MEM_LOCK (lf : Nat) : FRef := ⟨Reg.LCTL_CLK lf, 5, 1⟩
def LCTL_CLK_CORE_LOCK (lf : Nat) : FRef := ⟨Reg.LCTL_CLK lf, 4, 1⟩
def LCTL_CLK_MEM_SAFE (lf : Nat) : FRef := ⟨Reg.LCTL_CLK lf, 2, 1⟩
def LCTL_CLK_CORE_RATE (lf : Nat) : FRef := ⟨Reg.LCTL_CLK lf, 0, 2⟩
def LCTL_CLK_EVT_RELOCK_FAIL (lf : Nat) : FRef := ⟨Reg.LCTL_CLK_EVT lf, 2, 1⟩
def LCTL_CLK_EVT_MEM_LOSS (lf : Nat) : FRef := ⟨Reg.LCTL_CLK_EVT lf, 1, 1⟩
def LCTL_CLK_EVT_CORE_LOSS (lf : Nat) : FRef := ⟨Reg.LCTL_CLK_EVT lf, 0, 1⟩
def LCTL_CLK_EVT_EN_EN (lf : Nat) : FRef := ⟨Reg.LCTL_CLK_EVT_EN lf, 0, 3⟩
def GNSS_CTRL_SW_OWN : FRef := ⟨Reg.GNSS_CTRL, 0, 1⟩
def GNSS_PORT_CFG_EN (x : Nat) : FRef := ⟨Reg.GNSS_PORT_CFG x, 31, 1⟩
def GNSS_PORT_CFG_BITS (x : Nat) : FRef := ⟨Reg.GNSS_PORT_CFG x, 8, 1⟩
def GNSS_PORT_CFG_RATE (x : Nat) : FRef := ⟨Reg.GNSS_PORT_CFG x, 0, 2⟩
def GNSS_PORT_LO_LO (x : Nat) : FRef := ⟨Reg.GNSS_PORT_LO x, 0, 32⟩
def GNSS_PORT_STAT_PWREN (x : Nat) : FRef := ⟨Reg.GNSS_PORT_STAT x, 2, 1⟩
def GNSS_PORT_STAT_FREQ_BAD (x : Nat) : FRef := ⟨Reg.GNSS_PORT_STAT x, 1, 1⟩
def GNSS_PORT_STAT_CLK_OK (x : Nat) : FRef := ⟨Reg.GNSS_PORT_STAT x, 0, 1⟩
def GNSS_PORT_FMEAS_PPB (x : Nat) : FRef := ⟨Reg.GNSS_PORT_FMEAS x, 0, 32⟩
def GNSS_ACQ_REQ0_GO : FRef := ⟨Reg.GNSS_ACQ_REQ0, 31, 1⟩
def GNSS_ACQ_REQ0_HO_EN : FRef := ⟨Reg.GNSS_ACQ_REQ0, 30, 1⟩
def GNSS_ACQ_REQ0_HANDOVER : FRef := ⟨Reg.GNSS_ACQ_REQ0, 24, 6⟩
def GNSS_ACQ_REQ0_SIGNAL : FRef := ⟨Reg.GNSS_ACQ_REQ0, 16, 3⟩
def GNSS_ACQ_REQ0_PRN : FRef := ⟨Reg.GNSS_ACQ_REQ0, 0, 8⟩
def GNSS_ACQ_REQ1_CENTRE : FRef := ⟨Reg.GNSS_ACQ_REQ1, 16, 16⟩
def GNSS_ACQ_REQ1_B : FRef := ⟨Reg.GNSS_ACQ_REQ1, 8, 8⟩
def GNSS_ACQ_REQ1_N : FRef := ⟨Reg.GNSS_ACQ_REQ1, 0, 8⟩
def GNSS_ACQ_REQ2_THRESH : FRef := ⟨Reg.GNSS_ACQ_REQ2, 0, 10⟩
def GNSS_ACQ_STAT_RES_LEVEL : FRef := ⟨Reg.GNSS_ACQ_STAT, 8, 5⟩
def GNSS_ACQ_STAT_REQ_LEVEL : FRef := ⟨Reg.GNSS_ACQ_STAT, 0, 5⟩
def GNSS_ACQ_RES0_RESULT : FRef := ⟨Reg.GNSS_ACQ_RES0, 28, 4⟩
def GNSS_ACQ_RES0_SIGNAL : FRef := ⟨Reg.GNSS_ACQ_RES0, 16, 3⟩
def GNSS_ACQ_RES0_CHANNEL : FRef := ⟨Reg.GNSS_ACQ_RES0, 8, 6⟩
def GNSS_ACQ_RES0_PRN : FRef := ⟨Reg.GNSS_ACQ_RES0, 0, 8⟩
def GNSS_ACQ_RES1_CODE : FRef := ⟨Reg.GNSS_ACQ_RES1, 0, 32⟩
def GNSS_ACQ_RES2_DOPPLER : FRef := ⟨Reg.GNSS_ACQ_RES2, 0, 32⟩
def GNSS_ACQ_RES3_CN0 : FRef := ⟨Reg.GNSS_ACQ_RES3, 0, 16⟩
def KETTLE_CTRL_EN : FRef := ⟨Reg.KETTLE_CTRL, 31, 1⟩
def KETTLE_CTRL_FE_GATE : FRef := ⟨Reg.KETTLE_CTRL, 30, 1⟩
def KETTLE_CTRL_FE_LEAD : FRef := ⟨Reg.KETTLE_CTRL, 24, 6⟩
def KETTLE_CTRL_LEN : FRef := ⟨Reg.KETTLE_CTRL, 16, 8⟩
def KETTLE_CTRL_REACQ_CN0 : FRef := ⟨Reg.KETTLE_CTRL, 8, 8⟩
def KETTLE_CTRL_MISS_LIMIT : FRef := ⟨Reg.KETTLE_CTRL, 0, 4⟩
def KETTLE_STAT_AWAKE : FRef := ⟨Reg.KETTLE_STAT, 1, 1⟩
def KETTLE_STAT_ACTIVE : FRef := ⟨Reg.KETTLE_STAT, 0, 1⟩
def KETTLE_CNT_SKIPPED : FRef := ⟨Reg.KETTLE_CNT, 16, 16⟩
def KETTLE_CNT_MISSES : FRef := ⟨Reg.KETTLE_CNT, 0, 16⟩
def GNSS_EPOCH_STAT_SEQ : FRef := ⟨Reg.GNSS_EPOCH_STAT, 16, 16⟩
def GNSS_EPOCH_STAT_BANK : FRef := ⟨Reg.GNSS_EPOCH_STAT, 0, 1⟩
def GNSS_EPOCH_TIME0_TIME : FRef := ⟨Reg.GNSS_EPOCH_TIME0, 0, 32⟩
def GNSS_EPOCH_TIME1_TIME : FRef := ⟨Reg.GNSS_EPOCH_TIME1, 0, 32⟩
def GNSS_EPOCH_TIME2_TIME : FRef := ⟨Reg.GNSS_EPOCH_TIME2, 0, 32⟩
def GNSS_NAV_STAT_LOST : FRef := ⟨Reg.GNSS_NAV_STAT, 16, 16⟩
def GNSS_NAV_STAT_FLUSH : FRef := ⟨Reg.GNSS_NAV_STAT, 11, 1⟩
def GNSS_NAV_STAT_OVERFLOW : FRef := ⟨Reg.GNSS_NAV_STAT, 10, 1⟩
def GNSS_NAV_STAT_LEVEL : FRef := ⟨Reg.GNSS_NAV_STAT, 0, 10⟩
def GNSS_NAV_REC_REC (e : Nat) : FRef := ⟨Reg.GNSS_NAV_REC e, 0, 32⟩
def GNSS_EVT_OWNER : FRef := ⟨Reg.GNSS_EVT, 10, 1⟩
def GNSS_EVT_CFG_ERR : FRef := ⟨Reg.GNSS_EVT, 9, 1⟩
def GNSS_EVT_BURST_SKIP : FRef := ⟨Reg.GNSS_EVT, 8, 1⟩
def GNSS_EVT_BURST_MISS : FRef := ⟨Reg.GNSS_EVT, 7, 1⟩
def GNSS_EVT_NAV_OVERFLOW : FRef := ⟨Reg.GNSS_EVT, 6, 1⟩
def GNSS_EVT_NAV : FRef := ⟨Reg.GNSS_EVT, 5, 1⟩
def GNSS_EVT_EPOCH : FRef := ⟨Reg.GNSS_EVT, 4, 1⟩
def GNSS_EVT_CHAN_LOST : FRef := ⟨Reg.GNSS_EVT, 3, 1⟩
def GNSS_EVT_ACQ_DONE : FRef := ⟨Reg.GNSS_EVT, 2, 1⟩
def GNSS_EVT_PORT_B : FRef := ⟨Reg.GNSS_EVT, 1, 1⟩
def GNSS_EVT_PORT_A : FRef := ⟨Reg.GNSS_EVT, 0, 1⟩
def GNSS_EVT_EN_EN : FRef := ⟨Reg.GNSS_EVT_EN, 0, 11⟩
def GNSS_FW_EVT_FEW_SATS : FRef := ⟨Reg.GNSS_FW_EVT, 4, 1⟩
def GNSS_FW_EVT_SURVEY_DONE : FRef := ⟨Reg.GNSS_FW_EVT, 3, 1⟩
def GNSS_FW_EVT_EPH_LOW : FRef := ⟨Reg.GNSS_FW_EVT, 2, 1⟩
def GNSS_FW_EVT_JUMP_ACCEPTED : FRef := ⟨Reg.GNSS_FW_EVT, 1, 1⟩
def GNSS_FW_EVT_JUMP : FRef := ⟨Reg.GNSS_FW_EVT, 0, 1⟩
def GNSS_SOL_STAT_NSATS : FRef := ⟨Reg.GNSS_SOL_STAT, 8, 8⟩
def GNSS_SOL_STAT_STATE : FRef := ⟨Reg.GNSS_SOL_STAT, 0, 2⟩
def GNSS_SOL_OFFSET0_X : FRef := ⟨Reg.GNSS_SOL_OFFSET0, 0, 32⟩
def GNSS_SOL_OFFSET1_X : FRef := ⟨Reg.GNSS_SOL_OFFSET1, 0, 32⟩
def GNSS_CH_CTRL_START (c : Nat) : FRef := ⟨Reg.GNSS_CH_CTRL c, 31, 1⟩
def GNSS_CH_CTRL_STOP (c : Nat) : FRef := ⟨Reg.GNSS_CH_CTRL c, 30, 1⟩
def GNSS_CH_CTRL_BURST (c : Nat) : FRef := ⟨Reg.GNSS_CH_CTRL c, 29, 1⟩
def GNSS_CH_CTRL_SIGNAL (c : Nat) : FRef := ⟨Reg.GNSS_CH_CTRL c, 16, 3⟩
def GNSS_CH_CTRL_PRN (c : Nat) : FRef := ⟨Reg.GNSS_CH_CTRL c, 0, 8⟩
def GNSS_CH_INIT_CODE_CODE (c : Nat) : FRef := ⟨Reg.GNSS_CH_INIT_CODE c, 0, 32⟩
def GNSS_CH_INIT_DOPPLER_DOPPLER (c : Nat) : FRef := ⟨Reg.GNSS_CH_INIT_DOPPLER c, 0, 32⟩
def GNSS_CH_LOOP_DLL_BW (c : Nat) : FRef := ⟨Reg.GNSS_CH_LOOP c, 24, 8⟩
def GNSS_CH_LOOP_PLL_BW (c : Nat) : FRef := ⟨Reg.GNSS_CH_LOOP c, 16, 6⟩
def GNSS_CH_LOOP_FLL_BW (c : Nat) : FRef := ⟨Reg.GNSS_CH_LOOP c, 8, 5⟩
def GNSS_CH_LOOP_T_COH (c : Nat) : FRef := ⟨Reg.GNSS_CH_LOOP c, 0, 3⟩
def GNSS_CH_TAPS0_TAPS (c : Nat) : FRef := ⟨Reg.GNSS_CH_TAPS0 c, 0, 32⟩
def GNSS_CH_TAPS1_TAPS (c : Nat) : FRef := ⟨Reg.GNSS_CH_TAPS1 c, 0, 32⟩
def GNSS_CH_THR_TRACK_CN0 (c : Nat) : FRef := ⟨Reg.GNSS_CH_THR c, 8, 8⟩
def GNSS_CH_THR_LOSS_CN0 (c : Nat) : FRef := ⟨Reg.GNSS_CH_THR c, 0, 8⟩
def GNSS_CH_STAT_CN0 (c : Nat) : FRef := ⟨Reg.GNSS_CH_STAT c, 16, 16⟩
def GNSS_CH_STAT_MISSED (c : Nat) : FRef := ⟨Reg.GNSS_CH_STAT c, 11, 1⟩
def GNSS_CH_STAT_CODE_LOCK (c : Nat) : FRef := ⟨Reg.GNSS_CH_STAT c, 10, 1⟩
def GNSS_CH_STAT_CARRIER_LOCK (c : Nat) : FRef := ⟨Reg.GNSS_CH_STAT c, 9, 1⟩
def GNSS_CH_STAT_BIT_SYNC (c : Nat) : FRef := ⟨Reg.GNSS_CH_STAT c, 8, 1⟩
def GNSS_CH_STAT_STATE (c : Nat) : FRef := ⟨Reg.GNSS_CH_STAT c, 0, 4⟩
def GNSS_MEAS_RECORD (b : Nat) (c : Nat) (e : Nat) : FRef := ⟨Reg.GNSS_MEAS b c e, 0, 32⟩
def CLM_CTRL_ALONE : FRef := ⟨Reg.CLM_CTRL, 16, 16⟩
def CLM_CTRL_HB_LOSS : FRef := ⟨Reg.CLM_CTRL, 8, 8⟩
def CLM_CTRL_EN : FRef := ⟨Reg.CLM_CTRL, 0, 1⟩
def CLM_ID_SERIAL : FRef := ⟨Reg.CLM_ID, 0, 12⟩
def CLM_WTR_WTR : FRef := ⟨Reg.CLM_WTR, 0, 12⟩
def CLM_HB_PORTS_PORTS (i : Nat) : FRef := ⟨Reg.CLM_HB_PORTS i, 0, 32⟩
def CLM_CMD_GO : FRef := ⟨Reg.CLM_CMD, 31, 1⟩
def CLM_CMD_OP : FRef := ⟨Reg.CLM_CMD, 24, 2⟩
def CLM_CMD_DOM : FRef := ⟨Reg.CLM_CMD, 16, 4⟩
def CLM_CMD_SERIAL : FRef := ⟨Reg.CLM_CMD, 0, 12⟩
def CLM_CMD_STAT_RESULT : FRef := ⟨Reg.CLM_CMD_STAT, 0, 2⟩
def CLM_EVT_DOM : FRef := ⟨Reg.CLM_EVT, 16, 16⟩
def CLM_EVT_DRILL : FRef := ⟨Reg.CLM_EVT, 3, 1⟩
def CLM_EVT_WITNESS : FRef := ⟨Reg.CLM_EVT, 2, 1⟩
def CLM_EVT_ACCEPT : FRef := ⟨Reg.CLM_EVT, 1, 1⟩
def CLM_EVT_STATE : FRef := ⟨Reg.CLM_EVT, 0, 1⟩
def CLM_EVT_EN_DOM : FRef := ⟨Reg.CLM_EVT_EN, 16, 16⟩
def CLM_EVT_EN_EN : FRef := ⟨Reg.CLM_EVT_EN, 0, 4⟩
def CLM_DOM_CFG_GATE_SLOTS (d : Nat) : FRef := ⟨Reg.CLM_DOM_CFG d, 9, 1⟩
def CLM_DOM_CFG_REVERTIVE (d : Nat) : FRef := ⟨Reg.CLM_DOM_CFG d, 8, 1⟩
def CLM_DOM_CFG_RANK (d : Nat) : FRef := ⟨Reg.CLM_DOM_CFG d, 4, 4⟩
def CLM_DOM_CFG_ROLE (d : Nat) : FRef := ⟨Reg.CLM_DOM_CFG d, 0, 2⟩
def CLM_DOM_PEERS_PEER1 (d : Nat) : FRef := ⟨Reg.CLM_DOM_PEERS d, 16, 12⟩
def CLM_DOM_PEERS_PEER0 (d : Nat) : FRef := ⟨Reg.CLM_DOM_PEERS d, 0, 12⟩
def CLM_DOM_CLAIM_ACCEPTED (d : Nat) : FRef := ⟨Reg.CLM_DOM_CLAIM d, 16, 16⟩
def CLM_DOM_CLAIM_EFFECTIVE (d : Nat) : FRef := ⟨Reg.CLM_DOM_CLAIM d, 0, 16⟩
def CLM_DOM_STAT_ACC_PORT (d : Nat) : FRef := ⟨Reg.CLM_DOM_STAT d, 16, 9⟩
def CLM_DOM_STAT_PATHS (d : Nat) : FRef := ⟨Reg.CLM_DOM_STAT d, 12, 4⟩
def CLM_DOM_STAT_ISOLATED (d : Nat) : FRef := ⟨Reg.CLM_DOM_STAT d, 9, 1⟩
def CLM_DOM_STAT_DUP (d : Nat) : FRef := ⟨Reg.CLM_DOM_STAT d, 8, 1⟩
def CLM_DOM_STAT_STATE (d : Nat) : FRef := ⟨Reg.CLM_DOM_STAT d, 0, 3⟩
def CLM_DOM_NOTICE_GEN (d : Nat) : FRef := ⟨Reg.CLM_DOM_NOTICE d, 16, 16⟩
def CLM_DOM_NOTICE_KIND (d : Nat) : FRef := ⟨Reg.CLM_DOM_NOTICE d, 14, 2⟩
def CLM_DOM_NOTICE_SERIAL (d : Nat) : FRef := ⟨Reg.CLM_DOM_NOTICE d, 0, 12⟩
def CLM_DOM_REMAIN_MS (d : Nat) : FRef := ⟨Reg.CLM_DOM_REMAIN d, 0, 16⟩
def CLM_DOM_REFUSED_COUNT (d : Nat) : FRef := ⟨Reg.CLM_DOM_REFUSED d, 0, 32⟩
def CLM_DOM_SWITCHES_COUNT (d : Nat) : FRef := ⟨Reg.CLM_DOM_SWITCHES d, 0, 32⟩
def PWR_STATE_TARGET : FRef := ⟨Reg.PWR_STATE, 16, 2⟩
def PWR_STATE_BUSY : FRef := ⟨Reg.PWR_STATE, 8, 1⟩
def PWR_STATE_STATE : FRef := ⟨Reg.PWR_STATE, 0, 2⟩
def PWR_REQ_GO : FRef := ⟨Reg.PWR_REQ, 31, 1⟩
def PWR_REQ_TARGET : FRef := ⟨Reg.PWR_REQ, 0, 2⟩
def PWR_WAKE_EN : FRef := ⟨Reg.PWR_WAKE, 31, 1⟩
def PWR_WAKE_LEAF_MASK : FRef := ⟨Reg.PWR_WAKE, 0, 8⟩
def PWR_WAKE_AT0_T : FRef := ⟨Reg.PWR_WAKE_AT0, 0, 32⟩
def PWR_WAKE_AT1_T : FRef := ⟨Reg.PWR_WAKE_AT1, 0, 32⟩
def PWR_WAKE_AT2_T : FRef := ⟨Reg.PWR_WAKE_AT2, 0, 32⟩
def PWR_BUDGET_GUARD : FRef := ⟨Reg.PWR_BUDGET, 16, 16⟩
def PWR_BUDGET_CEILING : FRef := ⟨Reg.PWR_BUDGET, 0, 16⟩
def PWR_GRANT_OVER : FRef := ⟨Reg.PWR_GRANT, 31, 1⟩
def PWR_GRANT_WAITING : FRef := ⟨Reg.PWR_GRANT, 16, 9⟩
def PWR_GRANT_GRANTED : FRef := ⟨Reg.PWR_GRANT, 0, 16⟩
def PWR_ARB_CFG_WAIT_LIMIT : FRef := ⟨Reg.PWR_ARB_CFG, 16, 16⟩
def PWR_ARB_CFG_STAGGER : FRef := ⟨Reg.PWR_ARB_CFG, 0, 8⟩
def PWR_THERM_TCRIT : FRef := ⟨Reg.PWR_THERM, 24, 8⟩
def PWR_THERM_THR_HI : FRef := ⟨Reg.PWR_THERM, 16, 8⟩
def PWR_THERM_THR_LO : FRef := ⟨Reg.PWR_THERM, 8, 8⟩
def PWR_THROTTLE_LEVEL : FRef := ⟨Reg.PWR_THROTTLE, 0, 16⟩
def PWR_EVT_THR_LEAF : FRef := ⟨Reg.PWR_EVT, 8, 8⟩
def PWR_EVT_PMB_ALERT : FRef := ⟨Reg.PWR_EVT, 6, 1⟩
def PWR_EVT_CFG_ERR : FRef := ⟨Reg.PWR_EVT, 5, 1⟩
def PWR_EVT_REG_FAIL : FRef := ⟨Reg.PWR_EVT, 4, 1⟩
def PWR_EVT_TCRIT : FRef := ⟨Reg.PWR_EVT, 3, 1⟩
def PWR_EVT_WAIT : FRef := ⟨Reg.PWR_EVT, 1, 1⟩
def PWR_EVT_STATE : FRef := ⟨Reg.PWR_EVT, 0, 1⟩
def PWR_EVT_EN_THR_LEAF : FRef := ⟨Reg.PWR_EVT_EN, 8, 8⟩
def PWR_EVT_EN_PMB_ALERT : FRef := ⟨Reg.PWR_EVT_EN, 6, 1⟩
def PWR_EVT_EN_CFG_ERR : FRef := ⟨Reg.PWR_EVT_EN, 5, 1⟩
def PWR_EVT_EN_REG_FAIL : FRef := ⟨Reg.PWR_EVT_EN, 4, 1⟩
def PWR_EVT_EN_TCRIT : FRef := ⟨Reg.PWR_EVT_EN, 3, 1⟩
def PWR_EVT_EN_WAIT : FRef := ⟨Reg.PWR_EVT_EN, 1, 1⟩
def PWR_EVT_EN_STATE : FRef := ⟨Reg.PWR_EVT_EN, 0, 1⟩
def PWR_PMB_CFG_EN : FRef := ⟨Reg.PWR_PMB_CFG, 31, 1⟩
def PWR_PMB_CFG_PEC : FRef := ⟨Reg.PWR_PMB_CFG, 1, 1⟩
def PWR_PMB_CFG_SPEED : FRef := ⟨Reg.PWR_PMB_CFG, 0, 1⟩
def PWR_RQ_STATE (r : Nat) : FRef := ⟨Reg.PWR_RQ r, 28, 3⟩
def PWR_RQ_CLASS (r : Nat) : FRef := ⟨Reg.PWR_RQ r, 24, 2⟩
def PWR_RQ_PEAK (r : Nat) : FRef := ⟨Reg.PWR_RQ r, 0, 16⟩
def PWR_REG_CFG_VALID (i : Nat) : FRef := ⟨Reg.PWR_REG_CFG i, 31, 1⟩
def PWR_REG_CFG_ADDR (i : Nat) : FRef := ⟨Reg.PWR_REG_CFG i, 16, 7⟩
def PWR_REG_CFG_PAGE (i : Nat) : FRef := ⟨Reg.PWR_REG_CFG i, 8, 8⟩
def PWR_REG_CFG_ORDER (i : Nat) : FRef := ⟨Reg.PWR_REG_CFG i, 4, 4⟩
def PWR_REG_CFG_DOMAIN (i : Nat) : FRef := ⟨Reg.PWR_REG_CFG i, 0, 4⟩
def PWR_REG_TIME_PG_TMO (i : Nat) : FRef := ⟨Reg.PWR_REG_TIME i, 16, 16⟩
def PWR_REG_TIME_ON_DELAY (i : Nat) : FRef := ⟨Reg.PWR_REG_TIME i, 0, 16⟩
def PWR_REG_VOUT_VOUT (i : Nat) : FRef := ⟨Reg.PWR_REG_VOUT i, 0, 16⟩
def PWR_REG_STAT_FAIL (i : Nat) : FRef := ⟨Reg.PWR_REG_STAT i, 2, 1⟩
def PWR_REG_STAT_ON (i : Nat) : FRef := ⟨Reg.PWR_REG_STAT i, 1, 1⟩
def PWR_REG_STAT_PG (i : Nat) : FRef := ⟨Reg.PWR_REG_STAT i, 0, 1⟩
def SYS_ID0_ARCH : FRef := ⟨Reg.SYS_ID0, 24, 8⟩
def SYS_ID0_STEPPING : FRef := ⟨Reg.SYS_ID0, 16, 8⟩
def SYS_ID0_MEMBER : FRef := ⟨Reg.SYS_ID0, 12, 4⟩
def SYS_ID0_GRADE : FRef := ⟨Reg.SYS_ID0, 8, 4⟩
def SYS_ID0_LEAVES : FRef := ⟨Reg.SYS_ID0, 0, 8⟩
def SYS_ID1_DEVICE_ID : FRef := ⟨Reg.SYS_ID1, 0, 32⟩
def SYS_ID2_DEVICE_ID : FRef := ⟨Reg.SYS_ID2, 0, 32⟩
def SYS_BOOT_STATUS_REASON_B : FRef := ⟨Reg.SYS_BOOT_STATUS, 28, 4⟩
def SYS_BOOT_STATUS_REASON_A : FRef := ⟨Reg.SYS_BOOT_STATUS, 24, 4⟩
def SYS_BOOT_STATUS_BOOTSEL : FRef := ⟨Reg.SYS_BOOT_STATUS, 16, 3⟩
def SYS_BOOT_STATUS_SOURCE : FRef := ⟨Reg.SYS_BOOT_STATUS, 8, 4⟩
def SYS_BOOT_STATUS_STATE : FRef := ⟨Reg.SYS_BOOT_STATUS, 0, 4⟩
def SYS_BOOT_GEN_GEN : FRef := ⟨Reg.SYS_BOOT_GEN, 0, 32⟩
def SYS_FW_VER_VERSION : FRef := ⟨Reg.SYS_FW_VER, 0, 32⟩
def SYS_RESET_CAUSE_WARM_CMD : FRef := ⟨Reg.SYS_RESET_CAUSE, 2, 1⟩
def SYS_RESET_CAUSE_WARM_PIN : FRef := ⟨Reg.SYS_RESET_CAUSE, 1, 1⟩
def SYS_RESET_CAUSE_POR : FRef := ⟨Reg.SYS_RESET_CAUSE, 0, 1⟩
def SEC_FUSE_SB_EN : FRef := ⟨Reg.SEC_FUSE, 31, 1⟩
def SEC_FUSE_KEY_REVOKED : FRef := ⟨Reg.SEC_FUSE, 24, 4⟩
def SEC_FUSE_KEY_SET : FRef := ⟨Reg.SEC_FUSE, 20, 4⟩
def SEC_FUSE_SVN_MIN : FRef := ⟨Reg.SEC_FUSE, 12, 8⟩
def SEC_FUSE_PW_SCOPES : FRef := ⟨Reg.SEC_FUSE, 8, 3⟩
def SEC_FUSE_PW_SET : FRef := ⟨Reg.SEC_FUSE, 7, 1⟩
def SEC_FUSE_CLOSED : FRef := ⟨Reg.SEC_FUSE, 0, 3⟩
def SEC_WORLD_LOCKED : FRef := ⟨Reg.SEC_WORLD, 31, 1⟩
def SEC_WORLD_SPI_SECURE : FRef := ⟨Reg.SEC_WORLD, 24, 1⟩
def SEC_WORLD_LEAF_SECURE : FRef := ⟨Reg.SEC_WORLD, 16, 8⟩
def SEC_WORLD_SPINE_SECURE : FRef := ⟨Reg.SEC_WORLD, 0, 10⟩
def SEC_DBG_CTRL_GO : FRef := ⟨Reg.SEC_DBG_CTRL, 31, 1⟩
def SEC_DBG_CTRL_METHOD : FRef := ⟨Reg.SEC_DBG_CTRL, 8, 1⟩
def SEC_DBG_CTRL_SCOPE : FRef := ⟨Reg.SEC_DBG_CTRL, 0, 2⟩
def SEC_DBG_STAT_OPEN : FRef := ⟨Reg.SEC_DBG_STAT, 8, 3⟩
def SEC_DBG_STAT_FAILS : FRef := ⟨Reg.SEC_DBG_STAT, 4, 2⟩
def SEC_DBG_STAT_PASSED : FRef := ⟨Reg.SEC_DBG_STAT, 2, 1⟩
def SEC_DBG_STAT_LOCKOUT : FRef := ⟨Reg.SEC_DBG_STAT, 1, 1⟩
def SEC_DBG_STAT_BUSY : FRef := ⟨Reg.SEC_DBG_STAT, 0, 1⟩
def SEC_DBG_NONCE_NONCE (e : Nat) : FRef := ⟨Reg.SEC_DBG_NONCE e, 0, 32⟩
def SEC_DBG_RESP_RESP (e : Nat) : FRef := ⟨Reg.SEC_DBG_RESP e, 0, 32⟩
def IMG_CTRL_GO : FRef := ⟨Reg.IMG_CTRL, 31, 1⟩
def IMG_CTRL_PAGE : FRef := ⟨Reg.IMG_CTRL, 0, 4⟩
def IMG_STAT_REFUSED : FRef := ⟨Reg.IMG_STAT, 7, 1⟩
def IMG_STAT_OVERRUN : FRef := ⟨Reg.IMG_STAT, 6, 1⟩
def IMG_STAT_DONE : FRef := ⟨Reg.IMG_STAT, 5, 1⟩
def IMG_STAT_BUSY : FRef := ⟨Reg.IMG_STAT, 4, 1⟩
def IMG_WIN_DATA (e : Nat) : FRef := ⟨Reg.IMG_WIN e, 0, 32⟩
def MBX_DOORBELL_GO (m : Nat) : FRef := ⟨Reg.MBX_DOORBELL m, 31, 1⟩
def MBX_STATUS_LAST_TAG (m : Nat) : FRef := ⟨Reg.MBX_STATUS m, 16, 16⟩
def MBX_STATUS_PAUSED (m : Nat) : FRef := ⟨Reg.MBX_STATUS m, 4, 1⟩
def MBX_STATUS_WR_LOCKED (m : Nat) : FRef := ⟨Reg.MBX_STATUS m, 3, 1⟩
def MBX_STATUS_OVERRUN (m : Nat) : FRef := ⟨Reg.MBX_STATUS m, 2, 1⟩
def MBX_STATUS_RESP_READY (m : Nat) : FRef := ⟨Reg.MBX_STATUS m, 1, 1⟩
def MBX_STATUS_BUSY (m : Nat) : FRef := ⟨Reg.MBX_STATUS m, 0, 1⟩
def MBX_EVT_EN_RESP (m : Nat) : FRef := ⟨Reg.MBX_EVT_EN m, 0, 1⟩
def MBX_REQ_DATA (m : Nat) (e : Nat) : FRef := ⟨Reg.MBX_REQ m e, 0, 32⟩
def MBX_RESP_DATA (m : Nat) (e : Nat) : FRef := ⟨Reg.MBX_RESP m e, 0, 32⟩
def HERR_STAT_COUNT (w : Nat) : FRef := ⟨Reg.HERR_STAT w, 16, 16⟩
def HERR_STAT_SOURCE (w : Nat) : FRef := ⟨Reg.HERR_STAT w, 8, 3⟩
def HERR_STAT_MULTI (w : Nat) : FRef := ⟨Reg.HERR_STAT w, 4, 1⟩
def HERR_STAT_KIND (w : Nat) : FRef := ⟨Reg.HERR_STAT w, 0, 4⟩
def HERR_ADDR_ADDR (w : Nat) : FRef := ⟨Reg.HERR_ADDR w, 0, 32⟩
def DMA_WORLD_RX : FRef := ⟨Reg.DMA_WORLD, 16, 16⟩
def DMA_WORLD_TX : FRef := ⟨Reg.DMA_WORLD, 0, 16⟩
def DMA_RX_MAP_CLASS_RING : FRef := ⟨Reg.DMA_RX_MAP, 0, 32⟩
def DMA_RX_MAP2_ORIGIN_OVR : FRef := ⟨Reg.DMA_RX_MAP2, 9, 1⟩
def DMA_RX_MAP2_TRAP_OVR : FRef := ⟨Reg.DMA_RX_MAP2, 8, 1⟩
def DMA_RX_MAP2_ORIGIN_RING : FRef := ⟨Reg.DMA_RX_MAP2, 4, 4⟩
def DMA_RX_MAP2_TRAP_RING : FRef := ⟨Reg.DMA_RX_MAP2, 0, 4⟩
def DMA_TX_EVT_RING : FRef := ⟨Reg.DMA_TX_EVT, 0, 16⟩
def DMA_RX_EVT_RING : FRef := ⟨Reg.DMA_RX_EVT, 0, 16⟩
def DMA_ERR_EVT_RX : FRef := ⟨Reg.DMA_ERR_EVT, 16, 16⟩
def DMA_ERR_EVT_TX : FRef := ⟨Reg.DMA_ERR_EVT, 0, 16⟩
def DMA_TX_EVT_EN_RING : FRef := ⟨Reg.DMA_TX_EVT_EN, 0, 16⟩
def DMA_RX_EVT_EN_RING : FRef := ⟨Reg.DMA_RX_EVT_EN, 0, 16⟩
def DMA_ERR_EVT_EN_RX : FRef := ⟨Reg.DMA_ERR_EVT_EN, 16, 16⟩
def DMA_ERR_EVT_EN_TX : FRef := ⟨Reg.DMA_ERR_EVT_EN, 0, 16⟩
def RING_BASE0_BASE (q : Nat) (r : Nat) : FRef := ⟨Reg.RING_BASE0 q r, 0, 32⟩
def RING_BASE1_BASE (q : Nat) (r : Nat) : FRef := ⟨Reg.RING_BASE1 q r, 0, 32⟩
def RING_LOG2_LOG2 (q : Nat) (r : Nat) : FRef := ⟨Reg.RING_LOG2 q r, 0, 5⟩
def RING_TAIL_TAIL (q : Nat) (r : Nat) : FRef := ⟨Reg.RING_TAIL q r, 0, 16⟩
def RING_HEAD_HEAD (q : Nat) (r : Nat) : FRef := ⟨Reg.RING_HEAD q r, 0, 16⟩
def RING_CTRL_EN (q : Nat) (r : Nat) : FRef := ⟨Reg.RING_CTRL q r, 31, 1⟩
def RING_CTRL_VEC (q : Nat) (r : Nat) : FRef := ⟨Reg.RING_CTRL q r, 24, 5⟩
def RING_CTRL_VEC_EN (q : Nat) (r : Nat) : FRef := ⟨Reg.RING_CTRL q r, 23, 1⟩
def RING_CTRL_PRIO (q : Nat) (r : Nat) : FRef := ⟨Reg.RING_CTRL q r, 16, 3⟩
def RING_CTRL_BUF_SIZE (q : Nat) (r : Nat) : FRef := ⟨Reg.RING_CTRL q r, 8, 4⟩
def RING_CTRL_TS_TIMEOUT (q : Nat) (r : Nat) : FRef := ⟨Reg.RING_CTRL q r, 0, 8⟩
def RING_SIG_T (q : Nat) (r : Nat) : FRef := ⟨Reg.RING_SIG q r, 16, 16⟩
def RING_SIG_N (q : Nat) (r : Nat) : FRef := ⟨Reg.RING_SIG q r, 0, 8⟩
def RING_STAT_FETCH_ERR (q : Nat) (r : Nat) : FRef := ⟨Reg.RING_STAT q r, 2, 1⟩
def RING_STAT_CFG_ERR (q : Nat) (r : Nat) : FRef := ⟨Reg.RING_STAT q r, 1, 1⟩
def RING_STAT_STOPPED (q : Nat) (r : Nat) : FRef := ⟨Reg.RING_STAT q r, 0, 1⟩
def RING_DROPS_TOO_LONG (q : Nat) (r : Nat) : FRef := ⟨Reg.RING_DROPS q r, 16, 16⟩
def RING_DROPS_RING_OFF (q : Nat) (r : Nat) : FRef := ⟨Reg.RING_DROPS q r, 0, 16⟩
def MSIX_TABLE0_WORD (v : Nat) (e : Nat) : FRef := ⟨Reg.MSIX_TABLE0 v e, 0, 32⟩
def MSIX_VCTRL0_MASK (v : Nat) : FRef := ⟨Reg.MSIX_VCTRL0 v, 0, 1⟩
def MSIX_PBA0_PENDING : FRef := ⟨Reg.MSIX_PBA0, 0, 24⟩
def MSIX_TABLE1_WORD (v : Nat) (e : Nat) : FRef := ⟨Reg.MSIX_TABLE1 v e, 0, 32⟩
def MSIX_VCTRL1_MASK (v : Nat) : FRef := ⟨Reg.MSIX_VCTRL1 v, 0, 1⟩
def MSIX_PBA1_PENDING : FRef := ⟨Reg.MSIX_PBA1, 0, 8⟩
def CAL_REQ_GO (w : Nat) : FRef := ⟨Reg.CAL_REQ w, 31, 1⟩
def CAL_REQ_ITEM (w : Nat) : FRef := ⟨Reg.CAL_REQ w, 24, 4⟩
def CAL_REQ_INSTANCE (w : Nat) : FRef := ⟨Reg.CAL_REQ w, 0, 9⟩
def CAL_REQ_STAT_ABORT (w : Nat) : FRef := ⟨Reg.CAL_REQ_STAT w, 28, 4⟩
def CAL_REQ_STAT_DONE (w : Nat) : FRef := ⟨Reg.CAL_REQ_STAT w, 1, 1⟩
def CAL_REQ_STAT_BUSY (w : Nat) : FRef := ⟨Reg.CAL_REQ_STAT w, 0, 1⟩
def CAL_ITEM_CFG_PERIOD (i : Nat) : FRef := ⟨Reg.CAL_ITEM_CFG i, 16, 16⟩
def CAL_ITEM_CFG_METHOD (i : Nat) : FRef := ⟨Reg.CAL_ITEM_CFG i, 0, 2⟩
def CAL_ITEM_CNT_SKIPS (i : Nat) : FRef := ⟨Reg.CAL_ITEM_CNT i, 16, 16⟩
def CAL_ITEM_CNT_ABORTS (i : Nat) : FRef := ⟨Reg.CAL_ITEM_CNT i, 0, 16⟩
def CAL_EVT_CFG_ERR : FRef := ⟨Reg.CAL_EVT, 2, 1⟩
def CAL_EVT_ABORT : FRef := ⟨Reg.CAL_EVT, 1, 1⟩
def CAL_EVT_DONE : FRef := ⟨Reg.CAL_EVT, 0, 1⟩
def CAL_EVT_EN_EN : FRef := ⟨Reg.CAL_EVT_EN, 0, 3⟩
def CAL_MON_TEMP_VALID (m : Nat) : FRef := ⟨Reg.CAL_MON_TEMP m, 31, 1⟩
def CAL_MON_TEMP_STALE (m : Nat) : FRef := ⟨Reg.CAL_MON_TEMP m, 30, 1⟩
def CAL_MON_TEMP_VALUE (m : Nat) : FRef := ⟨Reg.CAL_MON_TEMP m, 0, 16⟩
def CAL_MON_TEMP_LIM_HI (m : Nat) : FRef := ⟨Reg.CAL_MON_TEMP_LIM m, 8, 8⟩
def CAL_MON_TEMP_LIM_LO (m : Nat) : FRef := ⟨Reg.CAL_MON_TEMP_LIM m, 0, 8⟩
def CAL_MON_VOLT_VALID (v : Nat) : FRef := ⟨Reg.CAL_MON_VOLT v, 31, 1⟩
def CAL_MON_VOLT_STALE (v : Nat) : FRef := ⟨Reg.CAL_MON_VOLT v, 30, 1⟩
def CAL_MON_VOLT_MV (v : Nat) : FRef := ⟨Reg.CAL_MON_VOLT v, 0, 16⟩
def CAL_MON_VOLT_LIM_HI (v : Nat) : FRef := ⟨Reg.CAL_MON_VOLT_LIM v, 16, 16⟩
def CAL_MON_VOLT_LIM_LO (v : Nat) : FRef := ⟨Reg.CAL_MON_VOLT_LIM v, 0, 16⟩
def CAL_MON_TEMP_EVT_CROSS : FRef := ⟨Reg.CAL_MON_TEMP_EVT, 0, 10⟩
def CAL_MON_VOLT_EVT_CROSS : FRef := ⟨Reg.CAL_MON_VOLT_EVT, 0, 27⟩
def CAL_RES_RESULT (i : Nat) (k : Nat) : FRef := ⟨Reg.CAL_RES i k, 0, 32⟩
def TEL_CTRL_FROZEN : FRef := ⟨Reg.TEL_CTRL, 1, 1⟩
def TEL_CTRL_FREEZE : FRef := ⟨Reg.TEL_CTRL, 0, 1⟩
def TEL_SNAP_SEQ : FRef := ⟨Reg.TEL_SNAP, 16, 16⟩
def TEL_SNAP_BUSY : FRef := ⟨Reg.TEL_SNAP, 0, 1⟩
def TEL_SNAP_REQ_GO : FRef := ⟨Reg.TEL_SNAP_REQ, 31, 1⟩
def TEL_SNAP_REQ_TARGET : FRef := ⟨Reg.TEL_SNAP_REQ, 0, 9⟩
def TEL_SNAP_MASK0_MASK : FRef := ⟨Reg.TEL_SNAP_MASK0, 0, 32⟩
def TEL_SNAP_MASK1_MASK : FRef := ⟨Reg.TEL_SNAP_MASK1, 0, 32⟩
def TEL_SNAP_TIME0_TIME : FRef := ⟨Reg.TEL_SNAP_TIME0, 0, 32⟩
def TEL_SNAP_TIME1_TIME : FRef := ⟨Reg.TEL_SNAP_TIME1, 0, 32⟩
def TEL_SNAP_TIME2_TIME : FRef := ⟨Reg.TEL_SNAP_TIME2, 0, 32⟩
def TEL_USER_MASK_GROUPS : FRef := ⟨Reg.TEL_USER_MASK, 0, 5⟩
def TEL_OOS_DROP0_FRAMES (n : Nat) : FRef := ⟨Reg.TEL_OOS_DROP0 n, 0, 32⟩
def TEL_OOS_DROP1_FRAMES (n : Nat) : FRef := ⟨Reg.TEL_OOS_DROP1 n, 0, 32⟩
def TEL_EVT_SNAP_REFUSED : FRef := ⟨Reg.TEL_EVT, 1, 1⟩
def TEL_EVT_SNAP_DONE : FRef := ⟨Reg.TEL_EVT, 0, 1⟩
def TEL_EVT_EN_EN : FRef := ⟨Reg.TEL_EVT_EN, 0, 2⟩
def CNT_SNAP_SEQ (lf : Nat) : FRef := ⟨Reg.CNT_SNAP lf, 16, 16⟩
def CNT_SNAP_SKIPPED (lf : Nat) : FRef := ⟨Reg.CNT_SNAP lf, 0, 1⟩
def SMP_CTRL_EN (lf : Nat) : FRef := ⟨Reg.SMP_CTRL lf, 31, 1⟩
def SMP_CTRL_FLUSH (lf : Nat) : FRef := ⟨Reg.SMP_CTRL lf, 30, 1⟩
def SMP_CTRL_SEL (lf : Nat) : FRef := ⟨Reg.SMP_CTRL lf, 28, 2⟩
def SMP_CTRL_WRAP (lf : Nat) : FRef := ⟨Reg.SMP_CTRL lf, 27, 1⟩
def SMP_CTRL_N_MINUS_1 (lf : Nat) : FRef := ⟨Reg.SMP_CTRL lf, 0, 24⟩
def SMP_SEED_SEED (lf : Nat) : FRef := ⟨Reg.SMP_SEED lf, 0, 32⟩
def SMP_FILT_EN (lf : Nat) : FRef := ⟨Reg.SMP_FILT lf, 31, 1⟩
def SMP_FILT_PORT_EN (lf : Nat) : FRef := ⟨Reg.SMP_FILT lf, 30, 1⟩
def SMP_FILT_STREAM_EN (lf : Nat) : FRef := ⟨Reg.SMP_FILT lf, 29, 1⟩
def SMP_FILT_DROPS_ONLY (lf : Nat) : FRef := ⟨Reg.SMP_FILT lf, 28, 1⟩
def SMP_FILT_CLASS_MASK (lf : Nat) : FRef := ⟨Reg.SMP_FILT lf, 16, 8⟩
def SMP_FILT_PORT (lf : Nat) : FRef := ⟨Reg.SMP_FILT lf, 0, 9⟩
def SMP_FILT_STREAM_STREAM (lf : Nat) : FRef := ⟨Reg.SMP_FILT_STREAM lf, 0, 14⟩
def SMP_STAT_STOPPED (lf : Nat) : FRef := ⟨Reg.SMP_STAT lf, 17, 1⟩
def SMP_STAT_FULL (lf : Nat) : FRef := ⟨Reg.SMP_STAT lf, 16, 1⟩
def SMP_STAT_LEVEL (lf : Nat) : FRef := ⟨Reg.SMP_STAT lf, 0, 14⟩
def SMP_CNT_OVERWRITTEN_COUNT (lf : Nat) : FRef := ⟨Reg.SMP_CNT_OVERWRITTEN lf, 0, 32⟩
def SMP_CNT_LOST_COUNT (lf : Nat) : FRef := ⟨Reg.SMP_CNT_LOST lf, 0, 32⟩
def SMP_EVT_CFG_ERR (lf : Nat) : FRef := ⟨Reg.SMP_EVT lf, 2, 1⟩
def SMP_EVT_LOST (lf : Nat) : FRef := ⟨Reg.SMP_EVT lf, 1, 1⟩
def SMP_EVT_FULL (lf : Nat) : FRef := ⟨Reg.SMP_EVT lf, 0, 1⟩
def SMP_EVT_EN_EN (lf : Nat) : FRef := ⟨Reg.SMP_EVT_EN lf, 0, 3⟩
def SMP_REC_REC (lf : Nat) (e : Nat) : FRef := ⟨Reg.SMP_REC lf e, 0, 32⟩
def EVT_RAW_RAW (k : Nat) : FRef := ⟨Reg.EVT_RAW k, 0, 32⟩
def EVT_ENABLE_EN (k : Nat) : FRef := ⟨Reg.EVT_ENABLE k, 0, 32⟩
def EVT_PEND_PEND (k : Nat) : FRef := ⟨Reg.EVT_PEND k, 0, 32⟩
def EVT_STAT_CFG_ERR : FRef := ⟨Reg.EVT_STAT, 0, 1⟩
def EVT_ROUTE_WORLD (s : Nat) : FRef := ⟨Reg.EVT_ROUTE s, 31, 1⟩
def EVT_ROUTE_CORE (s : Nat) : FRef := ⟨Reg.EVT_ROUTE s, 18, 1⟩
def EVT_ROUTE_IRQ (s : Nat) : FRef := ⟨Reg.EVT_ROUTE s, 17, 1⟩
def EVT_ROUTE_MSIX (s : Nat) : FRef := ⟨Reg.EVT_ROUTE s, 16, 1⟩
def EVT_ROUTE_VEC (s : Nat) : FRef := ⟨Reg.EVT_ROUTE s, 0, 5⟩
def LCTL_SUM_SMP (lf : Nat) : FRef := ⟨Reg.LCTL_SUM lf, 6, 1⟩
def LCTL_SUM_EGR (lf : Nat) : FRef := ⟨Reg.LCTL_SUM lf, 5, 1⟩
def LCTL_SUM_BUF (lf : Nat) : FRef := ⟨Reg.LCTL_SUM lf, 4, 1⟩
def LCTL_SUM_FWD (lf : Nat) : FRef := ⟨Reg.LCTL_SUM lf, 3, 1⟩
def LCTL_SUM_TSU (lf : Nat) : FRef := ⟨Reg.LCTL_SUM lf, 2, 1⟩
def LCTL_SUM_PORT (lf : Nat) : FRef := ⟨Reg.LCTL_SUM lf, 1, 1⟩
def LCTL_SUM_LANE (lf : Nat) : FRef := ⟨Reg.LCTL_SUM lf, 0, 1⟩
def LCTL_LANE_SUM_LANES (lf : Nat) : FRef := ⟨Reg.LCTL_LANE_SUM lf, 0, 32⟩
def LCTL_PORT_SUM_PORTS (lf : Nat) : FRef := ⟨Reg.LCTL_PORT_SUM lf, 0, 32⟩
def LCTL_FAULT_REG (lf : Nat) : FRef := ⟨Reg.LCTL_FAULT lf, 3, 1⟩
def LCTL_FAULT_STITCH (lf : Nat) : FRef := ⟨Reg.LCTL_FAULT lf, 2, 1⟩
def LCTL_FAULT_ALIGN (lf : Nat) : FRef := ⟨Reg.LCTL_FAULT lf, 1, 1⟩
def LCTL_FAULT_STOPPED (lf : Nat) : FRef := ⟨Reg.LCTL_FAULT lf, 0, 1⟩
def LCTL_FAULT_EN_EN (lf : Nat) : FRef := ⟨Reg.LCTL_FAULT_EN lf, 0, 4⟩

end Fld

end Sys2Proof.Machine
end

