-- ==== Sys2Proof/Machine/RegMap.lean ====
section
/-!
DEFINITION. RegMap.lean: the address map (R37 to R41, R467 to R469) and every register of the spec: its address, its
instances, its fields with their access types and reset values (R8 to R11). The rows follow the register tables of
the chapters, one comment line per row with the register's name and the file of spec/ it stands in.
Addresses are PF0 BAR0 offsets; an address of PF1 BAR0 is `pf1` plus its offset.
-/
namespace Sys2Proof.Machine

/-- The access types of a register field (R9). -/
inductive Acc where
  | rw | ro | wo | wc | ws | rc
  deriving DecidableEq, Repr

/-- One field of a register: its bits, access type and reset value. -/
structure FieldSpec where
  hi : Nat
  lo : Nat
  acc : Acc
  reset : Nat
  deriving DecidableEq, Repr

/-- One register word: the address of instance 0, the strides and counts of its instances (largest stride first), its
place in a wide value (word, words) and its fields. -/
structure RegRow where
  base : Nat
  dims : List (Nat × Nat)
  wide : Nat × Nat
  fields : List FieldSpec
  deriving DecidableEq, Repr

/-- Registers of block group leaf00, part 0. -/
def rows_leaf00 : List RegRow := [
  -- LCTL_CLK (spec/10_synthesis_and_clock_outputs.md)
  ⟨0x40, [], (0, 1), [⟨12, 12, .ro, 0⟩, ⟨9, 8, .ro, 0⟩, ⟨5, 5, .ro, 0⟩, ⟨4, 4, .ro, 0⟩, ⟨2, 2, .ro, 0⟩, ⟨1, 0, .ro, 0⟩]⟩,
  -- LCTL_CLK_EVT (spec/10_synthesis_and_clock_outputs.md)
  ⟨0x44, [], (0, 1), [⟨2, 2, .wc, 0⟩, ⟨1, 1, .wc, 0⟩, ⟨0, 0, .wc, 0⟩]⟩,
  -- LCTL_CLK_EVT_EN (spec/10_synthesis_and_clock_outputs.md)
  ⟨0x48, [], (0, 1), [⟨2, 0, .rw, 7⟩]⟩,
  -- LCTL_SUM (spec/19_events_and_address_map.md)
  ⟨0x0, [], (0, 1), [⟨6, 6, .ro, 0⟩, ⟨5, 5, .ro, 0⟩, ⟨4, 4, .ro, 0⟩, ⟨3, 3, .ro, 0⟩, ⟨2, 2, .ro, 0⟩, ⟨1, 1, .ro, 0⟩, ⟨0, 0, .ro, 0⟩]⟩,
  -- LCTL_LANE_SUM (spec/19_events_and_address_map.md)
  ⟨0x4, [], (0, 1), [⟨31, 0, .ro, 0⟩]⟩,
  -- LCTL_PORT_SUM (spec/19_events_and_address_map.md)
  ⟨0x8, [], (0, 1), [⟨31, 0, .ro, 0⟩]⟩,
  -- LCTL_FAULT (spec/19_events_and_address_map.md)
  ⟨0x10, [], (0, 1), [⟨3, 3, .wc, 0⟩, ⟨2, 2, .wc, 0⟩, ⟨1, 1, .wc, 0⟩, ⟨0, 0, .wc, 0⟩]⟩,
  -- LCTL_FAULT_EN (spec/19_events_and_address_map.md)
  ⟨0x14, [], (0, 1), [⟨3, 0, .rw, 0xf⟩]⟩
  ]

/-- Registers of block group leaf04, part 0. -/
def rows_leaf04_0 : List RegRow := [
  -- LANE_CTRL (spec/03_lanes.md)
  ⟨0x40000, [(0x1000, 32)], (0, 1), [⟨11, 10, .rw, 2⟩, ⟨9, 9, .rw, 0⟩, ⟨8, 8, .rw, 0⟩, ⟨5, 4, .rw, 0⟩, ⟨1, 1, .wo, 0⟩, ⟨0, 0, .rw, 0⟩]⟩,
  -- LANE_STATE (spec/03_lanes.md)
  ⟨0x40004, [(0x1000, 32)], (0, 1), [⟨31, 24, .ro, 0⟩, ⟨23, 20, .ro, 0⟩, ⟨16, 16, .ro, 0⟩, ⟨15, 15, .ro, 0⟩, ⟨14, 14, .ro, 0⟩, ⟨11, 8, .ro, 0⟩, ⟨3, 0, .ro, 0⟩]⟩,
  -- LANE_EVT (spec/03_lanes.md)
  ⟨0x40008, [(0x1000, 32)], (0, 1), [⟨6, 6, .wc, 0⟩, ⟨5, 5, .wc, 0⟩, ⟨4, 4, .wc, 0⟩, ⟨3, 3, .wc, 0⟩, ⟨2, 2, .wc, 0⟩, ⟨1, 1, .wc, 0⟩, ⟨0, 0, .wc, 0⟩]⟩,
  -- LANE_EVT_EN (spec/03_lanes.md)
  ⟨0x4000c, [(0x1000, 32)], (0, 1), [⟨6, 0, .rw, 0x3a⟩]⟩,
  -- LANE_TIMERS (spec/03_lanes.md)
  ⟨0x40010, [(0x1000, 32)], (0, 1), [⟨31, 20, .rw, 0x1f4⟩, ⟨19, 10, .rw, 0x64⟩, ⟨9, 0, .rw, 0x64⟩]⟩,
  -- LANE_RETRY (spec/03_lanes.md)
  ⟨0x40014, [(0x1000, 32)], (0, 1), [⟨31, 24, .rw, 8⟩, ⟨23, 16, .rw, 0x14⟩, ⟨15, 8, .rw, 0x14⟩, ⟨7, 4, .rw, 6⟩]⟩,
  -- LANE_FFE (spec/03_lanes.md)
  ⟨0x40020, [(0x1000, 32)], (0, 1), [⟨31, 24, .rw, 0⟩, ⟨23, 16, .rw, 0⟩, ⟨15, 8, .rw, 0x3f⟩, ⟨7, 0, .rw, 0⟩]⟩,
  -- LANE_FFE_P2 (spec/03_lanes.md)
  ⟨0x40024, [(0x1000, 32)], (0, 1), [⟨31, 31, .wo, 0⟩, ⟨7, 0, .rw, 0⟩]⟩,
  -- LANE_FFE_NOW (spec/03_lanes.md)
  ⟨0x40028, [(0x1000, 32)], (0, 1), [⟨31, 24, .ro, 0⟩, ⟨23, 16, .ro, 0⟩, ⟨15, 8, .ro, 0x3f⟩, ⟨7, 0, .ro, 0⟩]⟩,
  -- LANE_FFE_NOW_P2 (spec/03_lanes.md)
  ⟨0x4002c, [(0x1000, 32)], (0, 1), [⟨7, 0, .ro, 0⟩]⟩,
  -- LANE_CTLE (spec/03_lanes.md)
  ⟨0x40030, [(0x1000, 32)], (0, 1), [⟨20, 16, .ro, 0xa⟩, ⟨4, 0, .rw, 0xa⟩]⟩,
  -- LANE_DFE (spec/03_lanes.md)
  ⟨0x40034, [(0x1000, 32)], (0, 1), [⟨23, 16, .rw, 0⟩, ⟨15, 8, .rw, 0⟩, ⟨7, 0, .rw, 0⟩]⟩,
  -- LANE_DFE_NOW (spec/03_lanes.md)
  ⟨0x40038, [(0x1000, 32)], (0, 1), [⟨23, 16, .ro, 0⟩, ⟨15, 8, .ro, 0⟩, ⟨7, 0, .ro, 0⟩]⟩,
  -- LANE_ADAPT (spec/03_lanes.md)
  ⟨0x40040, [(0x1000, 32)], (0, 1), [⟨31, 16, .rw, 0x1000⟩, ⟨15, 0, .rw, 0x100⟩]⟩,
  -- LANE_LOCK_LOSS (spec/03_lanes.md)
  ⟨0x40050, [(0x1000, 32)], (0, 1), [⟨15, 0, .rc, 0⟩]⟩,
  -- LANE_ESCAN_CTRL (spec/03_lanes.md)
  ⟨0x40080, [(0x1000, 32)], (0, 1), [⟨31, 31, .wo, 0⟩, ⟨30, 30, .wo, 0⟩, ⟨29, 24, .rw, 0x14⟩, ⟨21, 20, .rw, 0⟩, ⟨15, 8, .rw, 0⟩, ⟨5, 0, .rw, 0⟩]⟩,
  -- LANE_ESCAN_STAT (spec/03_lanes.md)
  ⟨0x40084, [(0x1000, 32)], (0, 1), [⟨7, 4, .ro, 0⟩, ⟨3, 3, .wc, 0⟩, ⟨2, 2, .wc, 0⟩, ⟨1, 1, .wc, 0⟩, ⟨0, 0, .ro, 0⟩]⟩,
  -- LANE_ESCAN_BITS0 (spec/03_lanes.md)
  ⟨0x40088, [(0x1000, 32)], (0, 2), [⟨31, 0, .ro, 0⟩]⟩,
  -- LANE_ESCAN_BITS1 (spec/03_lanes.md)
  ⟨0x4008c, [(0x1000, 32)], (1, 2), [⟨31, 0, .ro, 0⟩]⟩,
  -- LANE_ESCAN_ERR0 (spec/03_lanes.md)
  ⟨0x40090, [(0x1000, 32)], (0, 2), [⟨31, 0, .ro, 0⟩]⟩
  ]

/-- Registers of block group leaf04, part 1. -/
def rows_leaf04_1 : List RegRow := [
  -- LANE_ESCAN_ERR1 (spec/03_lanes.md)
  ⟨0x40094, [(0x1000, 32)], (1, 2), [⟨31, 0, .ro, 0⟩]⟩
  ]

/-- Registers of block group leaf04. -/
def rows_leaf04 : List RegRow :=
  rows_leaf04_0 ++ rows_leaf04_1

/-- Registers of block group leaf08, part 0. -/
def rows_leaf08 : List RegRow := [
  -- PORT_MODE (spec/04_ports_and_timestamps.md)
  ⟨0x80000, [(0x1000, 32)], (0, 1), [⟨10, 8, .rw, 0⟩, ⟨5, 0, .rw, 0⟩]⟩,
  -- PORT_MAC (spec/04_ports_and_timestamps.md)
  ⟨0x80004, [(0x1000, 32)], (0, 1), [⟨13, 0, .rw, 0x2400⟩]⟩,
  -- PORT_FC (spec/04_ports_and_timestamps.md)
  ⟨0x80008, [(0x1000, 32)], (0, 1), [⟨16, 16, .rw, 0⟩, ⟨15, 8, .rw, 0xc0⟩, ⟨7, 0, .rw, 0⟩]⟩,
  -- PORT_MM_CTRL (spec/04_ports_and_timestamps.md)
  ⟨0x8000c, [(0x1000, 32)], (0, 1), [⟨15, 8, .rw, 0xa⟩, ⟨5, 4, .rw, 0⟩, ⟨1, 1, .rw, 0⟩, ⟨0, 0, .rw, 0⟩]⟩,
  -- PORT_MM_STAT (spec/04_ports_and_timestamps.md)
  ⟨0x80010, [(0x1000, 32)], (0, 1), [⟨4, 4, .ro, 0⟩, ⟨2, 0, .ro, 0⟩]⟩,
  -- PORT_STATUS (spec/04_ports_and_timestamps.md)
  ⟨0x80014, [(0x1000, 32)], (0, 1), [⟨8, 8, .ro, 0⟩, ⟨4, 4, .ro, 0⟩, ⟨3, 0, .ro, 0⟩]⟩,
  -- PORT_EVT (spec/04_ports_and_timestamps.md)
  ⟨0x80018, [(0x1000, 32)], (0, 1), [⟨3, 3, .wc, 0⟩, ⟨2, 2, .wc, 0⟩, ⟨1, 1, .wc, 0⟩, ⟨0, 0, .wc, 0⟩]⟩,
  -- PORT_EVT_EN (spec/04_ports_and_timestamps.md)
  ⟨0x8001c, [(0x1000, 32)], (0, 1), [⟨3, 0, .rw, 0xd⟩]⟩,
  -- PORT_FEC_CW_CORR (spec/04_ports_and_timestamps.md)
  ⟨0x80020, [(0x1000, 32)], (0, 1), [⟨31, 0, .rc, 0⟩]⟩,
  -- PORT_FEC_CW_UNCORR (spec/04_ports_and_timestamps.md)
  ⟨0x80024, [(0x1000, 32)], (0, 1), [⟨31, 0, .rc, 0⟩]⟩
  ]

/-- Registers of block group leaf0C, part 0. -/
def rows_leaf0C_0 : List RegRow := [
  -- TSU_FIX_RX (spec/04_ports_and_timestamps.md)
  ⟨0xc0000, [(0x400, 32)], (0, 1), [⟨31, 0, .ro, 0⟩]⟩,
  -- TSU_FIX_TX (spec/04_ports_and_timestamps.md)
  ⟨0xc0004, [(0x400, 32)], (0, 1), [⟨31, 0, .ro, 0⟩]⟩,
  -- TSU_TDC (spec/04_ports_and_timestamps.md)
  ⟨0xc0008, [(0x400, 32)], (0, 1), [⟨5, 5, .ro, 0⟩, ⟨4, 4, .ro, 0⟩, ⟨3, 3, .ro, 0⟩, ⟨2, 2, .ro, 0⟩, ⟨0, 0, .ro, 0⟩]⟩,
  -- TSU_TXQ_STAT (spec/04_ports_and_timestamps.md)
  ⟨0xc0010, [(0x400, 32)], (0, 1), [⟨31, 16, .ro, 0⟩, ⟨8, 8, .wc, 0⟩, ⟨7, 7, .wo, 0⟩, ⟨6, 0, .ro, 0⟩]⟩,
  -- TSU_TXQ_TS0 (spec/04_ports_and_timestamps.md)
  ⟨0xc0014, [(0x400, 32)], (0, 3), [⟨31, 0, .ro, 0⟩]⟩,
  -- TSU_TXQ_TS1 (spec/04_ports_and_timestamps.md)
  ⟨0xc0018, [(0x400, 32)], (1, 3), [⟨31, 0, .ro, 0⟩]⟩,
  -- TSU_TXQ_TS2 (spec/04_ports_and_timestamps.md)
  ⟨0xc001c, [(0x400, 32)], (2, 3), [⟨31, 0, .ro, 0⟩]⟩,
  -- TSU_TXQ_TAG (spec/04_ports_and_timestamps.md)
  ⟨0xc0020, [(0x400, 32)], (0, 1), [⟨19, 16, .ro, 0⟩, ⟨15, 0, .ro, 0⟩]⟩,
  -- LPH_CTRL (spec/08_time_transfer.md)
  ⟨0xc8000, [(0x40, 32)], (0, 1), [⟨31, 31, .rw, 1⟩, ⟨9, 0, .rw, 0x64⟩]⟩,
  -- LPH_STAT (spec/08_time_transfer.md)
  ⟨0xc8004, [(0x40, 32)], (0, 1), [⟨31, 16, .ro, 0⟩, ⟨3, 3, .ro, 0⟩, ⟨2, 2, .ro, 0⟩, ⟨1, 1, .ro, 0⟩, ⟨0, 0, .rc, 0⟩]⟩,
  -- LPH_RX_PHASE (spec/08_time_transfer.md)
  ⟨0xc8008, [(0x40, 32)], (0, 1), [⟨31, 0, .ro, 0⟩]⟩,
  -- LPH_TX_PHASE (spec/08_time_transfer.md)
  ⟨0xc800c, [(0x40, 32)], (0, 1), [⟨31, 0, .ro, 0⟩]⟩,
  -- TCX_CTRL (spec/08_time_transfer.md)
  ⟨0xc9000, [(0x80, 32)], (0, 1), [⟨31, 31, .wo, 0⟩, ⟨27, 20, .rw, 0x1e⟩, ⟨19, 16, .rw, 0⟩, ⟨13, 4, .rw, 0x64⟩, ⟨1, 1, .rw, 1⟩, ⟨0, 0, .rw, 1⟩]⟩,
  -- TCX_CAP (spec/08_time_transfer.md)
  ⟨0xc9004, [(0x80, 32)], (0, 1), [⟨31, 0, .rw, 0⟩]⟩,
  -- TCX_TXFIX (spec/08_time_transfer.md)
  ⟨0xc9008, [(0x80, 32)], (0, 1), [⟨31, 0, .rw, 0⟩]⟩,
  -- TCX_RXFIX (spec/08_time_transfer.md)
  ⟨0xc900c, [(0x80, 32)], (0, 1), [⟨31, 0, .rw, 0⟩]⟩,
  -- TCX_ASYM0 (spec/08_time_transfer.md)
  ⟨0xc9010, [(0x80, 32)], (0, 2), [⟨31, 0, .rw, 0⟩]⟩,
  -- TCX_ASYM1 (spec/08_time_transfer.md)
  ⟨0xc9014, [(0x80, 32)], (1, 2), [⟨31, 0, .rw, 0⟩]⟩,
  -- TCX_GEN (spec/08_time_transfer.md)
  ⟨0xc9018, [(0x80, 32)], (0, 1), [⟨31, 0, .ro, 0⟩]⟩,
  -- TCX_STAT (spec/08_time_transfer.md)
  ⟨0xc901c, [(0x80, 32)], (0, 1), [⟨31, 16, .ro, 0⟩, ⟨7, 7, .wc, 0⟩, ⟨6, 6, .wc, 0⟩, ⟨5, 5, .wc, 0⟩, ⟨4, 4, .ro, 0⟩, ⟨1, 0, .ro, 0⟩]⟩
  ]

/-- Registers of block group leaf0C, part 1. -/
def rows_leaf0C_1 : List RegRow := [
  -- TCX_PEER_GEN (spec/08_time_transfer.md)
  ⟨0xc9020, [(0x80, 32)], (0, 1), [⟨31, 0, .ro, 0⟩]⟩,
  -- TCX_PEER_CAP (spec/08_time_transfer.md)
  ⟨0xc9024, [(0x80, 32)], (0, 1), [⟨31, 0, .ro, 0⟩]⟩,
  -- TCX_PEER_TXFIX (spec/08_time_transfer.md)
  ⟨0xc9028, [(0x80, 32)], (0, 1), [⟨31, 0, .ro, 0⟩]⟩,
  -- TCX_PEER_RXFIX (spec/08_time_transfer.md)
  ⟨0xc902c, [(0x80, 32)], (0, 1), [⟨31, 0, .ro, 0⟩]⟩,
  -- TCX_PEER_ASYM0 (spec/08_time_transfer.md)
  ⟨0xc9030, [(0x80, 32)], (0, 1), [⟨31, 0, .ro, 0⟩]⟩,
  -- TCX_PEER_ASYM1 (spec/08_time_transfer.md)
  ⟨0xc9034, [(0x80, 32)], (0, 1), [⟨31, 0, .ro, 0⟩]⟩,
  -- TCX_PEER_CLAIM (spec/08_time_transfer.md)
  ⟨0xc9038, [(0x80, 32)], (0, 1), [⟨19, 16, .ro, 0⟩, ⟨15, 0, .ro, 0⟩]⟩,
  -- TCX_PEER_CLOCK_ID0 (spec/08_time_transfer.md)
  ⟨0xc903c, [(0x80, 32)], (0, 1), [⟨31, 0, .ro, 0⟩]⟩,
  -- TCX_PEER_CLOCK_ID1 (spec/08_time_transfer.md)
  ⟨0xc9040, [(0x80, 32)], (0, 1), [⟨31, 0, .ro, 0⟩]⟩,
  -- TCX_PEER_PORT (spec/08_time_transfer.md)
  ⟨0xc9044, [(0x80, 32)], (0, 1), [⟨15, 0, .ro, 0⟩]⟩,
  -- TCX_PEER_RX_PHASE (spec/08_time_transfer.md)
  ⟨0xc9048, [(0x80, 32)], (0, 1), [⟨31, 0, .ro, 0⟩]⟩,
  -- TCX_PEER_TX_PHASE (spec/08_time_transfer.md)
  ⟨0xc904c, [(0x80, 32)], (0, 1), [⟨31, 0, .ro, 0⟩]⟩,
  -- TCX_PEER_PH (spec/08_time_transfer.md)
  ⟨0xc9050, [(0x80, 32)], (0, 1), [⟨18, 16, .ro, 0⟩, ⟨15, 0, .ro, 0⟩]⟩,
  -- CLOCK_ID0 (spec/08_time_transfer.md)
  ⟨0xca000, [], (0, 2), [⟨31, 0, .rw, 0⟩]⟩,
  -- CLOCK_ID1 (spec/08_time_transfer.md)
  ⟨0xca004, [], (1, 2), [⟨31, 0, .rw, 0⟩]⟩,
  -- RESP_CFG (spec/08_time_transfer.md)
  ⟨0xca008, [], (0, 1), [⟨31, 24, .rw, 0x7f⟩, ⟨22, 20, .rw, 5⟩, ⟨15, 8, .rw, 1⟩, ⟨5, 0, .rw, 0⟩]⟩,
  -- RESP_CNT_ANSWERED (spec/08_time_transfer.md)
  ⟨0xca010, [], (0, 1), [⟨31, 0, .rc, 0⟩]⟩,
  -- RESP_CNT_OVERFLOW (spec/08_time_transfer.md)
  ⟨0xca014, [], (0, 1), [⟨31, 0, .rc, 0⟩]⟩,
  -- RESP_CNT_NOT_VALID (spec/08_time_transfer.md)
  ⟨0xca018, [], (0, 1), [⟨31, 0, .rc, 0⟩]⟩,
  -- RESP_STAT (spec/08_time_transfer.md)
  ⟨0xca01c, [], (0, 1), [⟨8, 0, .ro, 0⟩]⟩
  ]

/-- Registers of block group leaf0C, part 2. -/
def rows_leaf0C_2 : List RegRow := [
  -- RESP_PORT_CFG (spec/08_time_transfer.md)
  ⟨0xca100, [(0x20, 32)], (0, 1), [⟨31, 16, .rw, 1⟩, ⟨12, 12, .rw, 1⟩, ⟨11, 8, .rw, 0⟩, ⟨7, 7, .rw, 0⟩, ⟨6, 6, .rw, 0⟩, ⟨5, 5, .rw, 0⟩, ⟨4, 4, .rw, 0⟩, ⟨3, 0, .rw, 0⟩]⟩,
  -- RESP_PORT_DOMAIN (spec/08_time_transfer.md)
  ⟨0xca104, [(0x20, 32)], (0, 1), [⟨31, 0, .rw, 0⟩]⟩,
  -- RESP_PORT_IPV4 (spec/08_time_transfer.md)
  ⟨0xca108, [(0x20, 32)], (0, 1), [⟨31, 0, .rw, 0⟩]⟩,
  -- RESP_PORT_IPV60 (spec/08_time_transfer.md)
  ⟨0xca10c, [(0x20, 32)], (0, 4), [⟨31, 0, .rw, 0⟩]⟩,
  -- RESP_PORT_IPV61 (spec/08_time_transfer.md)
  ⟨0xca110, [(0x20, 32)], (1, 4), [⟨31, 0, .rw, 0⟩]⟩,
  -- RESP_PORT_IPV62 (spec/08_time_transfer.md)
  ⟨0xca114, [(0x20, 32)], (2, 4), [⟨31, 0, .rw, 0⟩]⟩,
  -- RESP_PORT_IPV63 (spec/08_time_transfer.md)
  ⟨0xca118, [(0x20, 32)], (3, 4), [⟨31, 0, .rw, 0⟩]⟩
  ]

/-- Registers of block group leaf0C. -/
def rows_leaf0C : List RegRow :=
  rows_leaf0C_0 ++ rows_leaf0C_1 ++ rows_leaf0C_2

/-- Registers of block group leaf10, part 0. -/
def rows_leaf10 : List RegRow := [
  -- FWD_CMD_CTRL (spec/05_forwarding_and_learning.md)
  ⟨0x100000, [(0x100, 2)], (0, 1), [⟨31, 31, .wo, 0⟩, ⟨27, 24, .rw, 0⟩, ⟨19, 16, .rw, 0⟩, ⟨0, 0, .rw, 0⟩]⟩,
  -- FWD_CMD_STAT (spec/05_forwarding_and_learning.md)
  ⟨0x100004, [(0x100, 2)], (0, 1), [⟨31, 28, .ro, 0⟩, ⟨27, 8, .ro, 0⟩, ⟨1, 1, .wc, 0⟩, ⟨0, 0, .ro, 0⟩]⟩,
  -- FWD_CMD_INDEX (spec/05_forwarding_and_learning.md)
  ⟨0x100008, [(0x100, 2)], (0, 1), [⟨19, 0, .rw, 0⟩]⟩,
  -- FWD_CMD_XDATA (spec/05_forwarding_and_learning.md)
  ⟨0x10000c, [(0x100, 2)], (0, 1), [⟨31, 0, .rw, 0⟩]⟩,
  -- FWD_CMD_DATA (spec/05_forwarding_and_learning.md)
  ⟨0x100010, [(0x100, 2), (0x4, 8)], (0, 1), [⟨31, 0, .rw, 0⟩]⟩,
  -- FWD_BANK (spec/05_forwarding_and_learning.md)
  ⟨0x100200, [], (0, 1), [⟨18, 16, .ro, 0⟩, ⟨10, 8, .wo, 0⟩, ⟨2, 0, .ro, 0⟩]⟩,
  -- FWD_WORLD (spec/05_forwarding_and_learning.md)
  ⟨0x100204, [], (0, 1), [⟨8, 0, .rw, 0⟩]⟩,
  -- FWD_LEARN_CFG (spec/05_forwarding_and_learning.md)
  ⟨0x100210, [], (0, 1), [⟨4, 4, .rw, 1⟩, ⟨3, 0, .rw, 8⟩]⟩,
  -- FWD_HASH_SEED (spec/05_forwarding_and_learning.md)
  ⟨0x100214, [], (0, 1), [⟨31, 0, .rw, 0xffffffff⟩]⟩,
  -- FWD_LEARN_STAT (spec/05_forwarding_and_learning.md)
  ⟨0x100218, [], (0, 1), [⟨12, 0, .ro, 0⟩]⟩,
  -- FWD_STORM_IDX (spec/05_forwarding_and_learning.md)
  ⟨0x10021c, [], (0, 1), [⟨19, 0, .ro, 0⟩]⟩,
  -- FWD_LEARN_CNT (spec/05_forwarding_and_learning.md)
  ⟨0x100220, [(0x4, 7)], (0, 1), [⟨31, 0, .rc, 0⟩]⟩,
  -- FWD_EVT (spec/05_forwarding_and_learning.md)
  ⟨0x100240, [], (0, 1), [⟨3, 3, .wc, 0⟩, ⟨2, 2, .wc, 0⟩, ⟨1, 1, .wc, 0⟩, ⟨0, 0, .wc, 0⟩]⟩,
  -- FWD_EVT_EN (spec/05_forwarding_and_learning.md)
  ⟨0x100244, [], (0, 1), [⟨3, 0, .rw, 0xf⟩]⟩,
  -- FWD_OWN_MAC0 (spec/05_forwarding_and_learning.md)
  ⟨0x100250, [], (0, 2), [⟨31, 0, .rw, 0⟩]⟩,
  -- FWD_OWN_MAC1 (spec/05_forwarding_and_learning.md)
  ⟨0x100254, [], (1, 2), [⟨15, 0, .rw, 0⟩]⟩,
  -- FWD_PORT_CFG (spec/05_forwarding_and_learning.md)
  ⟨0x101000, [(0x10, 36)], (0, 1), [⟨26, 26, .rw, 0⟩, ⟨25, 25, .rw, 1⟩, ⟨24, 24, .rw, 1⟩, ⟨21, 20, .rw, 1⟩, ⟨19, 19, .rw, 0⟩, ⟨18, 18, .rw, 1⟩, ⟨17, 16, .rw, 0⟩, ⟨14, 12, .rw, 0⟩, ⟨11, 0, .rw, 1⟩]⟩,
  -- FWD_PORT_PCP_MAP (spec/05_forwarding_and_learning.md)
  ⟨0x101004, [(0x10, 36)], (0, 1), [⟨23, 0, .rw, 0xfac681⟩]⟩
  ]

/-- Registers of block group leaf18, part 0. -/
def rows_leaf18 : List RegRow := [
  -- BUF_QLIM (spec/06_buffer_and_crossing.md)
  ⟨0x180000, [(0x20, 32), (0x4, 8)], (0, 1), [⟨16, 0, .rw, 0x180⟩]⟩,
  -- BUF_PLIM (spec/06_buffer_and_crossing.md)
  ⟨0x180400, [(0x4, 32)], (0, 1), [⟨16, 0, .rw, 0xc00⟩]⟩,
  -- BUF_POOL (spec/06_buffer_and_crossing.md)
  ⟨0x180500, [], (0, 1), [⟨31, 31, .ro, 0⟩, ⟨16, 0, .ro, 0x18000⟩]⟩,
  -- BUF_XQ_CFG (spec/06_buffer_and_crossing.md)
  ⟨0x180504, [], (0, 1), [⟨19, 0, .rw, 0x1f40⟩]⟩,
  -- BUF_EVT (spec/06_buffer_and_crossing.md)
  ⟨0x180508, [], (0, 1), [⟨3, 3, .wc, 0⟩, ⟨2, 2, .wc, 0⟩, ⟨1, 1, .wc, 0⟩, ⟨0, 0, .wc, 0⟩]⟩,
  -- BUF_EVT_EN (spec/06_buffer_and_crossing.md)
  ⟨0x18050c, [], (0, 1), [⟨3, 0, .rw, 0xc⟩]⟩,
  -- BUF_QLEVEL (spec/06_buffer_and_crossing.md)
  ⟨0x180800, [(0x20, 32), (0x4, 8)], (0, 1), [⟨16, 0, .ro, 0⟩]⟩,
  -- BUF_PLEVEL (spec/06_buffer_and_crossing.md)
  ⟨0x180c00, [(0x4, 32)], (0, 1), [⟨16, 0, .ro, 0⟩]⟩,
  -- BUF_XQ_STAT (spec/06_buffer_and_crossing.md)
  ⟨0x181000, [(0x10, 9)], (0, 1), [⟨31, 24, .ro, 0x80⟩, ⟨12, 0, .ro, 0⟩]⟩,
  ⟨0x181090, [], (0, 1), [⟨31, 24, .ro, 0⟩, ⟨12, 0, .ro, 0⟩]⟩
  ]

/-- Registers of block group leaf20, part 0. -/
def rows_leaf20 : List RegRow := [
  -- EGR_PORT_CTRL (spec/07_timed_egress.md)
  ⟨0x200000, [(0x400, 32)], (0, 1), [⟨31, 24, .rw, 0x3f⟩, ⟨23, 16, .rw, 0⟩, ⟨15, 8, .rw, 0⟩, ⟨0, 0, .rw, 0⟩]⟩,
  -- EGR_PORT_QUANTUM (spec/07_timed_egress.md)
  ⟨0x200010, [(0x400, 32), (0x4, 8)], (0, 1), [⟨15, 0, .rw, 0x5ee⟩]⟩,
  -- EGR_PORT_IDLE_SLOPE (spec/07_timed_egress.md)
  ⟨0x200030, [(0x400, 32), (0x4, 8)], (0, 1), [⟨31, 0, .rw, 0⟩]⟩,
  -- EGR_PORT_GCL_CTRL (spec/07_timed_egress.md)
  ⟨0x200050, [(0x400, 32)], (0, 1), [⟨31, 31, .wo, 0⟩, ⟨1, 1, .ro, 0⟩, ⟨0, 0, .ro, 0⟩]⟩,
  -- EGR_PORT_STAT (spec/07_timed_egress.md)
  ⟨0x200090, [(0x400, 32)], (0, 1), [⟨9, 9, .ro, 0⟩, ⟨7, 0, .ro, 0xff⟩]⟩,
  -- EGR_PORT_LADLE_LIM (spec/07_timed_egress.md)
  ⟨0x200094, [(0x400, 32)], (0, 1), [⟨14, 0, .rw, 0x200⟩]⟩,
  -- EGR_PORT_LADLE_LEVEL (spec/07_timed_egress.md)
  ⟨0x200098, [(0x400, 32)], (0, 1), [⟨14, 0, .ro, 0⟩]⟩,
  -- EGR_PORT_MAX_DEFER (spec/07_timed_egress.md)
  ⟨0x20009c, [(0x400, 32)], (0, 1), [⟨31, 0, .rc, 0⟩]⟩,
  -- EGR_PORT_EVT (spec/07_timed_egress.md)
  ⟨0x2000a0, [(0x400, 32)], (0, 1), [⟨4, 4, .wc, 0⟩, ⟨3, 3, .wc, 0⟩, ⟨2, 2, .wc, 0⟩, ⟨1, 1, .wc, 0⟩, ⟨0, 0, .wc, 0⟩]⟩,
  -- EGR_PORT_EVT_EN (spec/07_timed_egress.md)
  ⟨0x2000a4, [(0x400, 32)], (0, 1), [⟨4, 0, .rw, 0x1f⟩]⟩,
  -- EGR_PORT_GCL_BASE0 (spec/07_timed_egress.md)
  ⟨0x2000c0, [(0x400, 32), (0x20, 2)], (0, 3), [⟨31, 0, .rw, 0⟩]⟩,
  -- EGR_PORT_GCL_BASE1 (spec/07_timed_egress.md)
  ⟨0x2000c4, [(0x400, 32), (0x20, 2)], (1, 3), [⟨31, 0, .rw, 0⟩]⟩,
  -- EGR_PORT_GCL_BASE2 (spec/07_timed_egress.md)
  ⟨0x2000c8, [(0x400, 32), (0x20, 2)], (2, 3), [⟨31, 0, .rw, 0⟩]⟩,
  -- EGR_PORT_GCL_CYCLE0 (spec/07_timed_egress.md)
  ⟨0x2000cc, [(0x400, 32), (0x20, 2)], (0, 2), [⟨15, 0, .rw, 0⟩]⟩,
  -- EGR_PORT_GCL_CYCLE1 (spec/07_timed_egress.md)
  ⟨0x2000d0, [(0x400, 32), (0x20, 2)], (1, 2), [⟨31, 0, .rw, 0xf4240⟩]⟩,
  -- EGR_PORT_GCL_LEN (spec/07_timed_egress.md)
  ⟨0x2000d4, [(0x400, 32), (0x20, 2)], (0, 1), [⟨10, 0, .rw, 1⟩]⟩,
  -- EGR_PROFILE (spec/07_timed_egress.md)
  ⟨0x210000, [(0x10, 16)], (0, 1), [⟨31, 31, .rw, 0⟩, ⟨30, 30, .rw, 0⟩, ⟨19, 0, .rw, 0x5dc⟩]⟩,
  -- EGR_LADLE (spec/07_timed_egress.md)
  ⟨0x210100, [], (0, 1), [⟨31, 31, .ro, 0⟩, ⟨14, 0, .ro, 0x4000⟩]⟩,
  -- EGR_PROF_EVT (spec/07_timed_egress.md)
  ⟨0x210104, [], (0, 1), [⟨0, 0, .wc, 0⟩]⟩,
  -- EGR_PROF_EVT_EN (spec/07_timed_egress.md)
  ⟨0x210108, [], (0, 1), [⟨0, 0, .rw, 1⟩]⟩
  ]

/-- Registers of block group leaf28, part 0. -/
def rows_leaf28 : List RegRow := [
  -- EGR_GCL_GATES (spec/07_timed_egress.md)
  ⟨0x280000, [(0x4000, 32), (0x2000, 2), (0x8, 1024)], (0, 1), [⟨7, 0, .rw, 0xff⟩]⟩,
  -- EGR_GCL_INTERVAL (spec/07_timed_egress.md)
  ⟨0x280004, [(0x4000, 32), (0x2000, 2), (0x8, 1024)], (0, 1), [⟨31, 0, .rw, 0x3e8⟩]⟩
  ]

/-- Registers of block group leaf30, part 0. -/
def rows_leaf30 : List RegRow := [
  -- CNT_SNAP (spec/18_counters_and_colophon_sampling.md)
  ⟨0x30c000, [], (0, 1), [⟨31, 16, .ro, 0⟩, ⟨0, 0, .ro, 0⟩]⟩
  ]

/-- Registers of block group leaf38, part 0. -/
def rows_leaf38 : List RegRow := [
  -- SMP_CTRL (spec/18_counters_and_colophon_sampling.md)
  ⟨0x380000, [], (0, 1), [⟨31, 31, .rw, 0⟩, ⟨30, 30, .wo, 0⟩, ⟨29, 28, .rw, 0⟩, ⟨27, 27, .rw, 1⟩, ⟨23, 0, .rw, 0⟩]⟩,
  -- SMP_SEED (spec/18_counters_and_colophon_sampling.md)
  ⟨0x380004, [], (0, 1), [⟨31, 0, .rw, 1⟩]⟩,
  -- SMP_FILT (spec/18_counters_and_colophon_sampling.md)
  ⟨0x380008, [], (0, 1), [⟨31, 31, .rw, 0⟩, ⟨30, 30, .rw, 0⟩, ⟨29, 29, .rw, 0⟩, ⟨28, 28, .rw, 0⟩, ⟨23, 16, .rw, 0xff⟩, ⟨8, 0, .rw, 0⟩]⟩,
  -- SMP_FILT_STREAM (spec/18_counters_and_colophon_sampling.md)
  ⟨0x38000c, [], (0, 1), [⟨13, 0, .rw, 0⟩]⟩,
  -- SMP_STAT (spec/18_counters_and_colophon_sampling.md)
  ⟨0x380010, [], (0, 1), [⟨17, 17, .ro, 0⟩, ⟨16, 16, .ro, 0⟩, ⟨13, 0, .ro, 0⟩]⟩,
  -- SMP_CNT_OVERWRITTEN (spec/18_counters_and_colophon_sampling.md)
  ⟨0x380014, [], (0, 1), [⟨31, 0, .rc, 0⟩]⟩,
  -- SMP_CNT_LOST (spec/18_counters_and_colophon_sampling.md)
  ⟨0x380018, [], (0, 1), [⟨31, 0, .rc, 0⟩]⟩,
  -- SMP_EVT (spec/18_counters_and_colophon_sampling.md)
  ⟨0x380020, [], (0, 1), [⟨2, 2, .wc, 0⟩, ⟨1, 1, .wc, 0⟩, ⟨0, 0, .wc, 0⟩]⟩,
  -- SMP_EVT_EN (spec/18_counters_and_colophon_sampling.md)
  ⟨0x380024, [], (0, 1), [⟨2, 0, .rw, 6⟩]⟩,
  -- SMP_REC (spec/18_counters_and_colophon_sampling.md)
  ⟨0x380040, [(0x4, 16)], (0, 1), [⟨31, 0, .ro, 0⟩]⟩
  ]

/-- Registers of block group pf1, part 0. -/
def rows_pf1 : List RegRow := [
  -- SEC_FUSE (spec/14_boot_images_and_worlds.md)
  ⟨0x0, [], (0, 1), [⟨31, 31, .ro, 0⟩, ⟨27, 24, .ro, 0⟩, ⟨23, 20, .ro, 0⟩, ⟨19, 12, .ro, 0⟩, ⟨10, 8, .ro, 0⟩, ⟨7, 7, .ro, 0⟩, ⟨2, 0, .ro, 0⟩]⟩,
  -- SEC_WORLD (spec/14_boot_images_and_worlds.md)
  ⟨0x10, [], (0, 1), [⟨31, 31, .ro, 0⟩, ⟨24, 24, .ro, 0⟩, ⟨23, 16, .ro, 0⟩, ⟨9, 0, .ro, 0⟩]⟩,
  -- SEC_DBG_CTRL (spec/14_boot_images_and_worlds.md)
  ⟨0x100, [], (0, 1), [⟨31, 31, .wo, 0⟩, ⟨8, 8, .rw, 0⟩, ⟨1, 0, .rw, 0⟩]⟩,
  -- SEC_DBG_STAT (spec/14_boot_images_and_worlds.md)
  ⟨0x104, [], (0, 1), [⟨10, 8, .ro, 7⟩, ⟨5, 4, .ro, 0⟩, ⟨2, 2, .ro, 0⟩, ⟨1, 1, .ro, 0⟩, ⟨0, 0, .ro, 0⟩]⟩,
  -- SEC_DBG_NONCE (spec/14_boot_images_and_worlds.md)
  ⟨0x110, [(0x4, 8)], (0, 1), [⟨31, 0, .ro, 0⟩]⟩,
  -- SEC_DBG_RESP (spec/14_boot_images_and_worlds.md)
  ⟨0x200, [(0x4, 48)], (0, 1), [⟨31, 0, .wo, 0⟩]⟩,
  -- IMG_CTRL (spec/14_boot_images_and_worlds.md)
  ⟨0x200000, [], (0, 1), [⟨31, 31, .wo, 0⟩, ⟨3, 0, .rw, 0⟩]⟩,
  -- IMG_STAT (spec/14_boot_images_and_worlds.md)
  ⟨0x200004, [], (0, 1), [⟨7, 7, .wc, 0⟩, ⟨6, 6, .wc, 0⟩, ⟨5, 5, .wc, 0⟩, ⟨4, 4, .ro, 0⟩]⟩,
  -- IMG_WIN (spec/14_boot_images_and_worlds.md)
  ⟨0x300000, [(0x4, 262144)], (0, 1), [⟨31, 0, .rw, 0⟩]⟩,
  -- MBX_DOORBELL (spec/15_host_interface_and_mailboxes.md)
  ⟨0x100000, [(0x3000, 4)], (0, 1), [⟨31, 31, .wo, 0⟩]⟩,
  -- MBX_STATUS (spec/15_host_interface_and_mailboxes.md)
  ⟨0x100004, [(0x3000, 4)], (0, 1), [⟨31, 16, .ro, 0⟩, ⟨4, 4, .ro, 0⟩, ⟨3, 3, .wc, 0⟩, ⟨2, 2, .wc, 0⟩, ⟨1, 1, .wc, 0⟩, ⟨0, 0, .ro, 0⟩]⟩,
  -- MBX_EVT_EN (spec/15_host_interface_and_mailboxes.md)
  ⟨0x100008, [(0x3000, 4)], (0, 1), [⟨0, 0, .rw, 1⟩]⟩,
  -- MBX_REQ (spec/15_host_interface_and_mailboxes.md)
  ⟨0x101000, [(0x3000, 4), (0x4, 1024)], (0, 1), [⟨31, 0, .rw, 0⟩]⟩,
  -- MBX_RESP (spec/15_host_interface_and_mailboxes.md)
  ⟨0x102000, [(0x3000, 4), (0x4, 1024)], (0, 1), [⟨31, 0, .ro, 0⟩]⟩,
  -- HERR_STAT (spec/15_host_interface_and_mailboxes.md)
  ⟨0x10e000, [], (0, 1), [⟨31, 16, .rc, 0⟩, ⟨10, 8, .ro, 0⟩, ⟨4, 4, .wc, 0⟩, ⟨3, 0, .wc, 0⟩]⟩,
  -- HERR_ADDR (spec/15_host_interface_and_mailboxes.md)
  ⟨0x10e004, [], (0, 1), [⟨31, 0, .ro, 0⟩]⟩,
  -- MSIX_TABLE1 (spec/15_host_interface_and_mailboxes.md)
  ⟨0x10c000, [(0x10, 8), (0x4, 3)], (0, 1), [⟨31, 0, .rw, 0⟩]⟩,
  -- MSIX_VCTRL1 (spec/15_host_interface_and_mailboxes.md)
  ⟨0x10c00c, [(0x10, 8)], (0, 1), [⟨0, 0, .rw, 1⟩]⟩,
  -- MSIX_PBA1 (spec/15_host_interface_and_mailboxes.md)
  ⟨0x10d000, [], (0, 1), [⟨7, 0, .ro, 0⟩]⟩
  ]

/-- Registers of block group spine00, part 0. -/
def rows_spine00 : List RegRow := [
  -- SYS_LEAF_STATE (spec/01_spine_and_leaves.md)
  ⟨0x100, [], (0, 1), [⟨3, 0, .ro, 0⟩, ⟨7, 4, .ro, 0⟩, ⟨11, 8, .ro, 0⟩, ⟨15, 12, .ro, 0⟩, ⟨19, 16, .ro, 0⟩, ⟨23, 20, .ro, 0⟩, ⟨27, 24, .ro, 0⟩, ⟨31, 28, .ro, 0⟩]⟩,
  -- SYS_ID0 (spec/14_boot_images_and_worlds.md)
  ⟨0x0, [], (0, 1), [⟨31, 24, .ro, 0xda⟩, ⟨23, 16, .ro, 0xb0⟩, ⟨15, 12, .ro, 8⟩, ⟨11, 8, .ro, 0⟩, ⟨7, 0, .ro, 0xff⟩]⟩,
  -- SYS_ID1 (spec/14_boot_images_and_worlds.md)
  ⟨0x4, [], (0, 2), [⟨31, 0, .ro, 0⟩]⟩,
  -- SYS_ID2 (spec/14_boot_images_and_worlds.md)
  ⟨0x8, [], (1, 2), [⟨31, 0, .ro, 0⟩]⟩,
  -- SYS_BOOT_STATUS (spec/14_boot_images_and_worlds.md)
  ⟨0x10, [], (0, 1), [⟨31, 28, .ro, 0⟩, ⟨27, 24, .ro, 0⟩, ⟨18, 16, .ro, 0⟩, ⟨11, 8, .ro, 0⟩, ⟨3, 0, .ro, 0⟩]⟩,
  -- SYS_BOOT_GEN (spec/14_boot_images_and_worlds.md)
  ⟨0x14, [], (0, 1), [⟨31, 0, .ro, 0⟩]⟩,
  -- SYS_FW_VER (spec/14_boot_images_and_worlds.md)
  ⟨0x18, [], (0, 1), [⟨31, 0, .ro, 0⟩]⟩,
  -- SYS_RESET_CAUSE (spec/14_boot_images_and_worlds.md)
  ⟨0x1c, [], (0, 1), [⟨2, 2, .wc, 0⟩, ⟨1, 1, .wc, 0⟩, ⟨0, 0, .wc, 1⟩]⟩
  ]

/-- Registers of block group spine01, part 0. -/
def rows_spine01 : List RegRow := [
  -- MBX_DOORBELL (spec/15_host_interface_and_mailboxes.md)
  ⟨0x10000, [(0x3000, 4)], (0, 1), [⟨31, 31, .wo, 0⟩]⟩,
  -- MBX_STATUS (spec/15_host_interface_and_mailboxes.md)
  ⟨0x10004, [(0x3000, 4)], (0, 1), [⟨31, 16, .ro, 0⟩, ⟨4, 4, .ro, 0⟩, ⟨3, 3, .wc, 0⟩, ⟨2, 2, .wc, 0⟩, ⟨1, 1, .wc, 0⟩, ⟨0, 0, .ro, 0⟩]⟩,
  -- MBX_EVT_EN (spec/15_host_interface_and_mailboxes.md)
  ⟨0x10008, [(0x3000, 4)], (0, 1), [⟨0, 0, .rw, 1⟩]⟩,
  -- MBX_REQ (spec/15_host_interface_and_mailboxes.md)
  ⟨0x11000, [(0x3000, 4), (0x4, 1024)], (0, 1), [⟨31, 0, .rw, 0⟩]⟩,
  -- MBX_RESP (spec/15_host_interface_and_mailboxes.md)
  ⟨0x12000, [(0x3000, 4), (0x4, 1024)], (0, 1), [⟨31, 0, .ro, 0⟩]⟩,
  -- HERR_STAT (spec/15_host_interface_and_mailboxes.md)
  ⟨0x1e000, [], (0, 1), [⟨31, 16, .rc, 0⟩, ⟨10, 8, .ro, 0⟩, ⟨4, 4, .wc, 0⟩, ⟨3, 0, .wc, 0⟩]⟩,
  -- HERR_ADDR (spec/15_host_interface_and_mailboxes.md)
  ⟨0x1e004, [], (0, 1), [⟨31, 0, .ro, 0⟩]⟩,
  -- MSIX_TABLE0 (spec/15_host_interface_and_mailboxes.md)
  ⟨0x1c000, [(0x10, 24), (0x4, 3)], (0, 1), [⟨31, 0, .rw, 0⟩]⟩,
  -- MSIX_VCTRL0 (spec/15_host_interface_and_mailboxes.md)
  ⟨0x1c00c, [(0x10, 24)], (0, 1), [⟨0, 0, .rw, 1⟩]⟩,
  -- MSIX_PBA0 (spec/15_host_interface_and_mailboxes.md)
  ⟨0x1d000, [], (0, 1), [⟨23, 0, .ro, 0⟩]⟩
  ]

/-- Registers of block group spine02, part 0. -/
def rows_spine02 : List RegRow := [
  -- EVT_RAW (spec/19_events_and_address_map.md)
  ⟨0x20000, [(0x4, 3)], (0, 1), [⟨31, 0, .ro, 0⟩]⟩,
  -- EVT_ENABLE (spec/19_events_and_address_map.md)
  ⟨0x20010, [(0x4, 3)], (0, 1), [⟨31, 0, .rw, 0⟩]⟩,
  -- EVT_PEND (spec/19_events_and_address_map.md)
  ⟨0x20020, [(0x4, 3)], (0, 1), [⟨31, 0, .ro, 0⟩]⟩,
  -- EVT_STAT (spec/19_events_and_address_map.md)
  ⟨0x20030, [], (0, 1), [⟨0, 0, .wc, 0⟩]⟩,
  -- EVT_ROUTE (spec/19_events_and_address_map.md)
  ⟨0x20100, [(0x4, 96)], (0, 1), [⟨31, 31, .rw, 0⟩, ⟨18, 18, .rw, 0⟩, ⟨17, 17, .rw, 0⟩, ⟨16, 16, .rw, 0⟩, ⟨4, 0, .rw, 0⟩]⟩
  ]

/-- Registers of block group spine03, part 0. -/
def rows_spine03 : List RegRow := [
  -- PWR_STATE (spec/13_power_and_sleep.md)
  ⟨0x30000, [], (0, 1), [⟨17, 16, .ro, 0⟩, ⟨8, 8, .ro, 0⟩, ⟨1, 0, .ro, 0⟩]⟩,
  -- PWR_REQ (spec/13_power_and_sleep.md)
  ⟨0x30004, [], (0, 1), [⟨31, 31, .wo, 0⟩, ⟨1, 0, .rw, 2⟩]⟩,
  -- PWR_WAKE (spec/13_power_and_sleep.md)
  ⟨0x30008, [], (0, 1), [⟨31, 31, .rw, 0⟩, ⟨7, 0, .rw, 0⟩]⟩,
  -- PWR_WAKE_AT0 (spec/13_power_and_sleep.md)
  ⟨0x30010, [], (0, 3), [⟨31, 0, .rw, 0⟩]⟩,
  -- PWR_WAKE_AT1 (spec/13_power_and_sleep.md)
  ⟨0x30014, [], (1, 3), [⟨31, 0, .rw, 0⟩]⟩,
  -- PWR_WAKE_AT2 (spec/13_power_and_sleep.md)
  ⟨0x30018, [], (2, 3), [⟨31, 0, .rw, 0⟩]⟩,
  -- PWR_BUDGET (spec/13_power_and_sleep.md)
  ⟨0x30020, [], (0, 1), [⟨31, 16, .rw, 0x10e⟩, ⟨15, 0, .rw, 0x1518⟩]⟩,
  -- PWR_GRANT (spec/13_power_and_sleep.md)
  ⟨0x30024, [], (0, 1), [⟨31, 31, .ro, 0⟩, ⟨24, 16, .ro, 0⟩, ⟨15, 0, .ro, 0x8c⟩]⟩,
  -- PWR_ARB_CFG (spec/13_power_and_sleep.md)
  ⟨0x30028, [], (0, 1), [⟨31, 16, .rw, 0x64⟩, ⟨7, 0, .rw, 0x14⟩]⟩,
  -- PWR_THERM (spec/13_power_and_sleep.md)
  ⟨0x30030, [], (0, 1), [⟨31, 24, .rw, 0x6e⟩, ⟨23, 16, .rw, 0x64⟩, ⟨15, 8, .rw, 0x5f⟩]⟩,
  -- PWR_THROTTLE (spec/13_power_and_sleep.md)
  ⟨0x30034, [], (0, 1), [⟨15, 0, .ro, 0⟩]⟩,
  -- PWR_EVT (spec/13_power_and_sleep.md)
  ⟨0x30038, [], (0, 1), [⟨15, 8, .wc, 0⟩, ⟨6, 6, .wc, 0⟩, ⟨5, 5, .wc, 0⟩, ⟨4, 4, .wc, 0⟩, ⟨3, 3, .wc, 0⟩, ⟨1, 1, .wc, 0⟩, ⟨0, 0, .wc, 0⟩]⟩,
  -- PWR_EVT_EN (spec/13_power_and_sleep.md)
  ⟨0x3003c, [], (0, 1), [⟨15, 8, .rw, 0xff⟩, ⟨6, 6, .rw, 1⟩, ⟨5, 5, .rw, 1⟩, ⟨4, 4, .rw, 1⟩, ⟨3, 3, .rw, 1⟩, ⟨1, 1, .rw, 1⟩, ⟨0, 0, .rw, 1⟩]⟩,
  -- PWR_PMB_CFG (spec/13_power_and_sleep.md)
  ⟨0x30040, [], (0, 1), [⟨31, 31, .rw, 0⟩, ⟨1, 1, .rw, 0⟩, ⟨0, 0, .rw, 0⟩]⟩,
  -- PWR_RQ (spec/13_power_and_sleep.md)
  ⟨0x30100, [(0x4, 176)], (0, 1), [⟨30, 28, .ro, 0⟩, ⟨25, 24, .ro, 0⟩, ⟨15, 0, .ro, 0⟩]⟩,
  -- PWR_REG_CFG (spec/13_power_and_sleep.md)
  ⟨0x30400, [(0x10, 16)], (0, 1), [⟨31, 31, .rw, 0⟩, ⟨22, 16, .rw, 0⟩, ⟨15, 8, .rw, 0⟩, ⟨7, 4, .rw, 0⟩, ⟨3, 0, .rw, 0⟩]⟩,
  -- PWR_REG_TIME (spec/13_power_and_sleep.md)
  ⟨0x30404, [(0x10, 16)], (0, 1), [⟨31, 16, .rw, 0xa⟩, ⟨15, 0, .rw, 0⟩]⟩,
  -- PWR_REG_VOUT (spec/13_power_and_sleep.md)
  ⟨0x30408, [(0x10, 16)], (0, 1), [⟨15, 0, .rw, 0⟩]⟩,
  -- PWR_REG_STAT (spec/13_power_and_sleep.md)
  ⟨0x3040c, [(0x10, 16)], (0, 1), [⟨2, 2, .wc, 0⟩, ⟨1, 1, .ro, 0⟩, ⟨0, 0, .ro, 0⟩]⟩
  ]

/-- Registers of block group spine04, part 0. -/
def rows_spine04_0 : List RegRow := [
  -- TIME_CTRL (spec/02_network_time_and_timed_actions.md)
  ⟨0x40000, [], (0, 1), [⟨0, 0, .wo, 0⟩]⟩,
  -- TIME_STATUS (spec/02_network_time_and_timed_actions.md)
  ⟨0x40004, [], (0, 1), [⟨23, 16, .ro, 0⟩, ⟨15, 8, .ro, 0⟩, ⟨4, 4, .ro, 0⟩, ⟨3, 3, .ro, 0⟩, ⟨2, 2, .wc, 0⟩, ⟨1, 1, .wc, 0⟩, ⟨0, 0, .ro, 0⟩]⟩,
  -- TIME_NOW0 (spec/02_network_time_and_timed_actions.md)
  ⟨0x40010, [], (0, 3), [⟨31, 0, .ro, 0⟩]⟩,
  -- TIME_NOW1 (spec/02_network_time_and_timed_actions.md)
  ⟨0x40014, [], (1, 3), [⟨31, 0, .ro, 0⟩]⟩,
  -- TIME_NOW2 (spec/02_network_time_and_timed_actions.md)
  ⟨0x40018, [], (2, 3), [⟨31, 0, .ro, 0⟩]⟩,
  -- TIME_SET0 (spec/02_network_time_and_timed_actions.md)
  ⟨0x40020, [], (0, 3), [⟨31, 0, .rw, 0⟩]⟩,
  -- TIME_SET1 (spec/02_network_time_and_timed_actions.md)
  ⟨0x40024, [], (1, 3), [⟨31, 0, .rw, 0⟩]⟩,
  -- TIME_SET2 (spec/02_network_time_and_timed_actions.md)
  ⟨0x40028, [], (2, 3), [⟨31, 0, .rw, 0⟩]⟩,
  -- TIME_ACT_PART (spec/02_network_time_and_timed_actions.md)
  ⟨0x40030, [], (0, 1), [⟨8, 0, .rw, 0x10⟩]⟩,
  -- TIME_ACT_EVT (spec/02_network_time_and_timed_actions.md)
  ⟨0x40034, [], (0, 1), [⟨15, 0, .wc, 0⟩]⟩,
  -- TIME_LEAF_RESID (spec/02_network_time_and_timed_actions.md)
  ⟨0x40040, [(0x4, 8)], (0, 1), [⟨16, 16, .ro, 0⟩, ⟨15, 0, .ro, 0⟩]⟩,
  -- TIME_CAP_CTRL (spec/02_network_time_and_timed_actions.md)
  ⟨0x40100, [(0x20, 6)], (0, 1), [⟨3, 3, .wo, 0⟩, ⟨2, 1, .rw, 1⟩, ⟨0, 0, .rw, 0⟩]⟩,
  -- TIME_CAP_STAT (spec/02_network_time_and_timed_actions.md)
  ⟨0x40104, [(0x20, 6)], (0, 1), [⟨31, 16, .ro, 0⟩, ⟨9, 9, .wc, 0⟩, ⟨8, 8, .wc, 0⟩, ⟨4, 0, .ro, 0⟩]⟩,
  -- TIME_CAP_TS0 (spec/02_network_time_and_timed_actions.md)
  ⟨0x40108, [(0x20, 6)], (0, 3), [⟨31, 0, .ro, 0⟩]⟩,
  -- TIME_CAP_TS1 (spec/02_network_time_and_timed_actions.md)
  ⟨0x4010c, [(0x20, 6)], (1, 3), [⟨31, 0, .ro, 0⟩]⟩,
  -- TIME_CAP_TS2 (spec/02_network_time_and_timed_actions.md)
  ⟨0x40110, [(0x20, 6)], (2, 3), [⟨31, 0, .ro, 0⟩]⟩,
  -- TIME_CAP_TSX (spec/02_network_time_and_timed_actions.md)
  ⟨0x40114, [(0x20, 6)], (0, 1), [⟨1, 1, .ro, 0⟩, ⟨0, 0, .ro, 0⟩]⟩,
  -- TIME_PULSE_CTRL (spec/02_network_time_and_timed_actions.md)
  ⟨0x40200, [(0x40, 8)], (0, 1), [⟨3, 3, .rw, 0⟩, ⟨2, 2, .rw, 0⟩, ⟨1, 0, .rw, 0⟩]⟩,
  -- TIME_PULSE_STAT (spec/02_network_time_and_timed_actions.md)
  ⟨0x40204, [(0x40, 8)], (0, 1), [⟨3, 3, .wc, 0⟩, ⟨2, 2, .wc, 0⟩, ⟨1, 1, .ro, 0⟩, ⟨0, 0, .ro, 0⟩]⟩,
  -- TIME_PULSE_START0 (spec/02_network_time_and_timed_actions.md)
  ⟨0x40208, [(0x40, 8)], (0, 3), [⟨31, 0, .rw, 0⟩]⟩
  ]

/-- Registers of block group spine04, part 1. -/
def rows_spine04_1 : List RegRow := [
  -- TIME_PULSE_START1 (spec/02_network_time_and_timed_actions.md)
  ⟨0x4020c, [(0x40, 8)], (1, 3), [⟨31, 0, .rw, 0⟩]⟩,
  -- TIME_PULSE_START2 (spec/02_network_time_and_timed_actions.md)
  ⟨0x40210, [(0x40, 8)], (2, 3), [⟨31, 0, .rw, 0⟩]⟩,
  -- TIME_PULSE_PERIOD0 (spec/02_network_time_and_timed_actions.md)
  ⟨0x40214, [(0x40, 8)], (0, 2), [⟨15, 0, .rw, 0⟩]⟩,
  -- TIME_PULSE_PERIOD1 (spec/02_network_time_and_timed_actions.md)
  ⟨0x40218, [(0x40, 8)], (1, 2), [⟨31, 0, .rw, 0⟩]⟩,
  -- TIME_PULSE_WIDTH0 (spec/02_network_time_and_timed_actions.md)
  ⟨0x4021c, [(0x40, 8)], (0, 2), [⟨15, 0, .rw, 0⟩]⟩,
  -- TIME_PULSE_WIDTH1 (spec/02_network_time_and_timed_actions.md)
  ⟨0x40220, [(0x40, 8)], (1, 2), [⟨31, 0, .rw, 0⟩]⟩,
  -- TIME_PULSE_TRIM (spec/02_network_time_and_timed_actions.md)
  ⟨0x40224, [(0x40, 8)], (0, 1), [⟨11, 0, .rw, 0⟩]⟩,
  -- TIME_ACT_CMD (spec/02_network_time_and_timed_actions.md)
  ⟨0x41000, [(0x800, 2)], (0, 1), [⟨31, 31, .wo, 0⟩, ⟨10, 8, .rw, 0⟩, ⟨7, 0, .rw, 0⟩]⟩,
  -- TIME_ACT_STAT (spec/02_network_time_and_timed_actions.md)
  ⟨0x41004, [(0x800, 2)], (0, 1), [⟨31, 16, .ro, 0⟩, ⟨15, 12, .ro, 0⟩, ⟨9, 8, .ro, 0⟩, ⟨6, 4, .ro, 0⟩, ⟨1, 1, .wc, 0⟩, ⟨0, 0, .ro, 0⟩]⟩,
  -- TIME_ACT_FREE (spec/02_network_time_and_timed_actions.md)
  ⟨0x41008, [(0x800, 2)], (0, 1), [⟨8, 0, .ro, 0⟩]⟩,
  -- TIME_ACT_ENTRY (spec/02_network_time_and_timed_actions.md)
  ⟨0x41010, [(0x800, 2), (0x4, 3)], (0, 1), [⟨31, 0, .rw, 0⟩]⟩,
  -- TIME_ACT_ENTRY, word 3 (spec/02_network_time_and_timed_actions.md)
  ⟨0x4101c, [(0x800, 2)], (0, 1), [⟨31, 16, .rw, 0⟩, ⟨7, 0, .rw, 0⟩]⟩,
  -- TIME_ACT_ENTRY, words 4 to 7 (spec/02_network_time_and_timed_actions.md)
  ⟨0x41020, [(0x800, 2), (0x4, 4)], (0, 1), [⟨31, 0, .rw, 0⟩]⟩
  ]

/-- Registers of block group spine04. -/
def rows_spine04 : List RegRow :=
  rows_spine04_0 ++ rows_spine04_1

/-- Registers of block group spine06, part 0. -/
def rows_spine06 : List RegRow := [
  -- REF_SLOT_CFG (spec/09_references_and_holdover.md)
  ⟨0x60000, [(0x40, 16)], (0, 1), [⟨31, 31, .rw, 0⟩, ⟨30, 30, .wo, 0⟩, ⟨27, 24, .rw, 0⟩, ⟨16, 16, .rw, 0⟩, ⟨12, 12, .rw, 0⟩, ⟨8, 0, .rw, 0⟩]⟩,
  -- REF_SLOT_NOMINAL (spec/09_references_and_holdover.md)
  ⟨0x60004, [(0x40, 16)], (0, 1), [⟨31, 0, .rw, 0x989680⟩]⟩,
  -- REF_SLOT_LIMITS (spec/09_references_and_holdover.md)
  ⟨0x60008, [(0x40, 16)], (0, 1), [⟨31, 16, .rw, 0x190⟩, ⟨15, 0, .rw, 0xc8⟩]⟩,
  -- REF_SLOT_TIMERS (spec/09_references_and_holdover.md)
  ⟨0x6000c, [(0x40, 16)], (0, 1), [⟨31, 24, .rw, 0x14⟩, ⟨23, 12, .rw, 0xa⟩, ⟨3, 0, .rw, 4⟩]⟩,
  -- REF_SLOT_STAT (spec/09_references_and_holdover.md)
  ⟨0x60010, [(0x40, 16)], (0, 1), [⟨31, 16, .ro, 0⟩, ⟨9, 9, .ro, 0⟩, ⟨8, 8, .ro, 0⟩, ⟨7, 7, .ro, 0⟩, ⟨6, 6, .ro, 0⟩, ⟨5, 5, .ro, 0⟩, ⟨4, 4, .ro, 0⟩, ⟨2, 0, .ro, 0⟩]⟩,
  -- REF_SLOT_FOFF (spec/09_references_and_holdover.md)
  ⟨0x60014, [(0x40, 16)], (0, 1), [⟨31, 0, .ro, 0⟩]⟩,
  -- REF_CFG (spec/09_references_and_holdover.md)
  ⟨0x60400, [], (0, 1), [⟨9, 0, .rw, 0x32⟩]⟩,
  -- REF_EVT (spec/09_references_and_holdover.md)
  ⟨0x60404, [], (0, 1), [⟨17, 17, .wc, 0⟩, ⟨16, 16, .wc, 0⟩, ⟨15, 0, .wc, 0⟩]⟩,
  -- REF_EVT_EN (spec/09_references_and_holdover.md)
  ⟨0x60408, [], (0, 1), [⟨17, 0, .rw, 0x3ffff⟩]⟩,
  -- REF_DISPUTE (spec/09_references_and_holdover.md)
  ⟨0x6040c, [], (0, 1), [⟨31, 16, .ro, 0⟩, ⟨15, 0, .ro, 0⟩]⟩
  ]

/-- Registers of block group spine07, part 0. -/
def rows_spine07_0 : List RegRow := [
  -- DPLL_CTRL (spec/09_references_and_holdover.md)
  ⟨0x70000, [(0x100, 3)], (0, 1), [⟨31, 24, .rw, 0x18⟩, ⟨23, 20, .rw, 0⟩, ⟨19, 16, .rw, 0⟩, ⟨12, 12, .rw, 0⟩, ⟨11, 11, .rw, 0⟩, ⟨10, 10, .rw, 1⟩, ⟨2, 0, .rw, 0⟩]⟩,
  -- DPLL_CAND (spec/09_references_and_holdover.md)
  ⟨0x70004, [(0x100, 3)], (0, 1), [⟨15, 0, .rw, 0⟩]⟩,
  -- DPLL_STAT (spec/09_references_and_holdover.md)
  ⟨0x70008, [(0x100, 3)], (0, 1), [⟨31, 24, .ro, 0⟩, ⟨23, 20, .ro, 0⟩, ⟨19, 19, .ro, 0⟩, ⟨18, 18, .ro, 0⟩, ⟨17, 17, .ro, 0⟩, ⟨16, 16, .ro, 0⟩, ⟨15, 15, .ro, 0⟩, ⟨14, 14, .ro, 0⟩, ⟨13, 13, .ro, 0⟩, ⟨3, 0, .ro, 0⟩]⟩,
  -- DPLL_SLEW_MAX (spec/09_references_and_holdover.md)
  ⟨0x7000c, [(0x100, 3)], (0, 1), [⟨16, 0, .rw, 0x64⟩]⟩,
  -- DPLL_SLEW_THRESH (spec/09_references_and_holdover.md)
  ⟨0x70010, [(0x100, 3)], (0, 1), [⟨31, 0, .rw, 0x3e8⟩]⟩,
  -- DPLL_LOCK (spec/09_references_and_holdover.md)
  ⟨0x70014, [(0x100, 3)], (0, 1), [⟨23, 0, .rw, 0x2710⟩]⟩,
  -- DPLL_CLAMP (spec/09_references_and_holdover.md)
  ⟨0x70018, [(0x100, 3)], (0, 1), [⟨8, 0, .rw, 0x50⟩]⟩,
  -- DPLL_FREQ_SW0 (spec/09_references_and_holdover.md)
  ⟨0x70020, [(0x100, 3)], (0, 2), [⟨31, 0, .rw, 0⟩]⟩,
  -- DPLL_FREQ_SW1 (spec/09_references_and_holdover.md)
  ⟨0x70024, [(0x100, 3)], (1, 2), [⟨31, 0, .rw, 0⟩]⟩,
  -- DPLL_FREQ_NOW0 (spec/09_references_and_holdover.md)
  ⟨0x70028, [(0x100, 3)], (0, 2), [⟨31, 0, .ro, 0⟩]⟩,
  -- DPLL_FREQ_NOW1 (spec/09_references_and_holdover.md)
  ⟨0x7002c, [(0x100, 3)], (1, 2), [⟨31, 0, .ro, 0⟩]⟩,
  -- DPLL_PSTEP0 (spec/09_references_and_holdover.md)
  ⟨0x70030, [(0x100, 3)], (0, 2), [⟨31, 0, .rw, 0⟩]⟩,
  -- DPLL_PSTEP1 (spec/09_references_and_holdover.md)
  ⟨0x70034, [(0x100, 3)], (1, 2), [⟨31, 0, .rw, 0⟩]⟩,
  -- DPLL_PSTEP_CTRL (spec/09_references_and_holdover.md)
  ⟨0x70038, [(0x100, 3)], (0, 1), [⟨31, 31, .wo, 0⟩, ⟨1, 1, .ro, 0⟩, ⟨0, 0, .rw, 0⟩]⟩,
  -- DPLL_OFFSET0 (spec/09_references_and_holdover.md)
  ⟨0x70040, [(0x100, 3)], (0, 2), [⟨31, 0, .ro, 0⟩]⟩,
  -- DPLL_OFFSET1 (spec/09_references_and_holdover.md)
  ⟨0x70044, [(0x100, 3)], (1, 2), [⟨31, 0, .ro, 0⟩]⟩,
  -- DPLL_PD0 (spec/09_references_and_holdover.md)
  ⟨0x70048, [(0x100, 3)], (0, 3), [⟨31, 0, .ro, 0⟩]⟩,
  -- DPLL_PD1 (spec/09_references_and_holdover.md)
  ⟨0x7004c, [(0x100, 3)], (1, 3), [⟨31, 0, .ro, 0⟩]⟩,
  -- DPLL_PDX (spec/09_references_and_holdover.md)
  ⟨0x70050, [(0x100, 3)], (2, 3), [⟨31, 16, .ro, 0⟩, ⟨1, 1, .ro, 0⟩, ⟨0, 0, .ro, 0⟩]⟩,
  -- DPLL_PEND_OFFSET0 (spec/09_references_and_holdover.md)
  ⟨0x70058, [(0x100, 3)], (0, 2), [⟨31, 0, .ro, 0⟩]⟩
  ]

/-- Registers of block group spine07, part 1. -/
def rows_spine07_1 : List RegRow := [
  -- DPLL_PEND_OFFSET1 (spec/09_references_and_holdover.md)
  ⟨0x7005c, [(0x100, 3)], (1, 2), [⟨31, 0, .ro, 0⟩]⟩,
  -- DPLL_RETURN (spec/09_references_and_holdover.md)
  ⟨0x70060, [(0x100, 3)], (0, 1), [⟨1, 0, .wo, 0⟩]⟩,
  -- DPLL_HO_CFG (spec/09_references_and_holdover.md)
  ⟨0x70064, [(0x100, 3)], (0, 1), [⟨31, 16, .rw, 0x12c⟩, ⟨4, 4, .rw, 1⟩, ⟨3, 3, .rw, 1⟩, ⟨2, 1, .rw, 0⟩]⟩,
  -- DPLL_HO_TIME (spec/09_references_and_holdover.md)
  ⟨0x70068, [(0x100, 3)], (0, 1), [⟨31, 0, .ro, 0⟩]⟩,
  -- DPLL_HO_BOUND (spec/09_references_and_holdover.md)
  ⟨0x7006c, [(0x100, 3)], (0, 1), [⟨31, 0, .ro, 0⟩]⟩,
  -- DPLL_HO_LIMIT (spec/09_references_and_holdover.md)
  ⟨0x70070, [(0x100, 3)], (0, 1), [⟨31, 0, .rw, 0x3e8⟩]⟩,
  -- DPLL_TEMP_SW (spec/09_references_and_holdover.md)
  ⟨0x70074, [(0x100, 3)], (0, 1), [⟨15, 0, .rw, 0x1900⟩]⟩,
  -- DPLL_EVT (spec/09_references_and_holdover.md)
  ⟨0x70078, [(0x100, 3)], (0, 1), [⟨6, 6, .wc, 0⟩, ⟨5, 5, .wc, 0⟩, ⟨4, 4, .wc, 0⟩, ⟨3, 3, .wc, 0⟩, ⟨2, 2, .wc, 0⟩, ⟨1, 1, .wc, 0⟩, ⟨0, 0, .wc, 0⟩]⟩,
  -- DPLL_EVT_EN (spec/09_references_and_holdover.md)
  ⟨0x7007c, [(0x100, 3)], (0, 1), [⟨6, 0, .rw, 0x7f⟩]⟩
  ]

/-- Registers of block group spine07. -/
def rows_spine07 : List RegRow :=
  rows_spine07_0 ++ rows_spine07_1

/-- Registers of block group spine08, part 0. -/
def rows_spine08 : List RegRow := [
  -- APLL_CTRL (spec/10_synthesis_and_clock_outputs.md)
  ⟨0x80000, [(0x100, 3)], (0, 1), [⟨1, 1, .rw, 0⟩, ⟨0, 0, .rw, 0⟩]⟩,
  -- APLL_FVCO0 (spec/10_synthesis_and_clock_outputs.md)
  ⟨0x80004, [(0x100, 3)], (0, 2), [⟨31, 16, .rw, 0xdd00⟩, ⟨15, 0, .rw, 0⟩]⟩,
  -- APLL_FVCO1 (spec/10_synthesis_and_clock_outputs.md)
  ⟨0x80008, [(0x100, 3)], (1, 2), [⟨31, 0, .rw, 0x2e90e⟩]⟩,
  -- APLL_STAT (spec/10_synthesis_and_clock_outputs.md)
  ⟨0x8000c, [(0x100, 3)], (0, 1), [⟨23, 16, .ro, 0⟩, ⟨8, 8, .ro, 0⟩, ⟨4, 4, .ro, 0⟩, ⟨1, 0, .ro, 0⟩]⟩,
  -- APLL_EVT (spec/10_synthesis_and_clock_outputs.md)
  ⟨0x80010, [(0x100, 3)], (0, 1), [⟨3, 3, .wc, 0⟩, ⟨2, 2, .wc, 0⟩, ⟨1, 1, .wc, 0⟩, ⟨0, 0, .wc, 0⟩]⟩,
  -- APLL_EVT_EN (spec/10_synthesis_and_clock_outputs.md)
  ⟨0x80014, [(0x100, 3)], (0, 1), [⟨3, 0, .rw, 0xf⟩]⟩,
  -- APLL_LOSS (spec/10_synthesis_and_clock_outputs.md)
  ⟨0x80018, [(0x100, 3)], (0, 1), [⟨31, 16, .rc, 0⟩, ⟨15, 0, .rc, 0⟩]⟩,
  -- SYN_BAND (spec/10_synthesis_and_clock_outputs.md)
  ⟨0x81000, [(0x400, 3), (0x4, 256)], (0, 1), [⟨31, 31, .rw, 0⟩, ⟨27, 14, .rw, 0⟩, ⟨13, 0, .rw, 0⟩]⟩,
  -- OUT_CFG (spec/10_synthesis_and_clock_outputs.md)
  ⟨0x82000, [(0x40, 12)], (0, 1), [⟨16, 16, .rw, 0⟩, ⟨15, 15, .rw, 1⟩, ⟨14, 14, .rw, 1⟩, ⟨13, 12, .rw, 1⟩, ⟨10, 8, .rw, 0⟩, ⟨5, 4, .rw, 0⟩, ⟨0, 0, .rw, 0⟩]⟩,
  -- OUT_DIV_NEXT0 (spec/10_synthesis_and_clock_outputs.md)
  ⟨0x82004, [(0x40, 12)], (0, 2), [⟨27, 16, .rw, 0⟩, ⟨7, 0, .rw, 0x50⟩]⟩,
  -- OUT_DIV_NEXT1 (spec/10_synthesis_and_clock_outputs.md)
  ⟨0x82008, [(0x40, 12)], (1, 2), [⟨31, 0, .rw, 1⟩]⟩,
  -- OUT_DIV_NOW0 (spec/10_synthesis_and_clock_outputs.md)
  ⟨0x8200c, [(0x40, 12)], (0, 2), [⟨27, 16, .ro, 0⟩, ⟨7, 0, .ro, 0x50⟩]⟩,
  -- OUT_DIV_NOW1 (spec/10_synthesis_and_clock_outputs.md)
  ⟨0x82010, [(0x40, 12)], (1, 2), [⟨31, 0, .ro, 1⟩]⟩,
  -- OUT_STAT (spec/10_synthesis_and_clock_outputs.md)
  ⟨0x82014, [(0x40, 12)], (0, 1), [⟨5, 5, .ro, 0⟩, ⟨4, 4, .ro, 0⟩, ⟨2, 0, .ro, 0⟩]⟩,
  -- SYN_UPDATE (spec/10_synthesis_and_clock_outputs.md)
  ⟨0x83000, [], (0, 1), [⟨31, 31, .wo, 0⟩, ⟨11, 0, .rw, 0⟩]⟩,
  -- SYN_SYNCIN (spec/10_synthesis_and_clock_outputs.md)
  ⟨0x83004, [], (0, 1), [⟨17, 17, .wc, 0⟩, ⟨16, 16, .rw, 0⟩, ⟨11, 0, .ws, 0⟩]⟩,
  -- OUT_EVT (spec/10_synthesis_and_clock_outputs.md)
  ⟨0x83008, [], (0, 1), [⟨16, 16, .wc, 0⟩, ⟨11, 0, .wc, 0⟩]⟩,
  -- OUT_EVT_EN (spec/10_synthesis_and_clock_outputs.md)
  ⟨0x8300c, [], (0, 1), [⟨16, 16, .rw, 1⟩, ⟨11, 0, .rw, 0xfff⟩]⟩,
  -- TSU_PLL (spec/10_synthesis_and_clock_outputs.md)
  ⟨0x83010, [], (0, 1), [⟨31, 16, .ro, 0⟩, ⟨2, 2, .wc, 0⟩, ⟨1, 1, .ro, 0⟩, ⟨0, 0, .ro, 0⟩]⟩
  ]

/-- Registers of block group spine0A, part 0. -/
def rows_spine0A_0 : List RegRow := [
  -- GNSS_CTRL (spec/11_gnss_baseband.md)
  ⟨0xa0000, [], (0, 1), [⟨0, 0, .rw, 0⟩]⟩,
  -- GNSS_PORT_CFG (spec/11_gnss_baseband.md)
  ⟨0xa0010, [(0x10, 2)], (0, 1), [⟨31, 31, .rw, 0⟩, ⟨8, 8, .rw, 0⟩, ⟨1, 0, .rw, 0⟩]⟩,
  -- GNSS_PORT_LO (spec/11_gnss_baseband.md)
  ⟨0xa0014, [(0x10, 2)], (0, 1), [⟨31, 0, .rw, 0x5d795c80⟩]⟩,
  -- GNSS_PORT_STAT (spec/11_gnss_baseband.md)
  ⟨0xa0018, [(0x10, 2)], (0, 1), [⟨2, 2, .ro, 0⟩, ⟨1, 1, .ro, 0⟩, ⟨0, 0, .ro, 0⟩]⟩,
  -- GNSS_PORT_FMEAS (spec/11_gnss_baseband.md)
  ⟨0xa001c, [(0x10, 2)], (0, 1), [⟨31, 0, .ro, 0⟩]⟩,
  -- GNSS_ACQ_REQ0 (spec/11_gnss_baseband.md)
  ⟨0xa0100, [], (0, 1), [⟨31, 31, .wo, 0⟩, ⟨30, 30, .rw, 0⟩, ⟨29, 24, .rw, 0⟩, ⟨18, 16, .rw, 0⟩, ⟨7, 0, .rw, 1⟩]⟩,
  -- GNSS_ACQ_REQ1 (spec/11_gnss_baseband.md)
  ⟨0xa0104, [], (0, 1), [⟨31, 16, .rw, 0⟩, ⟨15, 8, .rw, 0xa⟩, ⟨7, 0, .rw, 1⟩]⟩,
  -- GNSS_ACQ_REQ2 (spec/11_gnss_baseband.md)
  ⟨0xa0108, [], (0, 1), [⟨9, 0, .rw, 0x140⟩]⟩,
  -- GNSS_ACQ_STAT (spec/11_gnss_baseband.md)
  ⟨0xa010c, [], (0, 1), [⟨12, 8, .ro, 0⟩, ⟨4, 0, .ro, 0⟩]⟩,
  -- GNSS_ACQ_RES0 (spec/11_gnss_baseband.md)
  ⟨0xa0110, [], (0, 1), [⟨31, 28, .ro, 0⟩, ⟨18, 16, .ro, 0⟩, ⟨13, 8, .ro, 0⟩, ⟨7, 0, .ro, 0⟩]⟩,
  -- GNSS_ACQ_RES1 (spec/11_gnss_baseband.md)
  ⟨0xa0114, [], (0, 1), [⟨31, 0, .ro, 0⟩]⟩,
  -- GNSS_ACQ_RES2 (spec/11_gnss_baseband.md)
  ⟨0xa0118, [], (0, 1), [⟨31, 0, .ro, 0⟩]⟩,
  -- GNSS_ACQ_RES3 (spec/11_gnss_baseband.md)
  ⟨0xa011c, [], (0, 1), [⟨15, 0, .ro, 0⟩]⟩,
  -- KETTLE_CTRL (spec/11_gnss_baseband.md)
  ⟨0xa0200, [], (0, 1), [⟨31, 31, .rw, 0⟩, ⟨30, 30, .rw, 0⟩, ⟨29, 24, .rw, 5⟩, ⟨23, 16, .rw, 0x28⟩, ⟨15, 8, .rw, 0x32⟩, ⟨3, 0, .rw, 3⟩]⟩,
  -- KETTLE_STAT (spec/11_gnss_baseband.md)
  ⟨0xa0204, [], (0, 1), [⟨1, 1, .ro, 0⟩, ⟨0, 0, .ro, 0⟩]⟩,
  -- KETTLE_CNT (spec/11_gnss_baseband.md)
  ⟨0xa0208, [], (0, 1), [⟨31, 16, .rc, 0⟩, ⟨15, 0, .rc, 0⟩]⟩,
  -- GNSS_EPOCH_STAT (spec/11_gnss_baseband.md)
  ⟨0xa0300, [], (0, 1), [⟨31, 16, .ro, 0⟩, ⟨0, 0, .ro, 0⟩]⟩,
  -- GNSS_EPOCH_TIME0 (spec/11_gnss_baseband.md)
  ⟨0xa0304, [], (0, 3), [⟨31, 0, .ro, 0⟩]⟩,
  -- GNSS_EPOCH_TIME1 (spec/11_gnss_baseband.md)
  ⟨0xa0308, [], (1, 3), [⟨31, 0, .ro, 0⟩]⟩,
  -- GNSS_EPOCH_TIME2 (spec/11_gnss_baseband.md)
  ⟨0xa030c, [], (2, 3), [⟨31, 0, .ro, 0⟩]⟩
  ]

/-- Registers of block group spine0A, part 1. -/
def rows_spine0A_1 : List RegRow := [
  -- GNSS_NAV_STAT (spec/11_gnss_baseband.md)
  ⟨0xa0400, [], (0, 1), [⟨31, 16, .ro, 0⟩, ⟨11, 11, .wo, 0⟩, ⟨10, 10, .wc, 0⟩, ⟨9, 0, .ro, 0⟩]⟩,
  -- GNSS_NAV_REC (spec/11_gnss_baseband.md)
  ⟨0xa0440, [(0x4, 16)], (0, 1), [⟨31, 0, .ro, 0⟩]⟩,
  -- GNSS_EVT (spec/11_gnss_baseband.md)
  ⟨0xa0500, [], (0, 1), [⟨10, 10, .wc, 0⟩, ⟨9, 9, .wc, 0⟩, ⟨8, 8, .wc, 0⟩, ⟨7, 7, .wc, 0⟩, ⟨6, 6, .wc, 0⟩, ⟨5, 5, .wc, 0⟩, ⟨4, 4, .wc, 0⟩, ⟨3, 3, .wc, 0⟩, ⟨2, 2, .wc, 0⟩, ⟨1, 1, .wc, 0⟩, ⟨0, 0, .wc, 0⟩]⟩,
  -- GNSS_EVT_EN (spec/11_gnss_baseband.md)
  ⟨0xa0504, [], (0, 1), [⟨10, 0, .rw, 0x74b⟩]⟩,
  -- GNSS_FW_EVT (spec/11_gnss_baseband.md)
  ⟨0xa0508, [], (0, 1), [⟨4, 4, .wc, 0⟩, ⟨3, 3, .wc, 0⟩, ⟨2, 2, .wc, 0⟩, ⟨1, 1, .wc, 0⟩, ⟨0, 0, .wc, 0⟩]⟩,
  -- GNSS_SOL_STAT (spec/11_gnss_baseband.md)
  ⟨0xa0510, [], (0, 1), [⟨15, 8, .ro, 0⟩, ⟨1, 0, .ro, 0⟩]⟩,
  -- GNSS_SOL_OFFSET0 (spec/11_gnss_baseband.md)
  ⟨0xa0514, [], (0, 2), [⟨31, 0, .ro, 0⟩]⟩,
  -- GNSS_SOL_OFFSET1 (spec/11_gnss_baseband.md)
  ⟨0xa0518, [], (1, 2), [⟨31, 0, .ro, 0⟩]⟩,
  -- GNSS_CH_CTRL (spec/11_gnss_baseband.md)
  ⟨0xa1000, [(0x40, 64)], (0, 1), [⟨31, 31, .wo, 0⟩, ⟨30, 30, .wo, 0⟩, ⟨29, 29, .rw, 0⟩, ⟨18, 16, .rw, 0⟩, ⟨7, 0, .rw, 1⟩]⟩,
  -- GNSS_CH_INIT_CODE (spec/11_gnss_baseband.md)
  ⟨0xa1004, [(0x40, 64)], (0, 1), [⟨31, 0, .rw, 0⟩]⟩,
  -- GNSS_CH_INIT_DOPPLER (spec/11_gnss_baseband.md)
  ⟨0xa1008, [(0x40, 64)], (0, 1), [⟨31, 0, .rw, 0⟩]⟩,
  -- GNSS_CH_LOOP (spec/11_gnss_baseband.md)
  ⟨0xa100c, [(0x40, 64)], (0, 1), [⟨31, 24, .rw, 0x14⟩, ⟨21, 16, .rw, 0xf⟩, ⟨12, 8, .rw, 0xa⟩, ⟨2, 0, .rw, 0⟩]⟩,
  -- GNSS_CH_TAPS0 (spec/11_gnss_baseband.md)
  ⟨0xa1010, [(0x40, 64)], (0, 2), [⟨31, 0, .rw, 0xf8f0e0⟩]⟩,
  -- GNSS_CH_TAPS1 (spec/11_gnss_baseband.md)
  ⟨0xa1014, [(0x40, 64)], (1, 2), [⟨31, 0, .rw, 0xc0201000⟩]⟩,
  -- GNSS_CH_THR (spec/11_gnss_baseband.md)
  ⟨0xa1018, [(0x40, 64)], (0, 1), [⟨15, 8, .rw, 0x3c⟩, ⟨7, 0, .rw, 0x32⟩]⟩,
  -- GNSS_CH_STAT (spec/11_gnss_baseband.md)
  ⟨0xa101c, [(0x40, 64)], (0, 1), [⟨31, 16, .ro, 0⟩, ⟨11, 11, .ro, 0⟩, ⟨10, 10, .ro, 0⟩, ⟨9, 9, .ro, 0⟩, ⟨8, 8, .ro, 0⟩, ⟨3, 0, .ro, 0⟩]⟩,
  -- GNSS_MEAS (spec/11_gnss_baseband.md)
  ⟨0xa4000, [(0x800, 2), (0x20, 64), (0x4, 3)], (0, 1), [⟨31, 0, .ro, 0⟩]⟩,
  ⟨0xa400c, [(0x800, 2), (0x20, 64)], (0, 2), [⟨31, 0, .ro, 0⟩]⟩,
  ⟨0xa4010, [(0x800, 2), (0x20, 64)], (1, 2), [⟨31, 0, .ro, 0⟩]⟩,
  ⟨0xa4014, [(0x800, 2), (0x20, 64), (0x4, 3)], (0, 1), [⟨31, 0, .ro, 0⟩]⟩
  ]

/-- Registers of block group spine0A. -/
def rows_spine0A : List RegRow :=
  rows_spine0A_0 ++ rows_spine0A_1

/-- Registers of block group spine0C, part 0. -/
def rows_spine0C : List RegRow := [
  -- CAL_REQ (spec/17_calibration_and_monitors.md)
  ⟨0xc0000, [(0x10, 2)], (0, 1), [⟨31, 31, .wo, 0⟩, ⟨27, 24, .rw, 0⟩, ⟨8, 0, .rw, 0⟩]⟩,
  -- CAL_REQ_STAT (spec/17_calibration_and_monitors.md)
  ⟨0xc0004, [(0x10, 2)], (0, 1), [⟨31, 28, .ro, 0⟩, ⟨1, 1, .wc, 0⟩, ⟨0, 0, .ro, 0⟩]⟩,
  -- CAL_ITEM_CFG (spec/17_calibration_and_monitors.md)
  ⟨0xc0110, [(0x10, 7)], (0, 1), [⟨31, 16, .rw, 0⟩, ⟨1, 0, .rw, 2⟩]⟩,
  -- CAL_ITEM_CNT (spec/17_calibration_and_monitors.md)
  ⟨0xc0114, [(0x10, 7)], (0, 1), [⟨31, 16, .rc, 0⟩, ⟨15, 0, .rc, 0⟩]⟩,
  -- CAL_EVT (spec/17_calibration_and_monitors.md)
  ⟨0xc0200, [], (0, 1), [⟨2, 2, .wc, 0⟩, ⟨1, 1, .wc, 0⟩, ⟨0, 0, .wc, 0⟩]⟩,
  -- CAL_EVT_EN (spec/17_calibration_and_monitors.md)
  ⟨0xc0204, [], (0, 1), [⟨2, 0, .rw, 6⟩]⟩,
  -- CAL_MON_TEMP (spec/17_calibration_and_monitors.md)
  ⟨0xc0400, [(0x4, 10)], (0, 1), [⟨31, 31, .ro, 0⟩, ⟨30, 30, .ro, 0⟩, ⟨15, 0, .ro, 0⟩]⟩,
  -- CAL_MON_TEMP_LIM (spec/17_calibration_and_monitors.md)
  ⟨0xc0440, [(0x4, 10)], (0, 1), [⟨15, 8, .rw, 0x6e⟩, ⟨7, 0, .rw, 0xd3⟩]⟩,
  -- CAL_MON_VOLT (spec/17_calibration_and_monitors.md)
  ⟨0xc0500, [(0x4, 27)], (0, 1), [⟨31, 31, .ro, 0⟩, ⟨30, 30, .ro, 0⟩, ⟨15, 0, .ro, 0⟩]⟩,
  -- CAL_MON_VOLT_LIM (spec/17_calibration_and_monitors.md)
  ⟨0xc0600, [(0x4, 27)], (0, 1), [⟨31, 16, .rw, 0xffff⟩, ⟨15, 0, .rw, 0⟩]⟩,
  -- CAL_MON_TEMP_EVT (spec/17_calibration_and_monitors.md)
  ⟨0xc0700, [], (0, 1), [⟨9, 0, .wc, 0⟩]⟩,
  -- CAL_MON_VOLT_EVT (spec/17_calibration_and_monitors.md)
  ⟨0xc0704, [], (0, 1), [⟨26, 0, .wc, 0⟩]⟩,
  -- CAL_RES (spec/17_calibration_and_monitors.md)
  ⟨0xc2000, [(0x800, 7), (0x4, 258)], (0, 1), [⟨31, 0, .ro, 0xf0000000⟩]⟩
  ]

/-- Registers of block group spine0D, part 0. -/
def rows_spine0D : List RegRow := [
  -- TEL_CTRL (spec/18_counters_and_colophon_sampling.md)
  ⟨0xd0000, [], (0, 1), [⟨1, 1, .ro, 0⟩, ⟨0, 0, .rw, 0⟩]⟩,
  -- TEL_SNAP (spec/18_counters_and_colophon_sampling.md)
  ⟨0xd0004, [], (0, 1), [⟨31, 16, .ro, 0⟩, ⟨0, 0, .ro, 0⟩]⟩,
  -- TEL_SNAP_REQ (spec/18_counters_and_colophon_sampling.md)
  ⟨0xd0008, [], (0, 1), [⟨31, 31, .wo, 0⟩, ⟨8, 0, .rw, 0x1ff⟩]⟩,
  -- TEL_SNAP_MASK0 (spec/18_counters_and_colophon_sampling.md)
  ⟨0xd0010, [], (0, 2), [⟨31, 0, .rw, 0x3f⟩]⟩,
  -- TEL_SNAP_MASK1 (spec/18_counters_and_colophon_sampling.md)
  ⟨0xd0014, [], (1, 2), [⟨31, 0, .rw, 0⟩]⟩,
  -- TEL_SNAP_TIME0 (spec/18_counters_and_colophon_sampling.md)
  ⟨0xd0018, [], (0, 3), [⟨31, 0, .ro, 0⟩]⟩,
  -- TEL_SNAP_TIME1 (spec/18_counters_and_colophon_sampling.md)
  ⟨0xd001c, [], (1, 3), [⟨31, 0, .ro, 0⟩]⟩,
  -- TEL_SNAP_TIME2 (spec/18_counters_and_colophon_sampling.md)
  ⟨0xd0020, [], (2, 3), [⟨31, 0, .ro, 0⟩]⟩,
  -- TEL_USER_MASK (spec/18_counters_and_colophon_sampling.md)
  ⟨0xd0030, [], (0, 1), [⟨4, 0, .rw, 0⟩]⟩,
  -- TEL_OOS_DROP0 (spec/18_counters_and_colophon_sampling.md)
  ⟨0xd0040, [(0x8, 8)], (0, 2), [⟨31, 0, .ro, 0⟩]⟩,
  -- TEL_OOS_DROP1 (spec/18_counters_and_colophon_sampling.md)
  ⟨0xd0044, [(0x8, 8)], (1, 2), [⟨31, 0, .ro, 0⟩]⟩,
  -- TEL_EVT (spec/18_counters_and_colophon_sampling.md)
  ⟨0xd0080, [], (0, 1), [⟨1, 1, .wc, 0⟩, ⟨0, 0, .wc, 0⟩]⟩,
  -- TEL_EVT_EN (spec/18_counters_and_colophon_sampling.md)
  ⟨0xd0084, [], (0, 1), [⟨1, 0, .rw, 2⟩]⟩
  ]

/-- Registers of block group spine0E, part 0. -/
def rows_spine0E : List RegRow := [
  -- CLM_CTRL (spec/12_claims_and_failover.md)
  ⟨0xe0000, [], (0, 1), [⟨31, 16, .rw, 0⟩, ⟨15, 8, .rw, 3⟩, ⟨0, 0, .rw, 0⟩]⟩,
  -- CLM_ID (spec/12_claims_and_failover.md)
  ⟨0xe0004, [], (0, 1), [⟨11, 0, .rw, 1⟩]⟩,
  -- CLM_WTR (spec/12_claims_and_failover.md)
  ⟨0xe0008, [], (0, 1), [⟨11, 0, .rw, 0x3c⟩]⟩,
  -- CLM_HB_PORTS (spec/12_claims_and_failover.md)
  ⟨0xe0010, [(0x4, 9)], (0, 1), [⟨31, 0, .rw, 0⟩]⟩,
  -- CLM_CMD (spec/12_claims_and_failover.md)
  ⟨0xe0040, [], (0, 1), [⟨31, 31, .wo, 0⟩, ⟨25, 24, .rw, 0⟩, ⟨19, 16, .rw, 0⟩, ⟨11, 0, .rw, 0⟩]⟩,
  -- CLM_CMD_STAT (spec/12_claims_and_failover.md)
  ⟨0xe0044, [], (0, 1), [⟨1, 0, .ro, 0⟩]⟩,
  -- CLM_EVT (spec/12_claims_and_failover.md)
  ⟨0xe0048, [], (0, 1), [⟨31, 16, .wc, 0⟩, ⟨3, 3, .wc, 0⟩, ⟨2, 2, .wc, 0⟩, ⟨1, 1, .wc, 0⟩, ⟨0, 0, .wc, 0⟩]⟩,
  -- CLM_EVT_EN (spec/12_claims_and_failover.md)
  ⟨0xe004c, [], (0, 1), [⟨31, 16, .rw, 0xffff⟩, ⟨3, 0, .rw, 0xf⟩]⟩,
  -- CLM_DOM_CFG (spec/12_claims_and_failover.md)
  ⟨0xe0100, [(0x20, 16)], (0, 1), [⟨9, 9, .rw, 1⟩, ⟨8, 8, .rw, 1⟩, ⟨7, 4, .rw, 1⟩, ⟨1, 0, .rw, 0⟩]⟩,
  -- CLM_DOM_PEERS (spec/12_claims_and_failover.md)
  ⟨0xe0104, [(0x20, 16)], (0, 1), [⟨27, 16, .rw, 0⟩, ⟨11, 0, .rw, 0⟩]⟩,
  -- CLM_DOM_CLAIM (spec/12_claims_and_failover.md)
  ⟨0xe0108, [(0x20, 16)], (0, 1), [⟨31, 16, .ro, 0⟩, ⟨15, 0, .ro, 0⟩]⟩,
  -- CLM_DOM_STAT (spec/12_claims_and_failover.md)
  ⟨0xe010c, [(0x20, 16)], (0, 1), [⟨24, 16, .ro, 0⟩, ⟨15, 12, .ro, 0⟩, ⟨9, 9, .ro, 0⟩, ⟨8, 8, .ro, 0⟩, ⟨2, 0, .ro, 0⟩]⟩,
  -- CLM_DOM_NOTICE (spec/12_claims_and_failover.md)
  ⟨0xe0110, [(0x20, 16)], (0, 1), [⟨31, 16, .ro, 0⟩, ⟨15, 14, .ro, 0⟩, ⟨11, 0, .ro, 0⟩]⟩,
  -- CLM_DOM_REMAIN (spec/12_claims_and_failover.md)
  ⟨0xe0114, [(0x20, 16)], (0, 1), [⟨15, 0, .ro, 0⟩]⟩,
  -- CLM_DOM_REFUSED (spec/12_claims_and_failover.md)
  ⟨0xe0118, [(0x20, 16)], (0, 1), [⟨31, 0, .rc, 0⟩]⟩,
  -- CLM_DOM_SWITCHES (spec/12_claims_and_failover.md)
  ⟨0xe011c, [(0x20, 16)], (0, 1), [⟨31, 0, .rc, 0⟩]⟩
  ]

/-- Registers of block group spine0F, part 0. -/
def rows_spine0F : List RegRow := [
  -- DMA_WORLD (spec/15_host_interface_and_mailboxes.md)
  ⟨0xf0004, [], (0, 1), [⟨31, 16, .rw, 0⟩, ⟨15, 0, .rw, 0⟩]⟩,
  -- DMA_RX_MAP (spec/15_host_interface_and_mailboxes.md)
  ⟨0xf0010, [], (0, 1), [⟨31, 0, .rw, 0⟩]⟩,
  -- DMA_RX_MAP2 (spec/15_host_interface_and_mailboxes.md)
  ⟨0xf0014, [], (0, 1), [⟨9, 9, .rw, 0⟩, ⟨8, 8, .rw, 0⟩, ⟨7, 4, .rw, 0⟩, ⟨3, 0, .rw, 0⟩]⟩,
  -- DMA_TX_EVT (spec/15_host_interface_and_mailboxes.md)
  ⟨0xf0020, [], (0, 1), [⟨15, 0, .wc, 0⟩]⟩,
  -- DMA_RX_EVT (spec/15_host_interface_and_mailboxes.md)
  ⟨0xf0024, [], (0, 1), [⟨15, 0, .wc, 0⟩]⟩,
  -- DMA_ERR_EVT (spec/15_host_interface_and_mailboxes.md)
  ⟨0xf0028, [], (0, 1), [⟨31, 16, .wc, 0⟩, ⟨15, 0, .wc, 0⟩]⟩,
  -- DMA_TX_EVT_EN (spec/15_host_interface_and_mailboxes.md)
  ⟨0xf0030, [], (0, 1), [⟨15, 0, .rw, 0xffff⟩]⟩,
  -- DMA_RX_EVT_EN (spec/15_host_interface_and_mailboxes.md)
  ⟨0xf0034, [], (0, 1), [⟨15, 0, .rw, 0xffff⟩]⟩,
  -- DMA_ERR_EVT_EN (spec/15_host_interface_and_mailboxes.md)
  ⟨0xf0038, [], (0, 1), [⟨31, 16, .rw, 0xffff⟩, ⟨15, 0, .rw, 0xffff⟩]⟩,
  -- RING_BASE0 (spec/15_host_interface_and_mailboxes.md)
  ⟨0xf1000, [(0x1000, 2), (0x40, 16)], (0, 2), [⟨31, 0, .rw, 0⟩]⟩,
  -- RING_BASE1 (spec/15_host_interface_and_mailboxes.md)
  ⟨0xf1004, [(0x1000, 2), (0x40, 16)], (1, 2), [⟨31, 0, .rw, 0⟩]⟩,
  -- RING_LOG2 (spec/15_host_interface_and_mailboxes.md)
  ⟨0xf1008, [(0x1000, 2), (0x40, 16)], (0, 1), [⟨4, 0, .rw, 6⟩]⟩,
  -- RING_TAIL (spec/15_host_interface_and_mailboxes.md)
  ⟨0xf100c, [(0x1000, 2), (0x40, 16)], (0, 1), [⟨15, 0, .rw, 0⟩]⟩,
  -- RING_HEAD (spec/15_host_interface_and_mailboxes.md)
  ⟨0xf1010, [(0x1000, 2), (0x40, 16)], (0, 1), [⟨15, 0, .ro, 0⟩]⟩,
  -- RING_CTRL of a transmit ring (spec/15_host_interface_and_mailboxes.md)
  ⟨0xf1014, [(0x40, 16)], (0, 1), [⟨31, 31, .rw, 0⟩, ⟨28, 24, .rw, 0⟩, ⟨23, 23, .rw, 0⟩, ⟨18, 16, .rw, 0⟩, ⟨7, 0, .rw, 0xa⟩]⟩,
  -- RING_CTRL of a receive ring (spec/15_host_interface_and_mailboxes.md)
  ⟨0xf2014, [(0x40, 16)], (0, 1), [⟨31, 31, .rw, 0⟩, ⟨28, 24, .rw, 0⟩, ⟨23, 23, .rw, 0⟩, ⟨11, 8, .rw, 2⟩]⟩,
  -- RING_SIG (spec/15_host_interface_and_mailboxes.md)
  ⟨0xf1018, [(0x1000, 2), (0x40, 16)], (0, 1), [⟨31, 16, .rw, 0⟩, ⟨7, 0, .rw, 1⟩]⟩,
  -- RING_STAT (spec/15_host_interface_and_mailboxes.md)
  ⟨0xf101c, [(0x1000, 2), (0x40, 16)], (0, 1), [⟨2, 2, .wc, 0⟩, ⟨1, 1, .wc, 0⟩, ⟨0, 0, .ro, 1⟩]⟩,
  -- RING_DROPS (spec/15_host_interface_and_mailboxes.md)
  ⟨0xf1020, [(0x1000, 2), (0x40, 16)], (0, 1), [⟨31, 16, .rc, 0⟩, ⟨15, 0, .rc, 0⟩]⟩
  ]

/-- Registers of block group spine10, part 0. -/
def rows_spine10 : List RegRow := [
  -- XBAR_CAL (spec/06_buffer_and_crossing.md)
  ⟨0x100000, [(0x100, 9), (0x4, 64)], (0, 1), [⟨8, 0, .rw, 0⟩]⟩,
  -- XBAR_LINK_STAT (spec/06_buffer_and_crossing.md)
  ⟨0x101000, [(0x10, 9)], (0, 1), [⟨8, 8, .ro, 0⟩, ⟨3, 0, .ro, 0⟩]⟩,
  -- XBAR_LINK_CRC_ERR (spec/06_buffer_and_crossing.md)
  ⟨0x101004, [(0x10, 9)], (0, 1), [⟨31, 0, .rc, 0⟩]⟩,
  -- XBAR_EVT (spec/06_buffer_and_crossing.md)
  ⟨0x101100, [], (0, 1), [⟨2, 2, .wc, 0⟩, ⟨1, 1, .wc, 0⟩, ⟨0, 0, .wc, 0⟩]⟩,
  -- XBAR_EVT_EN (spec/06_buffer_and_crossing.md)
  ⟨0x101104, [], (0, 1), [⟨2, 0, .rw, 7⟩]⟩
  ]

/-- Registers of block group spine12, part 0. -/
def rows_spine12 : List RegRow := [
  -- SPB_QLIM (spec/06_buffer_and_crossing.md)
  ⟨0x120000, [(0x20, 4), (0x4, 8)], (0, 1), [⟨14, 0, .rw, 0x200⟩]⟩,
  -- SPB_PLIM (spec/06_buffer_and_crossing.md)
  ⟨0x120080, [(0x4, 4)], (0, 1), [⟨14, 0, .rw, 0x1000⟩]⟩,
  -- SPB_POOL (spec/06_buffer_and_crossing.md)
  ⟨0x120090, [], (0, 1), [⟨31, 31, .ro, 0⟩, ⟨14, 0, .ro, 0x4000⟩]⟩,
  -- SPB_XQ_CFG (spec/06_buffer_and_crossing.md)
  ⟨0x120094, [], (0, 1), [⟨19, 0, .rw, 0x1f40⟩]⟩,
  -- SPB_QLEVEL (spec/06_buffer_and_crossing.md)
  ⟨0x120100, [(0x20, 4), (0x4, 8)], (0, 1), [⟨14, 0, .ro, 0⟩]⟩,
  -- SPB_PLEVEL (spec/06_buffer_and_crossing.md)
  ⟨0x120180, [(0x4, 4)], (0, 1), [⟨14, 0, .ro, 0⟩]⟩
  ]

/-- Registers of block group spine17, part 0. -/
def rows_spine17_0 : List RegRow := [
  -- LANE_CTRL (spec/03_lanes.md)
  ⟨0x170000, [(0x1000, 2)], (0, 1), [⟨11, 10, .rw, 2⟩, ⟨9, 9, .rw, 0⟩, ⟨8, 8, .rw, 0⟩, ⟨5, 4, .rw, 0⟩, ⟨1, 1, .wo, 0⟩, ⟨0, 0, .rw, 0⟩]⟩,
  -- LANE_STATE (spec/03_lanes.md)
  ⟨0x170004, [(0x1000, 2)], (0, 1), [⟨31, 24, .ro, 0⟩, ⟨23, 20, .ro, 0⟩, ⟨16, 16, .ro, 0⟩, ⟨15, 15, .ro, 0⟩, ⟨14, 14, .ro, 0⟩, ⟨11, 8, .ro, 0⟩, ⟨3, 0, .ro, 0⟩]⟩,
  -- LANE_EVT (spec/03_lanes.md)
  ⟨0x170008, [(0x1000, 2)], (0, 1), [⟨6, 6, .wc, 0⟩, ⟨5, 5, .wc, 0⟩, ⟨4, 4, .wc, 0⟩, ⟨3, 3, .wc, 0⟩, ⟨2, 2, .wc, 0⟩, ⟨1, 1, .wc, 0⟩, ⟨0, 0, .wc, 0⟩]⟩,
  -- LANE_EVT_EN (spec/03_lanes.md)
  ⟨0x17000c, [(0x1000, 2)], (0, 1), [⟨6, 0, .rw, 0x3a⟩]⟩,
  -- LANE_TIMERS (spec/03_lanes.md)
  ⟨0x170010, [(0x1000, 2)], (0, 1), [⟨31, 20, .rw, 0x1f4⟩, ⟨19, 10, .rw, 0x64⟩, ⟨9, 0, .rw, 0x64⟩]⟩,
  -- LANE_RETRY (spec/03_lanes.md)
  ⟨0x170014, [(0x1000, 2)], (0, 1), [⟨31, 24, .rw, 8⟩, ⟨23, 16, .rw, 0x14⟩, ⟨15, 8, .rw, 0x14⟩, ⟨7, 4, .rw, 6⟩]⟩,
  -- LANE_FFE (spec/03_lanes.md)
  ⟨0x170020, [(0x1000, 2)], (0, 1), [⟨31, 24, .rw, 0⟩, ⟨23, 16, .rw, 0⟩, ⟨15, 8, .rw, 0x3f⟩, ⟨7, 0, .rw, 0⟩]⟩,
  -- LANE_FFE_P2 (spec/03_lanes.md)
  ⟨0x170024, [(0x1000, 2)], (0, 1), [⟨31, 31, .wo, 0⟩, ⟨7, 0, .rw, 0⟩]⟩,
  -- LANE_FFE_NOW (spec/03_lanes.md)
  ⟨0x170028, [(0x1000, 2)], (0, 1), [⟨31, 24, .ro, 0⟩, ⟨23, 16, .ro, 0⟩, ⟨15, 8, .ro, 0x3f⟩, ⟨7, 0, .ro, 0⟩]⟩,
  -- LANE_FFE_NOW_P2 (spec/03_lanes.md)
  ⟨0x17002c, [(0x1000, 2)], (0, 1), [⟨7, 0, .ro, 0⟩]⟩,
  -- LANE_CTLE (spec/03_lanes.md)
  ⟨0x170030, [(0x1000, 2)], (0, 1), [⟨20, 16, .ro, 0xa⟩, ⟨4, 0, .rw, 0xa⟩]⟩,
  -- LANE_DFE (spec/03_lanes.md)
  ⟨0x170034, [(0x1000, 2)], (0, 1), [⟨23, 16, .rw, 0⟩, ⟨15, 8, .rw, 0⟩, ⟨7, 0, .rw, 0⟩]⟩,
  -- LANE_DFE_NOW (spec/03_lanes.md)
  ⟨0x170038, [(0x1000, 2)], (0, 1), [⟨23, 16, .ro, 0⟩, ⟨15, 8, .ro, 0⟩, ⟨7, 0, .ro, 0⟩]⟩,
  -- LANE_ADAPT (spec/03_lanes.md)
  ⟨0x170040, [(0x1000, 2)], (0, 1), [⟨31, 16, .rw, 0x1000⟩, ⟨15, 0, .rw, 0x100⟩]⟩,
  -- LANE_LOCK_LOSS (spec/03_lanes.md)
  ⟨0x170050, [(0x1000, 2)], (0, 1), [⟨15, 0, .rc, 0⟩]⟩,
  -- LANE_ESCAN_CTRL (spec/03_lanes.md)
  ⟨0x170080, [(0x1000, 2)], (0, 1), [⟨31, 31, .wo, 0⟩, ⟨30, 30, .wo, 0⟩, ⟨29, 24, .rw, 0x14⟩, ⟨21, 20, .rw, 0⟩, ⟨15, 8, .rw, 0⟩, ⟨5, 0, .rw, 0⟩]⟩,
  -- LANE_ESCAN_STAT (spec/03_lanes.md)
  ⟨0x170084, [(0x1000, 2)], (0, 1), [⟨7, 4, .ro, 0⟩, ⟨3, 3, .wc, 0⟩, ⟨2, 2, .wc, 0⟩, ⟨1, 1, .wc, 0⟩, ⟨0, 0, .ro, 0⟩]⟩,
  -- LANE_ESCAN_BITS0 (spec/03_lanes.md)
  ⟨0x170088, [(0x1000, 2)], (0, 2), [⟨31, 0, .ro, 0⟩]⟩,
  -- LANE_ESCAN_BITS1 (spec/03_lanes.md)
  ⟨0x17008c, [(0x1000, 2)], (1, 2), [⟨31, 0, .ro, 0⟩]⟩,
  -- LANE_ESCAN_ERR0 (spec/03_lanes.md)
  ⟨0x170090, [(0x1000, 2)], (0, 2), [⟨31, 0, .ro, 0⟩]⟩
  ]

/-- Registers of block group spine17, part 1. -/
def rows_spine17_1 : List RegRow := [
  -- LANE_ESCAN_ERR1 (spec/03_lanes.md)
  ⟨0x170094, [(0x1000, 2)], (1, 2), [⟨31, 0, .ro, 0⟩]⟩
  ]

/-- Registers of block group spine17. -/
def rows_spine17 : List RegRow :=
  rows_spine17_0 ++ rows_spine17_1

/-- Registers of block group spine18, part 0. -/
def rows_spine18 : List RegRow := [
  -- PORT_MODE (spec/04_ports_and_timestamps.md)
  ⟨0x180000, [(0x1000, 2)], (0, 1), [⟨10, 8, .rw, 0⟩, ⟨5, 0, .rw, 0⟩]⟩,
  -- PORT_MAC (spec/04_ports_and_timestamps.md)
  ⟨0x180004, [(0x1000, 2)], (0, 1), [⟨13, 0, .rw, 0x2400⟩]⟩,
  -- PORT_FC (spec/04_ports_and_timestamps.md)
  ⟨0x180008, [(0x1000, 2)], (0, 1), [⟨16, 16, .rw, 0⟩, ⟨15, 8, .rw, 0xc0⟩, ⟨7, 0, .rw, 0⟩]⟩,
  -- PORT_MM_CTRL (spec/04_ports_and_timestamps.md)
  ⟨0x18000c, [(0x1000, 2)], (0, 1), [⟨15, 8, .rw, 0xa⟩, ⟨5, 4, .rw, 0⟩, ⟨1, 1, .rw, 0⟩, ⟨0, 0, .rw, 0⟩]⟩,
  -- PORT_MM_STAT (spec/04_ports_and_timestamps.md)
  ⟨0x180010, [(0x1000, 2)], (0, 1), [⟨4, 4, .ro, 0⟩, ⟨2, 0, .ro, 0⟩]⟩,
  -- PORT_STATUS (spec/04_ports_and_timestamps.md)
  ⟨0x180014, [(0x1000, 2)], (0, 1), [⟨8, 8, .ro, 0⟩, ⟨4, 4, .ro, 0⟩, ⟨3, 0, .ro, 0⟩]⟩,
  -- PORT_EVT (spec/04_ports_and_timestamps.md)
  ⟨0x180018, [(0x1000, 2)], (0, 1), [⟨3, 3, .wc, 0⟩, ⟨2, 2, .wc, 0⟩, ⟨1, 1, .wc, 0⟩, ⟨0, 0, .wc, 0⟩]⟩,
  -- PORT_EVT_EN (spec/04_ports_and_timestamps.md)
  ⟨0x18001c, [(0x1000, 2)], (0, 1), [⟨3, 0, .rw, 0xd⟩]⟩,
  -- PORT_FEC_CW_CORR (spec/04_ports_and_timestamps.md)
  ⟨0x180020, [(0x1000, 2)], (0, 1), [⟨31, 0, .rc, 0⟩]⟩,
  -- PORT_FEC_CW_UNCORR (spec/04_ports_and_timestamps.md)
  ⟨0x180024, [(0x1000, 2)], (0, 1), [⟨31, 0, .rc, 0⟩]⟩
  ]

/-- Registers of block group spine1C, part 0. -/
def rows_spine1C_0 : List RegRow := [
  -- TSU_FIX_RX (spec/04_ports_and_timestamps.md)
  ⟨0x1c0000, [(0x400, 2)], (0, 1), [⟨31, 0, .ro, 0⟩]⟩,
  -- TSU_FIX_TX (spec/04_ports_and_timestamps.md)
  ⟨0x1c0004, [(0x400, 2)], (0, 1), [⟨31, 0, .ro, 0⟩]⟩,
  -- TSU_TDC (spec/04_ports_and_timestamps.md)
  ⟨0x1c0008, [(0x400, 2)], (0, 1), [⟨5, 5, .ro, 0⟩, ⟨4, 4, .ro, 0⟩, ⟨3, 3, .ro, 0⟩, ⟨2, 2, .ro, 0⟩, ⟨0, 0, .ro, 0⟩]⟩,
  -- TSU_TXQ_STAT (spec/04_ports_and_timestamps.md)
  ⟨0x1c0010, [(0x400, 2)], (0, 1), [⟨31, 16, .ro, 0⟩, ⟨8, 8, .wc, 0⟩, ⟨7, 7, .wo, 0⟩, ⟨6, 0, .ro, 0⟩]⟩,
  -- TSU_TXQ_TS0 (spec/04_ports_and_timestamps.md)
  ⟨0x1c0014, [(0x400, 2)], (0, 3), [⟨31, 0, .ro, 0⟩]⟩,
  -- TSU_TXQ_TS1 (spec/04_ports_and_timestamps.md)
  ⟨0x1c0018, [(0x400, 2)], (1, 3), [⟨31, 0, .ro, 0⟩]⟩,
  -- TSU_TXQ_TS2 (spec/04_ports_and_timestamps.md)
  ⟨0x1c001c, [(0x400, 2)], (2, 3), [⟨31, 0, .ro, 0⟩]⟩,
  -- TSU_TXQ_TAG (spec/04_ports_and_timestamps.md)
  ⟨0x1c0020, [(0x400, 2)], (0, 1), [⟨19, 16, .ro, 0⟩, ⟨15, 0, .ro, 0⟩]⟩,
  -- LPH_CTRL (spec/08_time_transfer.md)
  ⟨0x1c8000, [(0x40, 2)], (0, 1), [⟨31, 31, .rw, 1⟩, ⟨9, 0, .rw, 0x64⟩]⟩,
  -- LPH_STAT (spec/08_time_transfer.md)
  ⟨0x1c8004, [(0x40, 2)], (0, 1), [⟨31, 16, .ro, 0⟩, ⟨3, 3, .ro, 0⟩, ⟨2, 2, .ro, 0⟩, ⟨1, 1, .ro, 0⟩, ⟨0, 0, .rc, 0⟩]⟩,
  -- LPH_RX_PHASE (spec/08_time_transfer.md)
  ⟨0x1c8008, [(0x40, 2)], (0, 1), [⟨31, 0, .ro, 0⟩]⟩,
  -- LPH_TX_PHASE (spec/08_time_transfer.md)
  ⟨0x1c800c, [(0x40, 2)], (0, 1), [⟨31, 0, .ro, 0⟩]⟩,
  -- TCX_CTRL (spec/08_time_transfer.md)
  ⟨0x1c9000, [(0x80, 2)], (0, 1), [⟨31, 31, .wo, 0⟩, ⟨27, 20, .rw, 0x1e⟩, ⟨19, 16, .rw, 0⟩, ⟨13, 4, .rw, 0x64⟩, ⟨1, 1, .rw, 1⟩, ⟨0, 0, .rw, 1⟩]⟩,
  -- TCX_CAP (spec/08_time_transfer.md)
  ⟨0x1c9004, [(0x80, 2)], (0, 1), [⟨31, 0, .rw, 0⟩]⟩,
  -- TCX_TXFIX (spec/08_time_transfer.md)
  ⟨0x1c9008, [(0x80, 2)], (0, 1), [⟨31, 0, .rw, 0⟩]⟩,
  -- TCX_RXFIX (spec/08_time_transfer.md)
  ⟨0x1c900c, [(0x80, 2)], (0, 1), [⟨31, 0, .rw, 0⟩]⟩,
  -- TCX_ASYM0 (spec/08_time_transfer.md)
  ⟨0x1c9010, [(0x80, 2)], (0, 2), [⟨31, 0, .rw, 0⟩]⟩,
  -- TCX_ASYM1 (spec/08_time_transfer.md)
  ⟨0x1c9014, [(0x80, 2)], (1, 2), [⟨31, 0, .rw, 0⟩]⟩,
  -- TCX_GEN (spec/08_time_transfer.md)
  ⟨0x1c9018, [(0x80, 2)], (0, 1), [⟨31, 0, .ro, 0⟩]⟩,
  -- TCX_STAT (spec/08_time_transfer.md)
  ⟨0x1c901c, [(0x80, 2)], (0, 1), [⟨31, 16, .ro, 0⟩, ⟨7, 7, .wc, 0⟩, ⟨6, 6, .wc, 0⟩, ⟨5, 5, .wc, 0⟩, ⟨4, 4, .ro, 0⟩, ⟨1, 0, .ro, 0⟩]⟩
  ]

/-- Registers of block group spine1C, part 1. -/
def rows_spine1C_1 : List RegRow := [
  -- TCX_PEER_GEN (spec/08_time_transfer.md)
  ⟨0x1c9020, [(0x80, 2)], (0, 1), [⟨31, 0, .ro, 0⟩]⟩,
  -- TCX_PEER_CAP (spec/08_time_transfer.md)
  ⟨0x1c9024, [(0x80, 2)], (0, 1), [⟨31, 0, .ro, 0⟩]⟩,
  -- TCX_PEER_TXFIX (spec/08_time_transfer.md)
  ⟨0x1c9028, [(0x80, 2)], (0, 1), [⟨31, 0, .ro, 0⟩]⟩,
  -- TCX_PEER_RXFIX (spec/08_time_transfer.md)
  ⟨0x1c902c, [(0x80, 2)], (0, 1), [⟨31, 0, .ro, 0⟩]⟩,
  -- TCX_PEER_ASYM0 (spec/08_time_transfer.md)
  ⟨0x1c9030, [(0x80, 2)], (0, 1), [⟨31, 0, .ro, 0⟩]⟩,
  -- TCX_PEER_ASYM1 (spec/08_time_transfer.md)
  ⟨0x1c9034, [(0x80, 2)], (0, 1), [⟨31, 0, .ro, 0⟩]⟩,
  -- TCX_PEER_CLAIM (spec/08_time_transfer.md)
  ⟨0x1c9038, [(0x80, 2)], (0, 1), [⟨19, 16, .ro, 0⟩, ⟨15, 0, .ro, 0⟩]⟩,
  -- TCX_PEER_CLOCK_ID0 (spec/08_time_transfer.md)
  ⟨0x1c903c, [(0x80, 2)], (0, 1), [⟨31, 0, .ro, 0⟩]⟩,
  -- TCX_PEER_CLOCK_ID1 (spec/08_time_transfer.md)
  ⟨0x1c9040, [(0x80, 2)], (0, 1), [⟨31, 0, .ro, 0⟩]⟩,
  -- TCX_PEER_PORT (spec/08_time_transfer.md)
  ⟨0x1c9044, [(0x80, 2)], (0, 1), [⟨15, 0, .ro, 0⟩]⟩,
  -- TCX_PEER_RX_PHASE (spec/08_time_transfer.md)
  ⟨0x1c9048, [(0x80, 2)], (0, 1), [⟨31, 0, .ro, 0⟩]⟩,
  -- TCX_PEER_TX_PHASE (spec/08_time_transfer.md)
  ⟨0x1c904c, [(0x80, 2)], (0, 1), [⟨31, 0, .ro, 0⟩]⟩,
  -- TCX_PEER_PH (spec/08_time_transfer.md)
  ⟨0x1c9050, [(0x80, 2)], (0, 1), [⟨18, 16, .ro, 0⟩, ⟨15, 0, .ro, 0⟩]⟩,
  -- CLOCK_ID0 (spec/08_time_transfer.md)
  ⟨0x1ca000, [], (0, 2), [⟨31, 0, .rw, 0⟩]⟩,
  -- CLOCK_ID1 (spec/08_time_transfer.md)
  ⟨0x1ca004, [], (1, 2), [⟨31, 0, .rw, 0⟩]⟩,
  -- RESP_CFG (spec/08_time_transfer.md)
  ⟨0x1ca008, [], (0, 1), [⟨31, 24, .rw, 0x7f⟩, ⟨22, 20, .rw, 5⟩, ⟨15, 8, .rw, 1⟩, ⟨5, 0, .rw, 0⟩]⟩,
  -- RESP_CNT_ANSWERED (spec/08_time_transfer.md)
  ⟨0x1ca010, [], (0, 1), [⟨31, 0, .rc, 0⟩]⟩,
  -- RESP_CNT_OVERFLOW (spec/08_time_transfer.md)
  ⟨0x1ca014, [], (0, 1), [⟨31, 0, .rc, 0⟩]⟩,
  -- RESP_CNT_NOT_VALID (spec/08_time_transfer.md)
  ⟨0x1ca018, [], (0, 1), [⟨31, 0, .rc, 0⟩]⟩,
  -- RESP_STAT (spec/08_time_transfer.md)
  ⟨0x1ca01c, [], (0, 1), [⟨8, 0, .ro, 0⟩]⟩
  ]

/-- Registers of block group spine1C, part 2. -/
def rows_spine1C_2 : List RegRow := [
  -- RESP_PORT_CFG (spec/08_time_transfer.md)
  ⟨0x1ca100, [(0x20, 2)], (0, 1), [⟨31, 16, .rw, 1⟩, ⟨12, 12, .rw, 1⟩, ⟨11, 8, .rw, 0⟩, ⟨7, 7, .rw, 0⟩, ⟨6, 6, .rw, 0⟩, ⟨5, 5, .rw, 0⟩, ⟨4, 4, .rw, 0⟩, ⟨3, 0, .rw, 0⟩]⟩,
  -- RESP_PORT_DOMAIN (spec/08_time_transfer.md)
  ⟨0x1ca104, [(0x20, 2)], (0, 1), [⟨31, 0, .rw, 0⟩]⟩,
  -- RESP_PORT_IPV4 (spec/08_time_transfer.md)
  ⟨0x1ca108, [(0x20, 2)], (0, 1), [⟨31, 0, .rw, 0⟩]⟩,
  -- RESP_PORT_IPV60 (spec/08_time_transfer.md)
  ⟨0x1ca10c, [(0x20, 2)], (0, 4), [⟨31, 0, .rw, 0⟩]⟩,
  -- RESP_PORT_IPV61 (spec/08_time_transfer.md)
  ⟨0x1ca110, [(0x20, 2)], (1, 4), [⟨31, 0, .rw, 0⟩]⟩,
  -- RESP_PORT_IPV62 (spec/08_time_transfer.md)
  ⟨0x1ca114, [(0x20, 2)], (2, 4), [⟨31, 0, .rw, 0⟩]⟩,
  -- RESP_PORT_IPV63 (spec/08_time_transfer.md)
  ⟨0x1ca118, [(0x20, 2)], (3, 4), [⟨31, 0, .rw, 0⟩]⟩
  ]

/-- Registers of block group spine1C. -/
def rows_spine1C : List RegRow :=
  rows_spine1C_0 ++ rows_spine1C_1 ++ rows_spine1C_2

/-- Registers of block group spine1D, part 0. -/
def rows_spine1D : List RegRow := [
  -- EGR_PORT_CTRL (spec/07_timed_egress.md)
  ⟨0x1d0000, [(0x400, 2)], (0, 1), [⟨31, 24, .rw, 0x3f⟩, ⟨23, 16, .rw, 0⟩, ⟨15, 8, .rw, 0⟩, ⟨0, 0, .rw, 0⟩]⟩,
  -- EGR_PORT_QUANTUM (spec/07_timed_egress.md)
  ⟨0x1d0010, [(0x400, 2), (0x4, 8)], (0, 1), [⟨15, 0, .rw, 0x5ee⟩]⟩,
  -- EGR_PORT_IDLE_SLOPE (spec/07_timed_egress.md)
  ⟨0x1d0030, [(0x400, 2), (0x4, 8)], (0, 1), [⟨31, 0, .rw, 0⟩]⟩,
  -- EGR_PORT_GCL_CTRL (spec/07_timed_egress.md)
  ⟨0x1d0050, [(0x400, 2)], (0, 1), [⟨31, 31, .wo, 0⟩, ⟨1, 1, .ro, 0⟩, ⟨0, 0, .ro, 0⟩]⟩,
  -- EGR_PORT_STAT (spec/07_timed_egress.md)
  ⟨0x1d0090, [(0x400, 2)], (0, 1), [⟨9, 9, .ro, 0⟩, ⟨7, 0, .ro, 0xff⟩]⟩,
  -- EGR_PORT_LADLE_LIM (spec/07_timed_egress.md)
  ⟨0x1d0094, [(0x400, 2)], (0, 1), [⟨14, 0, .rw, 0x200⟩]⟩,
  -- EGR_PORT_LADLE_LEVEL (spec/07_timed_egress.md)
  ⟨0x1d0098, [(0x400, 2)], (0, 1), [⟨14, 0, .ro, 0⟩]⟩,
  -- EGR_PORT_MAX_DEFER (spec/07_timed_egress.md)
  ⟨0x1d009c, [(0x400, 2)], (0, 1), [⟨31, 0, .rc, 0⟩]⟩,
  -- EGR_PORT_EVT (spec/07_timed_egress.md)
  ⟨0x1d00a0, [(0x400, 2)], (0, 1), [⟨4, 4, .wc, 0⟩, ⟨3, 3, .wc, 0⟩, ⟨2, 2, .wc, 0⟩, ⟨1, 1, .wc, 0⟩, ⟨0, 0, .wc, 0⟩]⟩,
  -- EGR_PORT_EVT_EN (spec/07_timed_egress.md)
  ⟨0x1d00a4, [(0x400, 2)], (0, 1), [⟨4, 0, .rw, 0x1f⟩]⟩,
  -- EGR_PORT_GCL_BASE0 (spec/07_timed_egress.md)
  ⟨0x1d00c0, [(0x400, 2), (0x20, 2)], (0, 3), [⟨31, 0, .rw, 0⟩]⟩,
  -- EGR_PORT_GCL_BASE1 (spec/07_timed_egress.md)
  ⟨0x1d00c4, [(0x400, 2), (0x20, 2)], (1, 3), [⟨31, 0, .rw, 0⟩]⟩,
  -- EGR_PORT_GCL_BASE2 (spec/07_timed_egress.md)
  ⟨0x1d00c8, [(0x400, 2), (0x20, 2)], (2, 3), [⟨31, 0, .rw, 0⟩]⟩,
  -- EGR_PORT_GCL_CYCLE0 (spec/07_timed_egress.md)
  ⟨0x1d00cc, [(0x400, 2), (0x20, 2)], (0, 2), [⟨15, 0, .rw, 0⟩]⟩,
  -- EGR_PORT_GCL_CYCLE1 (spec/07_timed_egress.md)
  ⟨0x1d00d0, [(0x400, 2), (0x20, 2)], (1, 2), [⟨31, 0, .rw, 0xf4240⟩]⟩,
  -- EGR_PORT_GCL_LEN (spec/07_timed_egress.md)
  ⟨0x1d00d4, [(0x400, 2), (0x20, 2)], (0, 1), [⟨10, 0, .rw, 1⟩]⟩
  ]

/-- Registers of block group spine1E, part 0. -/
def rows_spine1E : List RegRow := [
  -- EGR_GCL_GATES (spec/07_timed_egress.md)
  ⟨0x1e0000, [(0x4000, 2), (0x2000, 2), (0x8, 1024)], (0, 1), [⟨7, 0, .rw, 0xff⟩]⟩,
  -- EGR_GCL_INTERVAL (spec/07_timed_egress.md)
  ⟨0x1e0004, [(0x4000, 2), (0x2000, 2), (0x8, 1024)], (0, 1), [⟨31, 0, .rw, 0x3e8⟩]⟩
  ]

/-- The register rows of a Spine block, by bits [31:16] of the offset. -/
def spineRows (hi : Nat) : List RegRow :=
  match hi with
  | 0x00 => rows_spine00
  | 0x01 => rows_spine01
  | 0x02 => rows_spine02
  | 0x03 => rows_spine03
  | 0x04 => rows_spine04
  | 0x06 => rows_spine06
  | 0x07 => rows_spine07
  | 0x08 => rows_spine08
  | 0x0A => rows_spine0A
  | 0x0C => rows_spine0C
  | 0x0D => rows_spine0D
  | 0x0E => rows_spine0E
  | 0x0F => rows_spine0F
  | 0x10 => rows_spine10
  | 0x12 => rows_spine12
  | 0x17 => rows_spine17
  | 0x18 => rows_spine18
  | 0x1C => rows_spine1C
  | 0x1D => rows_spine1D
  | 0x1E => rows_spine1E
  | _ => []

/-- The register rows of a Leaf block, by the block the offset lies in (R39, R468). -/
def leafRows (off : Nat) : List RegRow :=
  if off < 0x40000 then rows_leaf00 else
  if off < 0x80000 then rows_leaf04 else
  if off < 0xc0000 then rows_leaf08 else
  if off < 0x100000 then rows_leaf0C else
  if off < 0x180000 then rows_leaf10 else
  if off < 0x200000 then rows_leaf18 else
  if off < 0x280000 then rows_leaf20 else
  if off < 0x300000 then rows_leaf28 else
  if off < 0x380000 then rows_leaf30 else
  rows_leaf38

end Sys2Proof.Machine
end

