-- ==== Sys2Proof/Config.lean ====
section
/-!
DEFINITION. Config.lean: what the spec leaves to a source outside it. Every constant here is opaque: nothing in Lean
can evaluate it, so no statement rests on a value of it.
-/
namespace Sys2Proof

/-- The k-th word of the device's random source: debug nonces (R369) and every other word the spec calls random.
(DESIGN CHOICE, log entry 10) -/
opaque Config.freeWord : Nat → Word

/-- A value the spec states no result for, the k-th of a run. -/
opaque Config.freeNat : Nat → Nat

/-- Whether an ECDSA P-384 signature verifies: public key, signed bytes, signature (R356, R369).
(DESIGN CHOICE, log entry 10) -/
opaque Config.ecdsaOk : List Byte → List Byte → List Byte → Bool

/-- The SHA-384 digest of a byte string, 48 bytes (R356, R370). -/
opaque Config.sha384 : List Byte → List Byte

/-- The sampler's pseudo-random sequence: the state after one step (R454 names no polynomial). -/
opaque Config.lfsrNext : Word → Word

/-- The mean of ln(1 + t/τ) over the seconds of network time from a to b, in units of 2^-80 (R262), where an end lies so far
before AGE_EPOCH that the logarithm has no value: TAU in days, then a and b as seconds since AGE_EPOCH.
(DESIGN CHOICE, log entry 11) -/
opaque Config.lnMean : Nat → Int → Int → Int

/-- What the POWER section of an image sets (R359): the XO nominal in Hz, CEILING and GUARD, the three words of each PWR.REG
entry, PMB_CFG, whether the initial state is READY, WAKE and WAKE_AT. -/
structure PowerSection where
  xoHz : Nat := 0
  ceiling : Nat := 0
  guard : Nat := 0
  regs : List (Word × Word × Word) := []
  pmb : Word := 0#32
  ready : Bool := false
  wake : Word := 0#32
  wakeAt : Nat := 0
  deriving DecidableEq, Repr, Inhabited

/-- The contents of a POWER section and of a CONFIG section: the spec names what they hold and not how (R359).
(DESIGN CHOICE, log entry 12) -/
opaque Config.powerSection : List Byte → PowerSection
opaque Config.configSection : List Byte → List (Nat × Int)

/-- Whether a section other than WORLD_MAP, of a type, is well formed (R356 check 10). -/
opaque Config.sectionOk : Nat → List Byte → Bool

/-- The octets the transmit MAC pads a short frame with: Clause 4 leaves them open (R115).
(DEDUCED, log entry 146) -/
opaque Config.padByte : Nat → Byte

/-- The coefficients C_M2 to C_P2 that an initialise request of training sets: the spec names the request and not the values
(R87). -/
opaque Config.ffeInit : List Int

/-- A correlator's sum over an interval of samples (R300): signal, PRN, whether the data component; the tap's offset, the carrier
and code NCO steps per sample in 2^-32 cycle and chip; the samples. The codes stand in the systems' own specifications. -/
opaque Config.correlate : Nat → Nat → Bool → Int × Int × Int → List (Int × Int) → Int × Int

/-- The Doppler a carrier loop goes on with, in mHz (R301): the bandwidths of the FLL and the PLL where each runs, the prompt
before and now, the Doppler so far. The spec names the loops and their bandwidths and no filter. -/
opaque Config.carrierLoop : Option Nat → Option Nat → Int × Int → Int × Int → Int → Int

/-- The code rate a DLL goes on with (R301): its bandwidth, taps 2 and 4, the Doppler that aids it, the rate so far. -/
opaque Config.codeLoop : Nat → Int × Int → Int × Int → Int → Int → Int

/-- The C/N0 estimate from the prompt, the noise tap and the estimate before, in 0.01 dB-Hz, and PLI from the prompt and its
value before, in thousandths: the spec names the taps and no formula (R300). -/
opaque Config.cn0Estimate : Int × Int → Int × Int → Nat → Nat
opaque Config.lockIndicator : Int × Int → Nat → Nat

/-- Whether instance i sends its Delay_Req on port p to its parent alone: the stack supports both ways, and nothing selects one
(R213). -/
opaque Config.delayReqUnicast : Nat → Nat → Bool

/-- The clockClass, clockAccuracy and offsetScaledLogVariance this device announces, as one 32-bit number.
(DESIGN CHOICE, log entry 13) -/
opaque Config.ptpQuality : Nat

end Sys2Proof
end

