-- ==== Sys2Proof/Machine/State.lean ====
section
/-!
DEFINITION. State.lean: everything the spec gives the machine, as plain data. Every register word of the spec lives in
`regs`; the other fields are the state the spec names that no register word shows.
-/
namespace Sys2Proof.Machine

/-- The members of the family (R1). -/
inductive Member where
  | d2 | d4 | d8
  deriving DecidableEq, Repr

/-- A capture stamp held in a channel's queue (R56). -/
structure CapStamp where
  ts : Nat
  rising : Bool
  valid : Bool
  deriving DecidableEq, Repr

/-- What a capture channel holds beside its registers: the stamps, oldest first, and the instant of the last edge. -/
structure CapCh where
  fifo : List CapStamp := []
  last : Option Nat := none
  deriving DecidableEq, Repr

/-- What a pulse channel holds beside its registers (R59 to R63): the values in use, the next leading edge, the instant
from which staged values may apply, the end of the last pulse; all in network time. -/
structure PulseCh where
  start : Nat := 0
  period : Nat := 0
  width : Nat := 0
  next : Option Nat := none
  attempt : Option Nat := none
  busyTo : Option Nat := none
  deriving DecidableEq, Repr

/-- The state of a timed-action entry (R65). -/
inductive ActState where
  | free | pending | armed
  deriving DecidableEq, Repr

/-- A timed-action entry (R64 to R73): its eight words, its state, its firings and last result, and the new time of the
step that carried it past its trigger, if one did. -/
structure ActEntry where
  words : List Word := []
  state : ActState := .free
  fires : Nat := 0
  last : Nat := 0
  carried : Option Nat := none
  deriving DecidableEq, Repr

/-- A command of a timed-action interface in progress (R67): its OP, INDEX and the tick in which it completes. -/
structure ActCmd where
  op : Nat
  index : Nat
  due : Nat
  deriving DecidableEq, Repr

/-- The alignment of a Leaf counter (R53): the stitch module the exchange runs on and the tick of the last exchange. -/
structure LeafAlign where
  mod : Nat
  at_ : Nat
  deriving DecidableEq, Repr

/-- The configuration-space bits of a PCIe function that govern its messages (R376, R392).
(PRESUMED, log entry 22) -/
structure PcieFn where
  msixEn : Bool := false
  busMaster : Bool := false
  masked : Bool := false
  deriving DecidableEq, Repr

/-- Who asked for a frame's transmit stamp (R125): a transmit ring's descriptor, or the firmware's time-transfer
service for a message of a kind, an instance and a sequence number. -/
inductive Mark where
  | ring (r slot tag : Nat)
  | firmware (kind inst seq : Nat)
  deriving DecidableEq, Repr

/-- A frame inside the part: its bytes from DA to the end of the payload (the FCS is not kept: it adds 4 to the
length), where and when it entered, and what its lookup decided (R140). -/
structure Frame where
  /-- Order of entry into the part. -/
  id : Nat := 0
  bytes : List Byte := []
  /-- The FCS as received; empty for a frame whose FCS is the right one. -/
  fcs : List Byte := []
  inPort : Nat := 0
  /-- Ingress stamp in network time, with the flags of R127. -/
  stamp : Nat := 0
  flags : Nat := 0
  vid : Nat := 0
  fid : Nat := 0
  cls : Nat := 0
  /-- A class given with a transmit descriptor (R396). -/
  tc : Option Nat := none
  /-- The PCP sent and the DEI of its tag (R141, R143). -/
  pcp : Nat := 0
  dei : Bool := false
  /-- The TPID of the tag it arrived with; 0 for a frame that arrived untagged. -/
  tpid : Nat := 0
  /-- The stream it is bound to and the residence profile (R142). -/
  stream : Option Nat := none
  sched : Option Nat := none
  /-- A launch time with its late action, true for SEND (R201). -/
  launch : Option (Nat × Bool) := none
  dest : List Nat := []
  learn : Bool := false
  unkUc : Bool := false
  /-- The ingress Leaf and SAMPLE_ID, when the sampler selected it (R455). -/
  sample : Option (Nat × Nat) := none
  mark : Option Mark := none
  /-- A frame with a named egress port is sent as it is: no tag is added or removed. -/
  raw : Bool := false
  /-- How a frame reached port 258 (R401), and the row of R137 that trapped it. -/
  why : Nat := 0
  row : Nat := 0
  /-- The tick it entered its queue in (R133, R220), and the gate lists active at its lookup, by destination port (R128). -/
  at_ : Nat := 0
  lists : KMap Nat := []
  deriving DecidableEq, Repr

/-- A frame's copy in an output queue: its class there, the tick it was placed in, the gate list active then, and whether
it is late (R205). -/
structure Copy where
  f : Frame
  cls : Nat := 0
  seq : Nat := 0
  list : Nat := 0
  late : Bool := false
  deriving DecidableEq, Repr

/-- A frame held by the Ladle for one port (R201 to R206). -/
structure Held where
  c : Copy
  port : Nat
  release : Nat
  send : Bool
  entered : Nat
  /-- Whether its release time has come and its class was looked at for a pause (R207). -/
  judged : Bool := false
  deriving DecidableEq, Repr

/-- A frame in a crossing queue: the links it still goes to, when it entered, the cells already sent, and since when
its head cell waits. -/
structure XFrame where
  f : Frame
  links : List Nat
  entered : Nat
  sent : Nat := 0
  headAt : Nat := 0
  deriving DecidableEq, Repr

/-- A crossing queue keeps two FIFOs (R172). -/
structure XQueue where
  sched : List XFrame := []
  bulk : List XFrame := []
  deriving DecidableEq, Repr

/-- A cell on its way to a destination link: its frame, its number, whether it holds a credit, its calendar slot, and whether
its frame was cut off meanwhile (R43, R174, R178 to R180). -/
structure Cell where
  src : Nat
  dst : Nat
  f : Frame
  num : Nat
  credit : Bool
  slot : Nat := 0
  cut : Bool := false
  deriving DecidableEq, Repr

/-- A frame arriving at a link, cell by cell: the ports that admitted it, or none if it is discarded (R178). -/
structure Arriving where
  src : Nat
  f : Frame
  ports : List Nat
  bad : Bool := false
  deriving DecidableEq, Repr

/-- A learn waiting for the learn engine (R148). -/
structure Learn where
  fid : Nat
  sa : Nat
  port : Nat
  /-- The tick it was queued in (R152). -/
  tick : Nat
  deriving DecidableEq, Repr

/-- A table entry as staged (R147): DATA[0..7] and XDATA. -/
structure TEntry where
  data : List Nat := []
  xdata : Nat := 0
  deriving DecidableEq, Repr

/-- A meter's buckets in bytes times 6,400,000 (so that kb/s times ticks fill them exactly) and the tick of their last
filling (R143). -/
structure MeterSt where
  c : Nat := 0
  e : Nat := 0
  at_ : Nat := 0
  deriving DecidableEq, Repr

/-- A frame in a pipeline's staging store (R162): its id, the instants of its first and last byte (physical time, 2^-16 ns), its
length, and when it was released; kept 100 µs beyond that. -/
structure Staged where
  id : Nat
  start : Nat
  stop : Nat
  len : Nat
  freed : Option Nat := none
  deriving DecidableEq, Repr

/-- What R156 needs of one tick: the tables as it began, the entries written in it and those whose HIT a lookup set in it, by
table and index. -/
structure TabCycle where
  tick : Nat
  was : KMap (KMap TEntry)
  wrote : List (Nat × Nat) := []
  hit : List (Nat × Nat) := []
  deriving DecidableEq, Repr

/-- What a die holds beside its registers: a Leaf for 0 to 7, the Spine for 8. -/
structure Die where
  /-- Header queues of the pipelines, oldest first (R133). -/
  hdr : KMap (List Frame) := []
  /-- The staging stores of the pipelines, newest first (R162). -/
  staged : KMap (List Staged) := []
  /-- The tick and the requester index of the last admission (R168). -/
  admitAt : Option (Nat × Nat) := none
  /-- The tables in the tick of the last write or HIT (R156). -/
  cyc : Option TabCycle := none
  learns : List Learn := []
  /-- The forwarding tables by code (R145), sparse. -/
  tables : KMap (KMap TEntry) := []
  meters : KMap MeterSt := []
  /-- The banks that swaps left, kept 100 µs each, newest first: the trigger, the old ACTIVE bit and the swap's tick, by bank
  pair (R70). -/
  oldBank : KMap (List (Nat × Nat × Nat)) := []
  /-- Output queues by port × 8 + class (R166). -/
  queues : KMap (List Copy) := []
  /-- Stored frames by id: copies left and cells (R167). -/
  stored : KMap (Nat × Nat) := []
  ladle : List Held := []
  /-- Responses the Delay_Resp responder has yet to send (R220). -/
  resp : List Frame := []
  xq : KMap XQueue := []
  arriving : List Arriving := []
  /-- Credits in use towards each destination link, of 128 (R174). -/
  used : KMap Nat := []
  /-- The tick of the last credit each destination link gave (R180). -/
  gaveAt : KMap Nat := []
  /-- The round-robin position over the crossing queues (R175). -/
  rr : Nat := 0
  /-- Colophon records, oldest first, the count of selections, the considered frames since the last one, the LFSR. -/
  recs : List (List Word) := []
  sampleId : Nat := 0
  nth : Nat := 0
  lfsr : Word := 1#32
  /-- Records that entered the sampler's input queue in the tick kept beside it (R457). -/
  recTick : Nat := 0
  recIn : Nat := 0
  deriving DecidableEq, Repr

/-- A frame in transmission, or cut by preemption (R197): bytes already sent in earlier fragments, when this fragment
started (physical time, 2^-16 ns), whether it is preemptable, and whether it was cut before. -/
structure Tx where
  c : Copy
  sent : Nat := 0
  start : Nat := 0
  preempt : Bool := false
  cut : Bool := false
  /-- The frame count of its SMD, and the count of its next continuation (R119). -/
  smd : Nat := 0
  frag : Nat := 0
  /-- Its length as transmitted, DA to FCS, whether it is a Ladle frame (R203), and whether its cells are still held (R167). -/
  len : Nat := 0
  ladle : Bool := false
  owes : Bool := false
  deriving DecidableEq, Repr

/-- A transmit stamp in a port's queue (R126). -/
structure TxStamp where
  ts : Nat
  flags : Nat
  tag : Nat
  deriving DecidableEq, Repr

/-- The timing capability exchange of a port (R226 to R232): the values committed, the sequence number, the peer GEN to
acknowledge, the ticks of the last accepted and the last sent message, whether an extra message or a link phase sample
waits to be sent. -/
structure Tcx where
  cap : Nat := 0
  txfix : Nat := 0
  rxfix : Nat := 0
  asym : Nat := 0
  seq : Nat := 0
  ack : Option Nat := none
  acceptedAt : Nat := 0
  sentAt : Option Nat := none
  extra : Bool := false
  sampled : Bool := false
  /-- The PEER set before the last accepted message (R229). -/
  was : List Nat := []
  deriving DecidableEq, Repr

/-- The newest link phase sample of a port (R222, R223): phases, flags VALID, STALE and SLIP as bits 0 to 2, its count,
and the tick its interval ended in. -/
structure Lph where
  rx : Nat := 0
  tx : Nat := 0
  flags : Nat := 0
  seq : Nat := 0
  at_ : Nat := 0
  /-- The ticks of the last VALID sample and of the last one not STALE (R238). -/
  validAt : Nat := 0
  freshAt : Nat := 0
  deriving DecidableEq, Repr

/-- A preemptable frame in reassembly (R113, R114, R120): its bytes so far, the next fragment count, its stamp and flags, the
physical instant of its SMD, a code error within it, and its uncorrectable codewords. -/
structure Reasm where
  bytes : List Byte
  want : Nat
  stamp : Nat
  flags : Nat
  at_ : Nat
  codeErr : Bool := false
  bad : Nat := 0
  deriving DecidableEq, Repr

/-- What a port holds beside its registers. -/
structure PortSt where
  /-- The tick of the entry to ACTIVE, and the tick from which evidence in DETECT counts (R81). -/
  activeAt : Nat := 0
  detectAt : Nat := 0
  /-- The tick of the entry to EXCHANGE. -/
  exchAt : Nat := 0
  tcx : Tcx := {}
  lph : Lph := {}
  /-- Consecutive termination probes that found the far end, and the tick of the last probe (R81). -/
  probeHits : Nat := 0
  probeAt : Option Nat := none
  /-- Base pages exchanged with a common technology; Clause 37 complete; EXCH_WAIT over (R84). -/
  anOk : Bool := false
  cl37 : Bool := false
  exchOver : Bool := false
  modReady : Bool := false
  /-- Lanes that hold lock in this stay in LOCK (R89, R90). -/
  locked : List Nat := []
  /-- The tick of the last window's end (R102), and of the last CTLE and DFE steps by lane × 4 + tap (R101). -/
  winAt : Nat := 0
  stepAt : KMap Nat := []
  /-- The tick of the last event that makes link phase samples STALE, and whether lock was lost since the last sample
  (R97, R104, R223). -/
  staleAt : Option Nat := none
  slip : Bool := false
  /-- The tick of the last change of the transmit coefficients (R97), and whether the port left ACTIVE and has not been back
  since (R88). -/
  ffeAt : Option Nat := none
  left : Bool := false
  /-- The spans of network time in which the port is administratively down, newest first; an open span has no end
  (R74). -/
  downs : List (Nat × Option Nat) := []
  reasm : Option Reasm := none
  /-- A twin TDC passed calibration and waits to serve (R130); the TDCs that failed their last self-check, and the physical span
  without a TDC (R131). -/
  twinReady : Bool := false
  tdcBad : List Nat := []
  coarse : Nat × Nat := (0, 0)
  verifyTries : Nat := 0
  verifyAt : Option Nat := none
  /-- Physical tick until which each class is held by a pause (R116). -/
  pause : KMap Nat := []
  stamps : List TxStamp := []
  cur : Option Tx := none
  part : Option Tx := none
  /-- The frame count of the next preemptable frame sent (R119). -/
  smd : Nat := 0
  /-- Physical time (2^-16 ns) at which the medium is free again. -/
  freeAt : Nat := 0
  deficit : KMap Nat := []
  drr : Nat := 8
  /-- CBS credit in kb/s times 2^-16 ns, and the physical time it was last brought up to (R189). -/
  credit : KMap Int := []
  creditAt : Nat := 0
  /-- The frame or fragment last put on the wire: its class unless the Ladle or a message sends it, its first and its last instant
  (R189). -/
  wire : Option (Option Nat × Nat × Nat) := none
  /-- The tick in which each class's head place was last vacated (R194). -/
  headAt : KMap Nat := []
  /-- The list a swap left, the swap's trigger and its tick (R196). -/
  oldList : Option (Nat × Nat × Nat) := none
  /-- The network time a hold in force protects (R199). -/
  holdTo : Option Nat := none
  deriving DecidableEq, Repr

/-- A snapshot whose swap is pending: its T, its tick, the groups and dies, and the copy (R451). -/
structure Snap where
  time : Nat
  tick : Nat
  mask : Nat
  target : Nat
  copy : KMap Nat
  deriving DecidableEq, Repr

/-- A transmit descriptor fetched and not yet written back (R398): its slot, whether it holds for a stamp, the tag, the
tick its frame was read in, and its outcome as status, stamp, flags, drop reason and port. -/
structure Desc where
  slot : Nat
  tsReq : Bool := false
  tag : Nat := 0
  readAt : Nat := 0
  res : Option (Nat × Nat × Nat × Nat × Nat) := none
  deriving DecidableEq, Repr

/-- What a DMA ring holds beside its registers: the fetched descriptors in order, the next slot to fetch, and the
write-backs since its last signal with the tick of the first of them (R404). -/
structure RingSt where
  fetched : List Desc := []
  next : Nat := 0
  unsignalled : Nat := 0
  since : Nat := 0
  deriving DecidableEq, Repr

/-- A transmit stamp the firmware has yet to use (R125). -/
structure FwStamp where
  port : Nat
  kind : Nat
  inst : Nat
  seq : Nat
  ts : Nat
  flags : Nat
  deriving DecidableEq, Repr

/-- An eye-scan point in progress (R106): its DWELL and the tick it began in. -/
structure Escan where
  dwell : Nat
  since : Nat
  deriving DecidableEq, Repr

/-- A pair of slots marked as disputed (R242), and since which reading tick they stayed within PAIR_LIMIT. -/
structure Pair where
  a : Nat
  b : Nat
  within : Option Nat := none
  deriving DecidableEq, Repr

/-- A frequency word and from which tick it was applied, and whether the DPLL was LOCKED then (R261). -/
structure WordSpan where
  at_ : Nat
  word : Int
  locked : Bool
  deriving DecidableEq, Repr

/-- The edges of an input slot (R238): the ticks of the first edge of the run without gap and of the last edge in it. -/
structure InEdges where
  run : Nat := 0
  last : Nat := 0
  deriving DecidableEq, Repr

/-- What the ageing fit holds (R264): the sum over the day so far of w - y_m of DPLL-T while LOCKED, in ticks times 2^-48, the
LOCKED ticks in it, the tick it stands at, the tick of the last fit, and the daily means with their network seconds, oldest
first. -/
structure AgeLearn where
  sum : Int := 0
  span : Nat := 0
  noted : Nat := 0
  at_ : Nat := 0
  means : List (Int × Int) := []
  deriving DecidableEq, Repr

/-- What a DPLL holds beside its registers (R247 to R267). Times of day are ticks; phases are in 2^-16 ns. -/
structure DpllSt where
  /-- The remaining slew as of a tick. -/
  slew : Int := 0
  slewAt : Nat := 0
  /-- The word without the part an open-loop slew adds. -/
  base : Int := 0
  /-- The state before BRIDGING, the profile's code, the starts of its dwell, of the phase error within LOCK_THRESH and
  beyond four times it. -/
  prev : Nat := 1
  profile : Nat := 40
  dwellAt : Nat := 0
  inSince : Option Nat := none
  outSince : Option Nat := none
  switchAt : Nat := 0
  /-- The tick of the last phase comparison. In MIXED: the phase error and the tick at the start of the window of 10 / b
  seconds that runs, and the drift over the one before (R259). -/
  pdAt : Nat := 0
  errAt : Int := 0
  winAt : Nat := 0
  drift : Int := 0
  /-- The slot RETURN.CMD HOLD keeps from selection (R267). -/
  avoid : Option Nat := none
  /-- A pending register step and a pending return step with the network second they were armed in. -/
  pstep : Option (Int × Nat) := none
  rstep : Option (Int × Nat) := none
  /-- Steps of the output's own phase. -/
  phase : Int := 0
  /-- Holdover: since when HO_TIME counts, the seconds counted, the word w_avg, the window's bounds in ticks, whether HO_LIMIT
  was raised. -/
  hoAt : Option Nat := none
  hoDone : Nat := 0
  hoAvg : Int := 0
  hoFrom : Nat := 0
  hoTo : Nat := 0
  hoOver : Bool := false
  /-- Words applied, newest first. -/
  hist : List WordSpan := []
  /-- Usable temperatures, newest first, with the tick each came in. -/
  temps : List (Nat × Int) := []
  deriving DecidableEq, Repr

/-- What a clock output holds beside its registers. Times are the driving DPLL's own, in units of 2^-50 ns: the cause of
its pending alignment (tick, DPLL time, network time in 2^-16 ns), the earliest instant its edge may take, the edge an
accepted SYNCIN edge fixed, a rising edge given since, whether a cause armed it and whether by the EPOCH fall-back,
whether the last alignment was made to valid network time, DIV_NEXT before its last write with that write's tick, the last
load instant, the tick until which the last high phase goes on, and whether it waits low for its new edge (R280 to R285). -/
structure CkOut where
  causeAt : Nat := 0
  base : Int := 0
  net : Nat := 0
  earliest : Int := 0
  fixed : Option Int := none
  edge : Int := 0
  auto : Bool := false
  fb : Bool := false
  epoch : Bool := false
  before : Word × Word := (0x50#32, 1#32)
  nextAt : Option Nat := none
  loadedAt : Option Nat := none
  high : Nat := 0
  low : Bool := false
  deriving DecidableEq, Repr

/-- What is measured of a channel (R308): code fraction in 2^-32 chip, whole chips, code periods, carrier in 2^-32 cycle. -/
abbrev Measure := Nat × Nat × Nat × Int

/-- What a GNSS channel holds beside its registers (R299 to R308): the ticks of its start, its last dump and its entry to
TRACKING; the taps in force and the correlators of the last dump, the data prompt last; PLI in thousandths; the rates of its
carrier NCO in mHz of Doppler and of its code NCO; where its code and carrier stood at a network time; the ticks since which
it meets the pull-in conditions, its PLI lies below 0.3, CARRIER_LOCK holds without a slip; the C/N0 values of the last second
with their ticks, newest first; consecutive missed bursts; half-cycle, slip and sleep since the last epoch. -/
structure Chan where
  startAt : Nat := 0
  dumpAt : Nat := 0
  trackAt : Nat := 0
  taps : Word × Word := (0x00F8F0E0#32, 0xC0201000#32)
  corr : List (Int × Int) := []
  pli : Nat := 0
  rate : Int := 0
  codeRate : Int := 0
  meas : Measure := (0, 0, 0, 0)
  measAt : Nat := 0
  goodSince : Option Nat := none
  lowSince : Option Nat := none
  lockSince : Option Nat := none
  cn0s : List (Nat × Nat) := []
  misses : Nat := 0
  half : Bool := false
  slip : Bool := false
  slept : Bool := false
  deriving DecidableEq, Repr

/-- The baseband beside its registers: by port, the last sample's I and Q, the tick of its clock's loss or of its enabling, the
second of its last clock reading; queued acquisition requests (three words) and the tick the head began to capture, results
(four words), navigation records with the tick each completed in; the burst in progress with the ticks of its miss limit and
its end, whether the front ends lead one, the last second a burst was decided for, the last second whose window ended; the last
epoch, the records to be written; whether time stepped since it (R292, R293, R297, R303, R305, R307, R309). -/
structure Gnss where
  sample : KMap (Int × Int) := []
  clkAt : KMap Nat := []
  fmeasSec : KMap Nat := []
  reqs : List (List Word) := []
  capAt : Option Nat := none
  res : List (List Word) := []
  nav : List (Nat × List Word) := []
  awake : Option (Nat × Nat × Nat) := none
  lead : Bool := false
  decided : Nat := 0
  ended : Nat := 0
  epoch : Nat := 0
  recs : Option (Nat × KMap (List Word)) := none
  stepped : Bool := false
  /-- The time service (R306, R311, R312, R314): the epoch last solved, withheld offsets with their ticks, newest first, the
  offset accepted after JUMP_CONFIRM, the tick the survey began in, the position held, channels in renewal since a tick, the end
  of each satellite's ephemeris by system and PRN, its parameters in force. -/
  solved : Option Nat := some 0
  withheld : List (Nat × Int) := []
  accepted : Option Int := none
  surveyAt : Nat := 0
  position : Option (Int × Int × Int) := none
  renewing : KMap Nat := []
  ephs : KMap Nat := []
  params : KMap Int := []
  deriving DecidableEq, Repr

/-- The last heartbeat accepted on a port (R318, R320): its tick, sender and SA, the member, peer-seen and drill bits, and
the sixteen claims. -/
structure Heartbeat where
  at_ : Nat
  serial : Nat
  sa : Nat
  member : Nat
  seen : Nat
  drill : Nat
  claims : List Nat
  deriving DecidableEq, Repr

/-- What a claim domain holds beside its registers (R317 to R328): an ADMIT adopted and not yet carried out, the tick HOLD
was entered and the last tick a non-zero member claim was heard in, the state a drill left and its end, the serials
whose last heartbeat shows the drill bit and the tick until which a drill still counts, for each of PEER0 and PEER1
the last claim heard, the last non-zero one, and since when both paths hold, and the accepted ports (R321). -/
structure ClmDom where
  admitted : Bool := false
  holdAt : Nat := 0
  claimAt : Nat := 0
  before : Nat := 2
  drillEnd : Option Nat := none
  drilling : List Nat := []
  drillTail : Nat := 0
  lastClaim : KMap Nat := []
  rankClaim : KMap Nat := []
  pathsAt : KMap Nat := []
  ports : List Nat := []
  deriving DecidableEq, Repr

/-- What the firmware's shadow copy holds for a Leaf (R47, R411): register words by address, table entries by table and
index, and whether a port was enabled by PORT_ADMIN. -/
structure Shadow where
  regs : KMap Word := []
  tables : KMap (KMap TEntry) := []
  admin : KMap Bool := []
  deriving DecidableEq, Repr

/-- Power management beside the registers (R330 to R349): the tick of the last arbiter round, the tick of each grant by
requester and of the last lane group grant by Leaf, a held request for a state, whether WAKE_AT was spent, the outputs
and APLLs that a KEEP request stopped, since when each monitor lies above THR_HI, below THR_LO or at TCRIT (Leaves 0 to 7,
8 the Spine), and the tick of each Leaf's last throttle rise. -/
structure Power where
  roundAt : Nat := 0
  grantAt : KMap Nat := []
  groupAt : KMap Nat := []
  held : Option Nat := none
  woke : Bool := false
  savedOuts : List Nat := []
  savedAplls : List Nat := []
  hotAt : KMap Nat := []
  coldAt : KMap Nat := []
  critAt : KMap Nat := []
  roseAt : KMap Nat := []
  pollAt : Nat := 0
  /-- The Spine reached TCRIT and has not been at or below THR_LO since (R345). -/
  tripped : Bool := false
  deriving DecidableEq, Repr

/-- Booting (R351 to R374): the slots judged since reset, the image being started or running (0 A, 1 B, 2 staging), whether
its start was begun, the SOURCE code of a host load, an update in progress (new slot, previous one), a slot to be activated
once every accepted request is answered (R389), the regions of the locked world map and its FWD_SECURE, the AON clock chosen
(true for the watch crystal), the XO nominal in force, the tick the firmware last resumed in after an update, and of a debug
attempt in progress whether it passes and its scope (R371). -/
structure Boot where
  tried : List Nat := []
  image : Option Nat := none
  started : Bool := false
  hostSrc : Nat := 3
  update : Option (Nat × Nat) := none
  activate : Option Nat := none
  regions : List (Nat × Nat × Bool) := []
  fwdSecure : Nat := 0
  aonXtal : Option Bool := none
  xoHz : Nat := 50000000
  resumedAt : Option Nat := none
  attempt : Option (Bool × Nat) := none
  deriving DecidableEq, Repr

/-- A calibration request queued or running (R437): item, instance, who asked (0 and 1 CAL.REQ, 2 the schedule, 3 + m a
command of mailbox m), and the tick it entered the queue or started in. -/
structure CalRun where
  item : Nat
  inst : Nat
  who : Nat
  at_ : Nat
  deriving DecidableEq, Repr

/-- The calibration engine beside its registers (R433 to R440): the queue, the runs, the tick each instance's schedule last
came due in, the result and tick of its last completed run, by item × 1024 + instance. -/
structure Cal where
  /-- The APLLs whose band tables the firmware has yet to fill at boot (R273). -/
  boot : List Nat := []
  queue : List CalRun := []
  runs : List CalRun := []
  dueAt : KMap Nat := []
  applied : KMap Word := []
  resAt : KMap Nat := []
  deriving DecidableEq, Repr

/-- A staging set of parameters (R417 to R420): the world that owns it while it is not empty, its entries, and what
PARAM_STATUS reports of its last commit. -/
structure PSet where
  world : Nat := 0
  entries : KMap Int := []
  lastTag : Nat := 0
  lastResult : Nat := 0
  failKey : Nat := 0
  deriving DecidableEq, Repr

/-- An LLDP neighbour (R429): the tick of its last frame, its time to live in seconds, and three TLVs. -/
structure Neighbour where
  at_ : Nat
  ttl : Nat
  chassis : List Byte
  portId : List Byte
  sysName : List Byte
  deriving DecidableEq, Repr

/-- A membership the snooping service holds (R428): VLAN, IP version 6, group, source for an (S, G) entry, port, and the tick
of the last report. -/
structure SnoopMember where
  vid : Nat
  v6 : Bool
  group : Nat
  source : Option Nat
  port : Nat
  heard : Nat
  deriving DecidableEq, Repr

/-- The snooping service: memberships, the entries that hold group indices, router ports by VLAN × 512 + port, and the tick of
the last query by VLAN × 2 + IP version 6. -/
structure Snoop where
  members : List SnoopMember := []
  entries : List ((Nat × Bool × Nat × Option Nat) × Nat) := []
  routers : KMap Nat := []
  queryAt : KMap Nat := []
  deriving DecidableEq, Repr

/-- A foreign master heard on a PTP port: its Announce as a comparison vector (priority1, quality, priority2, grandmaster,
steps, sender, sender's port), and the ticks of its last two Announces, newest first. -/
structure PtpForeign where
  vec : List Nat
  at_ : List Nat
  deriving DecidableEq, Repr

/-- What an instance holds for a port (R214, R426): the portState code of IEEE 1588, the sequence numbers, the ticks of the
last Sync, Announce and Delay_Req sent and of the last Announce heard, the foreign masters, the Sync that waits for its
Follow_Up (sequence, t2, correction, logMessageInterval), the Pdelay_Resp that waits for its stamp (sequence, requester,
correction of the request), the last t2 - t1, the Delay_Req out (sequence), the Pdelay exchange (sequence, t4, t2, correction), the mean path delay and
the last offset, in 2^-16 ns. -/
structure PtpPort where
  state : Nat := 4
  seqSync : Nat := 0
  seqAnn : Nat := 0
  seqDelay : Nat := 0
  syncAt : Option Nat := none
  annAt : Option Nat := none
  delayAt : Option Nat := none
  heardAt : Nat := 0
  foreign : List PtpForeign := []
  sync : Option (Nat × Nat × Int × Nat) := none
  answer : Option (Nat × Nat × Int) := none
  down : Option Int := none
  asked : Option Nat := none
  pdelay : Option (Nat × Nat × Nat × Int) := none
  mean : Option Int := none
  offset : Int := 0
  /-- The servo interval the port's Sync messages give, once one has been received (R214). -/
  every : Option Nat := none
  /-- The hardware and network address of the parent, from its Sync messages. -/
  master : Option (Nat × Nat) := none
  /-- The synchronisation metadata last received: rate numerator, denominator and locked (R213). -/
  sm : Option (Nat × Nat × Nat) := none
  deriving DecidableEq, Repr


/-- What runs on a timer. -/
inductive TimerKind where
  | actBusy | residOut
  | pipeRelease | backoff | train | lock | exch | anNoDme | signalOut
  | escan
  | fwdBusy
  | respGap
  | slotHold | slotRestore
  | apllTry | apllRetry | apllMove | relock | tsuRetry
  | drain | leafAlign
  | fwStart | dbgBusy | aonSelect | warmCmd | bandCal
  deriving DecidableEq, Repr

/-- The answer to a coefficient request (R87). -/
inductive TrainAnswer where
  | updated | minimum | maximum
  deriving DecidableEq, Repr

/-- The delimiter of a preemptable frame's fragment (R119): SMD-S with the frame count, or SMD-C with the frame and the fragment
count. -/
inductive Smd where
  | start (frame : Nat)
  | cont (frame frag : Nat)
  deriving DecidableEq, Repr

/-- What a step sends out of the part. -/
inductive Out where
  /-- The words an access returns. -/
  | readData (src : Src) (words : List Word)
  /-- An MSI-X message: vector, address, data (R392). -/
  | msix (v addr : Nat) (data : Word)
  /-- A pulse at a pin: channel, leading edge in ps (TRIM applied), width in 2^-16 ns (R60). -/
  | pulse (j : Nat) (ps : Int) (width : Nat)
  /-- A verify frame of the merge sublayer leaves a port (R121). -/
  | verify (p : Nat)
  /-- A frame, or a fragment of one, leaves a port: its bytes from DA without the FCS, the bytes of the frame sent before,
  and the time of its SFD (or SMD) at the ball. -/
  | frame (p : Nat) (bytes : List Byte) (done pos : Nat)
  /-- A fragment of a preemptable frame leaves a port, with its SMD (R119); the rest as in `frame`. -/
  | fragment (p : Nat) (smd : Smd) (bytes : List Byte) (done pos : Nat)
  /-- The frame in transmission ends as a fragment with its first n bytes (R197, R199). -/
  | cut (p n : Nat)
  /-- The frame in transmission ends after its first n bytes with an invalid FCS (R117). -/
  | truncated (p n : Nat)
  /-- What lane g answers to the coefficient requests of its partner (R87). -/
  | train (g : Nat) (answers : List TrainAnswer)
  /-- An aligned output gives its first rising edge: output and ps of network time as reckoned at its cause (R281). -/
  | clock (j : Nat) (ps : Int)
  /-- The device writes bytes to host memory for a ring of world w (R394, R402). -/
  | hostWrite (w addr : Nat) (bytes : List Byte)
  /-- The device replies to an SPI frame (R382): STATUS, then data, and an I2C read (R384). -/
  | spi (status : Nat) (data : List Byte)
  | i2c (data : List Byte)
  /-- A write to a port's module (R413): port, bank, page, offset, bytes; and a PMBus transaction (R346): address, page (0xFF none),
  command, bytes written. -/
  | module (p bank page offset : Nat) (data : List Byte)
  | pmbus (addr page command : Nat) (data : List Byte)
  deriving DecidableEq, Repr


/-- A timer of the device: what it times and for which instance. -/
structure Timer where
  kind : TimerKind
  idx : Nat
  deriving DecidableEq, Repr

/-- The machine's state. -/
structure State where
  /-- Commands waiting, first in, first out. -/
  pending : List Instr := []
  /-- What the last step sent out of the part. -/
  out : List Out := []
  /-- The register file: every listed word differs from its reset value, addresses strictly rise. -/
  regs : KMap Word := []
  /-- Upper words of wide values held for the write of the lowest word (R11). -/
  held : KMap Word := []
  /-- Upper words latched by a read of the lowest word (R11). -/
  latched : KMap Word := []
  /-- Which member of the family this is (R1), and whether its grade is E (R2). -/
  member : Member := .d8
  gradeE : Bool := false
  /-- TSU ticks since the model's reset: the physical time deadlines are kept in. -/
  ticks : Nat := 0
  /-- Network time in units of 2^-50 ns: the master counter with its accumulator (R49). -/
  fine : Nat := 0
  /-- How many free values have been drawn. -/
  fresh : Nat := 0
  /-- The tick in which TIME.STATUS.TSU_LOCK last became 1. -/
  tsuLockAt : Nat := 0
  /-- Deadlines running, in ticks. -/
  timers : List (Timer × Nat) := []
  /-- The value a TIME.SET load will take, and the second in which the load was armed (R51). -/
  setLoad : Option (Nat × Nat) := none
  caps : KMap CapCh := []
  pulses : KMap PulseCh := []
  acts : KMap ActEntry := []
  /-- The command in progress on each timed-action interface. -/
  actCmds : KMap ActCmd := []
  /-- The tick of the last step taken inside a tick, with the count at that tick's start (R52, R69). -/
  stepAt : Option (Nat × Nat) := none
  /-- The alignment of each Leaf counter. -/
  aligns : KMap LeafAlign := []
  /-- Whether PORn is released with the supplies valid (R351), and whether the master counter counts (R50). -/
  powered : Bool := false
  counting : Bool := false
  /-- The requesters whose switchable domain is powered and clocked (R32, R347). -/
  doms : List Nat := []
  /-- Configuration of PF0 and PF1. -/
  fn0 : PcieFn := {}
  fn1 : PcieFn := {}
  /-- The sources in each vector's OR (R392), and the level of IRQn (R393). -/
  vecMem : KMap Nat := []
  irqLow : Bool := false
  /-- The mailboxes whose waiting response was written with QUIET (R462). -/
  quiet : List Nat := []
  /-- The tick of each Leaf's entry to its present state (R42, R45). -/
  leafAt : KMap Nat := []
  /-- Dies 0 to 7 are the Leaves, 8 the Spine. -/
  dies : KMap Die := []
  ports : KMap PortSt := []
  /-- Frames given an id so far. -/
  frames : Nat := 0
  /-- Cells between their departure from a crossing queue and their arrival. -/
  flight : List Cell := []
  /-- The ticks of the cell CRC errors of the last 1 ms, by link × 4 + stitch module (R179). -/
  crcAt : KMap (List Nat) := []
  /-- Limits written in a tick: the tick and the value before, by address (R169). -/
  limWas : KMap (Nat × Nat) := []
  /-- The crossbar's slot position (R175). -/
  slot : Nat := 0
  /-- Counters by die × 2^20 + view offset (R446), the counts of the last microsecond (counter, amount and instant, R447), the
  values held while frozen, and the visible shadow bank. -/
  cnt : KMap Nat := []
  lately : List (Nat × Nat × Nat) := []
  frozen : Option (KMap Nat) := none
  shadow : KMap Nat := []
  snap : Option Snap := none
  /-- The home Leaf set for a Spine port (R27). -/
  homes : KMap Nat := []
  rings : KMap RingSt := []
  fwStamps : List FwStamp := []
  /-- Since when (in ticks) each request to the budget arbiter waits (R337). -/
  rqSince : KMap Nat := []
  escans : KMap Escan := []
  /-- The tick each lane's last eye-scan point ended in, and whether adaptation has taken a step in that tick (R108). -/
  scanEnd : KMap (Nat × Bool) := []
  /-- Lanes whose offset sampler the calibration engine holds (R107). -/
  calLanes : List Nat := []
  /-- The network second in which MOVES counts began (R151). -/
  movesSec : Nat := 0
  /-- Crossbar masks written, in force from the next round (R176), by link × 64 + slot. -/
  calNext : KMap Nat := []
  /-- Committed parameters by key (R415), where they differ from what was never committed. -/
  params : KMap Int := []
  dplls : KMap DpllSt := []
  /-- Disputed pairs of slots, the tick of the last frequency reading, and the tick in which each of slots 12 to 14 last
  delivered, with the servo interval of 13 and 14 in ticks (R238, R240, R242). -/
  pairs : List Pair := []
  refAt : Nat := 0
  slotHeard : KMap Nat := []
  slotEvery : KMap Nat := []
  /-- The edges of input slots 0 to 3 (R238). -/
  slotEdges : KMap InEdges := []
  /-- What the ageing fit holds (R264). -/
  age : AgeLearn := {}
  /-- The own time of DPLL-M and DPLL-A in units of 2^-50 ns (R270, R281), and the phase an APLL has yet to move (R286). -/
  dfine : KMap Int := []
  apllMove : KMap Int := []
  ckouts : KMap CkOut := []
  /-- The tick of the last accepted SYNCIN edge, and the divider loads to come: instant and mask (R283, R284). -/
  syncinAt : Option Nat := none
  divLoads : List (Nat × Nat) := []
  /-- Relock attempts of each Leaf PLL since its last loss, by 2 × Leaf + (1 for MEM) (R288). -/
  relocks : KMap Nat := []
  /-- The tick from which the TSU PLL has been without lock (R289). -/
  tsuLossAt : Nat := 0
  /-- The GNSS baseband and its channels. -/
  gnss : Gnss := {}
  chans : KMap Chan := []
  /-- Heartbeats: the last accepted by port, the sequence number and the tick of the last sent by port; claim domains. -/
  hbs : KMap Heartbeat := []
  hbSent : KMap (Nat × Nat) := []
  clms : KMap ClmDom := []
  /-- The firmware is to write the candidate masks: accepted ports changed, or it resumed (R323). -/
  gateDue : Bool := false
  /-- The port a packet-time slot (13, 14) is bound to (R323). -/
  slotBound : KMap Nat := []
  power : Power := {}
  /-- Drain limits in ticks by Leaf, Leaves to be restarted after their drain (R45), the shadow copies and those taken at a
  start request (R47). -/
  drainLimit : KMap Nat := []
  restarts : List Nat := []
  shadows : KMap Shadow := []
  starting : KMap Shadow := []
  /-- Booting, the flash (32 MiB, erased bytes are 0xFF), the staging memory by word, the fuses. -/
  boot : Boot := {}
  flash : KMap Byte := []
  staging : KMap Word := []
  /-- The processor's SRAM and shadow memory, by word of the system address space (R470). -/
  sysMem : KMap Word := []
  /-- The tick of the last write by SPI, and the addresses SPI wrote in it (R358, R383). -/
  spiNow : Nat × List Nat := (0, [])
  fuses : Fuses := {}
  /-- The mailboxes with a request not yet answered, in the order of their GO: NS0 to NS3 are 0 to 3, S0 to S3 are 4 to 7. -/
  mbxQueue : List Nat := []
  /-- The tick of each mailbox's last accepted GO. -/
  goAt : KMap Nat := []
  psets : KMap PSet := []
  cal : Cal := {}
  /-- Firmware services: LLDP neighbours and the tick of the last frame sent by port, the tick each Leaf was last swept in,
  snooping, PTP by instance × 512 + port. -/
  neighbours : KMap Neighbour := []
  lldpAt : KMap Nat := []
  sweptAt : KMap Nat := []
  snoop : Snoop := {}
  ptps : KMap PtpPort := []
  /-- Broadcasts: the last BSEQ sent, the last accepted by domain × 4096 + origin, and results other than OK by code. -/
  bseq : Nat := 0
  bseen : KMap Nat := []
  bcount : KMap Nat := []
  /-- The transmit ring each priority last served (R399). -/
  txTurn : KMap Nat := []
  /-- Whether the last power request over I2C was discarded (R384). -/
  i2cLost : Bool := false
  deriving DecidableEq, Repr

/-- Who raises a fault: nobody. No command of the part stops it (safe). -/
inductive Fault where
  deriving DecidableEq, Repr

/-- Why a command has no meaning in the model. -/
inductive Refusal where
  /-- Raised by an arm of Dispatch.lean whose command has no meaning yet (safe: nothing can be proved of it). -/
  | notModelled (mnemonic : String)
  deriving DecidableEq, Repr

/-- The machine right after reset: PORn asserted, every register at its reset value, time zero, nothing queued.
(DESIGN CHOICE, log entry 4; DESIGN CHOICE, log entry 8) -/
def State.reset : State := {}

end Sys2Proof.Machine
end

