-- ==== Sys2Proof/Machine/Ops.lean ====
section
/-!
DEFINITION. Ops.lean: the named operations over the state: sparse tables, the register file, timers, the clock,
outputs, and the address, world and power checks every register access meets.
-/
namespace Sys2Proof.Machine

/-! ## Sparse tables -/

/-- The entry at an index. -/
def kfind {α : Type} : KMap α → Nat → Option α
  | [], _ => none
  | (k, v) :: m, i => if k = i then some v else kfind m i

/-- The table with the entry at an index written; the indices stay strictly rising. -/
def kput {α : Type} : KMap α → Nat → α → KMap α
  | [], i, x => [(i, x)]
  | (k, v) :: m, i, x =>
    if k = i then (i, x) :: m
    else if i < k then (i, x) :: (k, v) :: m
    else (k, v) :: kput m i x

/-- The table without the entry at an index. -/
def kdel {α : Type} (m : KMap α) (i : Nat) : KMap α := m.filter (fun e => e.1 != i)

/-- The entry at an index, or what an unlisted entry holds. -/
def kget {α : Type} (m : KMap α) (i : Nat) (d : α) : α := (kfind m i).getD d

/-- Apply a function to the entry at an index. -/
def kmod {α : Type} (m : KMap α) (i : Nat) (d : α) (f : α → α) : KMap α := kput m i (f (kget m i d))

/-- Strictly rising indices: the one form a sparse table is kept in. -/
def krising {α : Type} : KMap α → Bool
  | [] => true
  | [_] => true
  | (a, _) :: (b, y) :: m => a < b && krising ((b, y) :: m)

/-- A queue with an entry put before the first one that must stand after it. -/
def putBefore {α : Type} (after : α → Bool) (x : α) : List α → List α
  | [] => [x]
  | y :: l => if after y then x :: y :: l else y :: putBefore after x l

/-- A queue of at most `cap` entries with one more put in its place, and the entry that found no room, if any. -/
def pushOrdered {α : Type} (cap : Nat) (after : α → Bool) (x : α) (l : List α) : List α × Option α :=
  ((putBefore after x l).take cap, ((putBefore after x l)[cap]?))

/-! ## Bits of words -/

/-- The field of a word: `len` bits from bit `lo`. -/
def bitsOf (w : Word) (lo len : Nat) : Nat := w.toNat / 2 ^ lo % 2 ^ len

/-- A word with a field replaced by the low bits of v. -/
def withBits (w : Word) (lo len v : Nat) : Word :=
  let old := w.toNat / 2 ^ lo % 2 ^ len
  BitVec.ofNat 32 (w.toNat - old * 2 ^ lo + v % 2 ^ len * 2 ^ lo)

/-- The signed value of the low `len` bits of v. -/
def signed (len v : Nat) : Int :=
  let u := v % 2 ^ len
  if u < 2 ^ (len - 1) then (u : Int) else (u : Int) - (2 ^ len : Nat)

/-- The two's complement of an integer in `len` bits. -/
def unsigned (len : Nat) (v : Int) : Nat := (v % (2 ^ len : Nat)).toNat

/-- A value limited to what a counter of `len` bits can hold (a counter that saturates). -/
def sat (len v : Nat) : Nat := min v (2 ^ len - 1)

/-! ## Reset values -/

/-- Bits of a word that its fields fill at reset. -/
def fieldsReset (fs : List FieldSpec) : Nat := fs.foldl (fun acc f => acc + f.reset * 2 ^ f.lo) 0

/-- Whether an offset from a row's base is one of its instances. -/
def inDims : Nat → List (Nat × Nat) → Bool
  | off, [] => off == 0
  | off, (st, c) :: ds => decide (off / st < c) && inDims (off % st) ds

/-- The row among some rows that an address belongs to. -/
def findRow (rows : List RegRow) (a : Nat) : Option RegRow :=
  rows.find? (fun r => decide (r.base ≤ a) && inDims (a - r.base) r.dims)

/-- The register row of an address of the model's one space, if a register stands there (R41, R467 to R469). -/
def rowOf (a : Nat) : Option RegRow :=
  if a < 0x1000000 then findRow (spineRows (a / 0x10000)) a
  else if a < 0x3000000 then
    let off := (a - 0x1000000) % 0x400000
    findRow (leafRows off) off
  else if pf1 ≤ a then findRow rows_pf1 (a - pf1)
  else none

/-! ## Requesters of the budget arbiter (R336) -/

/-- Leaves present in a member (R1). -/
def Member.leaves : Member → Nat
  | .d2 => 2
  | .d4 => 4
  | .d8 => 8

/-- The member's power ceiling and guard in tokens (R1, R335). -/
def Member.budget : Member → Nat × Nat
  | .d2 => (1600, 80)
  | .d4 => (2900, 145)
  | .d8 => (5400, 270)

/-- The class of a requester: 0 timing, 1 control, 2 data path (R336). -/
def rqClass (r : Nat) : Nat := if r ≤ 3 then 0 else if r = 4 then 1 else if r = 6 ∨ r = 7 then 0 else 2

/-- The declared peak of a requester whose lanes are all disabled (R336; a lane group's peak follows its lanes). -/
def rqPeak (m : Member) (r : Nat) : Nat :=
  if r ≤ 2 then 15 else if r = 3 then 20 else if r = 4 then 35
  else if r = 5 then 60 + 30 * m.leaves
  else if r ≤ 7 then 0
  else if r < 8 + 8 then (if r - 8 < m.leaves then 160 else 0)
  else if r < 48 then (if (r - 16) / 4 < m.leaves then 25 else 0)
  else if (r - 48) / 16 < m.leaves then 2 else 0

/-- Whether an event source ever asserts (R460). -/
def srcExists (s : Nat) : Bool :=
  s ≤ 4 || (8 ≤ s && s ≤ 11) || (16 ≤ s && s ≤ 21) || (32 ≤ s && s ≤ 36) || (40 ≤ s && s ≤ 45) ||
    (48 ≤ s && s ≤ 54) || (56 ≤ s && s ≤ 64) || (68 ≤ s && s ≤ 95)

/-- The vector of a source's default route (R460). -/
def srcVector (s : Nat) : Nat :=
  if s = 1 then 28 else if s = 2 then 29 else if s ≤ 11 then 0
  else if s ≤ 21 then 1 else if s ≤ 45 then 2 else if s ≤ 54 then 3 else if s ≤ 59 then 4
  else if s ≤ 63 then 5 else if s = 64 then 6 else if s = 68 then 7 else if s = 69 then 8
  else if s ≤ 71 then 9 else if s ≤ 75 then 10 + (s - 72) else if s ≤ 79 then 24 + (s - 76)
  else if s ≤ 87 then 14 + (s - 80) else 22

/-- Whether a source is routed to the secure world at reset (R460). -/
def srcSecure (s : Nat) : Bool := s == 1 || s == 2 || (76 ≤ s && s ≤ 79)

/-- EVT.ROUTE[s] at reset (R460, R465). -/
def routeReset (s : Nat) : Nat :=
  if srcExists s then
    (if srcSecure s then 2 ^ 31 else 0) + (if s = 10 ∨ 88 ≤ s then 2 ^ 17 else 0) + 2 ^ 16 + srcVector s
  else 0

/-- Reset words that differ between the instances of a register or between members. -/
def resetOverride (m : Member) (a : Nat) : Option Nat :=
  if a = Reg.SYS_ID0 then
    some (0xDA * 2 ^ 24 + 0xB0 * 2 ^ 16 + m.leaves * 2 ^ 12 + (2 ^ m.leaves - 1))
  else if a = Reg.PWR_BUDGET then some (m.budget.2 * 2 ^ 16 + m.budget.1)
  else if Reg.PWR_RQ 0 ≤ a ∧ a < Reg.PWR_RQ 176 ∧ a % 4 = 0 then
    let r := (a - Reg.PWR_RQ 0) / 4
    some (rqClass r * 2 ^ 24 + rqPeak m r)
  else if a = Reg.DPLL_CTRL 0 then some (0x18 * 2 ^ 24 + 2 ^ 11 + 2 ^ 10)
  else if a = Reg.DPLL_CLAMP 1 ∨ a = Reg.DPLL_CLAMP 2 then some 0x1F4
  else if a = Reg.GNSS_PORT_LO 1 then some 0x461F5280
  else if a = Reg.EVT_ENABLE 0 then some 0x400
  else if a = Reg.EVT_ENABLE 2 then some 0xFF000000
  else if Reg.EVT_ROUTE 0 ≤ a ∧ a < Reg.EVT_ROUTE 96 ∧ a % 4 = 0 then some (routeReset ((a - Reg.EVT_ROUTE 0) / 4))
  else if a = Reg.CAL_ITEM_CFG 1 then some (60 * 2 ^ 16 + 2)
  else if a = Reg.CAL_ITEM_CFG 2 then some (600 * 2 ^ 16 + 2)
  else if a = Reg.CAL_ITEM_CFG 4 then some (3600 * 2 ^ 16 + 2)
  else if a = Reg.CAL_ITEM_CFG 6 then some (3600 * 2 ^ 16 + 2)
  else if a = Reg.CAL_ITEM_CFG 7 then some (3600 * 2 ^ 16 + 2)
  else none

/-- What a register reads at reset: what an unlisted word of the register file holds. -/
def resetWord (m : Member) (a : Nat) : Word :=
  match resetOverride m a with
  | some w => BitVec.ofNat 32 w
  | none =>
    match rowOf a with
    | some r => BitVec.ofNat 32 (fieldsReset r.fields)
    | none => 0#32

/-! ## The register file -/

/-- The register file with one word written: a word at its reset value is not listed. -/
def regPut (rst : Nat → Word) (m : KMap Word) (a : Nat) (w : Word) : KMap Word :=
  if w = rst a then kdel m a else kput m a w

/-- The word at an address.
(DESIGN CHOICE, log entry 7) -/
def State.get (s : State) (a : Nat) : Word := kget s.regs a (resetWord s.member a)

/-- The state with the word at an address written.
(DESIGN CHOICE, log entry 7) -/
def State.set (s : State) (a : Nat) (w : Word) : State := { s with regs := regPut (resetWord s.member) s.regs a w }

/-- The value of a register field. -/
def State.fld (s : State) (f : FRef) : Nat := bitsOf (s.get f.addr) f.lo f.len

/-- The signed value of a register field. -/
def State.fldInt (s : State) (f : FRef) : Int := signed f.len (s.fld f)

/-- The state with a register field written. -/
def State.setFld (s : State) (f : FRef) (v : Nat) : State := s.set f.addr (withBits (s.get f.addr) f.lo f.len v)

/-- Whether a one-bit field is 1. -/
def State.on (s : State) (f : FRef) : Bool := s.fld f != 0

/-- The state with a one-bit field set as given. -/
def State.setBit (s : State) (f : FRef) (b : Bool) : State := s.setFld f (if b then 1 else 0)

/-- The state with a status or event bit set. -/
def State.raise (s : State) (f : FRef) : State := s.setFld f 1

/-- Bit i of a field. -/
def State.fldBit (s : State) (f : FRef) (i : Nat) : Bool := s.fld f / 2 ^ i % 2 == 1

/-- The state with bit i of a field written. -/
def State.setFldBit (s : State) (f : FRef) (i : Nat) (b : Bool) : State :=
  s.setFld ⟨f.addr, f.lo + i, 1⟩ (if b then 1 else 0)

/-- The state with a field increased by n, saturating at its largest value. -/
def State.bump (s : State) (f : FRef) (n : Nat) : State := s.setFld f (sat f.len (s.fld f + n))

/-- The state with a field increased by n, wrapping at its width. -/
def State.wrapAdd (s : State) (f : FRef) (n : Nat) : State := s.setFld f ((s.fld f + n) % 2 ^ f.len)

/-- The value of n consecutive words from an address, least significant first (R11). -/
def State.getWide (s : State) (a : Nat) : Nat → Nat
  | 0 => 0
  | n + 1 => (s.get a).toNat + 2 ^ 32 * s.getWide (a + 4) n

/-- The state with n consecutive words written from an address. -/
def State.setWide (s : State) (a : Nat) : Nat → Nat → State
  | 0, _ => s
  | n + 1, v => (s.set a (BitVec.ofNat 32 v)).setWide (a + 4) n (v / 2 ^ 32)

/-- Applying functions to a list of indices in order. -/
def State.forAll (s : State) (l : List Nat) (f : Nat → State → State) : State := l.foldl (fun t i => f i t) s

/-- The bits of the register at an address that have one of some access types (R9). -/
def accMask (acc : List Acc) (a : Nat) : Nat :=
  match rowOf a with
  | some r => r.fields.foldl (fun m f => if acc.contains f.acc then m + (2 ^ (f.hi + 1) - 2 ^ f.lo) else m) 0
  | none => 0

/-- The state with the RW fields of a register written. -/
def State.storeRw (s : State) (a : Nat) (w : Word) : State :=
  let m := BitVec.ofNat 32 (accMask [.rw] a)
  s.set a ((s.get a &&& ~~~m) ||| (w &&& m))

/-- Whether the firmware runs: BOOT_STATUS.STATE is RUNNING (R361, R373). -/
def State.fwRuns (s : State) : Bool := s.fld Fld.SYS_BOOT_STATUS_STATE == 5

/-! ## Wide values (R11) -/

/-- What a write of the lowest word of an n-word value commits: its upper words held, or else in force.
(DESIGN CHOICE, log entry 24) -/
def State.wideValue (s : State) (a n : Nat) (w : Word) : Nat :=
  w.toNat + 2 ^ 32 * go (a + 4) (n - 1)
where
  go (a : Nat) : Nat → Nat
    | 0 => 0
    | k + 1 => (kget s.held a (s.get a)).toNat + 2 ^ 32 * go (a + 4) k

/-- The state with the held upper words of an n-word value used up. -/
def State.dropHeld (s : State) (a n : Nat) : State :=
  { s with held := (List.range n).foldl (fun h i => kdel h (a + 4 * i)) s.held }

/-- The state after a read of the lowest word of an n-word value: its upper words are latched.
(DESIGN CHOICE, log entry 24) -/
def State.latchWide (s : State) (a n v : Nat) : State :=
  let upper := fun (h : KMap Word) (i : Nat) =>
    if i = 0 then h else kput h (a + 4 * i) (BitVec.ofNat 32 (v / 2 ^ (32 * i)))
  { s with latched := (List.range n).foldl upper s.latched }

/-! ## Time -/

/-- One network time unit is 2^-16 ns (R13); one tick is 1.25 ns of them (R49). -/
def tickUnits : Nat := 81920

/-- One nanosecond, one microsecond, one millisecond and one second in units of 2^-16 ns. -/
def nsU : Nat := 65536
def usU : Nat := 65536000
def msU : Nat := 65536000000
def secU : Nat := 65536000000000

/-- Ticks in a microsecond, a millisecond and a second. -/
def usT : Nat := 800
def msT : Nat := 800000
def secT : Nat := 800000000

/-- Network time now, in units of 2^-16 ns. -/
def State.now (s : State) : Nat := s.fine / 2 ^ 34

/-- The counter of a Leaf now: the master counter and the residual of its last alignment (R53). -/
def State.leafNow (s : State) (n : Nat) : Nat := ((s.now : Int) + s.fldInt (Fld.TIME_LEAF_RESID_RESID n)).toNat

/-- A time in the 96-bit layout of R13, in units of 2^-16 ns; none where R14 calls it invalid. -/
def timeOfRaw (v : Nat) : Option Nat :=
  let ns := v / 2 ^ 16 % 2 ^ 32
  if ns > 999999999 then none else some (v / 2 ^ 48 % 2 ^ 48 * secU + ns * nsU + v % 2 ^ 16)

/-- The 96-bit layout (R13) of a time in units of 2^-16 ns; seconds wrap at 2^48. -/
def rawOfTime (t : Nat) : Nat :=
  t / secU % 2 ^ 48 * 2 ^ 48 + t % secU / nsU * 2 ^ 16 + t % nsU

/-- The words of a 96-bit time, lowest first. -/
def timeWords (t : Nat) : List Word :=
  let r := rawOfTime t
  [BitVec.ofNat 32 r, BitVec.ofNat 32 (r / 2 ^ 32), BitVec.ofNat 32 (r / 2 ^ 64)]

/-! ## Timers -/

/-- The deadline of a timer. -/
def timerFind : List (Timer × Nat) → Timer → Option Nat
  | [], _ => none
  | (t, d) :: l, k => if t = k then some d else timerFind l k

/-- The timers without one. -/
def timerDel : List (Timer × Nat) → Timer → List (Timer × Nat)
  | [], _ => []
  | (t, d) :: l, k => if t = k then l else (t, d) :: timerDel l k

/-- The deadline of a timer, if it runs. -/
def State.timer (s : State) (k : TimerKind) (i : Nat) : Option Nat := timerFind s.timers ⟨k, i⟩

/-- The state with a timer started: it falls due `d` ticks from now.
(DESIGN CHOICE, log entry 15) -/
def State.startTimer (s : State) (k : TimerKind) (i d : Nat) : State :=
  { s with timers := (⟨k, i⟩, s.ticks + d) :: timerDel s.timers ⟨k, i⟩ }

/-- The state with a timer stopped. -/
def State.stopTimer (s : State) (k : TimerKind) (i : Nat) : State := { s with timers := timerDel s.timers ⟨k, i⟩ }

/-- Whether a timer runs. -/
def State.running (s : State) (k : TimerKind) (i : Nat) : Bool := (s.timer k i).isSome

/-- Whether a timer has fallen due. -/
def State.due (s : State) (k : TimerKind) (i : Nat) : Bool :=
  match s.timer k i with
  | some d => decide (d ≤ s.ticks)
  | none => false

/-- Whether a timer runs and has not fallen due. -/
def State.waiting (s : State) (k : TimerKind) (i : Nat) : Bool :=
  match s.timer k i with
  | some d => decide (s.ticks < d)
  | none => false

/-! ## Outputs and free values -/

/-- The state with something more sent out of the part. -/
def State.emit (s : State) (o : Out) : State := { s with out := s.out ++ [o] }

/-- The next free value, and the state with it drawn.
(DESIGN CHOICE, log entry 9) -/
def State.draw (s : State) : Word × State := (Config.freeWord s.fresh, { s with fresh := s.fresh + 1 })

/-- BOOT_STATUS.STATE values (R351 to R374). -/
def bootRom : Nat := 0
def bootLoading : Nat := 1
def bootWaitHost : Nat := 2
def bootValidating : Nat := 3
def bootStarting : Nat := 4
def bootRunning : Nat := 5
def bootHeld : Nat := 6
def bootUpdating : Nat := 7

/-- Whether the part drives its pins: RUNNING, or UPDATING (R363). -/
def State.live (s : State) : Bool :=
  s.fld Fld.SYS_BOOT_STATUS_STATE == bootRunning || s.fld Fld.SYS_BOOT_STATUS_STATE == bootUpdating

/-- Something sent at a pin that is high-impedance until RUNNING and in HELD (R363). -/
def State.emitPin (s : State) (o : Out) : State := if s.live then s.emit o else s

/-! ## Leaves, power and worlds -/

/-- Leaves present (R1). -/
def State.leaves (s : State) : Nat := s.member.leaves

/-- Front-panel ports are 0 to this less one (R1). -/
def State.nPorts (s : State) : Nat := 32 * s.leaves

/-- The field of SYS.LEAF_STATE of Leaf n (R42). -/
def leafField (n : Nat) : FRef := ⟨Reg.SYS_LEAF_STATE, 4 * n, 4⟩

/-- The state of Leaf n (R42): 0 ABSENT, 1 OFF, 2 STARTING, 3 ALIGNING, 4 IN_SERVICE, 5 DRAINING, 6 FAULT. -/
def State.leaf (s : State) (n : Nat) : Nat := s.fld (leafField n)

/-- Whether Leaf n is IN_SERVICE. -/
def State.inService (s : State) (n : Nat) : Bool := decide (n < 8) && s.leaf n == 4

/-- Whether LF_n is on: STARTING to FAULT (R32). -/
def State.leafOn (s : State) (n : Nat) : Bool := decide (n < 8) && decide (2 ≤ s.leaf n) && decide (s.leaf n ≤ 6)

/-- Whether a requester holds a grant (R336). -/
def State.granted (s : State) (r : Nat) : Bool := s.fld (Fld.PWR_RQ_STATE r) == 2

/-- Whether the switchable domain of requester r is powered and clocked (R32, R347). -/
def State.domOn (s : State) (r : Nat) : Bool := s.doms.contains r

/-- The Leaf a lane or port lies on; 8 is the Spine. -/
def dieOf (g : Nat) : Nat := if g < 256 then g / 32 else 8

/-- Whether a port's die is on: its Leaf, or SP_FAB for the Spine ports (R32). -/
def State.dieOn (s : State) (g : Nat) : Bool := if g < 256 then s.leafOn (g / 32) else s.domOn 5

/-- The secure bit of a Spine block code and of a Leaf block code in the locked world map (R365, R367). -/
def State.spineSecure (s : State) (c : Nat) : Bool := s.fldBit Fld.SEC_WORLD_SPINE_SECURE c
def State.leafSecure (s : State) (c : Nat) : Bool := s.fldBit Fld.SEC_WORLD_LEAF_SECURE c

/-- Whether a forwarding table is reachable by the secure interface only (R157): FWD.WORLD of the Leaf, and the locked world
map it is loaded from while the Leaf is off (R367). -/
def State.fwdSecure (s : State) (n table : Nat) : Bool :=
  s.fldBit (Fld.FWD_WORLD_SECURE n) table || decide (s.boot.fwdSecure / 2 ^ table % 2 = 1)

/-- Whether a source acts for the secure world (R34).
(DEDUCED, log entry 20) -/
def secureSrc : Src → Bool
  | .pf1 | .spiSec | .core => true
  | _ => false

/-- The world a source's access errors are recorded in: 1 for PF1 and secure SPI (R380). -/
def herrOf : Src → Nat
  | .pf1 | .spiSec => 1
  | _ => 0

/-- The SOURCE code of an access error. -/
def srcCode : Src → Nat
  | .pf1 => 1
  | .spi => 2
  | .spiSec => 3
  | _ => 0

/-- Where the user telemetry window of PF0 BAR2 lies in the model's one address space (R377). -/
def bar2 : Nat := 0x200000000

/-- Whether the register at an address belongs to the secure world (R34, R157, R365). A ring's registers follow its
world (R394); the mirror of the DMA block lies at `pf1` + 0x11_0000. -/
def State.secureAt (s : State) (a : Nat) : Bool :=
  if bar2 ≤ a then false
  else if pf1 ≤ a then true
  else if a < 0x1000000 then
    match a / 0x10000 with
    | 0x00 => s.spineSecure 0
    | 0x03 => s.spineSecure 1
    | 0x04 => a == Reg.TIME_ACT_PART || (decide (0x41800 ≤ a) && decide (a < 0x42000))
    | 0x06 => s.spineSecure 2
    | 0x07 => s.spineSecure 3
    | 0x08 | 0x09 => s.spineSecure 4
    | 0x0A | 0x0B => s.spineSecure 5
    | 0x0C => s.spineSecure 6 || (decide (Reg.CAL_REQ 1 ≤ a) && decide (a < Reg.CAL_REQ 1 + 0x10))
    | 0x0D => s.spineSecure 7 || a == Reg.TEL_USER_MASK
    | 0x0E => s.spineSecure 8
    | 0x0F =>
      if Reg.RING_BASE0 0 0 ≤ a ∧ a < Reg.RING_BASE0 2 0 then
        let q := (a - Reg.RING_BASE0 0 0) / 0x1000
        let r := (a - Reg.RING_BASE0 0 0) % 0x1000 / 0x40
        s.fldBit (if q = 0 then Fld.DMA_WORLD_TX else Fld.DMA_WORLD_RX) r
      else false
    | 0x01 | 0x02 | 0x05 => false
    | _ => if a < 0x200000 then s.spineSecure 9 else false
  else if a < 0x3000000 then
    let n := (a - 0x1000000) / 0x400000
    let off := (a - 0x1000000) % 0x400000
    if off < 0x40000 then s.leafSecure 0
    else if off < 0x80000 then s.leafSecure 1
    else if off < 0xC0000 then s.leafSecure 2
    else if off < 0x100000 then s.leafSecure 3
    else if off < 0x180000 then
      let sec := fun t => s.fwdSecure n t
      if off < 0x100100 then false
      else if off < 0x100200 then true
      else if off = 0x100200 then false
      else if off = 0x100204 then true
      else if off = 0x100214 then sec 0 || sec 5 || sec 6 || sec 7
      else if off < 0x100250 then sec 0
      else sec 1 || sec 2
    else if off < 0x200000 then s.leafSecure 4
    else if off < 0x300000 then s.leafSecure 5
    else if off < 0x380000 then s.leafSecure 6
    else s.leafSecure 7
  else false

/-- The address in PF0 that an address of the DMA mirror stands for (R394). -/
def unmirror (a : Nat) : Nat :=
  if pf1 + 0x110000 ≤ a ∧ a < pf1 + 0x120000 then a - (pf1 + 0x110000) + 0xF0000 else a

/-- Whether the power domain of the register at an address is on (R32, R33).
(DEDUCED, log entry 147) -/
def State.domainAt (s : State) (addr : Nat) : Bool :=
  let a := unmirror addr
  if pf1 ≤ a then true
  else if a < 0x1000000 then
    match a / 0x10000 with
    | 0x0F => s.domOn 4
    | h => if 0x10 ≤ h ∧ h < 0x20 then s.domOn 5 else true
  else if a < 0x3000000 then s.leafOn ((a - 0x1000000) / 0x400000)
  else true

/-- Whether an address lies in the window of an absent Leaf (R6). -/
def State.absentAt (s : State) (a : Nat) : Bool :=
  decide (0x1000000 ≤ a) && decide (a < 0x3000000) && decide (s.leaves ≤ (a - 0x1000000) / 0x400000)

/-- Whether an offset in a die's counter view holds a counter word (R446). -/
def counterAt (die off : Nat) : Bool :=
  if die = 8 then decide (off < 0x600) || (decide (0x1000 ≤ off) && decide (off < 0x2000))
  else decide (off < 0x2C00) || (decide (0x4000 ≤ off) && decide (off < 0xC000))

/-- What a word of a counter view shows (R450 to R453): the live count or the shadow, of a die, at an offset of its live
view. -/
structure View where
  live : Bool
  die : Nat
  off : Nat
  deriving DecidableEq, Repr

/-- The view word that stands at an address of TEL or CNT. -/
def viewOf (a : Nat) : Option View :=
  if a < 0x1000000 then
    let off := (a - 0xD2000) % 0x2000
    if 0xD2000 ≤ a ∧ a < 0xD6000 ∧ counterAt 8 off then some ⟨decide (a < 0xD4000), 8, off⟩ else none
  else if a < 0x3000000 then
    let n := (a - 0x1000000) / 0x400000
    let off := (a - 0x1000000) % 0x400000
    if 0x300000 ≤ off ∧ off < 0x320000 ∧ counterAt n (off % 0x10000) then some ⟨decide (off < 0x310000), n, off % 0x10000⟩
    else if 0x320000 ≤ off ∧ off < 0x360000 then
      some ⟨decide (off < 0x340000), n, 0x20000 + (off - 0x320000) % 0x20000⟩
    else none
  else none

/-- Counter views and the telemetry window stand at addresses without a register row (R445 to R453). -/
def viewAt (a : Nat) : Bool := (viewOf a).isSome || (decide (bar2 ≤ a) && decide (a < bar2 + 0x100000))

/-- What becomes of an access: it acts, it is silently void (an absent Leaf, R6), or it is an access error of a kind
(1 DOMAIN_OFF, 2 WORLD, 3 ADDRESS; R380). -/
inductive Access where
  | ok
  | void
  | err (kind : Nat)
  deriving DecidableEq, Repr

/-- Where the management processor's system address space lies in the model's one address space (R470). -/
def sysBase : Nat := 0x10000000000

/-- The memories of that space, with the bytes of each (R470): SRAM, shadow memory, host memory. -/
def sysRam : List (Nat × Nat) := [(0x10000000, 0x1000000), (0x20000000, 0x4000000)]
def sysHost : Nat × Nat := (0x1000000000, 0x1000000000)

/-- Whether an address lies in a span of an address space. -/
def inSpan (x : Nat) (g : Nat × Nat) : Bool := decide (g.1 ≤ x) && decide (x < g.1 + g.2)

/-- The register address that a core's address in the register views of that space stands for (R470). -/
def viewAddr (src : Src) (a : Nat) : Nat :=
  if src ≠ .core ∧ src ≠ .app then a
  else if inSpan a (sysBase + 0x40000000, 0x4000000) then a - (sysBase + 0x40000000)
  else if inSpan a (sysBase + 0x44000000, 0x400000) then a - (sysBase + 0x44000000) + pf1
  else a

/-- Whether a system address belongs to the secure world: what lies in no region does (R366). -/
def State.sysSecure (s : State) (x : Nat) : Bool :=
  match s.boot.regions.find? (fun r => inSpan x (r.1, r.2.1)) with
  | some r => r.2.2
  | none => true

/-- Whether an address lies in the space a source addresses: PF0 and plain SPI frames have PF0 BAR0 and PF0 alone BAR2; PF1
and secure SPI frames have PF1 BAR0 with the DMA mirror (R377, R381, R394); the cores have views of both (R470).
(DESIGN CHOICE, log entry 18) -/
def inSpace (src : Src) (a : Nat) : Bool :=
  match src with
  | .pf0 => decide (a < pf1) || decide (bar2 ≤ a)
  | .spi => decide (a < pf1)
  | .pf1 | .spiSec => (decide (pf1 ≤ a) && decide (a < bar2)) || a / 0x10000 == 0xF
  | .core | .app => decide (a < bar2) || decide (sysBase ≤ a)

/-- Whether a source's own path to the registers is up: the part is powered, and the PCIe functions have SP_HOST.
(DESIGN CHOICE, log entry 18) -/
def State.reaches (s : State) (src : Src) : Bool :=
  s.powered && (match src with
    | .pf0 | .pf1 => s.domOn 4
    | _ => true)

/-- Whether a secure SPI frame may reach an address (R36, R358): before the world map is locked it reaches SEC and IMG.
(DEDUCED, log entry 19) -/
def State.spiAllows (s : State) (a : Nat) : Bool :=
  if s.on Fld.SEC_WORLD_LOCKED then s.on Fld.SEC_WORLD_SPI_SECURE
  else decide (pf1 ≤ a) && (decide (a < pf1 + 0x100000) || (decide (pf1 + 0x200000 ≤ a) && decide (a < pf1 + 0x400000)))

/-- What becomes of a core's access to a system address: the Boot ROM is secure, memory follows its region, any other address
is reserved (R366, R470). -/
def State.sysAccess (s : State) (src : Src) (x : Nat) : Access :=
  if inSpan x (0, 0x40000) then (if secureSrc src then .ok else .err 2)
  else if (sysHost :: sysRam).any (inSpan x) then (if s.sysSecure x && !secureSrc src then .err 2 else .ok)
  else .void

/-- The checks of an access in order: an address that the source does not have or a path that is down (R332), an absent
Leaf (R6), world (R35, R36), power domain (R33), reserved space (R41).
(DEDUCED, log entry 16) -/
def State.access (s : State) (src : Src) (a : Nat) : Access :=
  if !s.reaches src || !inSpace src a || s.absentAt a then .void
  else if sysBase ≤ a then s.sysAccess src (a - sysBase)
  else if (s.secureAt a && !secureSrc src) || (src == .spiSec && !s.spiAllows a) then .err 2
  else if !s.domainAt a then .err 1
  else if (rowOf (unmirror a)).isNone && !viewAt a then .err 3
  else .ok

/-- The state with an access error recorded (R380). The first error since every KIND bit was clear latches SOURCE and
ADDR; later ones set MULTI; every one counts.
(DEDUCED, log entry 17) -/
def State.accessError (s : State) (src : Src) (kind a : Nat) : State :=
  let w := herrOf src
  let first := s.fld (Fld.HERR_STAT_KIND w) == 0
  let t := if first then
      (s.setFld (Fld.HERR_STAT_SOURCE w) (srcCode src)).set (Reg.HERR_ADDR w) (BitVec.ofNat 32 a)
    else s.raise (Fld.HERR_STAT_MULTI w)
  (t.setFldBit (Fld.HERR_STAT_KIND w) kind true).bump (Fld.HERR_STAT_COUNT w) 1

/-- A write by a source to the register at an address, under the checks of R6, R33, R35 and R41.
(DEDUCED, log entry 16) -/
def State.guarded (s : State) (src : Src) (a : Nat) (f : State → State) : State :=
  match s.access src a with
  | .ok => f s
  | .void => s
  | .err k => s.accessError src k a

end Sys2Proof.Machine
end

