-- ==== Sys2Proof/Machine/Entry.lean ====
section
/-!
DEFINITION. Entry.lean: the rate of the master counter, the timed-action entries and what the commands of their interfaces do
to them (R49, R64 to R68, R71, R74).
-/
namespace Sys2Proof.Machine

/-! ## The master counter (R49) -/

/-- Signed frequency word of DPLL-T now applied (R17, R255). -/
def State.steer (s : State) : Int := signed 64 (s.getWide (Reg.DPLL_FREQ_NOW0 0) 2)

/-- The units of 2^-50 ns the master counter adds in one tick: 1.25 ns corrected by the frequency word (R49).
(DESIGN CHOICE, log entry 148) -/
def tickFine (w : Int) : Nat := (5 * 2 ^ 48 + 5 * w).toNat

/-! ## Widths of pulses (R60) -/

/-- 2.5 ns, the least width of a pulse (R60). -/
def pulseMin : Nat := 163840

/-- The limits of ONCE mode and of a PULSE action (R60, R74). -/
def onceOk (width : Nat) : Bool := decide (pulseMin ≤ width) && decide (width ≤ secU)

/-! ## Timed-action entries (R64 to R74) -/

/-- Entry e. -/
def State.act (s : State) (e : Nat) : ActEntry := kget s.acts e {}

/-- The state with entry e written. -/
def State.setAct (s : State) (e : Nat) (a : ActEntry) : State := { s with acts := kput s.acts e a }

/-- Word i of an entry; a word never written is 0. -/
def ActEntry.word (a : ActEntry) (i : Nat) : Nat := ((a.words[i]?).getD 0#32).toNat

/-- The fields of an entry (TIME.ACT[w].ENTRY). -/
def ActEntry.raw (a : ActEntry) : Nat := a.word 0 + 2 ^ 32 * a.word 1 + 2 ^ 64 * a.word 2
def ActEntry.trigger (a : ActEntry) : Nat := (timeOfRaw a.raw).getD 0
def ActEntry.target (a : ActEntry) : Nat := a.word 3 / 2 ^ 16
def ActEntry.code (a : ActEntry) : Nat := a.word 3 % 2 ^ 8
def ActEntry.arg (a : ActEntry) : Nat := a.word 4 + 2 ^ 32 * a.word 5
def ActEntry.periodNs (a : ActEntry) : Nat := a.word 6
def ActEntry.periodS (a : ActEntry) : Nat := a.word 7 % 2 ^ 16
def ActEntry.count (a : ActEntry) : Nat := a.word 7 / 2 ^ 16
def ActEntry.reservedSet (a : ActEntry) : Bool := a.word 3 / 2 ^ 8 % 2 ^ 8 != 0
def ActEntry.period (a : ActEntry) : Nat := a.periodS * secU + a.periodNs * nsU

/-- Entries 0 to this less one are secure (R64). -/
def State.secureEntries (s : State) : Nat := s.fld Fld.TIME_ACT_PART_SECURE_ENTRIES

/-- The world of an entry: 1 secure. -/
def State.actWorld (s : State) (e : Nat) : Nat := if e < s.secureEntries then 1 else 0

/-- A Leaf mask that selects a present Leaf. -/
def State.maskOk (s : State) (m : Nat) : Bool := m % 2 ^ s.leaves != 0

/-- Whether a code's target and argument are valid (R74).
(DEDUCED, log entry 32) -/
def State.actValid (s : State) (code target arg : Nat) : Bool :=
  match code with
  | 0x01 => decide (target < 8) && onceOk arg
  | 0x02 => decide (target < 512) && (s.maskOk target || target / 256 == 1) && arg != 0 && decide (arg < 64)
  | 0x03 | 0x04 | 0x05 => decide (target < 256) && s.maskOk target && decide (arg ≤ 2)
  | 0x06 => decide (target < s.nPorts) && decide (arg ≤ 2)
  | 0x07 | 0x08 => (decide (target < s.nPorts) || (decide (256 ≤ target) && decide (target < 260))) && arg == 0
  | 0x09 => decide (target < 3)
  | 0x0A => decide (target < 16)
  | 0x0B => decide (target < 4096) && arg == 0
  | 0x0C => decide (target < 16) && decide (1 ≤ arg) && decide (arg ≤ 60000)
  | 0x0D => decide (target < 16) && arg == 0
  | _ => false

/-- Whether an entry's period is valid (R71). -/
def ActEntry.periodOk (a : ActEntry) : Bool :=
  decide (a.periodNs ≤ 999999999) && (a.period == 0 || decide (100 * usU ≤ a.period))

/-- The result codes of TIME.ACT[w].STAT. -/
def resOk : Nat := 0
def resInUse : Nat := 1
def resWorld : Nat := 2
def resLate : Nat := 3
def resInvalid : Nat := 4

/-- The result of a WRITE of entry contents `a` onto entry e at time t (R66). -/
def State.actWriteResult (s : State) (e t : Nat) (a : ActEntry) : Nat :=
  if (s.act e).state ≠ .free then resInUse
  else if (timeOfRaw a.raw).isNone || !s.actValid a.code a.target a.arg || !a.periodOk then resInvalid
  else if a.trigger < t + 20 * usU then resLate
  else resOk

/-- The number of the state of an entry in STAT. -/
def actStateCode : ActState → Nat
  | .free => 0
  | .pending => 1
  | .armed => 2

/-- STAT shows entry e as the command left it (R68). -/
def State.actShow (s : State) (w e result : Nat) : State :=
  let a := s.act e
  let s := s.setFld (Fld.TIME_ACT_STAT_RESULT w) result
  let s := s.setFld (Fld.TIME_ACT_STAT_FIRES w) (if result = resWorld then 0 else a.fires)
  let s := s.setFld (Fld.TIME_ACT_STAT_LAST_FIRE w) (if result = resWorld then 0 else a.last)
  s.setFld (Fld.TIME_ACT_STAT_STATE w) (if result = resWorld then 0 else actStateCode a.state)

/-- A WRITE operation with contents `a` at time t; the result is reported by `actShow`. -/
def actWrite (e t : Nat) (a : ActEntry) (s : State) : Nat × State :=
  let r := s.actWriteResult e t a
  if r = resOk then (r, s.setAct e { words := a.words, state := .pending, fires := 0, last := 0, carried := none }) else (r, s)

/-- A CANCEL operation (R68). -/
def actCancel (e : Nat) (s : State) : Nat × State :=
  match (s.act e).state with
  | .pending => (resOk, s.setAct e { s.act e with state := .free, carried := none })
  | .armed => (resLate, s)
  | .free => (resInvalid, s)

/-- The eight staging words of an interface. -/
def State.actStaged (s : State) (w : Nat) : List Word := (List.range 8).map (fun i => s.get (Reg.TIME_ACT_ENTRY w i))

/-- A READ operation: the staging words take the entry (R68). -/
def actRead (w e : Nat) (s : State) : State :=
  s.forAll (List.range 8) (fun i s => s.set (Reg.TIME_ACT_ENTRY w i) (BitVec.ofNat 32 ((s.act e).word i)))

/-- A command on TIME.ACT[w] acts on entry e at time t (R66, R68): an INDEX outside the world's share reports WORLD. -/
def actRun (w op e t : Nat) (s : State) : State :=
  if s.actWorld e ≠ w then s.actShow w e resWorld
  else if op = 1 then
    let (r, s) := actWrite e t { words := s.actStaged w } s
    s.actShow w e r
  else if op = 2 then (actRead w e s).actShow w e resOk
  else if op = 3 then
    let (r, s) := actCancel e s
    s.actShow w e r
  else s

/-- Network time as it stood k ticks ago, when nothing but time has passed since. -/
def State.nowBefore (s : State) (k : Nat) : Nat :=
  if s.counting then (s.fine - k * tickFine s.steer) / 2 ^ 34 else s.now

/-- The command in progress on TIME.ACT[w] acts once its cycle has come, with the entry, the staging words and the time of that
cycle (R67). -/
def actComplete (w : Nat) (s : State) : State :=
  match kfind s.actCmds w with
  | some c =>
    if c.due ≤ s.ticks then
      actRun w c.op c.index (s.nowBefore (s.ticks - c.due)) { s with actCmds := kdel s.actCmds w }
    else s
  | none => s

end Sys2Proof.Machine
end

