-- ==== Sys2Proof/Machine/Flags.lean ====
section
/-!
DEFINITION. Flags.lean: the event controller (R459 to R466): which sources their sub-causes raise, what is pending, and
the messages and the interrupt line that follow (R392, R393). Every command ends with `settle`.
-/
namespace Sys2Proof.Machine

/-- A cause's contribution: its event source, and the bit of LCTL.SUM it shows in. -/
abbrev Cause := Nat × Nat

/-- The source given, when the bits of an event word under a mask are not all 0. -/
def causeIf (w m src bit : Nat) : List Cause := if w &&& m = 0 then [] else [(src, bit)]

/-- What an event word of a Leaf block contributes (R463, LCTL.SUM): `off` is its offset in the Leaf window, `src` the
Leaf's summary source, `en` reads the enable word that stands `d` bytes after it. -/
def leafCauses (en : Nat → Nat) (n off w : Nat) : List Cause :=
  let src := 80 + n
  if off < 0x40000 then
    if off = 0x10 then causeIf w (en 4 &&& 0xF) (88 + n) 7
    else if off = 0x44 then causeIf w (en 4 &&& 7) (88 + n) 7
    else []
  else if off < 0x80000 then if off % 0x1000 = 8 then causeIf w (en 4 &&& 0x7F) src 0 else []
  else if off < 0xC0000 then
    if off % 0x1000 = 0x18 then
      causeIf w (en 4 &&& 0xF) src 1 ++ causeIf w (en 4 &&& 8) src 2
    else []
  else if off < 0x100000 then
    if 0xC9000 ≤ off ∧ off < 0xCA000 ∧ off % 0x80 = 0x1C then causeIf w 0xE0 src 2 else []
  else if off = 0x100240 then causeIf w (en 4 &&& 0xF) src 3
  else if off = 0x180508 then causeIf w (en 4 &&& 0xF) src 4
  else if 0x200000 ≤ off ∧ off < 0x208000 ∧ off % 0x400 = 0xA0 then causeIf w (en 4 &&& 0x1F) src 5
  else if off = 0x210104 then causeIf w (en 4 &&& 1) src 5
  else if off = 0x380020 then causeIf w (en 4 &&& 7) src 6
  else []

/-- What an event word of the Spine's port blocks contributes to source 3 (R460). -/
def spinePortCauses (en : Nat → Nat) (a w : Nat) : List Cause :=
  if 0x170000 ≤ a ∧ a < 0x172000 ∧ a % 0x1000 = 8 then causeIf w (en 4 &&& 0x7F) 3 0
  else if 0x180000 ≤ a ∧ a < 0x182000 ∧ a % 0x1000 = 0x18 then causeIf w (en 4 &&& 0xF) 3 0
  else if 0x1C9000 ≤ a ∧ a < 0x1C9100 ∧ a % 0x80 = 0x1C then causeIf w 0xE0 3 0
  else if 0x1D0000 ≤ a ∧ a < 0x1D0800 ∧ a % 0x400 = 0xA0 then causeIf w (en 4 &&& 0x1F) 3 0
  else if a = Reg.XBAR_EVT then causeIf w (en 4 &&& 7) 4 0
  else []

/-- What a word of the PWR and TIME blocks contributes (R350, R75). -/
def timeCauses (en : Nat → Nat) (a w : Nat) : List Cause :=
  if a = Reg.PWR_EVT then
    let m := w &&& en 4
    causeIf m 0x21 8 0 ++ causeIf m 0x2 9 0 ++ causeIf m 0x8 10 0 ++ causeIf m 0x50 11 0 ++
      (List.range 8).flatMap (fun n => causeIf m (2 ^ (8 + n)) (88 + n) 7)
  else if a = Reg.TIME_STATUS then causeIf w 6 16 0
  else if Reg.TIME_LEAF_RESID 0 ≤ a ∧ a < Reg.TIME_LEAF_RESID 8 then causeIf w 0x10000 17 0
  else if a = Reg.TIME_ACT_EVT then causeIf w 0xFFFF 19 0
  else if 0x40100 ≤ a ∧ a < 0x401C0 ∧ a % 0x20 = 4 then causeIf w 0x31F 20 0
  else if 0x40200 ≤ a ∧ a < 0x40400 ∧ a % 0x40 = 4 then causeIf w 0xC 21 0
  else []

/-- What a word of the REF, DPLL, SYN, GNSS, CLM, CAL and TEL blocks contributes (R268, R290, R315, R329, R444, R458). -/
def clockCauses (en : Nat → Nat) (a w : Nat) : List Cause :=
  if a = Reg.REF_EVT then causeIf w (en 4 &&& 0x2FFFF) 32 0 ++ causeIf w (en 4 &&& 0x10000) 33 0
  else if 0x70000 ≤ a ∧ a < 0x70300 ∧ a % 0x100 = 0x78 then causeIf w (en 4 &&& 0x7F) (34 + (a - 0x70000) / 0x100) 0
  else if 0x80000 ≤ a ∧ a < 0x80300 ∧ a % 0x100 = 0x10 then causeIf w (en 4 &&& 0xF) (40 + (a - 0x80000) / 0x100) 0
  else if a = Reg.OUT_EVT then causeIf w (en 4 &&& 0x10FFF) 43 0
  else if a = Reg.TSU_PLL then causeIf w 4 44 0
  else if a = Reg.SYN_SYNCIN then causeIf w 0x20000 45 0
  else if a = Reg.GNSS_EVT then
    let m := w &&& en 4
    causeIf m 0x603 48 0 ++ causeIf m 4 49 0 ++ causeIf m 8 50 0 ++ causeIf m 0x10 51 0 ++ causeIf m 0x60 52 0 ++
      causeIf m 0x180 53 0
  else if a = Reg.GNSS_FW_EVT then causeIf w 0x1F 54 0
  else if a = Reg.CLM_EVT then
    let m := w &&& en 4
    causeIf m 1 56 0 ++ causeIf m 2 57 0 ++ causeIf m 4 58 0 ++ causeIf m 8 59 0
  else if a = Reg.CAL_EVT then causeIf w (en 4 &&& 1) 60 0 ++ causeIf w (en 4 &&& 6) 61 0
  else if a = Reg.CAL_MON_TEMP_EVT then causeIf w 0x3FF 62 0
  else if a = Reg.CAL_MON_VOLT_EVT then causeIf w 0x7FFFFFF 63 0
  else if a = Reg.TEL_EVT then causeIf w (en 4 &&& 3) 64 0
  else []

/-- The rings of the world a source is routed to, as a mask over TX or RX rings (R461). -/
def State.ringMask (s : State) (src lo : Nat) : Nat :=
  let wmask := (s.get Reg.DMA_WORLD).toNat / 2 ^ lo % 2 ^ 16
  if s.on (Fld.EVT_ROUTE_WORLD src) then wmask else 0xFFFF - wmask

/-- What a word of the IMG, DMA, HERR and mailbox registers contributes (R405, R460 to R462). -/
def State.hostCauses (s : State) (a w : Nat) : List Cause :=
  if a = Reg.IMG_STAT then causeIf w 0xE0 1 0
  else if a = Reg.DMA_TX_EVT then causeIf w ((s.get Reg.DMA_TX_EVT_EN).toNat &&& s.ringMask 68 0) 68 0
  else if a = Reg.DMA_RX_EVT then causeIf w ((s.get Reg.DMA_RX_EVT_EN).toNat &&& s.ringMask 69 16) 69 0
  else if a = Reg.DMA_ERR_EVT then
    causeIf w ((s.get Reg.DMA_ERR_EVT_EN).toNat &&& (s.ringMask 70 0 + 2 ^ 16 * s.ringMask 70 16)) 70 0
  else if a = Reg.HERR_STAT 0 then if s.on (Fld.EVT_ROUTE_WORLD 71) then [] else causeIf w 0xF 71 0
  else if a = Reg.HERR_STAT 1 then if s.on (Fld.EVT_ROUTE_WORLD 71) then causeIf w 0xF 71 0 else []
  else (List.range 8).flatMap (fun m =>
    if a = Reg.MBX_STATUS m ∧ s.on (Fld.MBX_EVT_EN_RESP m) ∧ !(s.quiet.contains m) then causeIf w 2 (72 + m) 0 else [])

/-- What one listed register word contributes to the event sources. -/
def State.causesOf (s : State) (a : Nat) (word : Word) : List Cause :=
  let w := word.toNat
  let en := fun d => (s.get (a + d)).toNat
  if 0x1000000 ≤ a ∧ a < 0x3000000 then
    leafCauses en ((a - 0x1000000) / 0x400000) ((a - 0x1000000) % 0x400000) w
  else if a < 0x1000000 then
    if 0x100000 ≤ a then spinePortCauses en a w
    else if 0xF0000 ≤ a then s.hostCauses a w
    else if 0x60000 ≤ a then clockCauses en a w
    else if 0x30000 ≤ a then timeCauses en a w
    else s.hostCauses a w
  else s.hostCauses a w

/-- Every cause that stands now. -/
def State.causes (s : State) : List Cause := s.regs.flatMap (fun e => s.causesOf e.1 e.2)

/-- The latched sources: 0, 2 and 18 (R460). -/
def latchedMask : Nat := 2 ^ 0 + 2 ^ 2 + 2 ^ 18

/-- The 96 RAW bits: level sources follow their sub-causes, latched sources keep their bits (R459). -/
def State.rawNow (s : State) : Nat :=
  s.causes.foldl (fun acc c => acc ||| 2 ^ c.1) ((s.get (Reg.EVT_RAW 0)).toNat &&& latchedMask)

/-- The 96 ENABLE bits. -/
def State.enables (s : State) : Nat := s.getWide (Reg.EVT_ENABLE 0) 3

/-- The pending sources routed to a vector (R464), as a 96-bit mask. -/
def State.vecSources (s : State) (pend v : Nat) : Nat :=
  (List.range 96).foldl (fun acc i =>
    if pend / 2 ^ i % 2 = 1 ∧ s.on (Fld.EVT_ROUTE_MSIX i) ∧ s.fld (Fld.EVT_ROUTE_VEC i) = v then acc + 2 ^ i else acc) 0

/-- The PBA bit of a vector (R391). -/
def pbaBit (v : Nat) : FRef := if v < 24 then ⟨Reg.MSIX_PBA0, v, 1⟩ else ⟨Reg.MSIX_PBA1, v - 24, 1⟩

/-- The MSI-X table entry of a vector, word e (R391). -/
def msixEntry (v e : Nat) : Nat := if v < 24 then Reg.MSIX_TABLE0 v e else Reg.MSIX_TABLE1 (v - 24) e

/-- Whether a vector's messages may leave: its function has MSI-X and bus mastering enabled, the function and the
vector are unmasked, and the endpoint is powered (R392). -/
def State.vecOpen (s : State) (v : Nat) : Bool :=
  let f := if v < 24 then s.fn0 else s.fn1
  s.domOn 4 && f.msixEn && f.busMaster && !f.masked && bitsOf (s.get (msixEntry v 3)) 0 1 == 0

/-- A vector's message is due: it is sent, or held in the PBA (R392).
(DESIGN CHOICE, log entry 118) -/
def State.signalVector (s : State) (v : Nat) : State :=
  if s.vecOpen v then
    (s.emit (.msix v ((s.get (msixEntry v 0)).toNat + 2 ^ 32 * (s.get (msixEntry v 1)).toNat) (s.get (msixEntry v 2)))).setFld
      (pbaBit v) 0
  else s.raise (pbaBit v)

/-- One vector follows its sources: a message is due when their OR rises, or when a source leaves it while it stays 1.
(DESIGN CHOICE, log entry 118) -/
def State.followVector (s : State) (pend v : Nat) : State :=
  let old := kget s.vecMem v 0
  let new := s.vecSources pend v
  let t := { s with vecMem := if new = 0 then kdel s.vecMem v else kput s.vecMem v new }
  if new ≠ 0 ∧ (old = 0 ∨ old &&& new ≠ old) then t.signalVector v else t

/-- Whether IRQn is driven low: a pending source is routed to it, the world map is locked and the device is not in
HELD (R393). -/
def State.irqWanted (s : State) (pend : Nat) : Bool :=
  s.on Fld.SEC_WORLD_LOCKED && s.fld Fld.SYS_BOOT_STATUS_STATE != bootHeld &&
    (List.range 96).any (fun i => pend / 2 ^ i % 2 == 1 && s.on (Fld.EVT_ROUTE_IRQ i))

/-- The events of a source set a latched RAW bit (R459). -/
def State.latchEvent (s : State) (src : Nat) : State := s.setFldBit (Fld.EVT_RAW_RAW 0) src true

/-- The vectors some pending or former member concerns. -/
def State.vecsToFollow (s : State) (pend : Nat) : List Nat :=
  if pend = 0 ∧ s.vecMem = [] then [] else List.range 32

/-- The event controller follows the state: RAW, PEND, the vectors and IRQn (R459 to R464). -/
def settle (s : State) : State :=
  let raw := s.rawNow
  let pend := raw &&& s.enables
  let t := (s.vecsToFollow pend).foldl (fun t v => t.followVector pend v) s
  let t := { t with irqLow := s.irqWanted pend }
  (t.setWide (Reg.EVT_RAW 0) 3 raw).setWide (Reg.EVT_PEND 0) 3 pend

/-- The frequency word DPLL d applies. -/
def State.wordNow (s : State) (d : Nat) : Int := signed 64 (s.getWide (Reg.DPLL_FREQ_NOW0 d) 2)

/-- The own time of DPLL d, in units of 2^-50 ns, and that time dt ticks later (R270, R281). -/
def State.dtime (s : State) (d : Nat) : Int := kget s.dfine d 0
def State.dtimeAfter (s : State) (d dt : Nat) : Int := s.dtime d + dt * tickFine (s.wordNow d)

/-- Time passes: `dt` ticks of the TSU clock. The master counter counts while it runs (R49, R50). -/
def advance (dt : Nat) (s : State) : State :=
  { s with
    ticks := s.ticks + dt, fine := if s.counting then s.fine + dt * tickFine s.steer else s.fine
    dfine := if dt = 0 then s.dfine else [(1, s.dtimeAfter 1 dt), (2, s.dtimeAfter 2 dt)] }

/-- A fresh nonce (R369). -/
def State.newNonce (s : State) : State :=
  s.forAll (List.range 8) (fun i s =>
    let (w, s) := s.draw
    s.set (Reg.SEC_DBG_NONCE i) w)

/-- The scopes a scope opens (R368). -/
def scopeOpens (scope : Nat) : Nat := 2 ^ (scope + 1) - 1

/-- A debug attempt that has run its time passes or fails; the nonce is drawn afresh, the response is cleared (R369 to R371). -/
def debugComplete (s : State) : State :=
  match s.boot.attempt with
  | none => s
  | some (ok, scope) =>
    if !s.due .dbgBusy 0 then s
    else
      let s := { s with boot := { s.boot with attempt := none } }
      let s := if ok then
          ((s.setFld Fld.SEC_DBG_STAT_OPEN (s.fld Fld.SEC_DBG_STAT_OPEN ||| scopeOpens scope)).setFld Fld.SEC_DBG_STAT_FAILS 0).raise
            Fld.SEC_DBG_STAT_PASSED
        else
          let s := (s.setFld Fld.SEC_DBG_STAT_PASSED 0).bump Fld.SEC_DBG_STAT_FAILS 1
          if s.fld Fld.SEC_DBG_STAT_FAILS = 3 then s.raise Fld.SEC_DBG_STAT_LOCKOUT else s
      let s := s.forAll (List.range 48) (fun i s => s.set (Reg.SEC_DBG_RESP i) 0#32)
      s.newNonce.latchEvent 2

/-- The state in which a command that arrives dt ticks on finds the block: timed-action commands and debug attempts that complete
by then have acted (R67, R371). -/
def State.later (s : State) (dt : Nat) : State := debugComplete ((advance dt { s with out := [] }).forAll [0, 1] actComplete)

/-- The state after a command with an effect: time passes, the effect happens, the event controller follows; the queue is
not the command's. -/
def State.after (s : State) (dt : Nat) (f : State → State) : State := { settle (f (s.later dt)) with pending := s.pending }

/-- One whole step of the block.
(DESIGN CHOICE, log entry 1; DESIGN CHOICE, log entry 2; DESIGN CHOICE, log entry 3) -/
def effect (dt : Nat) (f : State → State) (s : State) : Host.Outcome State Fault Refusal := .next (s.after dt f)

/-- A step that only happens when a condition of the spec holds; else nothing but time changes.
(DESIGN CHOICE, log entry 2) -/
def onlyIf (c : Bool) (f : State → State) (s : State) : State := if c then f s else s

end Sys2Proof.Machine
end

