-- ==== Sys2Proof/Machine/Operands.lean ====
section
/-!
DEFINITION. Operands.lean: the forms operands take: bytes of frames and buffers in network and in little-endian order,
the two CRCs, the parsed header of a frame (R134), and the tags added or removed on egress (R141).
-/
namespace Sys2Proof.Machine

/-! ## Bytes -/

/-- The byte at an index, 0 past the end. -/
def byteAt (l : List Byte) (i : Nat) : Nat := ((l[i]?).getD 0#8).toNat

/-- The value of n bytes from an index, most significant first (network byte order). -/
def beAt (l : List Byte) (i : Nat) : Nat → Nat
  | 0 => 0
  | n + 1 => byteAt l i * 256 ^ n + beAt l (i + 1) n

/-- The value of n bytes from an index, least significant first (R8). -/
def leAt (l : List Byte) (i : Nat) : Nat → Nat
  | 0 => 0
  | n + 1 => byteAt l i + 256 * leAt l (i + 1) n

/-- A value as n bytes, most significant first. -/
def beBytes (v : Nat) : Nat → List Byte
  | 0 => []
  | n + 1 => BitVec.ofNat 8 (v / 256 ^ n) :: beBytes v n

/-- A value as n bytes, least significant first. -/
def leBytes (v : Nat) : Nat → List Byte
  | 0 => []
  | n + 1 => BitVec.ofNat 8 v :: leBytes (v / 256) n

/-- n zero bytes. -/
def zeros (n : Nat) : List Byte := List.replicate n 0#8

/-- A word in little-endian bytes. -/
def wordBytes (w : Word) : List Byte := leBytes w.toNat 4

/-- The i-th little-endian word of a byte string. -/
def wordAt (l : List Byte) (i : Nat) : Nat := leAt l (4 * i) 4

/-- The bytes with n of them from an index replaced. -/
def splice (l : List Byte) (i : Nat) (new : List Byte) : List Byte := l.take i ++ new ++ l.drop (i + new.length)

/-! ## CRCs -/

/-- One bit of the reflected IEEE 802.3 CRC-32 (R146). -/
def crcBit (c : Nat) : Nat := if c % 2 = 1 then c / 2 ^^^ 0xEDB88320 else c / 2

/-- One byte of the reflected CRC-32. -/
def crcByte (c : Nat) (b : Byte) : Nat :=
  crcBit (crcBit (crcBit (crcBit (crcBit (crcBit (crcBit (crcBit (c ^^^ b.toNat))))))))

/-- The CRC-32 of bytes with a starting register and the final complement (R146). -/
def crc32From (seed : Nat) (l : List Byte) : Nat := l.foldl crcByte seed ^^^ 0xFFFFFFFF

/-- The IEEE 802.3 CRC-32 (R354, R456). -/
def crc32 (l : List Byte) : Nat := crc32From 0xFFFFFFFF l

/-- One byte of a CRC-16 with polynomial 0x1021, most significant bit first (R381). -/
def crc16Byte (c : Nat) (b : Byte) : Nat :=
  (List.range 8).foldl (fun c _ => if 2 ^ 15 ≤ c then (c * 2 ^^^ 0x1021) % 2 ^ 16 else c * 2) (c ^^^ b.toNat * 256)

/-- The CRC-16 of bytes from a register of all ones. -/
def crc16 (l : List Byte) : Nat := l.foldl crc16Byte 0xFFFF

/-! ## Frames -/

/-- Bytes from DA to FCS (the four bytes of the FCS are not kept). -/
def frameLen (b : List Byte) : Nat := b.length + 4

/-- Cells a frame occupies: ceil(L / 256) (R163). -/
def cellsOf (b : List Byte) : Nat := (frameLen b + 255) / 256

/-- What the parser recognises in a frame (R134): the tag (PCP, DEI, VID), the EtherType after it and where its
payload begins, the IP version with the offset of the header's end, and the UDP destination port. -/
structure Parsed where
  tag : Option (Nat × Bool × Nat) := none
  etype : Nat := 0
  body : Nat := 14
  ip : Nat := 0
  ipEnd : Nat := 0
  proto : Nat := 0
  udp : Option Nat := none
  deriving DecidableEq, Repr

/-- The parser reads at most the first 128 bytes (R134).
(DESIGN CHOICE, log entry 44) -/
def parseFrame (stag : Bool) (b : List Byte) : Parsed :=
  let h := b.take 128
  let t := beAt h 12 2
  let tagged := t == 0x8100 || (stag && t == 0x88A8)
  let tci := beAt h 14 2
  let body := if tagged then 18 else 14
  let etype := beAt h (body - 2) 2
  let tag := if tagged then some (tci / 2 ^ 13, tci / 2 ^ 12 % 2 == 1, tci % 2 ^ 12) else none
  let ihl := 4 * (byteAt h body % 16)
  let is4 := etype == 0x0800 && byteAt h body / 16 == 4 && decide (20 ≤ ihl) && decide (body + ihl ≤ h.length)
  let is6 := etype == 0x86DD && byteAt h body / 16 == 6 && decide (body + 40 ≤ h.length)
  let fin := if is4 then body + ihl else body + 40
  let proto := if is4 then byteAt h (body + 9) else if is6 then byteAt h (body + 6) else 256
  { tag := tag, etype := etype, body := body, ip := if is4 then 4 else if is6 then 6 else 0
    ipEnd := if is4 || is6 then fin else 0
    proto := proto
    udp := if proto = 17 ∧ fin + 8 ≤ h.length then some (beAt h (fin + 2) 2) else none }

/-- Destination and source address, first octet in bits [47:40] (R147). -/
def daOf (b : List Byte) : Nat := beAt b 0 6
def saOf (b : List Byte) : Nat := beAt b 6 6

/-- Group addresses have bit 0 of their first octet set. -/
def isMulticast (mac : Nat) : Bool := mac / 2 ^ 40 % 2 == 1

/-- The broadcast address. -/
def macBroadcast : Nat := 2 ^ 48 - 1

/-- The IP destination and source of a parsed frame. -/
def ipDst (b : List Byte) (p : Parsed) : Nat :=
  if p.ip = 4 then beAt b (p.body + 16) 4 else if p.ip = 6 then beAt b (p.body + 24) 16 else 0
def ipSrc (b : List Byte) (p : Parsed) : Nat :=
  if p.ip = 4 then beAt b (p.body + 12) 4 else if p.ip = 6 then beAt b (p.body + 8) 16 else 0

/-- The bytes of a frame without the tag the parser recognised. -/
def untagged (b : List Byte) (p : Parsed) : List Byte := if p.tag.isSome then b.take 12 ++ b.drop 16 else b

/-- A frame's bytes with a customer tag of PCP, DEI and VID.
(DESIGN CHOICE, log entry 48) -/
def withTag (b : List Byte) (pcp : Nat) (dei : Bool) (vid : Nat) : List Byte :=
  b.take 12 ++ beBytes 0x8100 2 ++ beBytes (pcp * 2 ^ 13 + (if dei then 2 ^ 12 else 0) + vid) 2 ++ b.drop 12

/-- The least frame is 60 bytes without its FCS; shorter ones are padded with zeros (R396). -/
def padTo60 (b : List Byte) : List Byte := b ++ zeros (60 - b.length)

/-- Text as bytes. -/
def asciiBytes (t : String) : List Byte := t.toList.map (fun c => BitVec.ofNat 8 c.toNat)

/-- The last k decimal digits of a number at most, most significant first, none leading. -/
def decDigits : Nat → Nat → List Byte
  | 0, _ => []
  | k + 1, n => (if n < 10 then [] else decDigits k (n / 10)) ++ [BitVec.ofNat 8 (0x30 + n % 10)]

/-- A number in decimal digits. -/
def decimalBytes (n : Nat) : List Byte := decDigits 20 n

end Sys2Proof.Machine
end

