-- ==== Sys2Proof/Machine/Count.lean ====
section
/-!
DEFINITION. Count.lean: the counters and the Colophon sampler as the data path uses them (R445 to R449, R454 to R457).
A counter's key is its die × 2^20 plus its offset in the die's live view.
-/
namespace Sys2Proof.Machine

/-! ## Counters -/

/-- Die d. -/
def State.die (s : State) (d : Nat) : Die := kget s.dies d {}

/-- The state with die d written. -/
def State.setDie (s : State) (d : Nat) (x : Die) : State := { s with dies := kput s.dies d x }

/-- The state with a function applied to die d. -/
def State.modDie (s : State) (d : Nat) (f : Die → Die) : State := s.setDie d (f (s.die d))

/-- The group of an offset in a die's view (R446). -/
def groupAt (die off : Nat) : Nat :=
  if die = 8 then
    if off < 0x80 then 0 else if off < 0x100 then 1 else if off < 0x500 then 2 else if off < 0x1000 then 3 else 4
  else if off < 0x400 then 0 else if off < 0x800 then 1 else if off < 0x2800 then 2 else if off < 0x4000 then 3
  else if off < 0x20000 then 4 else 5

/-- Whether a pending snapshot takes a counter. -/
def Snap.takes (x : Snap) (die off : Nat) : Bool :=
  x.target / 2 ^ die % 2 == 1 && x.mask / 2 ^ groupAt die off % 2 == 1

/-- Counts whose instants a snapshot may still lie before: those of the last microsecond. -/
def State.stillLate (s : State) : List (Nat × Nat × Nat) := s.lately.filter (fun e => decide (s.now ≤ e.2.2 + 1000 * nsU))

/-- n is added to a counter at an instant (R447); a pending snapshot whose time lies after the instant takes it too. -/
def State.count (s : State) (die off n inst : Nat) : State :=
  let key := die * 2 ^ 20 + off
  let add := fun v => (v + n) % 2 ^ 64
  let t :=
    { s with
      cnt := kmod s.cnt key 0 add, lately := s.stillLate ++ [(key, n, inst)] }
  match s.snap with
  | some x => if inst < x.time && x.takes die off then { t with snap := some { x with copy := kmod x.copy key 0 add } } else t
  | none => t

/-- Where a port's instances stand: its die and its number there. -/
def portIdx (p : Nat) : Nat := if p < 256 then p % 32 else p - 256

/-- Offsets of the groups of R446 in a die's view. -/
def offRx (p i : Nat) : Nat := 0x20 * portIdx p + 8 * i
def offTx (p i : Nat) : Nat := (if p < 256 then 0x400 else 0x80) + 0x20 * portIdx p + 8 * i
def offQueue (p c i : Nat) : Nat := (if p < 256 then 0x800 else 0x100) + 0x100 * portIdx p + 0x20 * c + 8 * i
def offPipeDrop (p r : Nat) : Nat := if p < 256 then 0x2800 + 0x100 * (p % 32 / 8) + 8 * r else 0x500 + 8 * r
def offQueueDrop (p c e : Nat) : Nat :=
  (if p < 256 then 0x4000 else 0x1000) + 0x400 * portIdx p + 0x80 * c + 8 * (e - 0x20)
def offStream (i : Nat) : Nat := 0x20000 + 8 * i

/-- The instant at which a stamped count falls (R447). -/
def State.instOf (s : State) (stamp flags : Nat) : Nat := if flags % 2 = 1 then stamp else s.now

/-- A PORT_RX count at a frame's ingress stamp. -/
def State.countRx (s : State) (p i n stamp flags : Nat) : State := s.count (dieOf p) (offRx p i) n (s.instOf stamp flags)

/-- A PORT_TX count and a QUEUE count at a frame's transmit stamp. -/
def State.countTx (s : State) (p i n stamp flags : Nat) : State := s.count (dieOf p) (offTx p i) n (s.instOf stamp flags)
def State.countQueue (s : State) (p c i n stamp flags : Nat) : State :=
  s.count (dieOf p) (offQueue p c i) n (s.instOf stamp flags)

/-- An ingress discard counts against the pipeline of its ingress port (R446, R449). -/
def State.countPipeDrop (s : State) (p r : Nat) : State := s.count (dieOf p) (offPipeDrop p r) 1 s.now

/-- An egress discard counts in the destination port's die, or in TEL.OOS_DROP (R449). -/
def State.countQueueDrop (s : State) (p c e : Nat) : State :=
  if p < 256 ∧ !s.inService (p / 32) then
    let a := Reg.TEL_OOS_DROP0 (p / 32)
    s.setWide a 2 ((s.getWide a 2 + 1) % 2 ^ 64)
  else s.count (dieOf p) (offQueueDrop p c e) 1 s.now

/-! ## Home Leaves (R27) -/

/-- The first Leaf in service from n on, in ascending order, wrapping round. -/
def State.nextInService (s : State) (n : Nat) : Option Nat :=
  ((List.range 8).map (fun i => (n + i) % 8)).find? (fun l => s.inService l)

/-- The home Leaf of Spine port 256 + i.
(DESIGN CHOICE, log entry 47) -/
def State.homeLeaf (s : State) (i : Nat) : Option Nat := s.nextInService (kget s.homes i 0)

/-- The Leaf owning a port: the home Leaf for the Spine ports.
(DESIGN CHOICE, log entry 47) -/
def State.ownerLeaf (s : State) (p : Nat) : Option Nat := if p < 256 then some (p / 32) else s.homeLeaf (p - 256)

/-! ## The Colophon (R454 to R457) -/

/-- Ticks of a CORE cycle of Leaf n at its rate now (R30). -/
def State.coreTicks (s : State) (n : Nat) : Nat :=
  match s.fld (Fld.LCTL_CLK_CORE_RATE n) with
  | 0 => 2
  | 1 => 3
  | 2 => 4
  | _ => 16

/-- The records a sampler's store holds. -/
def smpDepth : Nat := 8192

/-- STAT of a sampler follows its store. -/
def State.smpShow (s : State) (n : Nat) : State :=
  let l := (s.die n).recs.length
  (s.setFld (Fld.SMP_STAT_LEVEL n) l).setBit (Fld.SMP_STAT_FULL n) (l == smpDepth)

/-- A record is lost: it counts, and the event sets. -/
def State.smpLost (s : State) (n : Nat) : State := (s.bump (Fld.SMP_CNT_LOST_COUNT n) 1).raise (Fld.SMP_EVT_LOST n)

/-- STOPPED sets while the store is full and WRAP is 0 (R457). -/
def State.smpStop (s : State) (n : Nat) : State :=
  if (s.die n).recs.length = smpDepth ∧ !s.on (Fld.SMP_CTRL_WRAP n) then s.raise (Fld.SMP_STAT_STOPPED n) else s

/-- A record reaches a sampler's store (R457). -/
def State.smpStore (s : State) (n : Nat) (r : List Word) : State :=
  let recs := (s.die n).recs
  if s.on (Fld.SMP_STAT_STOPPED n) then s.smpLost n
  else if recs.length < smpDepth then
    let t := (s.modDie n (fun d => { d with recs := recs ++ [r] })).smpShow n
    if recs.length + 1 = smpDepth then (t.raise (Fld.SMP_EVT_FULL n)).smpStop n else t
  else (s.modDie n (fun d => { d with recs := recs.drop 1 ++ [r] })).bump (Fld.SMP_CNT_OVERWRITTEN_COUNT n) 1

/-- Records still in the input queue of 64, which empties by one each CORE cycle (R457). -/
def State.smpQueued (s : State) (n : Nat) : Nat :=
  let d := s.die n
  d.recIn - (s.ticks - d.recTick) / s.coreTicks n

/-- A record enters a sampler through its input queue (R457). -/
def State.smpPut (s : State) (n : Nat) (r : List Word) : State :=
  let q := s.smpQueued n
  if 64 ≤ q then s.smpLost n
  else (s.modDie n (fun d => { d with recTick := s.ticks, recIn := q + 1 })).smpStore n r

/-- How a copy ended, as its record shows it: departed at a stamp with flags, or dropped for a reason. -/
inductive CopyEnd where
  | sent (stamp flags : Nat)
  | dropped (reason : Nat)
  deriving DecidableEq, Repr

/-- A frame's record (R456). `out` is the egress port, 0x1FF for an ingress discard. -/
def recordOf (f : Frame) (leaf sid out : Nat) (e : CopyEnd) : List Word :=
  let bnd := if f.stream.isSome then 1 else 0
  let (drop, reason, ts, fl) := match e with
    | .sent t fl => (0, 0, t, fl)
    | .dropped r => (1, r, 0, 0)
  let tsRaw := if drop = 1 then 0 else rawOfTime ts
  let res := if drop = 1 then 0 else ((ts - f.stamp) * 1000 + 32768) / 65536
  let w := fun (v : Nat) => BitVec.ofNat 32 v
  let full := f.bytes ++ (if f.fcs = [] then leBytes (crc32 f.bytes) 4 else f.fcs)
  [w (f.inPort + 2 ^ 16 * out + 2 ^ 25 * f.cls + 2 ^ 28 * bnd + 2 ^ 29 * drop),
   w (f.stream.getD 0 + 2 ^ 16 * reason + 2 ^ 24 * f.flags + 2 ^ 28 * fl),
   w (sid + 2 ^ 24 * leaf),
   w (frameLen f.bytes + 2 ^ 16 * f.vid)] ++
  timeWords f.stamp ++ [w tsRaw, w (tsRaw / 2 ^ 32), w (tsRaw / 2 ^ 64)] ++
  [w res, w (res / 2 ^ 32 % 2 ^ 8), w (crc32 (full.take 64)),
   w (if full.length < 65 then 0 else crc32 ((full.drop 64).take 64)), 0#32, 0#32]

/-- The record of a copy's end is written where R455 sends it. -/
def State.smpCopyEnd (s : State) (f : Frame) (p : Nat) (e : CopyEnd) : State :=
  match f.sample with
  | none => s
  | some (leaf, sid) =>
    match e with
    | .sent _ _ =>
      if s.on (Fld.SMP_FILT_DROPS_ONLY leaf) then s
      else match s.ownerLeaf p with
        | some n => s.smpPut n (recordOf f leaf sid p e)
        | none => s
    | .dropped _ =>
      match s.ownerLeaf p with
      | some n => s.smpPut (if s.inService n then n else leaf) (recordOf f leaf sid p e)
      | none => s.smpPut leaf (recordOf f leaf sid p e)

/-- Whether a frame passes a Leaf's enabled filters (R454). A frame the MAC discards has no class and no stream. -/
def State.smpPasses (s : State) (n : Nat) (f : Frame) (mac : Bool) : Bool :=
  if !s.on (Fld.SMP_FILT_EN n) then true
  else
    (!s.on (Fld.SMP_FILT_PORT_EN n) || f.inPort == s.fld (Fld.SMP_FILT_PORT n)) &&
    (if mac then !s.on (Fld.SMP_FILT_STREAM_EN n)
     else (!s.on (Fld.SMP_FILT_STREAM_EN n) || f.stream == some (s.fld (Fld.SMP_FILT_STREAM_STREAM n))) &&
       s.fldBit (Fld.SMP_FILT_CLASS_MASK n) f.cls)

/-- A frame is considered at its ingress Leaf; a selected frame takes a SAMPLE_ID (R454, R455). -/
def State.smpConsider (s : State) (n : Nat) (f : Frame) (mac : Bool) : State × Frame :=
  if !s.on (Fld.SMP_CTRL_EN n) || !s.smpPasses n f mac then (s, f)
  else
    let d := s.die n
    let many := s.fld (Fld.SMP_CTRL_N_MINUS_1 n) + 1
    let x := Config.lfsrNext d.lfsr
    let (chosen, d1) := match s.fld (Fld.SMP_CTRL_SEL n) with
      | 1 => if many ≤ d.nth + 1 then (true, { d with nth := 0 }) else (false, { d with nth := d.nth + 1 })
      | 2 => (decide (x.toNat % 2 ^ 24 < 2 ^ 24 / many), { d with lfsr := x })
      | _ => (false, d)
    if chosen then
      (s.setDie n { d1 with sampleId := (d1.sampleId + 1) % 2 ^ 24 }, { f with sample := some (n, d1.sampleId) })
    else (s.setDie n d1, f)

/-- A frame is discarded for an ingress reason: it counts, and a selected frame writes one record to its ingress Leaf's
sampler (R455). -/
def State.ingressDrop (s : State) (f : Frame) (reason : Nat) : State :=
  let s := s.countPipeDrop f.inPort reason
  match f.sample with
  | some (leaf, sid) => s.smpPut leaf (recordOf f leaf sid 0x1FF (.dropped reason))
  | none => s

/-! ## Outcomes of marked frames (R125, R398) -/

/-- A fetched descriptor takes its outcome. -/
def State.descResult (s : State) (r slot : Nat) (res : Nat × Nat × Nat × Nat × Nat) : State :=
  let g := kget s.rings r {}
  let upd := fun (d : Desc) => if d.slot = slot ∧ d.res = none then { d with res := some res } else d
  { s with rings := kput s.rings r { g with fetched := g.fetched.map upd } }

/-- A copy of a frame is discarded for an egress reason: it counts, its record is written, and a marked descriptor
learns of it. -/
def State.egressDrop (s : State) (f : Frame) (p c reason : Nat) : State :=
  let s := (s.countQueueDrop p c reason).smpCopyEnd f p (.dropped reason)
  match f.mark with
  | some (.ring r slot _) => s.descResult r slot (2, 0, 0, reason, p)
  | _ => s

end Sys2Proof.Machine
end

