-- ==== Sys2Proof/Machine/Buf.lean ====
section
/-!
DEFINITION. Buf.lean: ports and their modes (R25, R110, R118), the Leaf buffer and the Spine port buffer (R163 to R171),
entry to the Ladle (R200 to R205, R209) and the discard of what a port holds (R117, R211).
-/
namespace Sys2Proof.Machine

/-! ## Ports -/

/-- What a port holds beside its registers. -/
def State.port (s : State) (p : Nat) : PortSt := kget s.ports p {}

/-- The state with a port's record written. -/
def State.setPort (s : State) (p : Nat) (x : PortSt) : State := { s with ports := kput s.ports p x }

/-- The state with a function applied to a port's record. -/
def State.modPort (s : State) (p : Nat) (f : PortSt → PortSt) : State := s.setPort p (f (s.port p))

/-- Lanes of a port mode (R110). -/
def modeLanes (m : Nat) : Nat :=
  match m with
  | 1 | 2 | 3 | 6 | 7 => 1
  | 8 => 2
  | 4 | 5 | 9 | 10 => 4
  | _ => 0

/-- RATE code of a port mode (R76, R110). -/
def modeRate (m : Nat) : Nat :=
  match m with
  | 2 | 4 => 1
  | 3 | 5 => 2
  | 6 | 9 => 3
  | 7 | 8 | 10 => 4
  | _ => 0

/-- MAC rate of a port mode in Gb/s (R189). -/
def modeGbps (m : Nat) : Nat :=
  match m with
  | 1 => 1
  | 2 => 10
  | 3 => 25
  | 4 => 40
  | 5 | 7 => 100
  | 6 => 50
  | 8 | 9 => 200
  | 10 => 400
  | _ => 1

/-- Whether a mode may start at a local lane of its octet (R110). -/
def modePlaced (m lane : Nat) : Bool :=
  match modeLanes m with
  | 4 => lane % 8 == 0 || lane % 8 == 4
  | 2 => lane % 2 == 0
  | _ => true

/-- FEC codes a mode accepts, its default first (R110, R112): 0 NONE, 1 BASER, 2 RS528, 3 RS544. -/
def modeFecs (m : Nat) : List Nat :=
  match m with
  | 2 | 4 => [0, 1]
  | 3 => [2, 1, 0]
  | 5 => [2, 0]
  | 6 | 7 | 8 | 9 | 10 => [3]
  | _ => [0]

/-- The mode of a port. -/
def State.portMode (s : State) (p : Nat) : Nat := s.fld (Fld.PORT_MODE_MODE p)

/-- Whether a number names a lane that exists: a front-panel lane of a present Leaf, or a service port's lane. -/
def State.laneExists (s : State) (g : Nat) : Bool := decide (g < s.nPorts) || g == 256 || g == 257

/-- The port whose footprint a lane lies in (R25). -/
def State.portOfLane (s : State) (g : Nat) : Option Nat :=
  if 256 ≤ g then (if s.portMode g = 0 then none else some g)
  else ((List.range 4).map (fun i => g - i)).find? (fun q =>
    q / 8 == g / 8 && s.portMode q != 0 && decide (g < q + modeLanes (s.portMode q)))

/-- Whether a number names a port with a MAC: the first lane of a footprint. -/
def State.namesPort (s : State) (p : Nat) : Bool := s.laneExists p && s.portOfLane p == some p

/-- Whether a number names any port (R25, R26). -/
def State.isPort (s : State) (p : Nat) : Bool := s.namesPort p || p == 258 || p == 259

/-- The lanes of a port, its first lane first. -/
def State.lanesOf (s : State) (p : Nat) : List Nat := (List.range (modeLanes (s.portMode p))).map (fun i => p + i)

/-- The STATE of a port (R82). -/
def State.portState (s : State) (p : Nat) : Nat := s.fld (Fld.LANE_STATE_STATE p)

/-- Whether frames may pass a port: it is ACTIVE, or it has no lanes. -/
def State.portActive (s : State) (p : Nat) : Bool := p == 258 || p == 259 || s.portState p == 5

/-- Whether a port is administratively down now (R74). -/
def State.portDisabled (s : State) (p : Nat) : Bool :=
  match (s.port p).downs with
  | (_, none) :: _ => true
  | _ => false

/-- Whether a frame stamped at t entered while its port was administratively down (R70, R74): a frame whose stamp is
not VALID meets the state in force now. -/
def State.stampedDown (s : State) (p t flags : Nat) : Bool :=
  if flags % 2 = 1 then
    (s.port p).downs.any (fun w => decide (w.1 ≤ t) && (match w.2 with | some e => decide (t < e) | none => true))
  else s.portDisabled p

/-- A port goes administratively down, or up, from a network time (R74). Spans are kept that ended within the last
100 µs before it (R70). -/
def State.adminDown (s : State) (p t : Nat) : State :=
  if s.portDisabled p then s
  else s.modPort p (fun x => { x with
    downs := (t, none) :: x.downs.filter (fun w => w.2.all (fun e => decide (t ≤ e + 100 * usU))) })
def State.adminUp (s : State) (p t : Nat) : State :=
  s.modPort p (fun x => { x with downs := match x.downs with
    | (d, none) :: l => (d, some t) :: l
    | l => l })

/-! ## Buffer accounts: the Leaf's registers, or the Spine port buffer's (R166, R171) -/

def qlimF (p c : Nat) : FRef := if p < 256 then Fld.BUF_QLIM_CELLS (p / 32) (p % 32) c else Fld.SPB_QLIM_CELLS (p - 256) c
def plimF (p : Nat) : FRef := if p < 256 then Fld.BUF_PLIM_CELLS (p / 32) (p % 32) else Fld.SPB_PLIM_CELLS (p - 256)
def qlevelF (p c : Nat) : FRef :=
  if p < 256 then Fld.BUF_QLEVEL_CELLS (p / 32) (p % 32) c else Fld.SPB_QLEVEL_CELLS (p - 256) c
def plevelF (p : Nat) : FRef :=
  if p < 256 then Fld.BUF_PLEVEL_CELLS (p / 32) (p % 32) else Fld.SPB_PLEVEL_CELLS (p - 256)
def poolF (d : Nat) : FRef := if d < 8 then Fld.BUF_POOL_FREE d else Fld.SPB_POOL_FREE
def overF (d : Nat) : FRef := if d < 8 then Fld.BUF_POOL_OVERCOMMIT d else Fld.SPB_POOL_OVERCOMMIT

/-- Cells of a die's buffer (R164, R171). -/
def poolCells (d : Nat) : Nat := if d < 8 then 98304 else 16384

/-- The ports a die may own. -/
def diePorts (d : Nat) : List Nat :=
  if d < 8 then (List.range 32).map (fun k => 32 * d + k) else [256, 257, 258, 259]

/-- OVERCOMMIT follows the limits and the levels (R170). -/
def State.poolShow (s : State) (d : Nat) : State :=
  let sum := (diePorts d).foldl (fun acc p =>
    if d = 8 ∨ s.namesPort p then acc + max (s.fld (plimF p)) (s.fld (plevelF p)) else acc) 0
  s.setBit (overF d) (decide (poolCells d < sum))

/-- A limit as it governs admissions now: one written in this tick still has its value before (R169). -/
def State.limit (s : State) (f : FRef) : Nat :=
  match kfind s.limWas f.addr with
  | some (tick, old) => if tick = s.ticks then old else s.fld f
  | none => s.fld f

/-- The check a frame fails on its way into queue (p, c), if any (R166). `stored`: its cells are in the pool already. -/
def State.admitCheck (s : State) (p c cells : Nat) (stored : Bool) : Option Nat :=
  if s.limit (qlimF p c) < s.fld (qlevelF p c) + cells then some 0x20
  else if s.limit (plimF p) < s.fld (plevelF p) + cells then some 0x21
  else if !stored && decide (s.fld (poolF (dieOf p)) < cells) then some 0x22
  else none

/-- The cells of a frame admitted to queue (p, c) are counted (R167). -/
def State.holdCells (s : State) (p c : Nat) (f : Frame) : State :=
  let d := dieOf p
  let n := cellsOf f.bytes
  let copies := (kget (s.die d).stored f.id (0, n)).1
  let s := (s.setFld (qlevelF p c) (s.fld (qlevelF p c) + n)).setFld (plevelF p) (s.fld (plevelF p) + n)
  let s := if copies = 0 then s.setFld (poolF d) (s.fld (poolF d) - n) else s
  (s.modDie d (fun x => { x with stored := kput x.stored f.id (copies + 1, n) })).poolShow d

/-- The cells of a copy return as it is sent or discarded (R167). -/
def State.freeCells (s : State) (p c : Nat) (f : Frame) : State :=
  let d := dieOf p
  let (copies, n) := kget (s.die d).stored f.id (0, 0)
  let s := (s.setFld (qlevelF p c) (s.fld (qlevelF p c) - n)).setFld (plevelF p) (s.fld (plevelF p) - n)
  let s := if copies = 1 then s.setFld (poolF d) (s.fld (poolF d) + n) else s
  (s.modDie d (fun x => { x with
    stored := if copies ≤ 1 then kdel x.stored f.id else kput x.stored f.id (copies - 1, n) })).poolShow d

/-- The time n bytes take on a port, in 2^-16 ns, rounded up and rounded down. -/
def bytesU (mode n : Nat) : Nat := (n * 524288 + modeGbps mode - 1) / modeGbps mode
def bytesD (mode n : Nat) : Nat := n * 524288 / modeGbps mode

/-- Physical time now, in 2^-16 ns. -/
def State.phys (s : State) : Nat := s.ticks * tickUnits

/-- The physical time of a network time near now. -/
def State.physOf (s : State) (t : Nat) : Nat := s.phys + t - s.now

/-- When the last byte of the frame a port sends leaves: its gap is 12 bytes (R115). -/
def State.lastByteAt (s : State) (p : Nat) : Nat := (s.port p).freeAt - bytesD (s.portMode p) 12

/-- The frame last sent on a port returns its cells, if it still holds them (R167).
(DEDUCED, log entry 52) -/
def State.freeOwed (s : State) (p : Nat) : State :=
  match (s.port p).cur with
  | some t => if t.owes then
      (s.freeCells p t.c.cls t.c.f).modPort p (fun x => { x with cur := some { t with owes := false } })
    else s
  | none => s

/-- Every frame of a die that has been sent by now returns its cells (R167). -/
def State.freeSent (s : State) (d : Nat) : State :=
  s.forAll ((s.ports.map (fun e => e.1)).filter (fun p => dieOf p == d)) (fun p s =>
    if s.lastByteAt p ≤ s.phys then s.freeOwed p else s)

/-- Admission of a frame to port p in its class, what has been sent having returned its cells: the state with its cells held, or with the copy refused and counted. -/
def State.admits (s : State) (f : Frame) (p : Nat) : Bool × State :=
  let c := f.cls
  let s := s.freeSent (dieOf p)
  if s.portDisabled p then (false, s.egressDrop f p c 0x2A)
  else if !s.portActive p then (false, s.egressDrop f p c 0x29)
  else
    let stored := (kfind (s.die (dieOf p)).stored f.id).isSome
    match s.admitCheck p c (cellsOf f.bytes) stored with
    | some r =>
      let s := s.egressDrop f p c r
      (false, if r = 0x22 ∧ p < 256 then s.raise (Fld.BUF_EVT_POOL_EMPTY (p / 32)) else s)
    | none => (true, s.holdCells p c f)

/-- An admitted copy is discarded: its cells return and it counts. -/
def State.discardHeld (s : State) (f : Frame) (p c reason : Nat) : State := (s.freeCells p c f).egressDrop f p c reason

/-! ## Output queues and the Ladle -/

/-- The output queue (p, c), head first. -/
def State.queue (s : State) (p c : Nat) : List Copy := kget (s.die (dieOf p)).queues (8 * p + c) []

/-! ### The credit-based shaper (R189) -/

/-- The part of a span that lies in another. -/
def overlapU (a b c d : Nat) : Nat := min b d - max a c

/-- Credit of class c brought up to now: it falls while the class sends, its mCRC with it, grows while a frame waits and another
sends, recovers towards 0 from below, stays with its gate closed, and is lost above 0 with the queue empty. A class that is not
shaped has none. -/
def State.creditOf (s : State) (p c : Nat) : Int :=
  let x := s.port p
  let old := kget x.credit c 0
  let a := x.creditAt
  let b := s.phys
  if !s.fldBit (Fld.EGR_PORT_CTRL_CBS_EN p) c then 0
  else if !s.fldBit (Fld.EGR_PORT_STAT_OPEN p) c then old
  else
    let (own, st, en) := match x.wire with
      | some (k, st, en) => (k == some c, st, en)
      | none => (false, 0, 0)
    let sending := overlapU a b st en
    let waitFrom := match s.queue p c with
      | [] => b
      | h :: _ => max a (h.seq * tickUnits)
    let slope : Int := s.fld (Fld.EGR_PORT_IDLE_SLOPE_KBPS p c)
    let rate : Int := modeGbps (s.portMode p) * 1000000
    let moved := if own then (slope - rate) * sending else slope * (overlapU waitFrom b st en : Nat)
    let v := old + moved
    let v := if v < 0 then min 0 (v + slope * ((b - a) - sending : Nat)) else v
    if s.queue p c = [] ∧ 0 < v ∧ !(own && decide (b < en)) then 0 else v

/-- Every class's credit is brought up to now. -/
def State.creditTo (s : State) (p : Nat) : State :=
  let m := (List.range 8).foldl (fun m c => kput m c (s.creditOf p c)) []
  s.modPort p (fun x => { x with credit := m, creditAt := s.phys })

/-! ### Queues -/

/-- The state with an output queue written: credits are brought up to now where it empties or ceases to be empty, and a queue that
empties has no deficit left (R188, R189). -/
def State.setQueue (s : State) (p c : Nat) (l : List Copy) : State :=
  let s := if (s.queue p c).isEmpty == l.isEmpty then s else s.creditTo p
  let s := if l.isEmpty && !(s.queue p c).isEmpty then s.modPort p (fun x => { x with deficit := kdel x.deficit c }) else s
  s.modDie (dieOf p) (fun x => { x with queues := if l = [] then kdel x.queues (8 * p + c) else kput x.queues (8 * p + c) l })

/-- The list active on a port (R190): 0 A, 1 B. -/
def State.gclActive (s : State) (p : Nat) : Nat := s.fld (Fld.EGR_PORT_GCL_CTRL_ACTIVE p)

/-- A copy joins the tail of its class queue; port 259 has one queue, in order of admission (R185). -/
def State.enqueue (s : State) (p : Nat) (c : Copy) : State :=
  let q := if p = 259 then 0 else c.cls
  s.setQueue p q (s.queue p q ++ [c])

/-- Ladle places of a Leaf (R204). -/
def ladlePlaces : Nat := 16384

/-- LADLE_LEVEL and FREE follow the frames held. -/
def State.ladleShow (s : State) (d p : Nat) : State :=
  let l := (s.die d).ladle
  (s.setFld (Fld.EGR_PORT_LADLE_LEVEL_LEVEL p) (l.filter (fun h => h.port == p)).length).setFld (Fld.EGR_LADLE_FREE d)
    (ladlePlaces - l.length)

/-- The release time and late action of a frame bound to a residence profile or with a launch time, at a port of a
Leaf (R200, R201). -/
def State.ladleBound (s : State) (f : Frame) (p : Nat) : Option (Nat × Bool) :=
  if 256 ≤ p then none
  else match f.launch with
    | some l => some l
    | none =>
      match f.sched with
      | some i =>
        if s.on (Fld.EGR_PROFILE_EN (p / 32) i) then
          some (f.stamp + s.fld (Fld.EGR_PROFILE_RESIDENCE (p / 32) i) * nsU, s.on (Fld.EGR_PROFILE_LATE_ACT (p / 32) i))
        else none
      | none => none

/-- The late rule for an admitted frame that cannot be released by time: DROP discards it, SEND moves it to the tail
of its class queue (R209). -/
def State.lateRule (s : State) (c : Copy) (p : Nat) (send : Bool) : State :=
  let s := s.raise (Fld.EGR_PORT_EVT_LATE p)
  if send then s.enqueue p { c with late := true } else s.discardHeld c.f p c.cls 0x2C

/-- 20 ns (R202, R205). -/
def ladleLead : Nat := 20 * nsU

/-- The frames the Ladle holds for a port, which are known to it. -/
def State.known (s : State) (p : Nat) : List Held := if 256 ≤ p then [] else (s.die (p / 32)).ladle.filter (fun h => h.port == p)

/-- A held frame leaves the Ladle. -/
def State.ladleRemove (s : State) (h : Held) : State :=
  let d := h.port / 32
  (s.modDie d (fun x => { x with ladle := x.ladle.erase h })).ladleShow d h.port

/-- A held frame takes another's place. -/
def State.ladleSwap (s : State) (h g : Held) : State :=
  s.modDie (h.port / 32) (fun x => { x with ladle := x.ladle.map (fun k => if k = h then g else k) })

/-- A held frame is late where it stands: it is discarded, or goes on as a late Ladle frame. -/
def State.heldLate (s : State) (h : Held) : State :=
  let s := s.raise (Fld.EGR_PORT_EVT_LATE h.port)
  if h.send then s.ladleSwap h { h with c := { h.c with late := true } }
  else (s.ladleRemove h).discardHeld h.c.f h.port h.c.cls 0x2C

/-- Each held frame of a port whose release time has come since the last look is late if a pause held its class then (R207). A
pause changes, and a frame departs, only after this.
(DESIGN CHOICE, log entry 59) -/
def State.ladlePause (s : State) (p : Nat) : State :=
  ((s.known p).filter (fun h => !h.judged && decide (h.release ≤ s.now))).foldl (fun s h =>
    let g := { h with judged := true }
    let s := s.ladleSwap h g
    if !h.c.late && (kfind (s.port p).pause h.c.cls).any (fun t => decide (s.physOf h.release < t * tickUnits)) then s.heldLate g
    else s) s

/-- An admitted bound frame enters the Ladle of its Leaf (R201, R204, R205, R209). -/
def State.ladleEnter (s : State) (c : Copy) (p release : Nat) (send : Bool) : State :=
  let d := p / 32
  if !s.on Fld.TIME_STATUS_TSU_LOCK || c.f.flags % 2 == 0 then s.lateRule c p send
  else
    let late := decide (release < s.now + ladleLead)
    let l := (s.die d).ladle
    let full := decide (ladlePlaces ≤ l.length) ||
      decide (s.fld (Fld.EGR_PORT_LADLE_LIM_LIM p) ≤ (l.filter (fun h => h.port == p)).length)
    let s := if late then s.raise (Fld.EGR_PORT_EVT_LATE p) else s
    if late && !send then s.discardHeld c.f p c.cls 0x2C
    else if full then s.discardHeld c.f p c.cls 0x2D
    else
      let h : Held := { c := { c with late := late }, port := p, release := release, send := send, entered := s.now }
      (s.modDie d (fun x => { x with ladle := x.ladle ++ [h] })).ladleShow d p

/-- An admitted copy goes to its place: the Ladle, or its class queue. It keeps the gate list active at its lookup, or now for a
frame that no pipeline looked up (R128, R196). -/
def State.place (s : State) (f : Frame) (p : Nat) : State :=
  let c : Copy := { f := f, cls := f.cls, seq := s.ticks, list := kget f.lists p (s.gclActive p) }
  match s.ladleBound f p with
  | some (t, send) => s.ladleEnter c p t send
  | none => s.enqueue p c

/-- A frame stored on its own die for one of its ports. -/
def State.deliver (s : State) (f : Frame) (p : Nat) : State :=
  let (ok, t) := s.admits f p
  if ok then t.place f p else t

/-! ## What a port loses -/

/-- Every copy in a port's class queues is discarded. -/
def State.flushQueues (s : State) (p reason : Nat) : State :=
  s.forAll (List.range 8) (fun c s =>
    let l := s.queue p c
    l.foldl (fun s x => s.discardHeld x.f p x.cls reason) (s.setQueue p c []))

/-- Every frame the Ladle holds for a port is discarded (R211). -/
def State.flushLadle (s : State) (p reason : Nat) : State :=
  if 256 ≤ p then s
  else
    let d := p / 32
    let l := (s.die d).ladle
    let gone := l.filter (fun h => h.port == p)
    let s := (s.modDie d (fun x => { x with ladle := l.filter (fun h => h.port != p) })).ladleShow d p
    gone.foldl (fun s h => s.discardHeld h.c.f p h.c.cls reason) s

/-- Frames still arriving from the crossbar lose their admitted copy for a port. -/
def State.flushArriving (s : State) (p reason : Nat) : State :=
  let d := dieOf p
  let hit := (s.die d).arriving.filter (fun a => a.ports.contains p)
  let s := s.modDie d (fun x => { x with
    arriving := x.arriving.map (fun a => { a with ports := a.ports.filter (fun q => q != p) }) })
  hit.foldl (fun s a => s.discardHeld a.f p a.f.cls reason) s

/-- Everything queued or held for a port is discarded. -/
def State.flushPort (s : State) (p reason : Nat) : State :=
  ((s.flushQueues p reason).flushLadle p reason).flushArriving p reason

/-- A frame in transmission is truncated, and the rest of a cut frame goes with it (R117, R198). -/
def State.truncate (s : State) (p : Nat) : State :=
  let x := s.port p
  let cutOff := (match x.cur with
    | some _ => if s.phys < s.lastByteAt p then 1 else 0
    | none => 0) + (if x.part.isSome then 1 else 0)
  let s := s.freeOwed p
  let s := match x.part with
    | some t => if t.owes then s.freeCells p t.c.cls t.c.f else s
    | none => s
  let s := s.modPort p (fun x => { x with
    cur := none, part := none, freeAt := min x.freeAt s.phys, holdTo := none
    wire := x.wire.map (fun (k, st, en) => (k, st, min en s.phys)) })
  let s := match x.cur with
    | some t => if s.phys < t.start + bytesD (s.portMode p) (1 + (t.len - t.sent)) then
        s.emit (.truncated p (t.sent + ((s.phys - t.start) * modeGbps (s.portMode p) / 524288 - 1))) else s
    | none => s
  if cutOff = 0 then s else s.count (dieOf p) (offTx p 3) cutOff s.now

end Sys2Proof.Machine
end

