-- ==== Sys2Proof/Machine/Mbx.lean ====
section
/-!
DEFINITION. Mbx.lean: what a response to a mailbox request does (R385 to R390), the boot state and the restart of the cores
(R373, R389), and how a calibration run ends (R436 to R440).
-/
namespace Sys2Proof.Machine

/-! ## The boot state and an in-service restart -/

/-- The state with a function applied to the boot record. -/
def State.modBoot (s : State) (f : Boot → Boot) : State := { s with boot := f s.boot }

/-- STATE of BOOT_STATUS; a change is an event of source 0 (R375). -/
def State.bootState (s : State) : Nat := s.fld Fld.SYS_BOOT_STATUS_STATE
def State.setBootState (s : State) (st : Nat) : State :=
  if s.bootState = st then s else (s.setFld Fld.SYS_BOOT_STATUS_STATE st).latchEvent 0

/-- The mailboxes, as STATUS.PAUSED shows them (R389). -/
def State.setPaused (s : State) (b : Bool) : State := s.forAll (List.range 8) (fun m s => s.setBit (Fld.MBX_STATUS_PAUSED m) b)

/-- The slot the running firmware was started from (R414). -/
def State.runningSlot (s : State) : Nat := s.boot.image.getD 0

/-- The cores restart on a slot (R373).
(DESIGN CHOICE, log entry 113) -/
def State.updateBegin (s : State) (slot : Nat) : State :=
  let prev := s.runningSlot
  let s := s.modBoot (fun b => { b with update := some (slot, prev), image := some slot, activate := none })
  ((s.setBootState bootUpdating).setPaused true).startTimer .fwStart 0 (10 * secT)

/-! ## Requests and responses (R386, R387) -/

/-- Word i of a mailbox's request buffer, and its header's fields. -/
def State.reqWord (s : State) (m i : Nat) : Nat := (s.get (Reg.MBX_REQ m i)).toNat
def State.reqOpcode (s : State) (m : Nat) : Nat := s.reqWord m 0 % 65536
def State.reqTag (s : State) (m : Nat) : Nat := s.reqWord m 0 / 65536
def State.reqLength (s : State) (m : Nat) : Nat := s.reqWord m 1 % 65536
def State.reqFlags (s : State) (m : Nat) : Nat := s.reqWord m 1 / 65536

/-- Word i of the payload, a 64-bit field, a 96-bit field, and n bytes from an offset. -/
def State.arg (s : State) (m i : Nat) : Nat := s.reqWord m (4 + i)
def State.arg64 (s : State) (m i : Nat) : Nat := s.arg m i + 2 ^ 32 * s.arg m (i + 1)
def State.arg96 (s : State) (m i : Nat) : Nat := s.arg64 m i + 2 ^ 64 * s.arg m (i + 2)
def State.argBytes (s : State) (m off n : Nat) : List Byte :=
  (List.range n).map (fun j => BitVec.ofNat 8 (s.arg m ((off + j) / 4) / 256 ^ ((off + j) % 4)))

/-- The bytes of words, and the words of bytes, the last one filled with zeros. -/
def bytesOf (l : List Word) : List Byte := l.flatMap wordBytes
def wordsOf (l : List Byte) : List Word := (List.range ((l.length + 3) / 4)).map (fun i => BitVec.ofNat 32 (wordAt l i))

/-- The firmware writes a response: header and payload, then RESP_READY and BUSY in one cycle (R387). A restart waits until
every accepted request has its response (R389). A request that a function level reset cleared gets none (R379).
(DESIGN CHOICE, log entry 113) -/
def State.reply (s : State) (m status detail : Nat) (payload : List Byte) : State :=
  if !s.mbxQueue.contains m then s
  else
  let quiet := s.reqFlags m % 2 == 1
  let head := [BitVec.ofNat 32 (s.reqOpcode m + 65536 * s.reqTag m), BitVec.ofNat 32 payload.length,
    BitVec.ofNat 32 (status + 65536 * (detail % 65536)), 0#32]
  let words := head ++ wordsOf payload
  let s := s.setFld (Fld.MBX_STATUS_LAST_TAG m) (s.reqTag m)
  let s := ((List.range words.length).zip words).foldl (fun s (e : Nat × Word) => s.set (Reg.MBX_RESP m e.1) e.2) s
  let s := (s.raise (Fld.MBX_STATUS_RESP_READY m)).setFld (Fld.MBX_STATUS_BUSY m) 0
  let others := s.quiet.filter (fun x => x != m)
  let s := { s with mbxQueue := s.mbxQueue.filter (fun x => x != m), quiet := if quiet then m :: others else others }
  match s.boot.activate, s.mbxQueue with
  | some slot, [] => s.updateBegin slot
  | _, _ => s

/-! ## The end of a calibration run (R438 to R440) -/

/-- The state with a function applied to the calibration engine. -/
def State.modCal (s : State) (f : Cal → Cal) : State := { s with cal := f s.cal }

/-- The key of an item and instance. -/
def calKey (item inst : Nat) : Nat := item * 1024 + inst

/-- Whether a list of runs holds one of an item and instance. -/
def calHas (l : List CalRun) (item inst : Nat) : Bool := l.any (fun r => r.item == item && r.inst == inst)

/-- The place of a requester among those of one tick: the secure interface, the non-secure interface, the schedule (R437). -/
def calRank (who : Nat) : Nat := if who = 1 ∨ 7 ≤ who then 0 else if who = 2 then 2 else 1

/-- A request joins the queue behind the earlier ones and those of its tick that go before it (R437). -/
def calInsert (r : CalRun) (l : List CalRun) : List CalRun :=
  let before := l.takeWhile (fun x => x.at_ != r.at_ || decide (calRank x.who ≤ calRank r.who))
  before ++ r :: l.drop before.length
def State.calQueue (s : State) (item inst who : Nat) : State :=
  s.modCal (fun c => { c with queue := calInsert ⟨item, inst, who, s.ticks⟩ c.queue })

/-- The firmware asks for the band calibration an APLL still lacks since boot, once its domain is on (R273, R433).
(DESIGN CHOICE, log entry 82) -/
def State.bootBands (s : State) (a : Nat) : State :=
  if s.cal.boot.contains a && s.domOn a && !calHas s.cal.queue 3 a && !calHas s.cal.runs 3 a then s.calQueue 3 a 2 else s

/-- Who made a request learns of its end (R437, R440).
(DESIGN CHOICE, log entry 130) -/
def State.calReport (s : State) (who : Nat) (w : Word) : State :=
  let code := bitsOf w 28 4
  if who < 2 then
    ((s.setFld (Fld.CAL_REQ_STAT_BUSY who) 0).raise (Fld.CAL_REQ_STAT_DONE who)).setFld (Fld.CAL_REQ_STAT_ABORT who) code
  else if who = 2 then s
  else
    let m := who - 3
    s.reply m 0 code (wordBytes (if s.reqOpcode m = 0x0902 then BitVec.ofNat 32 (bitsOf w 0 16) else w))

/-- A run ends with a result word. -/
def State.calEnd (s : State) (r : CalRun) (w : Word) : State :=
  let s := s.set (Reg.CAL_RES (r.item - 1) r.inst) w
  let s := s.modCal (fun c => { c with runs := c.runs.filter (fun x => x != r), resAt := kput c.resAt (calKey r.item r.inst) s.ticks })
  let s := if r.item = 2 then { s with calLanes := s.calLanes.filter (fun g => g != r.inst) }
    else if r.item = 1 then s.setFld (Fld.TSU_TDC_CAL_BUSY r.inst) 0
    else if r.item = 3 then s.bootBands r.inst else s
  s.calReport r.who w

/-- The result word of an aborted run: its code, no method, and a value the spec does not give. -/
def State.abortWord (s : State) (code : Nat) : Word × State :=
  let (x, s) := s.draw
  (BitVec.ofNat 32 (code * 2 ^ 28 + 3 * 2 ^ 26 + x.toNat % 2 ^ 16), s)

/-- A run aborts (R438, R439): it counts; a requested run raises EVT.ABORT. -/
def State.calAbort (s : State) (r : CalRun) (code : Nat) : State :=
  let (w, s) := s.abortWord code
  let s := (s.calEnd r w).bump (Fld.CAL_ITEM_CNT_ABORTS r.item) 1
  if r.who = 2 then s else s.raise Fld.CAL_EVT_ABORT

/-- Runs that something ends abort. -/
def State.calDisturb (s : State) (hit : Nat → Nat → Bool) (code : Nat) : State :=
  (s.cal.runs.filter (fun r => hit r.item r.inst)).foldl (fun s r => s.calAbort r code) s

/-- Abort codes (R440). -/
def calNotPowered : Nat := 1
def calState : Nat := 2
def calNoLock : Nat := 3
def calSamplerBusy : Nat := 4
def calRange : Nat := 5
def calDisturbed : Nat := 6
def calAlready : Nat := 7
def calQueueFull : Nat := 8
def calInvalid : Nat := 9

end Sys2Proof.Machine
end

