-- ==== Sys2Proof/Machine/Budget.lean ====
section
/-!
DEFINITION. Budget.lean: requests to the budget arbiter and their accounts (R335 to R342): who asks, for how much, and
which lanes have power.
-/
namespace Sys2Proof.Machine

/-- The pipeline and the lane group of a front-panel lane (R336). -/
def pipeRq (g : Nat) : Nat := 16 + g / 8
def groupRq (g : Nat) : Nat := 48 + g / 2

/-- STATE of a request: 0 IDLE, 1 WAITING, 2 GRANTED, 3 OVERDUE, 4 FAILED. -/
def State.rq (s : State) (r : Nat) : Nat := s.fld (Fld.PWR_RQ_STATE r)

/-- The standing grant (R335). -/
def standingTokens : Nat := 140

/-- Tokens granted, the standing grant included. -/
def State.grantedTokens (s : State) : Nat :=
  (List.range 176).foldl (fun acc r => if s.rq r = 2 then acc + s.fld (Fld.PWR_RQ_PEAK r) else acc) standingTokens

/-- Requests waiting. -/
def State.waitingRqs (s : State) : Nat := ((List.range 176).filter (fun r => s.rq r == 1 || s.rq r == 3)).length

/-- PWR.GRANT follows the requests. -/
def State.showGrant (s : State) : State :=
  (s.setFld Fld.PWR_GRANT_GRANTED s.grantedTokens).setFld Fld.PWR_GRANT_WAITING s.waitingRqs

/-- A requester asks for its domain; one that waits or holds already asks nothing new (R348: a FAILED request is made
again when it is requested afresh). -/
def State.request (s : State) (r : Nat) : State :=
  if s.rq r = 0 ∨ s.rq r = 4 then
    ({ s with rqSince := kput s.rqSince r s.ticks }.setFld (Fld.PWR_RQ_STATE r) 1).showGrant
  else s

/-- A requester withdraws its request or releases its grant, and its domain goes off (R338). -/
def State.release (s : State) (r : Nat) : State :=
  let s := ({ s with doms := s.doms.filter (fun x => x != r), rqSince := kdel s.rqSince r }.setFld (Fld.PWR_RQ_STATE r) 0).showGrant
  s.calDisturb (fun item inst => item == 3 && inst == r) calDisturbed

/-- Whether a lane has EN = 1: a port's first lane holds it for all (R83). -/
def State.laneEn (s : State) (g : Nat) : Bool := s.on (Fld.LANE_CTRL_EN ((s.portOfLane g).getD g))

/-- RATE of a lane: its port's mode gives it (R76). -/
def State.laneRate (s : State) (g : Nat) : Nat :=
  match s.portOfLane g with
  | some p => modeRate (s.portMode p)
  | none => 0

/-- The declared peak of a lane group: by the higher RATE of its enabled lanes (R336). -/
def State.groupPeak (s : State) (r : Nat) : Nat :=
  let g := 2 * (r - 48)
  let rate := max (if s.laneEn g then s.laneRate g else 0) (if s.laneEn (g + 1) then s.laneRate (g + 1) else 0)
  match rate with
  | 0 => 2
  | 1 => 5
  | 2 => 8
  | 3 => 12
  | _ => 18

/-- Whether a lane has power: its group's domain, or SP_FAB for the service ports (R80, R118, R340). -/
def State.lanePowered (s : State) (g : Nat) : Bool := if g < 256 then s.domOn (groupRq g) else s.domOn 5

/-- Whether LF_n_OCTm of a lane is on: a group of its octet has power (R340); service lanes have SP_FAB. -/
def State.octetOn (s : State) (g : Nat) : Bool :=
  if g < 256 then (List.range 4).any (fun q => s.domOn (48 + g / 8 * 4 + q)) else s.domOn 5

/-- The lanes of octet o (0 to 31) and whether one of them has EN = 1. -/
def octetLanes (o : Nat) : List Nat := (List.range 8).map (fun i => 8 * o + i)
def State.octetEn (s : State) (o : Nat) : Bool := (octetLanes o).any (fun g => s.laneEn g)

/-- The pipeline of octet o is requested while its Leaf is in service with an enabled lane, withdrawn while it only
waits, and released one second after its last lane is disabled (R340). -/
def State.followPipe (s : State) (o : Nat) : State :=
  let r := 16 + o
  if s.octetEn o then
    let s := s.stopTimer .pipeRelease o
    if s.inService (o / 4) then s.request r else s
  else if s.rq r = 1 ∨ s.rq r = 3 ∨ s.rq r = 4 then s.release r
  else if s.rq r = 2 ∧ !s.running .pipeRelease o then s.startTimer .pipeRelease o secT
  else s

/-- Lane group r is requested once its pipeline is granted and one of its lanes has EN = 1, and released when both
have EN = 0 or its peak rises (R340). -/
def State.followGroup (s : State) (r : Nat) : State :=
  let g := 2 * (r - 48)
  let want := s.laneEn g || s.laneEn (g + 1)
  let peak := s.groupPeak r
  let s := if !want || (s.rq r = 2 && decide (s.fld (Fld.PWR_RQ_PEAK r) < peak)) then
      (if s.rq r = 0 then s else s.release r) else s
  let s := if s.rq r = 2 then s else s.setFld (Fld.PWR_RQ_PEAK r) (if want then peak else 2)
  if want && s.rq (pipeRq g) == 2 then s.request r else s

/-- The requests of an octet follow its lanes. -/
def State.followOctet (s : State) (o : Nat) : State :=
  (s.followPipe o).forAll (List.range 4) (fun q s => s.followGroup (48 + 4 * o + q))

end Sys2Proof.Machine
end

