-- ==== Sys2Proof/Machine/Lane.lean ====
section
/-!
DEFINITION. Lane.lean: lanes (spec/03): the bring-up states of R84, back-off, equalisation, adaptation and eye scan.
-/
namespace Sys2Proof.Machine

/-! ## What a port's lanes share -/

/-- A field of every lane of a port is written. -/
def State.laneFlds (s : State) (p : Nat) (f : Nat → FRef) (v : Nat) : State :=
  s.forAll (s.lanesOf p) (fun g s => s.setFld (f g) v)

/-- Whether a calibration run loses what it needs when a port goes from a state to another (R433, R438). -/
def State.calLoses (s : State) (p was st item inst : Nat) : Bool :=
  (item == 4 && inst == p && st != 5) ||
    (item == 2 && (s.lanesOf p).contains inst && ((was == 5 && st != 5) || (st != 4 && st != 5)))

/-- The port enters a state: every lane and PORT.STATUS show it (R82). -/
def State.setState (s : State) (p st : Nat) : State :=
  let was := s.portState p
  let s := (s.laneFlds p Fld.LANE_STATE_STATE st).setFld (Fld.PORT_STATUS_STATE p) st
  s.calDisturb (s.calLoses p was st) calDisturbed

/-- FIX_RX and FIX_TX of R123 in picoseconds. -/
def fixOf (mode fec : Nat) : Nat × Nat :=
  match mode, fec with
  | 1, _ => (212400, 148800)
  | 2, 0 => (61272, 44608)
  | 2, _ => (272048, 63456)
  | 3, 0 => (28416, 21088)
  | 3, 1 => (112880, 29952)
  | 3, _ => (248768, 41344)
  | 4, 0 => (64912, 46720)
  | 4, _ => (275688, 65568)
  | 5, 0 => (33120, 24576)
  | 5, _ => (121664, 38912)
  | 6, _ => (196352, 47104)
  | 7, _ => (112768, 31744)
  | 8, _ => (118272, 33280)
  | 9, _ => (120832, 34816)
  | 10, _ => (71424, 26624)
  | _, _ => (0, 0)

/-- Picoseconds in 2^-16 ns, rounded to nearest. -/
def psUnits (ps : Nat) : Nat := (ps * 65536 + 500) / 1000

/-- The fixed corrections are loaded at each entry to DETECT (R123). -/
def State.loadFix (s : State) (p : Nat) : State :=
  let (rx, tx) := fixOf (s.portMode p) (s.fld (Fld.PORT_MODE_FEC p))
  (s.setFld (Fld.TSU_FIX_RX_FIX_RX p) (psUnits rx)).setFld (Fld.TSU_FIX_TX_FIX_TX p) (psUnits tx)

/-- The exchange is forgotten at each entry to DETECT or OFF (R231). -/
def State.clearPeer (s : State) (p xstate : Nat) : State :=
  let s := s.forAll (List.range 13) (fun i s =>
    { s with latched := kdel s.latched (Reg.TCX_PEER_GEN p + 4 * i) }.set (Reg.TCX_PEER_GEN p + 4 * i) 0#32)
  let s := s.modPort p (fun x => { x with tcx := { x.tcx with ack := none, sentAt := none, extra := false, was := [] } })
  ((s.setFld (Fld.TCX_STAT_PEER_VALID p) 0).setFld (Fld.TCX_STAT_BAD p) 0).setFld (Fld.TCX_STAT_XSTATE p) xstate

/-- The coefficients in use on a lane change in one step; the port's transmit-side samples are STALE for 1 ms (R97). -/
def State.useFfe (s : State) (g : Nat) (ffe p2 : Word) : State :=
  if s.get (Reg.LANE_FFE_NOW g) = ffe ∧ s.get (Reg.LANE_FFE_NOW_P2 g) = p2 &&& 0xFF#32 then s
  else
    let s := (s.set (Reg.LANE_FFE_NOW g) ffe).set (Reg.LANE_FFE_NOW_P2 g) (p2 &&& 0xFF#32)
    s.modPort ((s.portOfLane g).getD g) (fun x => { x with ffeAt := some s.ticks })

/-- The transmit preset of R95 is in use on a lane whose coefficients software does not set (R96). -/
def State.presetLane (s : State) (g : Nat) : State :=
  if s.on (Fld.LANE_CTRL_FFE_SRC g) then s else s.useFfe g 0x3F00#32 0#32

/-- The preset applies on every lane of a port where training does not set the coefficients (R96). -/
def State.presetFfe (s : State) (p : Nat) : State := s.forAll (s.lanesOf p) (fun g s => s.presetLane g)

/-- Baud rate of a RATE code in kBd (R76). -/
def rateKbd (r : Nat) : Nat :=
  match r with
  | 0 => 1250000
  | 1 => 10312500
  | 2 => 25781250
  | 3 => 26562500
  | _ => 53125000

/-- A running eye-scan point of a lane ends early, with the counts so far kept (R108). The mismatches counted so far
are a free value.
(DESIGN CHOICE, log entry 39) -/
def State.escanEnd (s : State) (g reason : Nat) : State :=
  match kfind s.escans g with
  | none => s
  | some x =>
    let bits := min (2 ^ x.dwell) ((s.ticks - x.since) * rateKbd (s.fld (Fld.LANE_STATE_RATE g)) / 800000)
    let (w, s) := s.draw
    let errs := w.toNat % (bits + 1)
    let s := (s.setWide (Reg.LANE_ESCAN_BITS0 g) 2 bits).setWide (Reg.LANE_ESCAN_ERR0 g) 2 errs
    let s := { s with escans := kdel s.escans g, scanEnd := kput s.scanEnd g (s.ticks, false) }.setFld
      (Fld.LANE_ESCAN_STAT_BUSY g) 0
    (s.raise (Fld.LANE_ESCAN_STAT_ABORTED g)).setFld (Fld.LANE_ESCAN_STAT_REASON g) reason

/-- Whether a Leaf drains and the SFD came at or after its entry to DRAINING (R45). -/
def State.drainedAt (s : State) (p at1 : Nat) : Bool :=
  decide (p < 256) && s.leaf (p / 32) == 5 && decide (kget s.leafAt (p / 32) 0 * tickUnits ≤ at1)

/-- A frame discarded by the MAC is considered by the sampler, and counts (R114, R446, R454).
(DESIGN CHOICE, log entry 41) -/
def State.macDiscard (s : State) (f : Frame) (reason : Nat) : State :=
  let (s, f) := match s.ownerLeaf f.inPort with
    | some n => s.smpConsider n f true
    | none => (s, f)
  (s.ingressDrop f reason).countRx f.inPort 2 1 f.stamp f.flags

/-- The partial frame in reassembly is discarded as MERGE_ERR, or for a reason that comes before it (R45, R114, R120).
(DEDUCED, log entry 43) -/
def State.mergeErr (s : State) (p : Nat) : State :=
  match (s.port p).reasm with
  | none => s
  | some r =>
    let s := s.modPort p (fun x => { x with reasm := none })
    let f : Frame := { bytes := r.bytes, inPort := p, stamp := r.stamp, flags := r.flags }
    if s.drainedAt p r.at_ then s.ingressDrop f 8
    else s.macDiscard f (if r.codeErr then 2 else if 0 < r.bad ∧ s.fld (Fld.PORT_MODE_FEC p) ≠ 0 then 3 else 4)

/-- The port leaves ACTIVE: it takes and sends no more frames, what it holds is discarded, and its link phase samples are STALE
(R88, R117, R120). -/
def State.leaveActive (s : State) (p : Nat) : State :=
  let s := (s.laneFlds p Fld.LANE_EVT_DOWN 1).mergeErr p
  ((s.modPort p (fun x => { x with left := true })).flushPort p 0x29).truncate p

/-- The port leaves its present state: timers stop, and what belongs to the state ends. -/
def State.leaveState (s : State) (p : Nat) : State :=
  let st := s.portState p
  let s := if st = 5 then s.leaveActive p else s
  let s := if st = 4 ∨ st = 5 then s.forAll (s.lanesOf p) (fun g s => s.escanEnd g 5) else s
  let s := (((s.stopTimer .train p).stopTimer .lock p).stopTimer .exch p).stopTimer .backoff p
  (s.modPort p (fun x => { x with locked := [], cl37 := false, exchOver := false, anOk := false,
                                  probeHits := 0, probeAt := none })).setFld (Fld.PORT_STATUS_FEC_LOCK p) 0

/-- Lock ends on a port's first lane, the measured one (R222, R223). -/
def State.lockEnds (s : State) (p : Nat) : State :=
  if 4 ≤ s.portState p ∨ (s.port p).locked.contains p then s.modPort p (fun x => { x with slip := true }) else s

/-- The port enters OFF (R84). -/
def State.enterOff (s : State) (p : Nat) : State :=
  if s.portState p = 0 then s
  else
    let s := (s.lockEnds p).leaveState p
    let s := ((s.laneFlds p Fld.LANE_STATE_LAST_EXIT 8).laneFlds p Fld.LANE_STATE_FROZEN 0).laneFlds p Fld.LANE_STATE_BACKOFF 0
    ((s.setState p 0).presetFfe p).clearPeer p 0

/-- The port enters DETECT; lane g records the reason `exit g` (R84, R85). -/
def State.enterDetect (s : State) (p : Nat) (exit : Nat → Nat) : State :=
  let s := (s.lockEnds p).leaveState p
  let s := s.forAll (s.lanesOf p) (fun g s => s.setFld (Fld.LANE_STATE_LAST_EXIT g) (exit g))
  let s := (s.laneFlds p Fld.LANE_STATE_FROZEN 0).laneFlds p Fld.LANE_STATE_BACKOFF 0
  let s := (((s.setState p 1).presetFfe p).loadFix p).clearPeer p 1
  s.modPort p (fun x => { x with detectAt := s.ticks })

/-- FAIL_COUNT and SILENT clear in every lane of a port (R94). -/
def State.clearFails (s : State) (p : Nat) : State :=
  (s.laneFlds p Fld.LANE_STATE_FAIL_COUNT 0).laneFlds p Fld.LANE_STATE_SILENT 0

/-- The back-off after failure f, in ticks (R93, R94).
(DESIGN CHOICE, log entry 38) -/
def State.backoffTicks (s : State) (p f : Nat) : Nat :=
  if s.on (Fld.LANE_STATE_SILENT p) then s.fld (Fld.LANE_RETRY_SLOW_PERIOD p) * 100 * msT
  else s.fld (Fld.LANE_RETRY_BACKOFF_BASE p) * 2 ^ min (f - 1) (s.fld (Fld.LANE_RETRY_BACKOFF_CAP p)) * msT

/-- A failure sends the port to DETECT, counts, and starts a back-off (R84, R93, R94).
(DESIGN CHOICE, log entry 37) -/
def State.failPort (s : State) (p : Nat) (exit : Nat → Nat) : State :=
  let f := s.fld (Fld.LANE_STATE_FAIL_COUNT p) + 1
  let s := s.enterDetect p exit
  let s := s.laneFlds p Fld.LANE_STATE_FAIL_COUNT (min f 255)
  let s := if s.fld (Fld.LANE_RETRY_SILENT_LIMIT p) ≤ f ∧ !s.on (Fld.LANE_STATE_SILENT p) then
      (s.laneFlds p Fld.LANE_STATE_SILENT 1).laneFlds p Fld.LANE_EVT_SILENT 1
    else s
  (s.laneFlds p Fld.LANE_STATE_BACKOFF 1).startTimer .backoff p (s.backoffTicks p f)

/-- Whether a port has all its lanes powered and its first lane enabled. -/
def State.mayRun (s : State) (p : Nat) : Bool :=
  s.namesPort p && s.on (Fld.LANE_CTRL_EN p) && (s.lanesOf p).all (fun g => s.lanePowered g)

/-- The port follows EN, power and mode: OFF without them, DETECT from OFF with them (R84). -/
def State.followPort (s : State) (p : Nat) : State :=
  if !s.mayRun p then s.enterOff p
  else if s.portState p = 0 then
    let last := fun g => s.fld (Fld.LANE_STATE_LAST_EXIT g)
    s.enterDetect p last
  else s

/-- MEDIA of a port, and whether it is copper that runs Clause 73 or training (R81). -/
def State.media (s : State) (p : Nat) : Nat := s.fld (Fld.LANE_CTRL_MEDIA p)
def State.trains (s : State) (p : Nat) : Bool := s.media p == 1 && decide (1 ≤ modeRate (s.portMode p))
def State.negotiates (s : State) (p : Nat) : Bool := s.trains p && s.on (Fld.LANE_CTRL_AN_EN p)

/-- In DETECT with no back-off pending. -/
def State.detecting (s : State) (p : Nat) : Bool :=
  s.namesPort p && s.portState p == 1 && !s.on (Fld.LANE_STATE_BACKOFF p)

/-- A tap value as used: −128 is treated as −127 (R99). -/
def dfeUsed (w : Word) : Word :=
  let t := fun lo => let v := bitsOf w lo 8; if v = 0x80 then 0x81 else v
  BitVec.ofNat 32 (t 0 + 2 ^ 8 * t 8 + 2 ^ 16 * t 16)

/-- The written values are in use on a lane: the CTLE's, and in PAM4 modes the DFE's (R99, R100). -/
def State.asWritten (s : State) (g : Nat) : State :=
  let s := s.setFld (Fld.LANE_CTLE_PEAK_NOW g) (s.fld (Fld.LANE_CTLE_PEAK g))
  if 3 ≤ s.fld (Fld.LANE_STATE_RATE g) then s.set (Reg.LANE_DFE_NOW g) (dfeUsed (s.get (Reg.LANE_DFE g))) else s

/-- Adaptation starts from the written values at each entry to TRAIN or LOCK (R101). -/
def State.adaptStart (s : State) (p : Nat) : State :=
  s.forAll (s.lanesOf p) (fun g s =>
    if s.fld (Fld.LANE_CTRL_ADAPT_MODE g) = 0 then s else s.asWritten g)

/-- The port enters TRAIN. -/
def State.enterTrain (s : State) (p : Nat) : State :=
  ((s.leaveState p).setState p 2).adaptStart p |>.startTimer .train p (s.fld (Fld.LANE_TIMERS_TRAIN_TMO p) * msT)

/-- The port enters LOCK. -/
def State.enterLock (s : State) (p : Nat) : State :=
  ((s.leaveState p).setState p 3).adaptStart p |>.startTimer .lock p (s.fld (Fld.LANE_TIMERS_LOCK_TMO p) * msT)

/-- The port enters EXCHANGE. -/
def State.enterExchange (s : State) (p : Nat) : State :=
  let s := (s.leaveState p).setState p 4
  let s := if 2 ≤ s.fld (Fld.PORT_MODE_FEC p) then s.raise (Fld.PORT_STATUS_FEC_LOCK p) else s
  let s := s.modPort p (fun x => { x with winAt := s.ticks, exchAt := s.ticks })
  let s := if s.fld (Fld.TCX_STAT_XSTATE p) = 2 then s.setFld (Fld.TCX_STAT_XSTATE p) 1 else s
  s.startTimer .exch p (s.fld (Fld.LANE_TIMERS_EXCH_WAIT p) * msT)

/-- Verification begins when the merge sublayer is enabled and verification is not turned off (R121). -/
def State.verifyStart (s : State) (p : Nat) : State :=
  let s := if s.on (Fld.PORT_MM_CTRL_EN p) && !s.on (Fld.PORT_MM_CTRL_VERIFY_DIS p) then
      (s.modPort p (fun x => { x with verifyTries := 0, verifyAt := none })).setFld (Fld.PORT_MM_STAT_VERIFY p) 1
    else s.setFld (Fld.PORT_MM_STAT_VERIFY p) 0
  s.setBit (Fld.PORT_MM_STAT_TX_ACTIVE p) (s.on (Fld.PORT_MM_CTRL_EN p) && s.on (Fld.PORT_MM_CTRL_VERIFY_DIS p))

/-- The port enters ACTIVE (R84, R94, R121). -/
def State.enterActive (s : State) (p : Nat) : State :=
  let s := (s.stopTimer .exch p).setState p 5
  let s := ((s.laneFlds p Fld.LANE_EVT_UP 1).clearFails p).verifyStart p
  s.modPort p (fun x => { x with activeAt := s.ticks, exchOver := false, freeAt := s.phys, left := false })

/-- EXCHANGE ends when Clause 37 is complete where enabled, and the exchange is complete or its wait is over (R84). -/
def State.tryActive (s : State) (p : Nat) : State :=
  let c37 := s.portMode p != 1 || !s.on (Fld.LANE_CTRL_AN_EN p) || (s.port p).cl37
  if s.portState p = 4 ∧ c37 ∧ (s.fld (Fld.TCX_STAT_XSTATE p) = 2 ∨ (s.port p).exchOver) then s.enterActive p else s

/-! ## Control -/

/-- A CTLE or DFE step in LOCK, EXCHANGE or ACTIVE makes the samples that include it STALE (R104). -/
def State.eqStep (s : State) (g : Nat) : State :=
  let p := (s.portOfLane g).getD g
  if 3 ≤ s.portState p then s.modPort p (fun x => { x with staleAt := some s.ticks }) else s

/-- RESTART, and the loss of a module: DETECT with FAIL_COUNT and SILENT clear (R84). -/
def State.restart (s : State) (p exit : Nat) : State :=
  if s.portState p = 0 then s else (s.enterDetect p (fun _ => exit)).clearFails p

/-- The power requests of a lane's octet follow its lanes, and every port there follows its power (R80, R84). -/
def State.followLanes (s : State) (g : Nat) : State :=
  if g < 256 then
    (s.followOctet (g / 8)).forAll (octetLanes (g / 8)) (fun q s => if s.namesPort q then s.followPort q else s)
  else s.followPort g

/-- A write of LANE[g].CTRL (R81, R83, R84, R96, R100): a reserved MEDIA or ADAPT_MODE discards it whole. -/
def laneCtrlWrite (g : Nat) (w : Word) (s : State) : State :=
  if bitsOf w 4 2 = 3 ∨ bitsOf w 10 2 = 3 then s.raise (Fld.LANE_EVT_CFG_ERR g)
  else
    let rise := bitsOf w 0 1 == 1 && !s.on (Fld.LANE_CTRL_EN g)
    let (soft, ran) := (s.on (Fld.LANE_CTRL_FFE_SRC g), s.fld (Fld.LANE_CTRL_ADAPT_MODE g) != 0)
    let s := s.set (Reg.LANE_CTRL g) (w &&& 0xF31#32)
    let s := if soft then s.presetLane g else s
    let s := if ran && bitsOf w 10 2 == 0 then (s.asWritten g).eqStep g else s
    match s.portOfLane g with
    | none => if g < 256 then s.followOctet (g / 8) else s
    | some p =>
      let off := s.portState p == 0
      let s := if rise && p == g then s.laneFlds p Fld.LANE_STATE_LAST_EXIT 0 else s
      let s := if p = g then s.followLanes p else s
      if bitsOf w 1 1 = 1 ∧ p = g ∧ !off then s.restart p 6 else s

/-- LANE_CTRL_WRITE (R84). -/
def execLaneCtrlWrite (dt : Nat) (src : Src) (g : Nat) (w : Word) (s : State) : Host.Outcome State Fault Refusal :=
  effect dt (fun s => onlyIf (s.laneExists g) (fun s => s.guarded src (Reg.LANE_CTRL g) (laneCtrlWrite g w)) s) s

/-- A write of 1 to RESTART with the other fields as they stand. -/
def laneRestart (g : Nat) (s : State) : State := if s.portOfLane g = some g then s.restart g 6 else s

/-- LANE_RESTART (R84). -/
def execLaneRestart (dt : Nat) (src : Src) (g : Nat) (s : State) : Host.Outcome State Fault Refusal :=
  effect dt (fun s => onlyIf (s.laneExists g) (fun s => s.guarded src (Reg.LANE_CTRL g) (laneRestart g)) s) s

/-- A write of TIMERS or RETRY: a field out of range discards it whole (R92).
(DESIGN CHOICE, log entry 38) -/
def laneTimersWrite (g : Nat) (retry : Bool) (w : Word) (s : State) : State :=
  let ok := if retry then
      decide (1 ≤ bitsOf w 8 8) && decide (bitsOf w 4 4 ≤ 10) && decide (1 ≤ bitsOf w 24 8) && decide (1 ≤ bitsOf w 16 8)
    else
      decide (100 ≤ bitsOf w 20 12) && decide (bitsOf w 20 12 ≤ 3000) && decide (10 ≤ bitsOf w 10 10) &&
        decide (bitsOf w 10 10 ≤ 1000) && decide (10 ≤ bitsOf w 0 10) && decide (bitsOf w 0 10 ≤ 1000)
  if !ok then s.raise (Fld.LANE_EVT_CFG_ERR g)
  else if retry then s.set (Reg.LANE_RETRY g) (w &&& 0xFFFFFFF0#32)
  else s.set (Reg.LANE_TIMERS g) w

/-- LANE_TIMERS_WRITE (R92). -/
def execLaneTimersWrite (dt : Nat) (src : Src) (g : Nat) (retry : Bool) (w : Word) (s : State) :
    Host.Outcome State Fault Refusal :=
  effect dt (fun s => onlyIf (s.laneExists g)
    (fun s => s.guarded src (if retry then Reg.LANE_RETRY g else Reg.LANE_TIMERS g) (laneTimersWrite g retry w)) s) s

/-- A write of ADAPT: RESUME_MIN must exceed FREEZE_MIN (R103). -/
def laneAdaptWrite (g : Nat) (w : Word) (s : State) : State :=
  if bitsOf w 0 16 < bitsOf w 16 16 then s.set (Reg.LANE_ADAPT g) w else s.raise (Fld.LANE_EVT_CFG_ERR g)

/-- LANE_ADAPT_WRITE (R103). -/
def execLaneAdaptWrite (dt : Nat) (src : Src) (g : Nat) (w : Word) (s : State) : Host.Outcome State Fault Refusal :=
  effect dt (fun s => onlyIf (s.laneExists g) (fun s => s.guarded src (Reg.LANE_ADAPT g) (laneAdaptWrite g w)) s) s

/-! ## Detection, training and lock -/

/-- Whether the partner is found under the media's rule, given for how many ticks the receive signal has been present
without a break (R81). -/
def State.partnerFound (s : State) (p signal : Nat) : Bool :=
  let held := decide (10 * msT ≤ min signal (s.ticks - (s.port p).detectAt))
  match s.media p with
  | 0 => (s.port p).modReady && held
  | 1 => if s.negotiates p then (s.port p).anOk else decide (2 ≤ (s.port p).probeHits)
  | _ => held

/-- PARTNER_DETECTED (R81, R84). -/
def execPartnerDetected (dt p signal : Nat) (s : State) : Host.Outcome State Fault Refusal :=
  effect dt (fun s => onlyIf (s.detecting p && s.partnerFound p signal)
    (fun s => if s.trains p then s.enterTrain p else s.enterLock p) s) s

/-- A termination probe finds the far end or not; two consecutive finds 10 ms apart count (R81). -/
def terminationProbe (p : Nat) (found : Bool) (s : State) : State :=
  let x := s.port p
  if x.probeAt.any (fun t => decide (s.ticks < t + 10 * msT)) then s
  else s.setPort p { x with probeAt := some s.ticks, probeHits := if found then x.probeHits + 1 else 0 }

/-- TERMINATION_PROBE (R81). -/
def execTerminationProbe (dt p : Nat) (found : Bool) (s : State) : Host.Outcome State Fault Refusal :=
  effect dt (fun s => onlyIf (s.detecting p && s.media p == 1 && !s.negotiates p) (terminationProbe p found) s) s

/-- Whether resolution gives a port's technology and the partner has its FEC: the device advertises only its configured
technology and its configured FEC ability (R84, R87).
(DESIGN CHOICE, log entry 40) -/
def State.anResolves (s : State) (p : Nat) (techs fecs : List Nat) : Bool :=
  let fec := s.fld (Fld.PORT_MODE_FEC p)
  techs.contains (s.portMode p) && (fec == 0 || fecs.contains fec)

/-- AN_PAGE_EXCHANGE (R84, R87). -/
def execAnPageExchange (dt p : Nat) (page : Page) (s : State) : Host.Outcome State Fault Refusal :=
  effect dt (fun s => onlyIf (s.detecting p && s.negotiates p)
    (fun s => if s.anResolves p page.techs page.fecs then s.modPort p (fun x => { x with anOk := true })
      else s.failPort p (fun _ => 4)) s) s

/-- AN_TIMEOUT (R84): signal present for 1 s without valid DME pages. -/
def execAnTimeout (dt p signal : Nat) (s : State) : Host.Outcome State Fault Refusal :=
  effect dt (fun s => onlyIf (s.detecting p && s.negotiates p && !(s.port p).anOk &&
    decide (secT ≤ min signal (s.ticks - (s.port p).detectAt))) (fun s => s.failPort p (fun _ => 4)) s) s

/-- Whether five coefficients keep R95: each within ±63, C0 not negative, magnitudes summing to at most 63. -/
def ffeOk (ffe p2 : Word) : Bool :=
  let c := fun (w : Word) lo => signed 8 (bitsOf w lo 8)
  let l := [c ffe 24, c ffe 16, c ffe 8, c ffe 0, c p2 0]
  l.all (fun x => decide (x.natAbs ≤ 63)) && decide (0 ≤ c ffe 8) && decide ((l.map Int.natAbs).foldl (· + ·) 0 ≤ 63)

/-- Five coefficients, C_M2 first, in the layout of FFE_NOW and FFE_NOW_P2, and back. -/
def ffeWords (l : List Int) : Word × Word :=
  let c := fun i => unsigned 8 ((l[i]?).getD 0)
  (BitVec.ofNat 32 (2 ^ 24 * c 0 + 2 ^ 16 * c 1 + 2 ^ 8 * c 2 + c 3), BitVec.ofNat 32 (c 4))
def ffeTaps (ffe p2 : Word) : List Int :=
  [signed 8 (bitsOf ffe 24 8), signed 8 (bitsOf ffe 16 8), signed 8 (bitsOf ffe 8 8), signed 8 (bitsOf ffe 0 8),
   signed 8 (bitsOf p2 0 8)]

/-- The answer to one coefficient request: a coefficient moves one step unless R95 stops it at its limit (R87). `held`: software
sets the coefficients, and each is answered as at its limit (R96). `init`: what an initialise request sets. -/
def trainStep (held : Bool) (init : List Int) (l : List Int) (r : TrainReq) : List Int × TrainAnswer :=
  let try1 := fun (m : List Int) (limit : TrainAnswer) =>
    if !held && ffeOk (ffeWords m).1 (ffeWords m).2 then (m, TrainAnswer.updated) else (l, limit)
  match r with
  | .inc k => try1 (l.modify k (fun v => v + 1)) .maximum
  | .dec k => try1 (l.modify k (fun v => v - 1)) .minimum
  | .preset => try1 [0, 0, 63, 0, 0] .maximum
  | .initialise => try1 init .maximum

/-- A lane answers its partner's requests in order, from the coefficients in use (R87, R96). -/
def State.trainLane (s : State) (g : Nat) (reqs : List TrainReq) : State :=
  let held := s.on (Fld.LANE_CTRL_FFE_SRC g)
  let from1 := ffeTaps (s.get (Reg.LANE_FFE_NOW g)) (s.get (Reg.LANE_FFE_NOW_P2 g))
  let (l, answers) := reqs.foldl (fun (x : List Int × List TrainAnswer) r =>
    let (l, a) := trainStep held Config.ffeInit x.1 r
    (l, x.2 ++ [a])) (from1, [])
  (if held then s else s.useFfe g (ffeWords l).1 (ffeWords l).2).emit (.train g answers)

/-- The lanes of a port answer their requests, lane by lane. -/
def State.trainLanes (s : State) : List (List TrainReq) → Nat → State
  | [], _ => s
  | r :: l, g => (s.trainLane g r).trainLanes l (g + 1)

/-- TRAIN_COMPLETE (R84): `reqs` holds the coefficient requests training made on each lane. -/
def execTrainComplete (dt p : Nat) (reqs : List (List TrainReq)) (s : State) : Host.Outcome State Fault Refusal :=
  effect dt (fun s => onlyIf (s.namesPort p && s.portState p == 2)
    (fun s => (s.trainLanes (reqs.take (modeLanes (s.portMode p))) p).enterLock p) s) s

/-- The reason each lane records when a condition arises on some lanes of a port (R84).
(DESIGN CHOICE, log entry 37) -/
def laneReason (lanes : List Nat) (own : Nat) (g : Nat) : Nat := if lanes.contains g then own else 7

/-- TRAIN_FAIL (R84): on the lanes named. -/
def execTrainFail (dt p : Nat) (lanes : List Nat) (s : State) : Host.Outcome State Fault Refusal :=
  effect dt (fun s => onlyIf (s.namesPort p && s.portState p == 2 && lanes.any (fun g => (s.lanesOf p).contains g))
    (fun s => s.failPort p (laneReason lanes 2)) s) s

/-- TRAIN_TIMEOUT (R84). -/
def execTrainTimeout (dt p : Nat) (s : State) : Host.Outcome State Fault Refusal :=
  effect dt (fun s => onlyIf (s.portState p == 2 && s.due .train p) (fun s => s.failPort p (fun _ => 1)) s) s

/-- Whether a list holds n of one value in a row: a value of the other kind restarts the count. -/
def inRow (b : Bool) (n : Nat) : Nat → List Bool → Bool
  | c, [] => decide (n ≤ c)
  | c, x :: l => decide (n ≤ c) || inRow b n (if x = b then c + 1 else 0) l

/-- Whether what a lane saw in its hunt makes it declare lock: 64 valid sync headers in a row, or with RS-FEC valid markers at two
consecutive positions (R89, R90). At rate 0x0 Clause 36 decides, and the command says so (R91).
(DESIGN CHOICE, log entry 40) -/
def State.locks (s : State) (p : Nat) (seen : List Bool) : Bool :=
  if s.portMode p = 1 then true
  else if 2 ≤ s.fld (Fld.PORT_MODE_FEC p) then inRow true 2 0 seen
  else inRow true 64 0 seen

/-- Whether what a lane saw makes it lose lock: 16 invalid headers in a window of 64, or with RS-FEC four consecutive marker
positions without a valid marker (R89 to R91). -/
def State.unlocks (s : State) (p : Nat) (seen : List Bool) : Bool :=
  if s.portMode p = 1 then true
  else if 2 ≤ s.fld (Fld.PORT_MODE_FEC p) then inRow false 4 0 seen
  else decide (16 ≤ ((seen.take 64).filter (fun b => !b)).length)

/-- The skew a port tolerates between its lanes, in ps (R90). -/
def maxSkew : Nat := 180000

/-- A lane declares lock; with every lane locked and the port deskewed the port enters EXCHANGE (R84, R89 to R91). -/
def blockLock (p g skew : Nat) (s : State) : State :=
  let s := s.modPort p (fun x => { x with
    locked := if x.locked.contains g then x.locked else x.locked ++ [g], slip := x.slip || g == p })
  if skew ≤ maxSkew ∧ (s.lanesOf p).all (fun l => (s.port p).locked.contains l) then s.enterExchange p else s

/-- BLOCK_LOCK (R89 to R91). -/
def execBlockLock (dt : Nat) (h : Hunt) (skew : Nat) (s : State) : Host.Outcome State Fault Refusal :=
  effect dt (fun s => match s.portOfLane h.lane with
    | some p => onlyIf (s.portState p == 3 && s.locks p h.seen) (blockLock p h.lane skew) s
    | none => s) s

/-- LOCK_TIMEOUT (R84). -/
def execLockTimeout (dt p : Nat) (s : State) : Host.Outcome State Fault Refusal :=
  effect dt (fun s => onlyIf (s.portState p == 3 && s.due .lock p) (fun s => s.failPort p (fun _ => 3)) s) s

/-- CLAUSE_37_NEGOTIATION (R84, R87). -/
def execClause37Negotiation (dt p : Nat) (ok : Bool) (s : State) : Host.Outcome State Fault Refusal :=
  effect dt (fun s => onlyIf (s.portState p == 4 && s.portMode p == 1 && s.on (Fld.LANE_CTRL_AN_EN p))
    (fun s => if ok then (s.modPort p (fun x => { x with cl37 := true })).tryActive p
      else s.failPort p (fun _ => 4)) s) s

/-- EXCH_WAIT_EXPIRY (R84, R230). -/
def execExchWaitExpiry (dt p : Nat) (s : State) : Host.Outcome State Fault Refusal :=
  effect dt (fun s => onlyIf (s.portState p == 4 && s.due .exch p)
    (fun s => (s.modPort p (fun x => { x with exchOver := true })).tryActive p) s) s

/-- Lock is lost on a lane: in LOCK it hunts again; in EXCHANGE or ACTIVE the port returns to LOCK, where the other lanes keep
theirs (R84, R89, R90). -/
def lockLoss (p g : Nat) (s : State) : State :=
  let others := (if s.portState p = 3 then (s.port p).locked else s.lanesOf p).filter (fun l => l != g)
  let s := if s.portState p = 3 then s
    else ((s.bump (Fld.LANE_LOCK_LOSS_COUNT g) 1).raise (Fld.LANE_EVT_LOCK_LOSS g)).enterLock p
  s.modPort p (fun x => { x with slip := x.slip || g == p, locked := others })

/-- LOCK_LOSS (R84, R89). -/
def execLockLoss (dt : Nat) (h : Hunt) (s : State) : Host.Outcome State Fault Refusal :=
  effect dt (fun s => match s.portOfLane h.lane with
    | some p => onlyIf (decide (3 ≤ s.portState p) && decide (s.portState p ≤ 5) && s.unlocks p h.seen) (lockLoss p h.lane) s
    | none => s) s

/-- SIGNAL_LOST (R84): receive signal detect absent for more than 100 µs on the lanes named. -/
def execSignalLost (dt p : Nat) (lanes : List Nat) (s : State) : Host.Outcome State Fault Refusal :=
  effect dt (fun s => onlyIf (s.namesPort p && decide (3 ≤ s.portState p) && lanes.any (fun g => (s.lanesOf p).contains g))
    (fun s => s.enterDetect p (laneReason lanes 5)) s) s

/-- MODULE_PRESENCE_LOST (R84): optics in DETECT to ACTIVE. -/
def execModulePresenceLost (dt p : Nat) (s : State) : Host.Outcome State Fault Refusal :=
  effect dt (fun s => onlyIf (s.namesPort p) (fun s =>
    let s := s.modPort p (fun x => { x with modReady := false })
    if s.media p = 0 ∧ s.portState p ≠ 0 then s.restart p 5 else s) s) s

/-- Detection begins afresh when a back-off ends (R93). -/
def backoffEnd (p : Nat) (s : State) : State :=
  ((s.stopTimer .backoff p).laneFlds p Fld.LANE_STATE_BACKOFF 0).modPort p
    (fun x => { x with detectAt := s.ticks, probeHits := 0, probeAt := none, anOk := false })

/-- BACKOFF_END (R93). -/
def execBackoffEnd (dt p : Nat) (s : State) : Host.Outcome State Fault Refusal :=
  effect dt (fun s => onlyIf (s.portState p == 1 && s.due .backoff p) (backoffEnd p) s) s

/-! ## Equalisation (R95 to R104) -/

/-- A write of FFE_P2 with APPLY = 1 (R96, R97). -/
def ffeApply (g : Nat) (w : Word) (s : State) : State :=
  let s := s.set (Reg.LANE_FFE_P2 g) (w &&& 0xFF#32)
  if !s.on (Fld.LANE_CTRL_FFE_SRC g) then s
  else if ffeOk (s.get (Reg.LANE_FFE g)) w then s.useFfe g (s.get (Reg.LANE_FFE g)) w
  else s.raise (Fld.LANE_EVT_FFE_ERR g)

/-- FFE_APPLY (R96). -/
def execFfeApply (dt : Nat) (src : Src) (g : Nat) (w : Word) (s : State) : Host.Outcome State Fault Refusal :=
  effect dt (fun s => onlyIf (s.laneExists g) (fun s => s.guarded src (Reg.LANE_FFE_P2 g) (ffeApply g w)) s) s

/-- A write of CTLE.PEAK or DFE (R99 to R101): in OFF mode it applies, else it is the next start point. -/
def equaliserWrite (g : Nat) (ctle : Bool) (w : Word) (s : State) : State :=
  let off := s.fld (Fld.LANE_CTRL_ADAPT_MODE g) == 0
  if ctle then
    let s := s.setFld (Fld.LANE_CTLE_PEAK g) (bitsOf w 0 5)
    if off then (s.setFld (Fld.LANE_CTLE_PEAK_NOW g) (bitsOf w 0 5)).eqStep g else s
  else
    let s := s.set (Reg.LANE_DFE g) (w &&& 0xFFFFFF#32)
    if off && decide (3 ≤ s.fld (Fld.LANE_STATE_RATE g)) then (s.set (Reg.LANE_DFE_NOW g) (dfeUsed w)).eqStep g else s

/-- EQUALISER_WRITE (R100). -/
def execEqualiserWrite (dt : Nat) (src : Src) (g : Nat) (ctle : Bool) (w : Word) (s : State) :
    Host.Outcome State Fault Refusal :=
  effect dt (fun s => onlyIf (s.laneExists g)
    (fun s => s.guarded src (if ctle then Reg.LANE_CTLE g else Reg.LANE_DFE g) (equaliserWrite g ctle w)) s) s

/-- Whether adaptation runs on a lane now (R100, R102, R108): in TRAIN and LOCK whatever FROZEN holds.
(DESIGN CHOICE, log entry 149) -/
def State.adapting (s : State) (g : Nat) : Bool :=
  let mode := s.fld (Fld.LANE_CTRL_ADAPT_MODE g)
  let st := s.fld (Fld.LANE_STATE_STATE g)
  decide (1 ≤ mode) && (st == 2 || st == 3 || (!s.on (Fld.LANE_STATE_FROZEN g) && (st == 4 || (st == 5 && mode == 2)))) &&
    (kfind s.escans g).isNone

/-- A tap moves one code step within its range. -/
def tapStep (v : Nat) (up : Bool) : Nat :=
  let x := signed 8 v
  unsigned 8 (if up then min (x + 1) 127 else max (x - 1) (-127))

/-- Whether adaptation has taken its one step in the tick a point ended in, before the next point may start (R108). -/
def State.scanStepped (s : State) (g : Nat) : Bool := kfind s.scanEnd g == some (s.ticks, true)

/-- Adaptation applies one code step: tap 0 is the CTLE, 1 to 3 the DFE taps (R101). -/
def adaptationStep (g tap : Nat) (up : Bool) (s : State) : State :=
  let p := (s.portOfLane g).getD g
  let key := 4 * (g % 32) + tap
  let wait := if tap = 0 then msT else 100 * usT
  let early := match kfind (s.port p).stepAt key with
    | some t => decide (s.ticks < t + wait)
    | none => false
  if early || s.scanStepped g then s
  else
    let s := { s with scanEnd := s.scanEnd.map (fun (e : Nat × Nat × Bool) => if e.1 = g then (g, (e.2.1, true)) else e) }
    let s := s.modPort p (fun x => { x with stepAt := kput x.stepAt key s.ticks })
    let s := if tap = 0 then
        let v := s.fld (Fld.LANE_CTLE_PEAK_NOW g)
        s.setFld (Fld.LANE_CTLE_PEAK_NOW g) (if up then min (v + 1) 31 else v - 1)
      else
        let f : FRef := ⟨Reg.LANE_DFE_NOW g, 8 * (tap - 1), 8⟩
        s.setFld f (tapStep (s.fld f) up)
    s.eqStep g

/-- ADAPTATION_STEP (R101). -/
def execAdaptationStep (dt g tap : Nat) (up : Bool) (s : State) : Host.Outcome State Fault Refusal :=
  effect dt (fun s => onlyIf (s.laneExists g && s.adapting g && decide (tap ≤ 3) &&
    (tap == 0 || decide (3 ≤ s.fld (Fld.LANE_STATE_RATE g)))) (adaptationStep g tap up) s) s

/-- Ticks of a window of 65,536 units on a port (R102): a unit is a 64b/66b block, or a pair of code groups. -/
def windowTicks (mode : Nat) : Nat := if mode = 1 then 65536 * 64 / 5 else 65536 * 256 / (5 * modeGbps mode)

/-- A window ends with `units` data units in it (R102): EVT.FREEZE is raised as FROZEN sets.
(DESIGN CHOICE, log entry 150) -/
def windowEnd (p units : Nat) (s : State) : State :=
  let s := s.modPort p (fun x => { x with winAt := s.ticks })
  if units < s.fld (Fld.LANE_ADAPT_FREEZE_MIN p) then
    if s.on (Fld.LANE_STATE_FROZEN p) then s
    else (s.laneFlds p Fld.LANE_STATE_FROZEN 1).laneFlds p Fld.LANE_EVT_FREEZE 1
  else if s.fld (Fld.LANE_ADAPT_RESUME_MIN p) ≤ units then s.laneFlds p Fld.LANE_STATE_FROZEN 0
  else s

/-- ADAPT_WINDOW_END (R102). -/
def execAdaptWindowEnd (dt p units : Nat) (s : State) : Host.Outcome State Fault Refusal :=
  effect dt (fun s => onlyIf (s.namesPort p && (s.portState p == 4 || s.portState p == 5) &&
    decide ((s.port p).winAt + windowTicks (s.portMode p) ≤ s.ticks)) (windowEnd p units) s) s

/-! ## Eye scan (R105 to R109) -/

/-- Why a START is refused: a REASON of R109, or 0. -/
def State.escanRefusal (s : State) (g : Nat) (w : Word) : Nat :=
  let st := s.fld (Fld.LANE_STATE_STATE g)
  let nrz := decide (s.fld (Fld.LANE_STATE_RATE g) < 3)
  let bad := (if nrz then bitsOf w 20 2 != 0 else bitsOf w 20 2 == 3) || decide (bitsOf w 24 6 < 10) ||
    decide (36 < bitsOf w 24 6) || bitsOf w 8 8 == 0x80
  if st ≠ 4 ∧ st ≠ 5 then 1
  else if bad then 2
  else if (kfind s.escans g).isSome then 4
  else if s.calLanes.contains g then 3
  else 0

/-- Ticks of a point: 2^DWELL unit intervals (R106). -/
def escanTicks (dwell rate : Nat) : Nat := (2 ^ dwell * 800000 + rateKbd rate - 1) / rateKbd rate

/-- A write of ESCAN_CTRL with START = 1: its fields are written, and the point begins or is refused (R107). STAT keeps what
earlier points left.
(DESIGN CHOICE, log entry 151) -/
def escanStart (g : Nat) (w : Word) (s : State) : State :=
  let r := s.escanRefusal g w
  let s := s.set (Reg.LANE_ESCAN_CTRL g) (w &&& 0x3F30FF3F#32)
  if r = 0 then
    let d := bitsOf w 24 6
    let s := { s with escans := kput s.escans g ⟨d, s.ticks⟩ }.raise (Fld.LANE_ESCAN_STAT_BUSY g)
    s.startTimer .escan g (escanTicks d (s.fld (Fld.LANE_STATE_RATE g)))
  else (s.raise (Fld.LANE_ESCAN_STAT_REFUSED g)).setFld (Fld.LANE_ESCAN_STAT_REASON g) r

/-- Calibration takes an offset sampler in the tick of a START: the START is refused (R107). -/
def State.escanYield (s : State) (g : Nat) : State :=
  match kfind s.escans g with
  | none => s
  | some _ =>
    let s := ({ s with escans := kdel s.escans g }.setFld (Fld.LANE_ESCAN_STAT_BUSY g) 0).stopTimer .escan g
    (s.raise (Fld.LANE_ESCAN_STAT_REFUSED g)).setFld (Fld.LANE_ESCAN_STAT_REASON g) 3

/-- ESCAN_START (R107). -/
def execEscanStart (dt : Nat) (src : Src) (g : Nat) (w : Word) (s : State) : Host.Outcome State Fault Refusal :=
  effect dt (fun s => onlyIf (s.laneExists g) (fun s => s.guarded src (Reg.LANE_ESCAN_CTRL g) (escanStart g w)) s) s

/-- ESCAN_ABORT (R108). -/
def execEscanAbort (dt : Nat) (src : Src) (g : Nat) (s : State) : Host.Outcome State Fault Refusal :=
  effect dt (fun s => onlyIf (s.laneExists g) (fun s => s.guarded src (Reg.LANE_ESCAN_CTRL g) (fun s => s.escanEnd g 6)) s) s

/-- A point completes with the mismatches its comparisons counted (R106).
(DESIGN CHOICE, log entry 39) -/
def escanComplete (g errs : Nat) (s : State) : State :=
  match kfind s.escans g with
  | none => s
  | some x =>
    let s := (s.setWide (Reg.LANE_ESCAN_BITS0 g) 2 (2 ^ x.dwell)).setWide (Reg.LANE_ESCAN_ERR0 g) 2 (min errs (2 ^ x.dwell))
    let s := { s with escans := kdel s.escans g, scanEnd := kput s.scanEnd g (s.ticks, false) }.setFld
      (Fld.LANE_ESCAN_STAT_BUSY g) 0
    s.raise (Fld.LANE_ESCAN_STAT_DONE g)

/-- ESCAN_POINT_COMPLETE (R106). -/
def execEscanPointComplete (dt g errs : Nat) (s : State) : Host.Outcome State Fault Refusal :=
  effect dt (fun s => onlyIf (s.due .escan g) (fun s => escanComplete g errs (s.stopTimer .escan g)) s) s

end Sys2Proof.Machine
end

