-- ==== Sys2Proof/Machine/Port.lean ====
section
/-!
DEFINITION. Port.lean: port modes, the receive MAC, pauses, frame preemption's merge sublayer, transmit stamps and twin
TDCs (R110 to R131).
-/
namespace Sys2Proof.Machine

/-! ## Port modes (R110 to R112, R118) -/

/-- The lanes mode m would take from lane p on. -/
def footprint (p m : Nat) : List Nat := (List.range (modeLanes m)).map (fun i => p + i)

/-- Whether a mode may be set at lane p (R111): it is a mode, it may start there, its lanes and the old ones are
disabled, and no other port lies in its footprint. -/
def State.modeOk (s : State) (p m : Nat) : Bool :=
  decide (m ≤ 10) && (decide (p < 256) || decide (m ≤ 3)) && modePlaced m p &&
    (footprint p (s.portMode p) ++ footprint p m).all (fun g => !s.laneEn g) &&
    (footprint p m).all (fun g => (s.portOfLane g).getD p == p)

/-- The FEC in force after a write, if it is accepted (R111, R112). -/
def State.fecAfter (s : State) (p m fec : Nat) : Option Nat :=
  let held := s.fld (Fld.PORT_MODE_FEC p)
  let ok := modeFecs m
  if fec = held then some (if ok.contains held then held else ok.headD 0)
  else if ok.contains fec then some fec else none

/-- A write of PORT[p].MODE (R25, R111, R112). -/
def portModeWrite (p : Nat) (w : Word) (s : State) : State :=
  let m := bitsOf w 0 6
  if (s.portOfLane p).getD p ≠ p then s
  else
    match (if s.modeOk p m then s.fecAfter p m (bitsOf w 8 3) else none) with
    | none => s.raise (Fld.PORT_EVT_CFG_ERR p)
    | some fec =>
      let old := footprint p (s.portMode p)
      let s := old.foldl (fun s g => s.setFld (Fld.LANE_STATE_RATE g) 0) s
      let s := s.set (Reg.PORT_MODE p) (BitVec.ofNat 32 (m + 2 ^ 8 * fec))
      let s := s.laneFlds p Fld.LANE_STATE_RATE (modeRate m)
      let s := s.forAll (footprint p m) (fun g s => if s.fld (Fld.LANE_CTRL_ADAPT_MODE g) = 0 then s.asWritten g else s)
      let s := if fec = 0 then (s.set (Reg.PORT_FEC_CW_CORR p) 0#32).set (Reg.PORT_FEC_CW_UNCORR p) 0#32 else s
      let s := s.setFld (Fld.PORT_STATUS_STATE p) (s.portState p)
      if p < 256 then s.poolShow (p / 32) else s

/-- PORT_MODE_WRITE (R111). -/
def execPortModeWrite (dt : Nat) (src : Src) (p : Nat) (w : Word) (s : State) : Host.Outcome State Fault Refusal :=
  effect dt (fun s => onlyIf (s.laneExists p) (fun s => s.guarded src (Reg.PORT_MODE p) (portModeWrite p w)) s) s

/-! ## Pauses (R116) -/

/-- Ticks of n quanta of 512 bit times on a port. -/
def quantaTicks (mode n : Nat) : Nat := (512 * n * 4 + 5 * modeGbps mode - 1) / (5 * modeGbps mode)

/-- Whether a pause holds a class now. -/
def State.paused (s : State) (p c : Nat) : Bool := (kfind (s.port p).pause c).any (fun t => decide (s.ticks < t))

/-- PFC_HELD follows the pauses. -/
def State.pauseShow (s : State) (p : Nat) : State :=
  s.setBit (Fld.PORT_STATUS_PFC_HELD p) ((List.range 8).any (fun c => s.paused p c))

/-- The classes of a mask are held for n quanta; 0 quanta releases them. -/
def State.holdClasses (s : State) (p mask n : Nat) : State :=
  let s := s.ladlePause p
  let till := s.ticks + quantaTicks (s.portMode p) n
  let set := fun (m : KMap Nat) c => if mask / 2 ^ c % 2 = 1 then (if n = 0 then kdel m c else kput m c till) else m
  (s.modPort p (fun x => { x with pause := (List.range 8).foldl set x.pause })).pauseShow p

/-- A PAUSE frame holds every class not exempt, when honoured. -/
def State.pauseFrame (s : State) (p quanta : Nat) : State :=
  if s.on (Fld.PORT_FC_RX_PAUSE_EN p) then s.holdClasses p (255 - s.fld (Fld.PORT_FC_EXPRESS_IGNORE p)) quanta else s

/-- A PFC frame holds each class it names that the port honours, for that class's quanta. -/
def State.pfcFrame (s : State) (p vec : Nat) (quanta : List Nat) : State :=
  s.forAll (List.range 8) (fun c s =>
    if vec / 2 ^ c % 2 = 1 ∧ s.fldBit (Fld.PORT_FC_RX_PFC_MASK p) c then s.holdClasses p (2 ^ c) ((quanta[c]?).getD 0) else s)

/-- A MAC Control frame is consumed and counted (R116). -/
def State.macControl (s : State) (p stamp flags : Nat) : State := s.countRx p 3 1 stamp flags

/-- The bytes of a MAC Control frame act by their opcode. -/
def State.macControlFrame (s : State) (p : Nat) (b : List Byte) : State :=
  let op := beAt b 14 2
  if op = 1 then s.pauseFrame p (beAt b 16 2)
  else if op = 0x0101 then s.pfcFrame p (beAt b 16 2 % 256) ((List.range 8).map (fun c => beAt b (18 + 2 * c) 2))
  else s

/-- PAUSE_FRAME (R116). -/
def execPauseFrame (dt p quanta : Nat) (s : State) : Host.Outcome State Fault Refusal :=
  effect dt (fun s => onlyIf (s.namesPort p && s.portState p == 5)
    (fun s => (s.macControl p 0 0).pauseFrame p (quanta % 2 ^ 16)) s) s

/-- PFC_FRAME (R116). -/
def execPfcFrame (dt p vec : Nat) (quanta : List Nat) (s : State) : Host.Outcome State Fault Refusal :=
  effect dt (fun s => onlyIf (s.namesPort p && s.portState p == 5)
    (fun s => (s.macControl p 0 0).pfcFrame p vec (quanta.map (fun q => q % 2 ^ 16))) s) s

/-- Pauses whose quanta have run out are forgotten. -/
def pauseExpiry (p : Nat) (s : State) : State :=
  let s := s.ladlePause p
  (s.modPort p (fun x => { x with pause := x.pause.filter (fun e => decide (s.ticks < e.2)) })).pauseShow p

/-- PAUSE_EXPIRY (R116). -/
def execPauseExpiry (dt p : Nat) (s : State) : Host.Outcome State Fault Refusal :=
  effect dt (fun s => onlyIf (s.namesPort p) (pauseExpiry p) s) s

/-! ## The receive MAC (R114) -/

/-- The flags of a stamp a port takes at a physical instant (R127). -/
def State.stampFlags (s : State) (p at1 : Nat) (frag : Bool) : Nat :=
  let valid := s.on Fld.TIME_STATUS_TSU_LOCK && !(decide (p < 256) && s.fldBit Fld.TIME_STATUS_LEAF_STAMP_INVALID (p / 32))
  let (a, b) := (s.port p).coarse
  let coarse := s.on (Fld.TSU_TDC_BOTH_FAIL p) || (decide (a ≤ at1) && decide (at1 < b))
  (if valid then 1 else 0) + (if coarse then 2 else 0) + (if frag then 4 else 0)

/-- The timebase a port's TSU captures: its Leaf's, or the Spine's (R53, R122). -/
def State.portNow (s : State) (p : Nat) : Nat := if p < 256 then s.leafNow (p / 32) else s.now

/-- A receive stamp: capture less the fixed and the variable correction (R122). -/
def State.rxStamp (s : State) (p : Nat) (i : RxInfo) : Nat := s.portNow p - i.ago - s.fld (Fld.TSU_FIX_RX_FIX_RX p) - i.var

/-- The physical instant a frame's SFD crossed the receive ball. -/
def State.rxPhys (s : State) (p : Nat) (i : RxInfo) : Nat := s.phys - i.ago - s.fld (Fld.TSU_FIX_RX_FIX_RX p) - i.var

/-- What is wrong with a frame itself, the first reason that applies (R114). -/
def State.macFlaw (s : State) (p : Nat) (full : List Byte) (i : RxInfo) : Option Nat :=
  let body := full.take (full.length - 4)
  if i.codeErr then some 2
  else if crc32 body ≠ leAt full (full.length - 4) 4 ∨ (0 < i.uncorrectable ∧ s.fld (Fld.PORT_MODE_FEC p) ≠ 0) then some 3
  else if full.length < 64 then some 5
  else if s.fld (Fld.PORT_MAC_MAX_FRAME p) < full.length then some 6
  else none

/-- The reason the MAC discards a frame, the first that applies (R114). -/
def State.macReason (s : State) (p : Nat) (full : List Byte) (i : RxInfo) (from1 : Nat) : Option Nat :=
  if s.portState p ≠ 5 ∨ from1 < (s.port p).activeAt * tickUnits then some 1 else s.macFlaw p full i

/-- Codewords count while the port's FEC is not NONE (R113). -/
def State.fecCount (s : State) (p : Nat) (i : RxInfo) : State :=
  if s.fld (Fld.PORT_MODE_FEC p) = 0 then s
  else
    let s := s.bump (Fld.PORT_FEC_CW_CORR_CORRECTED p) i.corrected
    let s := s.bump (Fld.PORT_FEC_CW_UNCORR_UNCORRECTABLE p) i.uncorrectable
    if i.uncorrectable = 0 then s else s.raise (Fld.PORT_EVT_FEC_UNCORR p)

/-- Where a frame is looked up: a Leaf and a pipeline (R27, R132, R133). -/
def State.lookupAt (s : State) (p : Nat) : Option (Nat × Nat) :=
  if p < 256 then some (p / 32, p % 32 / 8) else (s.homeLeaf (p - 256)).map (fun n => (n, 0))

/-- The header queue of a pipeline, oldest first. -/
def State.hdr (s : State) (n m : Nat) : List Frame := kget (s.die n).hdr m []

/-- The header queue of a pipeline is written. -/
def State.setHdr (s : State) (n m : Nat) (l : List Frame) : State := s.modDie n (fun d => { d with hdr := kput d.hdr m l })

/-- Bytes a pipeline's staging store held at an instant (R162): what had come by then of the frames not yet released. Frames of
the Spine ports stay on the Spine.
(DESIGN CHOICE, log entry 162) -/
def State.stagedBytes (s : State) (n m t : Nat) : Nat :=
  (kget (s.die n).staged m []).foldl (fun a x =>
    if t ≤ x.start ∨ x.freed.any (fun e => decide (e ≤ t)) then a
    else a + (if x.stop ≤ t then x.len else x.len * (t - x.start) / (x.stop - x.start))) 0

/-- A frame of a Leaf's port has come in whole, its first byte at a physical instant: its time in the staging store is noted,
ended at once for a frame that the MAC discards or consumes (R162).
(DESIGN CHOICE, log entry 162) -/
def State.stage (s : State) (p at1 id len : Nat) (kept : Bool) : State :=
  match (if p < 256 then s.lookupAt p else none) with
  | none => s
  | some (n, m) =>
    let x : Staged := { id := id, start := at1, stop := s.phys, len := len, freed := if kept then none else some s.phys }
    let kept := (kget (s.die n).staged m []).filter (fun y => y.freed.all (fun e => decide (s.phys ≤ e + 100 * usU)))
    s.modDie n (fun d => { d with staged := kput d.staged m (x :: kept) })

/-- A frame is released from a staging store. -/
def State.unstage (s : State) (n m id : Nat) : State :=
  let free := fun (x : Staged) => if x.id = id ∧ x.freed = none then { x with freed := some s.phys } else x
  s.modDie n (fun d => { d with staged := kput d.staged m ((kget d.staged m []).map free) })

/-- An accepted frame, its first byte in at a physical instant, enters its pipeline's header queue of 512 behind those of its
cycle with lower ports, or is discarded as INGRESS_OVERFLOW for want of a place there or of room in the staging store (R133,
R162). With no Leaf in service to look it up it is discarded as INGRESS_OUT_OF_SERVICE. -/
def State.toHeader (s : State) (f : Frame) (at1 : Nat) : State :=
  let f := { f with id := s.frames, at_ := s.ticks }
  let s := { s with frames := s.frames + 1 }
  match s.lookupAt f.inPort with
  | none => s.ingressDrop f 8
  | some (n, m) =>
    if f.inPort < 256 ∧ 2 ^ 20 ≤ s.stagedBytes n m at1 then s.ingressDrop f 7
    else
      let (l, out) := pushOrdered 512 (fun g => g.at_ == s.ticks && decide (f.inPort < g.inPort)) f (s.hdr n m)
      let s := (s.setHdr n m l).stage f.inPort at1 f.id (frameLen f.bytes) true
      match out with
      | some g => (s.unstage n m g.id).ingressDrop g 7
      | none => s

/-- A whole frame (DA to FCS) has arrived with its stamp (R45, R70, R113 to R116). A frame whose stamp is not VALID meets the
state of its port at its lookup (R128).
(DESIGN CHOICE, log entry 163) -/
def State.macTake (s : State) (p : Nat) (full : List Byte) (i : RxInfo) (stamp flags at1 : Nat) : State :=
  let body := full.take (full.length - 4)
  let f : Frame := { bytes := body, inPort := p, stamp := stamp, flags := flags }
  if s.drainedAt p at1 then s.ingressDrop f 8
  else match s.macReason p full i at1 with
    | some r => (s.stage p at1 s.frames full.length false).macDiscard { f with fcs := full.drop (full.length - 4) } r
    | none =>
      if beAt body 12 2 = 0x8808 then
        ((s.stage p at1 s.frames full.length false).macControl p stamp flags).macControlFrame p body
      else
        let s := (s.countRx p 0 1 stamp flags).countRx p 1 full.length stamp flags
        if flags % 2 = 1 ∧ s.stampedDown p stamp flags then s.stage p at1 s.frames full.length false else s.toHeader f at1

/-- A frame arrives with its codewords counted (R113).
(DESIGN CHOICE, log entry 41) -/
def State.macReceive (s : State) (p : Nat) (full : List Byte) (i : RxInfo) (stamp flags at1 : Nat) : State :=
  (s.fecCount p i).macTake p full i stamp flags at1

/-! ## The merge sublayer (R119 to R121) -/

/-- A reassembly with one more fragment's bytes, code error and uncorrectable codewords. -/
def Reasm.grow (r : Reasm) (b : List Byte) (i : RxInfo) : Reasm :=
  { r with bytes := r.bytes ++ b, want := (r.want + 1) % 4, codeErr := r.codeErr || i.codeErr, bad := r.bad + i.uncorrectable }

/-- A fragment of a preemptable frame: a start, or a continuation with its fragment count (R113, R114, R120). A continuation
without an open reassembly has no effect but on the codeword counts.
(DEDUCED, log entry 43; DESIGN CHOICE, log entry 154) -/
def State.fragment (s : State) (p : Nat) (start : Bool) (count : Nat) (final : Bool) (b : List Byte) (i : RxInfo) : State :=
  let s := s.fecCount p i
  if start then
    let s := s.mergeErr p
    let (st, at1) := (s.rxStamp p i, s.rxPhys p i)
    let fl := s.stampFlags p at1 true
    if final then s.macTake p b i st fl at1
    else s.modPort p (fun x => { x with
      reasm := some { bytes := b, want := 0, stamp := st, flags := fl, at_ := at1, codeErr := i.codeErr, bad := i.uncorrectable } })
  else match (s.port p).reasm with
    | none => s
    | some r =>
      if count ≠ r.want then s.mergeErr p
      else
        let g := r.grow b i
        if final then (s.modPort p (fun x => { x with reasm := none })).macTake p g.bytes
            { i with codeErr := g.codeErr, uncorrectable := g.bad } g.stamp g.flags g.at_
        else s.modPort p (fun x => { x with reasm := some g })

/-- FRAGMENT_RECEIVE (R120): preempted frames are received whenever MM_CTRL.EN is 1 (R119). -/
def execFragmentReceive (dt p : Nat) (start : Bool) (count : Nat) (final : Bool) (b : List Byte) (i : RxInfo) (s : State) :
    Host.Outcome State Fault Refusal :=
  effect dt (fun s => onlyIf (s.namesPort p && s.portState p == 5 && s.on (Fld.PORT_MM_CTRL_EN p))
    (fun s => s.fragment p start count final b i) s) s

/-- A write of MM_CTRL (R121). -/
def mmCtrlWrite (p : Nat) (w : Word) (s : State) : State :=
  let t := bitsOf w 8 8
  if t = 0 ∨ 128 < t then s.raise (Fld.PORT_EVT_CFG_ERR p)
  else
    let s := s.set (Reg.PORT_MM_CTRL p) (w &&& 0xFF33#32)
    s.verifyStart p

/-- MM_CTRL_WRITE (R121). -/
def execMmCtrlWrite (dt : Nat) (src : Src) (p : Nat) (w : Word) (s : State) : Host.Outcome State Fault Refusal :=
  effect dt (fun s => onlyIf (s.namesPort p) (fun s => s.guarded src (Reg.PORT_MM_CTRL p) (mmCtrlWrite p w)) s) s

/-- A verify frame goes VERIFY_TIME after the last; after the third without response VERIFY is FAILED (R121). -/
def verifySend (p : Nat) (s : State) : State :=
  let x := s.port p
  let wait := s.fld (Fld.PORT_MM_CTRL_VERIFY_TIME p) * msT
  if x.verifyAt.any (fun t => decide (s.ticks < t + wait)) then s
  else if x.verifyTries < 3 then
    ((s.setPort p { x with verifyTries := x.verifyTries + 1, verifyAt := some s.ticks }).setFld
      (Fld.PORT_MM_STAT_VERIFY p) 2).emit (.verify p)
  else (s.setFld (Fld.PORT_MM_STAT_VERIFY p) 4).raise (Fld.PORT_EVT_MM p)

/-- VERIFY_SEND (R121). -/
def execVerifySend (dt p : Nat) (s : State) : Host.Outcome State Fault Refusal :=
  effect dt (fun s => onlyIf (s.namesPort p && s.portState p == 5 &&
    (s.fld (Fld.PORT_MM_STAT_VERIFY p) == 1 || s.fld (Fld.PORT_MM_STAT_VERIFY p) == 2)) (verifySend p) s) s

/-- VERIFY_RESPONSE (R121). -/
def execVerifyResponse (dt p : Nat) (s : State) : Host.Outcome State Fault Refusal :=
  effect dt (fun s => onlyIf (s.namesPort p && s.portState p == 5 && s.fld (Fld.PORT_MM_STAT_VERIFY p) == 2)
    (fun s => (s.setFld (Fld.PORT_MM_STAT_VERIFY p) 3).raise (Fld.PORT_MM_STAT_TX_ACTIVE p)) s) s

/-! ## Transmit stamps (R126) -/

/-- LEVEL follows the queue. -/
def State.stampShow (s : State) (p : Nat) : State := s.setFld (Fld.TSU_TXQ_STAT_LEVEL p) (s.port p).stamps.length

/-- Whether a port's transmit stamp queue holds 64 stamps. -/
def State.stampFull (s : State) (p : Nat) : Bool := decide (64 ≤ (s.port p).stamps.length)

/-- A marked transmit stamp enters the port's queue, or is lost.
(DESIGN CHOICE, log entry 42) -/
def State.pushStamp (s : State) (p : Nat) (x : TxStamp) : State :=
  if s.stampFull p then (s.raise (Fld.TSU_TXQ_STAT_OVERFLOW p)).bump (Fld.TSU_TXQ_STAT_LOST p) 1
  else (s.modPort p (fun r => { r with stamps := r.stamps ++ [x] })).stampShow p

/-- A read of the lowest word of TXQ_TS removes the oldest stamp and latches it with its tag. -/
def txStampRead (src : Src) (p : Nat) (s : State) : State :=
  match (s.port p).stamps with
  | [] => ((s.setWide (Reg.TSU_TXQ_TS0 p) 3 0).set (Reg.TSU_TXQ_TAG p) 0#32).emit (.readData src [0#32])
  | x :: rest =>
    let s := (s.modPort p (fun r => { r with stamps := rest })).stampShow p
    let s := s.setWide (Reg.TSU_TXQ_TS0 p) 3 (rawOfTime x.ts)
    let s := (s.setFld (Fld.TSU_TXQ_TAG_FLAGS p) x.flags).setFld (Fld.TSU_TXQ_TAG_TAG p) x.tag
    s.emit (.readData src [s.get (Reg.TSU_TXQ_TS0 p)])

/-- A read of a PORT or TSU register of a number that names no port returns 0 (R25). -/
def State.portRead (s : State) (src : Src) (p : Nat) (f : State → State) : State → State :=
  if s.namesPort p then f else fun t => t.emit (.readData src [0#32])

/-- TX_STAMP_READ (R126). -/
def execTxStampRead (dt : Nat) (src : Src) (p : Nat) (s : State) : Host.Outcome State Fault Refusal :=
  effect dt (fun s => onlyIf (s.laneExists p) (fun s => s.guarded src (Reg.TSU_TXQ_TS0 p) (s.portRead src p (txStampRead src p))) s) s

/-- A write of 1 to FLUSH empties the queue and clears LOST. -/
def txStampFlush (p : Nat) (s : State) : State :=
  ((s.modPort p (fun r => { r with stamps := [] })).stampShow p).setFld (Fld.TSU_TXQ_STAT_LOST p) 0

/-- TX_STAMP_FLUSH (R126). -/
def execTxStampFlush (dt : Nat) (src : Src) (p : Nat) (s : State) : Host.Outcome State Fault Refusal :=
  effect dt (fun s => onlyIf (s.namesPort p) (fun s => s.guarded src (Reg.TSU_TXQ_STAT p) (txStampFlush p)) s) s

/-! ## Twin TDCs (R130, R131) -/

/-- The OK bit of TDC A (0) or B (1). -/
def tdcOk (p t : Nat) : FRef := if t = 0 then Fld.TSU_TDC_A_OK p else Fld.TSU_TDC_B_OK p

/-- TDC_SERVING_CHANGE (R130): in a tick with no capture open. -/
def execTdcServingChange (dt p : Nat) (s : State) : Host.Outcome State Fault Refusal :=
  effect dt (fun s => onlyIf (s.namesPort p && (s.port p).twinReady)
    (fun s => (s.setFld (Fld.TSU_TDC_SERVING p) (1 - s.fld (Fld.TSU_TDC_SERVING p))).modPort p
      (fun x => { x with twinReady := false })) s) s

/-- Whether a TDC is healthy: it has not failed its last self-check (R131).
(DESIGN CHOICE, log entry 155) -/
def State.tdcHealthy (s : State) (p t : Nat) : Bool := !(s.port p).tdcBad.contains t

/-- BOTH_FAIL follows the twins (R131). -/
def State.tdcShow (s : State) (p : Nat) : State :=
  s.setBit (Fld.TSU_TDC_BOTH_FAIL p) (!s.tdcHealthy p 0 && !s.tdcHealthy p 1)

/-- A TDC fails a self-check: EVT.TDC is raised (R131). -/
def State.tdcFails (s : State) (p t : Nat) : State :=
  let s := (s.setFld (tdcOk p t) 0).raise (Fld.PORT_EVT_TDC p)
  (s.modPort p (fun x => { x with tdcBad := t :: x.tdcBad.filter (fun u => u != t) })).tdcShow p

/-- A TDC has passed its calibration: it is calibrated and healthy (R130). -/
def State.tdcPasses (s : State) (p t : Nat) : State :=
  ((s.raise (tdcOk p t)).modPort p (fun x => { x with twinReady := true, tdcBad := x.tdcBad.filter (fun u => u != t) })).tdcShow p

/-- The serving TDC fails its self-check: a calibration of its twin aborts, and the twin serves `took` ticks on, at most
1 µs; with neither healthy every stamp is COARSE (R131). SERVING names the twin at once.
(DESIGN CHOICE, log entry 155) -/
def tdcFail (p took : Nat) (s : State) : State :=
  let t := s.fld (Fld.TSU_TDC_SERVING p)
  let s := (s.tdcFails p t).calDisturb (fun item inst => item == 1 && inst == p) calDisturbed
  let s := s.modPort p (fun x => { x with twinReady := false, coarse := (s.phys, s.phys + min took usT * tickUnits) })
  if s.tdcHealthy p (1 - t) then s.setFld (Fld.TSU_TDC_SERVING p) (1 - t) else s

/-- TDC_SELF_CHECK_FAIL (R131). -/
def execTdcSelfCheckFail (dt p took : Nat) (s : State) : Host.Outcome State Fault Refusal :=
  effect dt (fun s => onlyIf (s.namesPort p) (tdcFail p took) s) s

end Sys2Proof.Machine
end

