-- ==== Sys2Proof/Machine/Xq.lean ====
section
/-!
DEFINITION. Xq.lean: the crossing queues (R43, R44, R172 to R174) and how a frame with its destinations decided leaves
the die it entered (R140, R165, R171).
-/
namespace Sys2Proof.Machine

/-- Cells of a crossing queue (R172). -/
def xqCells : Nat := 4096

/-- Crossing queue j of die n; link 8 has queues of its own (R171, R172). -/
def State.xq (s : State) (n j : Nat) : XQueue := kget (s.die n).xq j {}

/-- Cells queued in a crossing queue. -/
def XQueue.level (q : XQueue) : Nat := (q.sched ++ q.bulk).foldl (fun a x => a + (cellsOf x.f.bytes - x.sent)) 0

/-- The queue that holds frames for one destination link (R172): queue n is the Spine's on Leaf n. -/
def queueFor (n d : Nat) : Nat := if d = 8 then n else d

/-- The link that a queue's credits stand for. -/
def linkOf (n j : Nat) : Nat := if j = n then 8 else j

/-- Credits die n holds for destination link d, of 128 (R174). -/
def State.credits (s : State) (n d : Nat) : Nat := 128 - kget (s.die n).used d 0

/-- XQ[j].STAT follows the queue and its credits. -/
def State.xqShow (s : State) (n j : Nat) : State :=
  if 8 ≤ n then s
  else
    let s := s.setFld (Fld.BUF_XQ_STAT_LEVEL n j) (s.xq n j).level
    s.setFld (Fld.BUF_XQ_STAT_CREDIT n j) (if j = 9 then 0 else s.credits n (linkOf n j))

/-- A crossing queue is written. -/
def State.setXq (s : State) (n j : Nat) (q : XQueue) : State := (s.modDie n (fun d => { d with xq := kput d.xq j q })).xqShow n j

/-- The destination ports of a frame on a die. -/
def Frame.portsOn (f : Frame) (d : Nat) : List Nat := f.dest.filter (fun p => dieOf p == d)

/-- A frame's copies for the ports of some links are discarded. -/
def State.dropLinks (s : State) (f : Frame) (links : List Nat) (reason : Nat) : State :=
  (links.flatMap (fun d => f.portsOn d)).foldl (fun s p => s.egressDrop f p f.cls reason) s

/-- Whether a frame crosses in the SCHED FIFO: it is bound to a residence profile, or has a launch time (R172, R201). -/
def Frame.isSched (f : Frame) : Bool := f.sched.isSome || f.launch.isSome

/-- A frame enters a crossing queue if all its cells fit, else it is lost as CROSS_FULL (R173). -/
def State.enterXq (s : State) (n j : Nat) (f : Frame) (links : List Nat) : State :=
  let q := s.xq n j
  if xqCells < q.level + cellsOf f.bytes then
    let s := s.dropLinks f links 0x23
    if n < 8 then s.raise (Fld.BUF_EVT_CROSS_FULL n) else s
  else
    let x : XFrame := { f := f, links := links, entered := s.ticks, headAt := s.ticks }
    s.setXq n j (if f.isSched then { q with sched := q.sched ++ [x] } else { q with bulk := q.bulk ++ [x] })

/-- A frame with its destination set decided leaves die n: it is stored for the ports of its own die, lost for Leaves out
of service, and queued to cross to the others (R43, R44, R140, R165, R171). -/
def State.forward (s : State) (n : Nat) (f : Frame) : State :=
  let own := f.portsOn n
  let s := own.foldl (fun s p => s.deliver f p) s
  let far := (List.range 9).filter (fun d => d != n && !(f.portsOn d).isEmpty)
  let up := far.filter (fun d => d == 8 || s.inService d)
  let s := s.dropLinks f (far.filter (fun d => !(d == 8 || s.inService d))) 0x27
  match up with
  | [] => s
  | [d] => s.enterXq n (queueFor n d) f up
  | _ => s.enterXq n 9 f up

end Sys2Proof.Machine
end

