-- ==== Sys2Proof/Machine/Table.lean ====
section
/-!
DEFINITION. Table.lean: the forwarding tables, their organisation and keys, and the table command interface
(R145 to R147, R154, R155, R161).
-/
namespace Sys2Proof.Machine

/-! ## Entries (R147) -/

/-- Word i of an entry: DATA[i] for 0 to 7, XDATA for 8. -/
def TEntry.w (e : TEntry) (i : Nat) : Nat := if i = 8 then e.xdata else (e.data[i]?).getD 0

/-- A field of an entry. -/
def TEntry.f (e : TEntry) (i lo len : Nat) : Nat := e.w i / 2 ^ lo % 2 ^ len

/-- An entry with a field replaced. -/
def TEntry.setF (e : TEntry) (i lo len v : Nat) : TEntry :=
  let new := e.w i - e.f i lo len * 2 ^ lo + v % 2 ^ len * 2 ^ lo
  if i = 8 then { e with xdata := new }
  else { e with data := (List.range 8).map (fun j => if j = i then new else e.w j) }

/-- Table kinds: 0 MAC, 1 VLAN, 2 group, 3 IP multicast, 4 stream, 5 meter (R145). -/
def tableKind (t : Nat) : Nat :=
  match t with
  | 0 => 0
  | 1 | 2 => 1
  | 3 | 4 => 2
  | 5 => 3
  | 6 | 7 => 4
  | 8 => 5
  | _ => 6

/-- Indices of a table (R145). -/
def tableSize (t : Nat) : Nat :=
  match tableKind t with
  | 0 => 264192
  | 1 => 4096
  | 2 => 16384
  | 3 => 65536
  | 4 => 16384
  | 5 => 16384
  | _ => 0

/-- Whether a table is hashed. -/
def isHashed (t : Nat) : Bool := t == 0 || t == 5 || t == 6 || t == 7

/-- Where a kind's VALID bit stands: its word and bit. -/
def validAt (k : Nat) : Nat × Nat :=
  match k with
  | 0 => (2, 16)
  | 1 | 2 => (8, 16)
  | 3 => (8, 31)
  | 4 => (4, 31)
  | _ => (4, 0)

/-- Where a kind's HIT bit stands. -/
def hitAt (k : Nat) : Nat × Nat :=
  match k with
  | 0 => (2, 18)
  | 3 => (8, 30)
  | _ => (5, 28)

def TEntry.valid (e : TEntry) (k : Nat) : Bool := e.f (validAt k).1 (validAt k).2 1 == 1
def TEntry.setValid (e : TEntry) (k : Nat) (b : Bool) : TEntry := e.setF (validAt k).1 (validAt k).2 1 (if b then 1 else 0)
def TEntry.hit (e : TEntry) (k : Nat) : Bool := e.f (hitAt k).1 (hitAt k).2 1 == 1
def TEntry.setHit (e : TEntry) (k : Nat) (b : Bool) : TEntry := e.setF (hitAt k).1 (hitAt k).2 1 (if b then 1 else 0)

/-- Key words of a hashed table's entry, every non-key bit 0 (R146). -/
def TEntry.key (e : TEntry) (k : Nat) : List Nat :=
  match k with
  | 0 => [e.w 0, e.f 1 0 16 + 2 ^ 16 * e.f 1 16 12]
  | 3 => (List.range 8).map e.w ++ [e.f 8 0 14]
  | _ => (List.range 4).map e.w ++ [e.f 4 0 16 + 2 ^ 16 * e.f 4 16 12 + 2 ^ 28 * e.f 4 28 3]

/-- Slots of a bucket, and the bits of the hash that choose it (R145, R146). -/
def bucketSlots (k : Nat) : Nat := if k = 0 then 8 else 4
def bucketBits (k : Nat) : Nat := if k = 0 then 15 else if k = 3 then 14 else 12

/-- The first index of the CAM and its size: the MAC table alone has one. -/
def camBase : Nat := 262144
def camSize : Nat := 2048

/-- The bucket of a key (R146). -/
def bucketOf (seed k : Nat) (key : List Nat) : Nat := crc32From seed (key.flatMap (fun w => leBytes w 4)) % 2 ^ bucketBits k

/-! ## Tables in the state -/

/-- Table t of Leaf n. -/
def State.tbl (s : State) (n t : Nat) : KMap TEntry := kget (s.die n).tables t []

/-- Entry i of table t of Leaf n; one never written is all 0. -/
def State.entry (s : State) (n t i : Nat) : TEntry := kget (s.tbl n t) i {}

/-- The state with an entry written. -/
def State.setEntry (s : State) (n t i : Nat) (e : TEntry) : State :=
  s.modDie n (fun d => { d with tables := kput d.tables t (kput (kget d.tables t []) i e) })

/-- What R156 keeps of this tick on a Leaf. -/
def State.cycleOf (s : State) (n : Nat) : TabCycle :=
  match (s.die n).cyc with
  | some c => if c.tick = s.ticks then c else { tick := s.ticks, was := (s.die n).tables }
  | none => { tick := s.ticks, was := (s.die n).tables }

/-- An entry is written by a command or the learn engine; lookups of this cycle keep the entry before (R156). -/
def State.writeEntry (s : State) (n t i : Nat) (e : TEntry) : State :=
  let c := s.cycleOf n
  (s.modDie n (fun d => { d with cyc := some { c with wrote := (t, i) :: c.wrote } })).setEntry n t i e

/-- An entry as a command that writes it finds it: without a HIT set in its cycle (R156). -/
def State.entryFor (s : State) (n t i : Nat) : TEntry :=
  if (s.cycleOf n).hit.contains (t, i) then (s.entry n t i).setHit (tableKind t) false else s.entry n t i

/-- The indices a key may stand at: its bucket's slots, and the CAM's used places. -/
def State.places (s : State) (n t : Nat) (key : List Nat) : List Nat :=
  let k := tableKind t
  let b := bucketOf (s.fld (Fld.FWD_HASH_SEED_SEED n)) k key
  (List.range (bucketSlots k)).map (fun j => b * bucketSlots k + j)

/-- The index of the VALID entry with a key. -/
def State.findKey (s : State) (n t : Nat) (key : List Nat) : Option Nat :=
  let k := tableKind t
  let match1 := fun i => (s.entry n t i).valid k && (s.entry n t i).key k == key
  match (s.places n t key).find? match1 with
  | some i => some i
  | none =>
    if k = 0 then ((s.tbl n t).find? (fun x => decide (camBase ≤ x.1) && x.2.valid k && x.2.key k == key)).map (fun x => x.1)
    else none

/-- An IP multicast entry for IPv6 takes its whole bucket at slot 0 (R145). -/
def TEntry.wide (e : TEntry) (k : Nat) : Bool := k == 3 && e.f 8 12 1 == 1

/-- The place a new entry would take: the first free slot of its bucket, else a CAM place where the table has one. -/
def State.freePlace (s : State) (n t : Nat) (e : TEntry) : Option Nat :=
  let k := tableKind t
  let slots := s.places n t (e.key k)
  let used := fun i => (s.entry n t i).valid k
  let blocked := slots.headD 0
  if e.wide k then (if slots.any used then none else some blocked)
  else if used blocked && (s.entry n t blocked).wide k then none
  else match slots.find? (fun i => !used i) with
    | some i => some i
    | none =>
      if k = 0 then
        let cam := ((s.tbl n t).filter (fun x => decide (camBase ≤ x.1) && x.2.valid k)).map (fun x => x.1)
        (List.range (cam.length + 1)).map (fun j => camBase + j) |>.find? (fun i => decide (i < camBase + camSize) && !cam.contains i)
      else none

/-! ## Commands (R155) -/

/-- RESULT codes. -/
def tOk : Nat := 0
def tNotFound : Nat := 1
def tExists : Nat := 2
def tFull : Nat := 3
def tInvalid : Nat := 4
def tBusy : Nat := 5
def tKeptHit : Nat := 6
def tKeptStatic : Nat := 7
def tWorld : Nat := 8

/-- Whether an opcode is listed for a table and mode: a direct table ignores the mode. -/
def opListed (op t : Nat) (idx : Bool) : Bool :=
  let k := tableKind t
  match op with
  | 1 | 2 | 4 => k != 6
  | 3 => isHashed t && !idx
  | 5 => k != 6 && (idx || !isHashed t)
  | 6 | 7 => k == 0 || k == 3 || k == 4
  | _ => false

/-- Whether an opcode may change an entry (R161). -/
def opWrites (op : Nat) : Bool := op == 2 || op == 3 || op == 4 || op == 6 || op == 7

/-- Whether a staged entry's fields are valid (R147, R155): a UDP_PORT only in a VALID entry. -/
def entryOk (k : Nat) (e : TEntry) : Bool :=
  match k with
  | 0 => e.f 2 14 1 == 1 || decide (e.f 2 0 14 ≤ 259)
  | 3 => e.f 8 13 1 == 0 || (e.w 4 == 0 && e.w 5 == 0 && e.w 6 == 0 && e.w 7 == 0)
  | 4 => decide (e.f 4 28 3 ≤ 3) && e.f 5 26 2 != 3 && (!e.valid 4 || decide (2 ≤ e.f 4 28 3) || e.f 4 0 16 == 0)
  | _ => true

/-- The bits of DATA[0..7] and XDATA that R147 lists for a kind; the others are reserved (R10), and a meter's levels are read
only. -/
def entryBits (k : Nat) : List Nat :=
  let all := 0xFFFFFFFF
  match k with
  | 0 => [all, 0x0FFFFFFF, 0x0F3F7FFF, 0, 0, 0, 0, 0, 0]
  | 1 => [all, all, all, all, all, all, all, all, 0x1FFFFF]
  | 2 => [all, all, all, all, all, all, all, all, 0x1000F]
  | 3 => [all, all, all, all, all, all, all, all, 0xFFFF3FFF]
  | 4 => [all, all, all, all, all, 0x1DFF7FFF, 0x3FFF, 0, 0]
  | _ => [all, 0xFFFFFF, all, 0xFFFFFF, 0x3F, 0, 0, 0, 0]

/-- An entry without its reserved bits. -/
def TEntry.listed (e : TEntry) (k : Nat) : TEntry :=
  let w := fun i => e.w i &&& ((entryBits k)[i]?).getD 0
  { data := (List.range 8).map w, xdata := w 8 }

/-- The bank pair of a table: 0 VLAN, 1 group, 2 stream, with the bank's bit (R145). -/
def bankOf (t : Nat) : Option (Nat × Nat) :=
  match t with
  | 1 => some (0, 0)
  | 2 => some (0, 1)
  | 3 => some (1, 0)
  | 4 => some (1, 1)
  | 6 => some (2, 0)
  | 7 => some (2, 1)
  | _ => none

/-- The banks of a pair that swaps left within the last 100 µs, newest first (R70). -/
def State.oldBanks (s : State) (n pair : Nat) : List (Nat × Nat × Nat) := kget (s.die n).oldBank pair []

/-- The state with those banks written; FWD.BANK.RETAIN follows them. -/
def State.setOldBanks (s : State) (n pair : Nat) (l : List (Nat × Nat × Nat)) : State :=
  (s.modDie n (fun d => { d with oldBank := if l = [] then kdel d.oldBank pair else kput d.oldBank pair l })).setFldBit
    (Fld.FWD_BANK_RETAIN n) pair (!l.isEmpty)

/-- Whether a table refuses writes: its Leaf is STARTING, or its bank has just left service (R47, R70, R161). -/
def State.tableRefuses (s : State) (n t : Nat) : Bool :=
  s.leaf n == 2 || (match bankOf t with
    | some (pair, bit) =>
      s.fldBit (Fld.FWD_BANK_ACTIVE n) pair != (bit == 1) && (s.oldBanks n pair).any (fun x => x.2.1 == bit)
    | none => false)

/-- What a WRITE stores: reserved bits read 0 (R10), and MOVES is cleared in a MAC entry. -/
def asStored (k : Nat) (e : TEntry) : TEntry := if k = 0 then (e.listed k).setF 2 24 4 0 else e.listed k

/-- A meter's buckets brought up to now: tokens beyond CBS go to the excess bucket when CF is 1 (R143).
(DESIGN CHOICE, log entry 51) -/
def MeterSt.fill (m : MeterSt) (e : TEntry) (now : Nat) : MeterSt :=
  let dt := now - m.at_
  let cap := e.f 1 0 24 * 6400000
  let ecap := e.f 3 0 24 * 6400000
  let c := m.c + dt * e.w 0
  let spill := if e.f 4 1 1 = 1 then c - min c cap else 0
  { c := min c cap, e := min (m.e + dt * e.w 2 + spill) ecap, at_ := now }

/-- A meter's buckets are full after a WRITE (R147). -/
def State.fillMeter (s : State) (n i : Nat) (e : TEntry) : State :=
  let m : MeterSt := { c := e.f 1 0 24 * 6400000, e := e.f 3 0 24 * 6400000, at_ := s.ticks }
  s.modDie n (fun d => { d with meters := kput d.meters i m })

/-- The state with an entry stored by a command: a meter's MARK_ALL_RED as staged.
(DESIGN CHOICE, log entry 158) -/
def State.store (s : State) (n t i : Nat) (e : TEntry) : State :=
  let s := s.writeEntry n t i (asStored (tableKind t) e)
  if t = 8 then s.fillMeter n i e else s

/-- Whether an entry may stand at an index of a hashed table: in its bucket, an IPv6 group at slot 0 and alone (else INVALID).
(DESIGN CHOICE, log entry 157) -/
def State.fitsAt (s : State) (n t i : Nat) (e : TEntry) : Bool :=
  let k := tableKind t
  if !isHashed t then true
  else if k = 0 ∧ camBase ≤ i then true
  else
    let slots := s.places n t (e.key k)
    let others := slots.filter (fun j => j != i && (s.entry n t j).valid k)
    slots.contains i && (if e.wide k then i == slots.headD 0 && others.isEmpty
      else others.all (fun j => !(s.entry n t j).wide k))

/-- What a command answers: RESULT, FOUND_IDX and the entry for the staging words, if it stages one. -/
structure TResult where
  code : Nat
  idx : Nat := 0
  staged : Option TEntry := none
  deriving DecidableEq, Repr

/-- SEARCH: the first VALID entry among at most 4,096 slots from an index. -/
def State.search (s : State) (n t i : Nat) : TResult :=
  let stop := min (i + 4096) (tableSize t)
  match (s.tbl n t).find? (fun x => decide (i ≤ x.1) && decide (x.1 < stop) && x.2.valid (tableKind t)) with
  | some x => { code := tOk, idx := x.1, staged := some x.2 }
  | none => { code := tNotFound, idx := stop }

/-- A command on an entry that exists at an index. -/
def State.actOn (s : State) (n t op i : Nat) (e : TEntry) : TResult × State :=
  let k := tableKind t
  let cur := if opWrites op then s.entryFor n t i else s.entry n t i
  match op with
  | 1 => ({ code := tOk, idx := i, staged := some cur }, s)
  | 2 => ({ code := tOk, idx := i }, s.store n t i e)
  | 4 => ({ code := tOk, idx := i }, s.writeEntry n t i (cur.setValid k false))
  | 6 => ({ code := tOk, idx := i, staged := some cur }, s.writeEntry n t i (cur.setHit k false))
  | _ =>
    if !cur.valid k then ({ code := tNotFound, idx := i }, s)
    else if k = 0 ∧ cur.f 2 17 1 = 1 then ({ code := tKeptStatic, idx := i }, s)
    else if cur.hit k then ({ code := tKeptHit, idx := i }, s.writeEntry n t i (cur.setHit k false))
    else ({ code := tOk, idx := i }, s.writeEntry n t i (cur.setValid k false))

/-- A command by key. -/
def State.byKey (s : State) (n t op : Nat) (e : TEntry) : TResult × State :=
  let k := tableKind t
  match s.findKey n t (e.key k) with
  | some i => if op = 3 then ({ code := tExists, idx := i }, s) else s.actOn n t op i e
  | none =>
    if op = 3 then
      match s.freePlace n t e with
      | some i => ({ code := tOk, idx := i }, s.store n t i (e.setValid k true))
      | none => ({ code := tFull }, s.raise (Fld.FWD_EVT_FULL n))
    else ({ code := tNotFound }, s)

/-- A command by index. -/
def State.byIndex (s : State) (n t op i : Nat) (e : TEntry) : TResult × State :=
  let k := tableKind t
  if op = 2 ∧ isHashed t then
    let other := s.findKey n t (e.key k)
    if !s.fitsAt n t i e then ({ code := tInvalid }, s)
    else if other.any (fun j => j != i) then ({ code := tExists, idx := other.getD 0 }, s)
    else s.actOn n t op i e
  else s.actOn n t op i e

/-- A table command of world w on Leaf n (R154, R155, R157, R161).
(DESIGN CHOICE, log entry 49) -/
def State.tableOp (s : State) (n w op t : Nat) (idx : Bool) (i : Nat) (e : TEntry) : TResult × State :=
  let direct := idx || !isHashed t
  let staging := op == 2 || op == 3
  if s.fwdSecure n t ∧ w = 0 then ({ code := tWorld }, s)
  else if !opListed op t idx then ({ code := tInvalid }, s)
  else if opWrites op && s.tableRefuses n t then ({ code := tBusy }, s)
  else if (direct && decide (tableSize t ≤ i)) || (staging && !entryOk (tableKind t) (if op = 3 then e.setValid (tableKind t) true else e))
  then ({ code := tInvalid }, s)
  else if op = 5 then (s.search n t i, s)
  else if direct then s.byIndex n t op i e
  else s.byKey n t op e

/-! ## The command interface (R154) -/

/-- The staging words of interface w of Leaf n. -/
def State.staged (s : State) (n w : Nat) : TEntry :=
  { data := (List.range 8).map (fun i => (s.get (Reg.FWD_CMD_DATA n w i)).toNat), xdata := s.fld (Fld.FWD_CMD_XDATA_XDATA n w) }

/-- A meter's levels as an entry shows them, in bytes. -/
def State.showEntry (s : State) (n t i : Nat) (e : TEntry) : TEntry :=
  if t = 8 then
    let m := (kget (s.die n).meters i {}).fill e s.ticks
    (e.setF 5 0 32 (m.c / 6400000)).setF 6 0 32 (m.e / 6400000)
  else e

/-- The staging words take an entry. -/
def State.stageEntry (s : State) (n w : Nat) (e : TEntry) : State :=
  (s.forAll (List.range 8) (fun i s => s.set (Reg.FWD_CMD_DATA n w i) (BitVec.ofNat 32 (e.w i)))).set
    (Reg.FWD_CMD_XDATA n w) (BitVec.ofNat 32 e.xdata)

/-- Ticks within which a command completes (R154). -/
def cmdLimit (op : Nat) : Nat := if op = 5 then 12 * usT else usT

/-- The BUSY timer of an interface. -/
def fwdBusy (n w : Nat) : Nat := 2 * n + w

/-- A command of interface w acts on the staging words, and shows its result (R154, R155). -/
def State.tableRun (s : State) (n w op t : Nat) (idx : Bool) : State :=
  let s := s.set (Reg.FWD_CMD_CTRL n w) (BitVec.ofNat 32 (op * 2 ^ 24 + t * 2 ^ 16 + (if idx then 1 else 0)))
  let (r, s) := s.tableOp n w op t idx (s.fld (Fld.FWD_CMD_INDEX_INDEX n w)) (s.staged n w)
  let s := match r.staged with
    | some e => s.stageEntry n w (s.showEntry n t r.idx e)
    | none => s
  (s.setFld (Fld.FWD_CMD_STAT_RESULT n w) r.code).setFld (Fld.FWD_CMD_STAT_FOUND_IDX n w) r.idx

/-- A write of CTRL with GO = 1 (R154): discarded with OVERRUN while BUSY.
(DESIGN CHOICE, log entry 15; DESIGN CHOICE, log entry 49) -/
def tableCmd (n w op t : Nat) (idx : Bool) (took : Nat) (s : State) : State :=
  if s.waiting .fwdBusy (fwdBusy n w) then s.raise (Fld.FWD_CMD_STAT_OVERRUN n w)
  else (s.startTimer .fwdBusy (fwdBusy n w) (min took (cmdLimit op))).tableRun n w op t idx

/-- A table command through a Leaf's interface, with the opcode of its row. -/
def tableRow (dt : Nat) (src : Src) (n w op t : Nat) (idx : Bool) (took : Nat) (s : State) : Host.Outcome State Fault Refusal :=
  effect dt (onlyIf (decide (n < 8) && decide (w < 2) && decide (t < 16))
    (fun s => s.guarded src (Reg.FWD_CMD_CTRL n w) (tableCmd n w op t idx took))) s

/-- TABLE_READ (R155). -/
def execTableRead (dt : Nat) (src : Src) (n w t : Nat) (idx : Bool) (took : Nat) (s : State) :
    Host.Outcome State Fault Refusal := tableRow dt src n w 1 t idx took s

/-- TABLE_WRITE (R155). -/
def execTableWrite (dt : Nat) (src : Src) (n w t : Nat) (idx : Bool) (took : Nat) (s : State) :
    Host.Outcome State Fault Refusal := tableRow dt src n w 2 t idx took s

/-- TABLE_INSERT (R155). -/
def execTableInsert (dt : Nat) (src : Src) (n w t : Nat) (idx : Bool) (took : Nat) (s : State) :
    Host.Outcome State Fault Refusal := tableRow dt src n w 3 t idx took s

/-- TABLE_DELETE (R155). -/
def execTableDelete (dt : Nat) (src : Src) (n w t : Nat) (idx : Bool) (took : Nat) (s : State) :
    Host.Outcome State Fault Refusal := tableRow dt src n w 4 t idx took s

/-- TABLE_SEARCH (R155). -/
def execTableSearch (dt : Nat) (src : Src) (n w t : Nat) (idx : Bool) (took : Nat) (s : State) :
    Host.Outcome State Fault Refusal := tableRow dt src n w 5 t idx took s

/-- TABLE_READ_CLEAR_HIT (R155). -/
def execTableReadClearHit (dt : Nat) (src : Src) (n w t : Nat) (idx : Bool) (took : Nat) (s : State) :
    Host.Outcome State Fault Refusal := tableRow dt src n w 6 t idx took s

/-- TABLE_TEST_AND_DELETE (R155). -/
def execTableTestAndDelete (dt : Nat) (src : Src) (n w t : Nat) (idx : Bool) (took : Nat) (s : State) :
    Host.Outcome State Fault Refusal := tableRow dt src n w 7 t idx took s

/-! ## Banks (R70, R160) -/

/-- The table code of the active bank of a pair. -/
def bankTable (pair bit : Nat) : Nat := (if pair = 0 then 1 else if pair = 1 then 3 else 6) + bit

/-- The active bank's bit of a pair. -/
def State.bankBit (s : State) (n pair : Nat) : Nat := if s.fldBit (Fld.FWD_BANK_ACTIVE n) pair then 1 else 0

/-- The table a frame's lookup uses for a pair: of the banks that swaps left, the one that was active at the frame's stamp
(R70, R128). -/
def State.bankFor (s : State) (n pair stamp flags : Nat) : Nat :=
  let before := (s.oldBanks n pair).filter (fun x => flags % 2 == 1 && decide (stamp < x.1))
  bankTable pair ((before.getLast?.map (fun x => x.2.1)).getD (s.bankBit n pair))

/-- A bank of a Leaf is toggled, or selected (1 A, 2 B), at a trigger: two toggles in one tick leave it as it was (R160). -/
def State.bankSwap (s : State) (n pair arg trigger : Nat) : State :=
  let bit := s.bankBit n pair
  let new := if arg = 0 then 1 - bit else arg - 1
  if new = bit then s
  else
    let s := s.setFldBit (Fld.FWD_BANK_ACTIVE n) pair (new == 1)
    match s.oldBanks n pair with
    | (t, old, tick) :: l => s.setOldBanks n pair (if tick = s.ticks ∧ old = new then l else (trigger, bit, s.ticks) :: (t, old, tick) :: l)
    | [] => s.setOldBanks n pair [(trigger, bit, s.ticks)]

/-- A bit of FWD.BANK is secure when either table of its pair is (R157). -/
def State.bankSecure (s : State) (n pair : Nat) : Bool := s.fwdSecure n (bankTable pair 0) || s.fwdSecure n (bankTable pair 1)

/-- A write of FWD.BANK: each SWAP bit swaps its bank at the start of this tick (R157, R160). -/
def bankSwapWrite (src : Src) (n : Nat) (w : Word) (s : State) : State :=
  s.forAll (List.range 3) (fun pair s =>
    if bitsOf w (8 + pair) 1 = 1 ∧ (secureSrc src ∨ !s.bankSecure n pair) then s.bankSwap n pair 0 s.now else s)

/-- BANK_SWAP_WRITE (R160). -/
def execBankSwapWrite (dt : Nat) (src : Src) (n : Nat) (w : Word) (s : State) : Host.Outcome State Fault Refusal :=
  effect dt (onlyIf (decide (n < 8)) (fun s => s.guarded src (Reg.FWD_BANK n) (bankSwapWrite src n w))) s

/-- Whether a swap's 100 µs are not yet over. -/
def State.retained (s : State) (x : Nat × Nat × Nat) : Bool := decide (s.ticks < x.2.2 + 100 * usT)

/-- One hundred microseconds after a swap the old bank accepts writes again (R70). -/
def bankRetentionEnd (n pair : Nat) (s : State) : State :=
  s.setOldBanks n pair ((s.oldBanks n pair).filter s.retained)

/-- BANK_RETENTION_END (R70). -/
def execBankRetentionEnd (dt n pair : Nat) (s : State) : Host.Outcome State Fault Refusal :=
  effect dt (fun s => onlyIf (decide (n < 8) && (s.oldBanks n pair).any (fun x => !s.retained x))
    (bankRetentionEnd n pair) s) s

end Sys2Proof.Machine
end

