-- ==== Sys2Proof/Machine/Fwd.lean ====
section
/-!
DEFINITION. Fwd.lean: what the ingress pipelines decide (R134 to R144), learning (R148 to R152), and the hardware
Delay_Resp responder (R216, R218 to R221).
-/
namespace Sys2Proof.Machine

/-! ## Port settings -/

/-- The FWD.PORT index of a port: 32 to 35 for the Spine ports. -/
def fwdIdx (p : Nat) : Nat := if p < 256 then p % 32 else 32 + (p - 256)

/-- FWD.OWN_MAC of a Leaf. -/
def State.ownMac (s : State) (n : Nat) : Nat :=
  s.fld (Fld.FWD_OWN_MAC0_MAC_LO n) + 2 ^ 32 * s.fld (Fld.FWD_OWN_MAC1_MAC_HI n)

/-- The class PCP_MAP gives a priority at a port, on Leaf n. -/
def State.pcpClass (s : State) (n p pcp : Nat) : Nat := s.fld (Fld.FWD_PORT_PCP_MAP_MAP n (fwdIdx p)) / 2 ^ (3 * pcp) % 8

/-! ## Classification (R134, R135) -/

/-- A frame with its VID, class and tag as received (R135). A class given with a descriptor stands. -/
def State.classify (s : State) (n : Nat) (f : Frame) : Frame × Parsed :=
  let k := fwdIdx f.inPort
  let q := parseFrame (s.on (Fld.FWD_PORT_CFG_STAG_EN n k)) f.bytes
  let pvid := s.fld (Fld.FWD_PORT_CFG_PVID n k)
  let pcp := (q.tag.map (fun t => t.1)).getD (s.fld (Fld.FWD_PORT_CFG_DEF_PRI n k))
  let vid := match q.tag with
    | some (_, _, v) => if v = 0 then pvid else v
    | none => pvid
  ({ f with
     vid := vid, pcp := pcp, dei := (q.tag.map (fun t => t.2.1)).getD false
     tpid := if q.tag.isSome then beAt f.bytes 12 2 else 0
     cls := f.tc.getD (s.pcpClass n f.inPort pcp) }, q)

/-- Whether ACCEPT refuses a frame, or its VID is 4,095 (R135).
(DESIGN CHOICE, log entry 45) -/
def State.acceptRefuses (s : State) (n : Nat) (f : Frame) (q : Parsed) : Bool :=
  let vtag := q.tag.any (fun t => t.2.2 != 0)
  f.vid == 4095 || (match s.fld (Fld.FWD_PORT_CFG_ACCEPT n (fwdIdx f.inPort)) with
    | 1 => !vtag
    | 2 => vtag
    | _ => false)

/-! ## Traps (R137) -/

/-- PTP over UDP to an event or general port and a PTP address (row 3). -/
def isPtpUdp (b : List Byte) (q : Parsed) : Bool :=
  let d := ipDst b q
  (q.udp == some 319 || q.udp == some 320) &&
    ((q.ip == 4 && (d == 0xE0000181 || d == 0xE000006B)) ||
     (q.ip == 6 && (d == 0xFF02000000000000000000000000006B || (d / 2 ^ 116 == 0xFF0 && d % 2 ^ 112 == 0x181))))

/-- IGMP, or an MLD message directly after the fixed header (row 4). -/
def isSnooped (b : List Byte) (q : Parsed) : Bool :=
  let ty := byteAt b q.ipEnd
  (q.ip == 4 && q.proto == 2) ||
    (q.ip == 6 && q.proto == 58 && decide (q.ipEnd < 128) && (ty == 130 || ty == 131 || ty == 132 || ty == 143))

/-- The row of R137 that traps a frame, given its VLAN's entry. -/
def State.trapRow (s : State) (n : Nat) (f : Frame) (q : Parsed) (vlan : TEntry) : Option Nat :=
  let da := daOf f.bytes
  if da / 16 = 0x0180C200000 then some 1
  else if q.etype = 0x88F7 then some 2
  else if s.on (Fld.FWD_PORT_CFG_PTP_TRAP n (fwdIdx f.inPort)) ∧ isPtpUdp f.bytes q then some 3
  else if vlan.valid 1 ∧ vlan.f 8 19 1 = 1 ∧ isSnooped f.bytes q then some 4
  else if s.ownMac n ≠ 0 ∧ da = s.ownMac n then some 5
  else none

/-! ## Destinations (R138, R139) -/

/-- The MAC key of an address under an FID. -/
def macKey (fid mac : Nat) : List Nat := [mac % 2 ^ 32, mac / 2 ^ 32 + 2 ^ 16 * fid]

/-- The ports of a member set. -/
def membersOf (e : TEntry) : List Nat :=
  (List.range 260).filter (fun p =>
    if p < 256 then e.w (p / 32) / 2 ^ (p % 32) % 2 == 1 else e.f 8 (p - 256) 1 == 1)

/-- HIT sets on an entry a lookup matched. -/
def State.setHit (s : State) (n t i : Nat) : State :=
  let e := s.entry n t i
  let s := if e.hit (tableKind t) then s
    else let c := s.cycleOf n
      s.modDie n (fun d => { d with cyc := some { c with hit := (t, i) :: c.hit } })
  s.setEntry n t i (e.setHit (tableKind t) true)

/-- The key of an IP multicast entry. -/
def ipmcKey (fid : Nat) (v6 star : Bool) (group source : Nat) : List Nat :=
  let words : Nat → List Nat := fun v => (List.range 4).map (fun i => v / 2 ^ (32 * i) % 2 ^ 32)
  words group ++ words (if star then 0 else source) ++ [fid + (if v6 then 2 ^ 12 else 0) + (if star then 2 ^ 13 else 0)]

/-- Whether a frame meets the conditions of an IP multicast lookup (R138). -/
def ipmcApplies (b : List Byte) (q : Parsed) (vlan : TEntry) : Bool :=
  let da := daOf b
  let d := ipDst b q
  vlan.f 8 18 1 == 1 &&
    ((q.ip == 4 && da / 2 ^ 23 == 0x01005E000000 / 2 ^ 23 && d / 2 ^ 28 == 0xE && d / 2 ^ 8 != 0xE00000) ||
     (q.ip == 6 && da / 2 ^ 32 == 0x3333 && d / 2 ^ 120 == 0xFF && d / 2 ^ 112 != 0xFF02))

/-- The IP multicast entry of a frame: (FID, S, G), then (FID, *, G). -/
def State.ipmcFind (s : State) (n fid : Nat) (b : List Byte) (q : Parsed) : Option Nat :=
  let v6 := q.ip == 6
  match s.findKey n 5 (ipmcKey fid v6 false (ipDst b q) (ipSrc b q)) with
  | some i => some i
  | none => s.findKey n 5 (ipmcKey fid v6 true (ipDst b q) 0)

/-- What a lookup decides: a reason to discard, or the ports, how port 258 was reached (R401) and whether the frame is
flooded as unknown unicast. -/
inductive Choice where
  | discard (reason : Nat)
  | ports (l : List Nat) (why : Nat) (unk : Bool)
  deriving DecidableEq, Repr

/-- The members of a group index in the active bank; none where the entry is not VALID (R138). -/
def State.groupPorts (s : State) (n : Nat) (f : Frame) (g : Nat) : List Nat :=
  let e := s.entry n (s.bankFor n 1 f.stamp f.flags) g
  if e.valid 2 then membersOf e else []

/-- The destination by the DA (steps 3 and 4 of R138).
(DESIGN CHOICE, log entry 46) -/
def State.chooseByDa (s : State) (n : Nat) (f : Frame) (vlan : TEntry) : Choice × State :=
  let da := daOf f.bytes
  match s.findKey n 0 (macKey f.fid da) with
  | some i =>
    let e := s.entry n 0 i
    let s := s.setHit n 0 i
    if e.f 2 20 1 = 1 then (.discard 0x0D, s)
    else if e.f 2 14 1 = 1 then (.ports (s.groupPorts n f (e.f 2 0 14)) 1 false, s)
    else (.ports [e.f 2 0 14] 0 false, s)
  | none =>
    let all := membersOf vlan
    if da = macBroadcast then (.ports all 3 false, s)
    else if isMulticast da then (if vlan.f 8 20 1 = 1 then (.discard 0x0E, s) else (.ports all 3 false, s))
    else
      let flood := fun p => decide (p < 256 ∧ p / 32 ≠ n) || s.on (Fld.FWD_PORT_CFG_UNK_UC_FLOOD n (fwdIdx p))
      (.ports (all.filter flood) 2 true, s)

/-- The destination set of a frame that is not trapped (R138, R139). Ports of absent Leaves are no destinations (R6).
(DESIGN CHOICE, log entry 46) -/
def State.choose (s : State) (n : Nat) (f : Frame) (q : Parsed) (vlan : TEntry) : Choice × State :=
  let sa := s.findKey n 0 (macKey f.fid (saOf f.bytes))
  let saEntry := sa.map (fun i => s.entry n 0 i)
  let s := match sa with
    | some i => s.setHit n 0 i
    | none => s
  if saEntry.any (fun e => e.f 2 21 1 == 1) then (.discard 0x0C, s)
  else
    let (c, s) := match (if ipmcApplies f.bytes q vlan then s.ipmcFind n f.fid f.bytes q else none) with
      | some i =>
        let s := s.setHit n 5 i
        (Choice.ports (s.groupPorts n f ((s.entry n 5 i).f 8 16 14)) 1 false, s)
      | none => s.chooseByDa n f vlan
    match c with
    | .discard r => (.discard r, s)
    | .ports l why unk =>
      let members := membersOf vlan
      let set := l.filter (fun p => p != f.inPort && members.contains p && (decide (p < s.nPorts) || decide (256 ≤ p)))
      if set = [] then (.discard 0x0F, s) else (.ports set why unk, s)

/-! ## Streams and meters (R142, R143) -/

/-- The key of a stream entry. -/
def streamKey (mode addr udp vid : Nat) : List Nat :=
  (List.range 4).map (fun i => addr / 2 ^ (32 * i) % 2 ^ 32) ++ [udp + 2 ^ 16 * vid + 2 ^ 28 * mode]

/-- The stream entry a frame matches: the IP mode of a frame carrying UDP, then mode 0, then mode 1. -/
def State.streamFind (s : State) (n t : Nat) (f : Frame) (q : Parsed) : Option Nat :=
  let byIp := match q.udp with
    | some u => s.findKey n t (streamKey (if q.ip = 4 then 2 else 3) (ipDst f.bytes q) u f.vid)
    | none => none
  match byIp with
  | some i => some i
  | none =>
    match s.findKey n t (streamKey 0 (daOf f.bytes) 0 f.vid) with
    | some i => some i
    | none => s.findKey n t (streamKey 1 (saOf f.bytes) 0 f.vid)

/-- The colour a meter gives a frame: 0 green, 1 yellow, 2 red, and the state with the buckets charged (R143).
(DESIGN CHOICE, log entry 51) -/
def State.meter (s : State) (n i : Nat) (f : Frame) (q : Parsed) : Nat × State :=
  let e := s.entry n 8 i
  if !e.valid 5 then (0, s)
  else
    let m := (kget (s.die n).meters i {}).fill e s.ticks
    let cost := frameLen f.bytes * 6400000
    let put := fun (m : MeterSt) => s.modDie n (fun d => { d with meters := kput d.meters i m })
    let yellowIn := e.f 4 2 1 == 1 && q.tag.any (fun t => t.2.1)
    if e.f 4 4 1 = 1 ∧ e.f 4 5 1 = 1 then (2, put m)
    else if !yellowIn && decide (cost ≤ m.c) then (0, put { m with c := m.c - cost })
    else if cost ≤ m.e then (1, put { m with e := m.e - cost })
    else
      let s := put m
      (2, if e.f 4 4 1 = 1 then s.setEntry n 8 i (e.setF 4 5 1 1) else s)

/-- The stream's checks in order: size, gate, meter, class, residence (R142). A reason to discard, or the frame.
(DESIGN CHOICE, log entry 45) -/
def State.streamChecks (s : State) (n t i : Nat) (f : Frame) (q : Parsed) : Option Nat × Frame × State :=
  let e := s.entry n t i
  let gate := e.f 5 26 2
  if e.f 6 0 14 ≠ 0 ∧ e.f 6 0 14 < frameLen f.bytes then
    (some 0x10, f, if gate = 2 then s.setEntry n t i (e.setF 5 26 2 1) else s)
  else if gate = 1 then (some 0x11, f, s)
  else
    let (colour, s) := if e.f 5 14 1 = 1 then s.meter n (e.f 5 0 14) f q else (0, s)
    if colour = 2 then (some 0x13, f, s)
    else if colour = 1 ∧ (s.entry n 8 (e.f 5 0 14)).f 4 3 1 = 1 then (some 0x12, f, s)
    else
      (none, { f with
        dei := f.dei || colour == 1
        cls := if e.f 5 24 1 = 1 then e.f 5 21 3 else f.cls
        sched := if e.f 5 20 1 = 1 then some (e.f 5 16 4) else none }, s)

/-- Stream lookup of a frame with its destination chosen: a match binds it, counts and sets HIT (R142, R446). -/
def State.streams (s : State) (n : Nat) (f : Frame) (q : Parsed) : Option Nat × Frame × State :=
  let t := s.bankFor n 2 f.stamp f.flags
  match s.streamFind n t f q with
  | none => (none, f, s)
  | some i =>
    let s := s.setHit n t i
    let s := s.count n (offStream i) 1 (s.instOf f.stamp f.flags)
    s.streamChecks n t i { f with stream := some i } q

/-! ## Learning (R148 to R152) -/

/-- LEVEL follows the learn queue. -/
def State.learnShow (s : State) (n : Nat) : State := s.setFld (Fld.FWD_LEARN_STAT_LEVEL n) (s.die n).learns.length

/-- A learn enters a Leaf's queue (R150, R152): learns of one cycle come in requester order, since lookups and arrivals do
(`turnOf`). LEARN_CNT words: 0 LEARNED, 1 STATION_MOVE, 2 OVERFLOW, 3 CONFLICT,
4 LOCKED, 5 STATIC, 6 FULL.
(DESIGN CHOICE, log entry 50) -/
def State.queueLearn (s : State) (n fid sa port : Nat) : State :=
  let l := (s.die n).learns
  let same := fun (x : Learn) => x.tick == s.ticks && x.fid == fid && x.sa == sa
  if l.any (fun x => same x && x.port != port) then s.bump (Fld.FWD_LEARN_CNT_COUNT n 3) 1
  else if 4096 ≤ l.length then (s.bump (Fld.FWD_LEARN_CNT_COUNT n 2) 1).raise (Fld.FWD_EVT_OVERFLOW n)
  else (s.modDie n (fun d => { d with learns := d.learns ++ [⟨fid, sa, port, s.ticks⟩] })).learnShow n

/-- A pipeline queues a learn when the SA misses or hits another DEST, but not against a STATIC or LOCKED entry (R149). -/
def State.pipeLearn (s : State) (n : Nat) (f : Frame) : State :=
  let sa := saOf f.bytes
  match s.findKey n 0 (macKey f.fid sa) with
  | none => s.queueLearn n f.fid sa f.inPort
  | some i =>
    let e := s.entry n 0 i
    if e.f 2 14 1 = 0 ∧ e.f 2 0 14 = f.inPort then s
    else if e.f 2 17 1 = 1 then s.bump (Fld.FWD_LEARN_CNT_COUNT n 5) 1
    else if e.f 2 19 1 = 1 then s.bump (Fld.FWD_LEARN_CNT_COUNT n 4) 1
    else s.queueLearn n f.fid sa f.inPort

/-- A new dynamic MAC entry. -/
def learnedEntry (x : Learn) : TEntry :=
  { data := [x.sa % 2 ^ 32, x.sa / 2 ^ 32 + 2 ^ 16 * x.fid, x.port + 2 ^ 16 + 2 ^ 18] }

/-- The learn engine handles one learn against the table as it stands (R150). -/
def State.learn (s : State) (n : Nat) (x : Learn) : State :=
  if !s.on (Fld.FWD_LEARN_CFG_LEARN_EN n) then s
  else match s.findKey n 0 (macKey x.fid x.sa) with
    | none =>
      match s.freePlace n 0 (learnedEntry x) with
      | some i => (s.writeEntry n 0 i (learnedEntry x)).bump (Fld.FWD_LEARN_CNT_COUNT n 0) 1
      | none => (s.bump (Fld.FWD_LEARN_CNT_COUNT n 6) 1).raise (Fld.FWD_EVT_FULL n)
    | some i =>
      let e := s.entry n 0 i
      if e.f 2 17 1 = 1 then s.bump (Fld.FWD_LEARN_CNT_COUNT n 5) 1
      else if e.f 2 19 1 = 1 then s.bump (Fld.FWD_LEARN_CNT_COUNT n 4) 1
      else if e.f 2 14 1 = 0 ∧ e.f 2 0 14 = x.port then s.writeEntry n 0 i (e.setHit 0 true)
      else if e.f 2 24 4 < s.fld (Fld.FWD_LEARN_CFG_MOVE_LIMIT n) then
        let e := (((e.setF 2 0 14 x.port).setF 2 14 1 0).setF 2 24 4 (e.f 2 24 4 + 1)).setHit 0 true
        (s.writeEntry n 0 i e).bump (Fld.FWD_LEARN_CNT_COUNT n 1) 1
      else
        let s := (s.writeEntry n 0 i (e.setF 2 19 1 1)).bump (Fld.FWD_LEARN_CNT_COUNT n 4) 1
        (s.raise (Fld.FWD_EVT_MOVE_STORM n)).setFld (Fld.FWD_STORM_IDX_IDX n) i

/-- The oldest learn of a Leaf is handled.
(DESIGN CHOICE, log entry 50) -/
def learnEngine (n : Nat) (s : State) : State :=
  match (s.die n).learns with
  | [] => s
  | x :: rest => (((s.modDie n (fun d => { d with learns := rest })).learnShow n)).learn n x

/-- Whether the learn engine may take a Leaf's oldest learn: every learn of its cycle is in (R152). -/
def State.learnReady (s : State) (n : Nat) : Bool := ((s.die n).learns.head?).any (fun x => decide (x.tick < s.ticks))

/-- LEARN_ENGINE (R150). -/
def execLearnEngine (dt n : Nat) (s : State) : Host.Outcome State Fault Refusal :=
  effect dt (fun s => onlyIf (decide (n < 8) && s.leafOn n && s.learnReady n) (learnEngine n) s) s

/-- The MOVES counts of every MAC entry restart (R151). -/
def movesReset (s : State) : State :=
  let clear := fun (x : Nat × TEntry) => (x.1, x.2.setF 2 24 4 0)
  let s := s.forAll (List.range 8) (fun n s =>
    if s.tbl n 0 = [] then s else s.modDie n (fun d => { d with tables := kput d.tables 0 ((kget d.tables 0 []).map clear) }))
  { s with movesSec := s.now / secU }

/-- MOVES_RESET (R151): at a second boundary. -/
def execMovesReset (dt : Nat) (s : State) : Host.Outcome State Fault Refusal :=
  effect dt (fun s => onlyIf (s.now / secU != s.movesSec) movesReset s) s

/-! ## The Delay_Resp responder (R216, R218 to R221) -/

/-- 8 bit times at a port's MAC rate, to the nearest 2^-16 ns (R216). -/
def eightBits (mode : Nat) : Nat := (8 * 65536 * 2 + modeGbps mode) / (2 * modeGbps mode)

/-- Where a PTP message begins in a frame: after EtherType 0x88F7, or in UDP. -/
def ptpOffset (q : Parsed) : Option Nat :=
  if q.etype = 0x88F7 then some q.body else if q.udp.isSome then some (q.ipEnd + 8) else none

/-- The device's SERIAL; STATE in a domain (R317): 0 FOLLOWER, 1 HOLD, 2 ACTIVE, 3 STANDBY, 4 DEPOSED, 5 DRILL. -/
def State.serial (s : State) : Nat := s.fld Fld.CLM_ID_SERIAL
def State.clmState (s : State) (d : Nat) : Nat := s.fld (Fld.CLM_DOM_STAT_STATE d)

/-- The effective claim a state gives (R317). -/
def State.claimIn (s : State) (d st : Nat) : Nat :=
  if st = 0 then s.serial else if st = 2 ∨ st = 3 then s.fld (Fld.CLM_DOM_CFG_RANK d) * 2 ^ 12 + s.serial else 0

/-- The effective claim of the claim domain a port's exchange names (R218, R317). -/
def State.portClaim (s : State) (p : Nat) : Nat :=
  let d := s.fld (Fld.TCX_CTRL_CLAIM_DOM p)
  s.claimIn d (s.clmState d)

/-- The primary multicast MAC address of PTP over Ethernet. -/
def ptpMac : Nat := 0x011B19000000

/-- A port's IPv6 address. -/
def State.portIpv6 (s : State) (p : Nat) : Nat := s.getWide (Reg.RESP_PORT_IPV60 p) 4

/-- Whether a frame's transport and destination are ones a port answers, and whether the request was unicast (R218). -/
def State.respTransport (s : State) (p n : Nat) (b : List Byte) (q : Parsed) : Option Bool :=
  let d := ipDst b q
  if q.etype = 0x88F7 then
    if !s.on (Fld.RESP_PORT_CFG_L2 p) then none
    else if daOf b = ptpMac then some false
    else if s.ownMac n ≠ 0 ∧ daOf b = s.ownMac n then some true else none
  else if q.udp ≠ some 319 then none
  else if q.ip = 4 then
    if !s.on (Fld.RESP_PORT_CFG_UDP4 p) then none
    else if d = 0xE0000181 then some false
    else if d = s.fld (Fld.RESP_PORT_IPV4_IPV4 p) then some true else none
  else
    if !s.on (Fld.RESP_PORT_CFG_UDP6 p) then none
    else if d / 2 ^ 116 = 0xFF0 ∧ d % 2 ^ 112 = 0x181 then some false
    else if d = s.portIpv6 p then some true else none

/-- Whether a frame is a Delay_Req (messageType 1) at all. -/
def isDelayReq (b : List Byte) (q : Parsed) : Bool :=
  match ptpOffset q with
  | some o => byteAt b o % 16 == 1 && (q.etype == 0x88F7 || q.udp == some 319)
  | none => false

/-- Whether a Delay_Req meets every condition of R218 but the stamp's; then, whether it was unicast. -/
def State.respAccepts (s : State) (p n : Nat) (b : List Byte) (q : Parsed) : Option Bool :=
  match ptpOffset q with
  | none => none
  | some o =>
    let dom := byteAt b (o + 4)
    let domOk := (List.range 4).any (fun i =>
      s.fldBit (Fld.RESP_PORT_CFG_DOM_EN p) i && s.fld (Fld.RESP_PORT_DOMAIN_DOMAIN p) / 2 ^ (8 * i) % 256 == dom)
    let ok := s.portState p == 5 && domOk && isDelayReq b q && byteAt b (o + 1) % 16 == 2 && beAt b (o + 2) 2 == 44 &&
      byteAt b o / 16 == s.fld (Fld.RESP_PORT_CFG_SDO p) &&
      (!s.on (Fld.RESP_PORT_CFG_CLAIM_GATE p) || s.portClaim p != 0)
    if ok then s.respTransport p n b q else none

/-- One's complement sum of 16-bit words. -/
def onesSum (b : List Byte) : Nat :=
  let t := (List.range ((b.length + 1) / 2)).foldl (fun a i => a + beAt b (2 * i) 2) 0
  let t := t % 65536 + t / 65536
  t % 65536 + t / 65536

/-- An IPv4 header of 20 bytes for a UDP datagram.
(DESIGN CHOICE, log entry 64) -/
def ipv4Header (len dscp ttl src dst : Nat) : List Byte :=
  let h := fun c => beBytes 0x45 1 ++ beBytes (dscp * 4) 1 ++ beBytes (20 + len) 2 ++ beBytes 0 4 ++ beBytes ttl 1 ++
    beBytes 17 1 ++ beBytes c 2 ++ beBytes src 4 ++ beBytes dst 4
  h (65535 - onesSum (h 0))

/-- A UDP datagram over IPv4 (checksum 0) or IPv6 (checksum computed), with its IP header.
(DESIGN CHOICE, log entry 64) -/
def udpOver (v6 : Bool) (dscp ttl src dst sport dport : Nat) (payload : List Byte) : List Byte :=
  let len := 8 + payload.length
  let udp := fun c => beBytes sport 2 ++ beBytes dport 2 ++ beBytes len 2 ++ beBytes c 2 ++ payload
  if v6 then
    let sum := onesSum (beBytes src 16 ++ beBytes dst 16 ++ beBytes len 4 ++ beBytes 17 4 ++ udp 0)
    beBytes (6 * 2 ^ 28 + dscp * 2 ^ 22) 4 ++ beBytes len 2 ++ beBytes 17 1 ++ beBytes ttl 1 ++ beBytes src 16 ++
      beBytes dst 16 ++ udp (if sum = 65535 then 65535 else 65535 - sum)
  else ipv4Header len dscp ttl src dst ++ udp 0

/-- A frame around a PTP message: Ethernet, or UDP with the MAC of a multicast address or a peer (R213). -/
def ethFrame (da sa etype : Nat) (payload : List Byte) : List Byte := beBytes da 6 ++ beBytes sa 6 ++ beBytes etype 2 ++ payload

/-- The Delay_Resp to a request (R219): the frame untagged. -/
def State.delayResp (s : State) (p n : Nat) (f : Frame) (q : Parsed) (o : Nat) (wasUc : Bool) : List Byte :=
  let b := f.bytes
  let t4 := f.stamp + eightBits (s.portMode p)
  let uc := wasUc || s.on (Fld.RESP_PORT_CFG_UNICAST p)
  let die := if p < 256 then p / 32 else 8
  let cf := unsigned 64 (signed 64 (beAt b (o + 8) 8) - (t4 % nsU : Nat))
  let msg := beBytes (byteAt b o / 16 * 16 + 9) 1 ++ beBytes 0x12 1 ++ beBytes 54 2 ++ [(b[o + 4]?).getD 0#8, (b[o + 5]?).getD 0#8] ++
    beBytes (if uc then 0x0400 else 0) 2 ++ beBytes cf 8 ++ beBytes 0 4 ++
    beBytes (s.getWide (Reg.CLOCK_ID0 die) 2) 8 ++ beBytes (s.fld (Fld.RESP_PORT_CFG_PORT_NUMBER p)) 2 ++
    beBytes (beAt b (o + 30) 2) 2 ++ beBytes 3 1 ++ beBytes (s.fld (Fld.RESP_CFG_LOG_INTERVAL die)) 1 ++
    beBytes (t4 / secU) 6 ++ beBytes (t4 % secU / nsU) 4 ++ beBytes (beAt b (o + 20) 10) 10
  let da := if uc then saOf b else if q.ip = 4 then 0x01005E000181 else 0x333300000181
  let ipd := if uc then ipSrc b q else ipDst b q
  let own := s.ownMac n
  if q.etype = 0x88F7 then ethFrame (if uc then saOf b else ptpMac) own 0x88F7 msg
  else if q.ip = 4 then
    ethFrame da own 0x0800 (udpOver false (s.fld (Fld.RESP_CFG_DSCP die)) (s.fld (Fld.RESP_CFG_TTL die))
      (s.fld (Fld.RESP_PORT_IPV4_IPV4 p)) ipd 320 320 msg)
  else
    ethFrame da own 0x86DD (udpOver true (s.fld (Fld.RESP_CFG_DSCP die)) (s.fld (Fld.RESP_CFG_TTL die))
      (s.portIpv6 p) ipd 320 320 msg)

/-- LEVEL follows the responder's queue. -/
def State.respShow (s : State) (d : Nat) : State := s.setFld (Fld.RESP_STAT_LEVEL d) (s.die d).resp.length

/-- A Delay_Req meets the responder (R218, R220): answered or dropped gives the state, else it is handled as any frame. -/
def State.responder (s : State) (n : Nat) (f : Frame) (q : Parsed) : Option State :=
  let p := f.inPort
  if 258 ≤ p then none
  else match s.respAccepts p n f.bytes q, ptpOffset q with
    | some wasUc, some o =>
      let d := dieOf p
      if f.flags % 2 = 0 then some (s.bump (Fld.RESP_CNT_NOT_VALID_COUNT d) 1)
      else
        let r : Frame := { bytes := s.delayResp p n f q o wasUc, inPort := p, stamp := f.stamp, flags := f.flags,
                           vid := f.vid, cls := s.fld (Fld.RESP_CFG_TC d), pcp := f.pcp, dest := [p], at_ := s.ticks }
        let (l, out) := pushOrdered 256 (fun x => x.at_ == s.ticks && decide (p < x.inPort)) r (s.die d).resp
        let s := (s.modDie d (fun x => { x with resp := l })).respShow d
        some (if out.isSome then s.bump (Fld.RESP_CNT_OVERFLOW_COUNT d) 1 else s)
    | _, _ => none

/-- One queued response is sent to its port's queue (R219, R220). -/
def delayRespSend (d : Nat) (s : State) : State :=
  match (s.die d).resp with
  | [] => s
  | r :: rest =>
    let s := (s.modDie d (fun x => { x with resp := rest })).respShow d
    let s := (s.startTimer .respGap d 400).bump (Fld.RESP_CNT_ANSWERED_COUNT d) 1
    let r := { r with id := s.frames }
    { s with frames := s.frames + 1 }.deliver r (r.dest.headD 0)

/-- DELAY_RESP (R219, R220): one response per 500 ns. -/
def execDelayResp (dt d : Nat) (s : State) : Host.Outcome State Fault Refusal :=
  effect dt (fun s => onlyIf (decide (d ≤ 8) && !s.waiting .respGap d) (delayRespSend d) s) s

/-! ## Lookup -/

/-- The learn flag of a frame that is neither trapped nor discarded under R135 or R136 (R148). -/
def State.learnFlag (s : State) (n : Nat) (f : Frame) (vlan : TEntry) : Bool :=
  let sa := saOf f.bytes
  s.on (Fld.FWD_PORT_CFG_LEARN_EN n (fwdIdx f.inPort)) && vlan.f 8 17 1 == 1 && !isMulticast sa && sa != 0

/-- A frame is discarded at the end of its lookup: it is considered by the sampler first (R454, R455). -/
def State.lookupDrop (s : State) (n : Nat) (f : Frame) (reason : Nat) : State :=
  let (s, f) := s.smpConsider n f false
  s.ingressDrop f reason

/-- A frame leaves its lookup for its destinations; with a stamp that is not VALID it takes the gate lists active now (R128,
R196). -/
def State.lookupSend (s : State) (n : Nat) (f : Frame) : State :=
  let (s, f) := s.smpConsider n f false
  let f := if f.flags % 2 = 1 then f
    else { f with lists := f.dest.foldl (fun m p => if p < 258 then kput m p (s.gclActive p) else m) [] }
  s.forward (dieOf f.inPort) f

/-- One frame is looked up on Leaf n (R134 to R143, R148, R218): one whose stamp is not VALID reaches nothing while its port is
disabled (R74, R128). -/
def State.lookup (s : State) (n : Nat) (f0 : Frame) : State :=
  if f0.flags % 2 = 0 ∧ f0.inPort < 258 ∧ s.portDisabled f0.inPort then s else
  let (f, q) := s.classify n f0
  let vlan := s.entry n (s.bankFor n 0 f.stamp f.flags) f.vid
  let f := { f with fid := vlan.f 8 4 12 }
  match (if isDelayReq f.bytes q then s.responder n f q else none) with
  | some t => t
  | none =>
    match s.trapRow n f q vlan with
    | some row => s.lookupSend n { f with dest := [259], row := row }
    | none =>
      if s.acceptRefuses n f q then s.lookupDrop n f 9
      else if !vlan.valid 1 then s.lookupDrop n f 0x0A
      else if s.on (Fld.FWD_PORT_CFG_INGRESS_FILTER n (fwdIdx f.inPort)) && !(membersOf vlan).contains f.inPort then
        s.lookupDrop n f 0x0B
      else
        let f := { f with learn := s.learnFlag n f vlan }
        let s := if f.learn then s.pipeLearn n f else s
        let (c, s) := s.choose n f q vlan
        match c with
        | .discard r => s.lookupDrop n f r
        | .ports set why unk =>
          let (r, f, s) := s.streams n { f with dest := set, why := why, unkUc := unk } q
          match r with
          | some reason => s.lookupDrop n f reason
          | none => s.lookupSend n f

/-- A Leaf's lookups of a tick read the tables as they stood when it began; what they change stands but in the entries that the
tick's commands and learns have written (R156). -/
def State.beforeWrites (s : State) (n : Nat) (f : State → State) : State :=
  match (s.die n).cyc with
  | none => f s
  | some c =>
    if c.tick ≠ s.ticks then f s
    else
      let now := (s.die n).tables
      let t := f (s.modDie n (fun d => { d with tables := c.was }))
      let seen := (t.die n).tables
      let back := fun (m : KMap (KMap TEntry)) (w : Nat × Nat) =>
        kput m w.1 (kput (kget m w.1 []) w.2 (kget (kget now w.1 []) w.2 {}))
      t.modDie n (fun d => { d with
        tables := c.wrote.foldl back seen, cyc := d.cyc.map (fun (c : TabCycle) => { c with was := seen }) })

/-- Whether requester r may act on a die now: frames that reach admission in one cycle are admitted in requester order, so none
with a higher index has been (R152, R168).
(DESIGN CHOICE, log entry 6) -/
def State.turnOf (s : State) (n r : Nat) : Bool :=
  match (s.die n).admitAt with
  | some (tick, last) => tick != s.ticks || decide (last ≤ r)
  | none => true

/-- The head frame of a pipeline's header queue is looked up. -/
def frameLookup (n m : Nat) (s : State) : State :=
  match s.hdr n m with
  | [] => s
  | f :: rest =>
    let s := ((s.setHdr n m rest).unstage n m f.id).modDie n (fun d => { d with admitAt := some (s.ticks, m) })
    s.beforeWrites n (fun s => s.lookup n f)

/-- Whether the pipelines of a Leaf work: it is in service, or draining (R45). -/
def State.pipesRun (s : State) (n : Nat) : Bool := decide (n < 8) && (s.leaf n == 4 || s.leaf n == 5)

/-- FRAME_LOOKUP (R138). -/
def execFrameLookup (dt n m : Nat) (s : State) : Host.Outcome State Fault Refusal :=
  effect dt (fun s => onlyIf (s.pipesRun n && decide (m < 4) && s.turnOf n m) (frameLookup n m) s) s

/-- Whether the head frame of a pipeline is a Delay_Req. -/
def State.headIsDelayReq (s : State) (n m : Nat) : Bool :=
  match s.hdr n m with
  | [] => false
  | f :: _ => isDelayReq f.bytes (s.classify n f).2

/-- DELAY_REQ (R218): the pipeline takes a Delay_Req; the responder queues or drops it, or it goes on as R137 and R215
lay down. -/
def execDelayReq (dt n m : Nat) (s : State) : Host.Outcome State Fault Refusal :=
  effect dt (fun s => onlyIf (s.pipesRun n && decide (m < 4) && s.turnOf n m && s.headIsDelayReq n m) (frameLookup n m) s) s

end Sys2Proof.Machine
end

