-- ==== Sys2Proof/Machine/Cross.lean ====
section
/-!
DEFINITION. Cross.lean: the crossbar, replication, arrival on a destination Leaf and the limits of the buffers
(R166 to R181).
-/
namespace Sys2Proof.Machine

/-! ## Limits (R169, R170) -/

/-- A write of QLIM (`c` names the class) or PLIM of port p: a value beyond the buffer is discarded. -/
def bufLimitWrite (p : Nat) (c : Option Nat) (w : Word) (s : State) : State :=
  let d := dieOf p
  let v := bitsOf w 0 (if d < 8 then 17 else 15)
  if poolCells d < v then (if d < 8 then s.raise (Fld.BUF_EVT_CFG_ERR d) else s)
  else
    let f := match c with | some c => qlimF p c | none => plimF p
    let s := { s with limWas := kput s.limWas f.addr (s.ticks, s.limit f) }
    (s.setFld f v).poolShow d

/-- BUF_LIMIT_WRITE (R169). -/
def execBufLimitWrite (dt : Nat) (src : Src) (p : Nat) (c : Option Nat) (w : Word) (s : State) :
    Host.Outcome State Fault Refusal :=
  effect dt (onlyIf (decide (p < 260) && c.all (fun c => decide (c < 8))) (fun s =>
    s.guarded src (match c with | some c => (qlimF p c).addr | none => (plimF p).addr) (bufLimitWrite p c w))) s

/-! ## The calendar (R175, R176) -/

/-- The mask of slot i of link l, a written one that waits for its round first. -/
def State.calMask (s : State) (l i : Nat) : Nat := kget s.calNext (64 * l + i) (s.fld (Fld.XBAR_CAL_DEST_MASK l i))

/-- A write of XBAR.CAL: a mask that another link's overlaps is discarded (R176).
(DESIGN CHOICE, log entry 54) -/
def xbarCalWrite (l i : Nat) (w : Word) (s : State) : State :=
  let m := bitsOf w 0 9
  if (List.range 9).any (fun k => k != l && (s.calMask k i &&& m) != 0) then s.raise Fld.XBAR_EVT_CAL_ERR
  else { s with calNext := kput s.calNext (64 * l + i) m }

/-- XBAR_CAL_WRITE (R176). -/
def execXbarCalWrite (dt : Nat) (src : Src) (l i : Nat) (w : Word) (s : State) : Host.Outcome State Fault Refusal :=
  effect dt (onlyIf (decide (l < 9) && decide (i < 64)) (fun s => s.guarded src (Reg.XBAR_CAL l i) (xbarCalWrite l i w))) s

/-- Masks written take force as a round starts (R176).
(DESIGN CHOICE, log entry 54) -/
def State.newRound (s : State) : State :=
  s.calNext.foldl (fun s e => s.setFld (Fld.XBAR_CAL_DEST_MASK (e.1 / 64) (e.1 % 64)) e.2) { s with calNext := [] }

/-- Whether module q of a link is in service; link 8 has no stitch. -/
def State.moduleUp (s : State) (l q : Nat) : Bool := l == 8 || s.fldBit (Fld.XBAR_LINK_STAT_MODULES_UP l) q

/-- Whether a link sends: its Leaf is in service or draining (R45). -/
def State.linkSends (s : State) (l : Nat) : Bool := l == 8 || s.leaf l == 4 || s.leaf l == 5

/-- The queues of a source in round-robin order after the one it offered last. -/
def State.rrOrder (s : State) (l : Nat) : List Nat := (List.range 10).map (fun i => ((s.die l).rr + 1 + i) % 10)

/-- The head frame of one FIFO of a crossing queue. -/
def State.xqHead (s : State) (l j : Nat) (sched : Bool) : Option XFrame :=
  if sched then (s.xq l j).sched.head? else (s.xq l j).bulk.head?

/-- The queue whose SCHED head's remaining destinations all lie in a mask. -/
def State.reservedOffer (s : State) (l mask : Nat) : Option Nat :=
  (s.rrOrder l).find? (fun j => (s.xqHead l j true).any (fun x => x.links.all (fun d => mask / 2 ^ d % 2 == 1)))

/-- A queue whose head has a credit from every remaining destination.
(DESIGN CHOICE, log entry 53) -/
def State.creditOffer (s : State) (l : Nat) (sched : Bool) : Option Nat :=
  (s.rrOrder l).find? (fun j => (s.xqHead l j sched).any (fun x => x.links.all (fun d => decide (0 < s.credits l d))))

/-- A credit of destination d is used, or returned, at source l. -/
def State.useCredit (s : State) (l d : Nat) : State :=
  (s.modDie l (fun x => { x with used := kput x.used d (kget x.used d 0 + 1) })).xqShow l (queueFor l d)
def State.returnCredit (s : State) (l d : Nat) : State :=
  (s.modDie l (fun x => { x with used := kput x.used d (kget x.used d 0 - 1), gaveAt := kput x.gaveAt d s.ticks })).xqShow
    l (queueFor l d)

/-- The next frame of a FIFO begins to wait at the head. -/
def headNow (tick : Nat) : List XFrame → List XFrame
  | [] => []
  | x :: l => { x with headAt := tick } :: l

/-- A FIFO whose frames have changed: a frame new at its head begins to wait (R180). -/
def headFollow (tick : Nat) (old new : List XFrame) : List XFrame :=
  if old.head?.map (fun x => x.f.id) = new.head?.map (fun x => x.f.id) then new else headNow tick new

/-- A FIFO after its head sent one cell. -/
def afterCell (tick : Nat) : List XFrame → List XFrame
  | [] => []
  | x :: l => if cellsOf x.f.bytes ≤ x.sent + 1 then headNow tick l else { x with sent := x.sent + 1, headAt := tick } :: l

/-- The head cell of a FIFO leaves for every remaining destination at once (R174, R180). -/
def State.sendCell (s : State) (l j : Nat) (sched credit : Bool) : State :=
  match s.xqHead l j sched with
  | none => s
  | some x =>
    let q := s.xq l j
    let q := if sched then { q with sched := afterCell s.ticks q.sched } else { q with bulk := afterCell s.ticks q.bulk }
    let s := s.setXq l j q
    let s := { s with flight := s.flight ++ x.links.map (fun d =>
      ({ src := l, dst := d, f := x.f, num := x.sent, credit := credit, slot := s.slot } : Cell)) }
    if credit then x.links.foldl (fun s d => s.useCredit l d) s else s

/-- The round-robin position moves to the queue offered. -/
def State.offered (s : State) (l j : Nat) : State := s.modDie l (fun x => { x with rr := j })

/-- Reserved SCHED cells of a slot (R176): the state, the destinations taken and the sources served. -/
def reservedCells (i : Nat) (r : State × List Nat × List Nat) (l : Nat) : State × List Nat × List Nat :=
  let (s, taken, done) := r
  let mask := s.fld (Fld.XBAR_CAL_DEST_MASK l i)
  if mask = 0 ∨ !s.linkSends l ∨ !s.moduleUp l (i / 16) then r
  else match s.reservedOffer l mask with
    | none => r
    | some j =>
      let links := ((s.xqHead l j true).map (fun x => x.links)).getD []
      if links.all (fun d => s.moduleUp d (i / 16)) then
        ((s.sendCell l j true false).offered l j, taken ++ links, done ++ [l])
      else r

/-- The unreserved match of one source in a slot (R175). -/
def matchedCells (i : Nat) (done : List Nat) (r : State × List Nat) (l : Nat) : State × List Nat :=
  let (s, taken) := r
  if done.contains l ∨ !s.linkSends l ∨ !s.moduleUp l (i / 16) then r
  else
    let offer := match s.creditOffer l true with
      | some j => some (j, true)
      | none => (s.creditOffer l false).map (fun j => (j, false))
    match offer with
    | none => r
    | some (j, sched) =>
      let links := ((s.xqHead l j sched).map (fun x => x.links)).getD []
      let s := s.offered l j
      if links.all (fun d => !taken.contains d && s.moduleUp d (i / 16)) then (s.sendCell l j sched true, taken ++ links)
      else (s, taken)

/-- One calendar slot of the crossbar. -/
def crossbarSlot (s : State) : State :=
  let i := s.slot
  let s := if i = 0 then s.newRound else s
  let (s, taken, done) := (List.range 9).foldl (reservedCells i) (s, [], [])
  let (s, _) := ((List.range 9).map (fun k => (i % 9 + k) % 9)).foldl (matchedCells i done) (s, taken)
  { s with slot := (i + 1) % 64 }

/-- CROSSBAR_SLOT (R175): SP_FAB holds the crossbar. -/
def execCrossbarSlot (dt : Nat) (s : State) : Host.Outcome State Fault Refusal :=
  effect dt (fun s => onlyIf (s.domOn 5) crossbarSlot s) s

/-! ## Stitch modules (R20, R179) -/

/-- The first slot of a surviving module of link l whose mask is empty for every source link, now and in the next round. -/
def State.freeSlot (s : State) (l : Nat) : Option Nat :=
  (List.range 64).find? (fun i => s.moduleUp l (i / 16) &&
    (List.range 9).all (fun k => s.fld (Fld.XBAR_CAL_DEST_MASK k i) == 0 && s.calMask k i == 0))

/-- A reservation of link l moves from slot i, or is suspended. -/
def State.moveReservation (s : State) (l i : Nat) : State :=
  let m := s.fld (Fld.XBAR_CAL_DEST_MASK l i)
  if m = 0 then s
  else
    let t := s.setFld (Fld.XBAR_CAL_DEST_MASK l i) 0
    match s.freeSlot l with
    | some k => t.setFld (Fld.XBAR_CAL_DEST_MASK l k) m
    | none =>
      let t := (t.raise (Fld.XBAR_LINK_STAT_RES_SUSPENDED l)).raise Fld.XBAR_EVT_RES_SUSPENDED
      t.raise (Fld.LCTL_FAULT_STITCH l)

/-- Module q of a Leaf's stitch is removed: its reservations move in ascending slot order. -/
def stitchRemoval (l q : Nat) (s : State) : State :=
  let s := s.setFldBit (Fld.XBAR_LINK_STAT_MODULES_UP l) q false
  let s := (s.raise Fld.XBAR_EVT_MODULE_LOST).raise (Fld.LCTL_FAULT_STITCH l)
  ((List.range 16).map (fun i => 16 * q + i)).foldl (fun s i => s.moveReservation l i) s

/-- STITCH_MODULE_REMOVAL (R179). -/
def execStitchModuleRemoval (dt l q : Nat) (s : State) : Host.Outcome State Fault Refusal :=
  effect dt (fun s => onlyIf (decide (l < 8) && decide (q < 4) && s.moduleUp l q) (stitchRemoval l q) s) s

/-! ## Arrival (R178, R181) -/

/-- The destination ports of a frame on die d: a frame flooded as unknown unicast skips those that refuse floods. -/
def State.arrivalPorts (s : State) (d : Nat) (f : Frame) : List Nat :=
  (f.portsOn d).filter (fun p => !f.unkUc || decide (8 ≤ d) || s.on (Fld.FWD_PORT_CFG_UNK_UC_FLOOD d (fwdIdx p)))

/-- Admission of a frame to ports in ascending order (R168): those that admitted it. -/
def State.admitAll (s : State) (f : Frame) (ports : List Nat) : List Nat × State :=
  ports.foldl (fun r p =>
    let (ok, t) := r.2.admits f p
    (if ok then r.1 ++ [p] else r.1, t)) ([], s)

/-- The frame of a cell in arrival. -/
def sameFrame (c : Cell) (a : Arriving) : Bool := a.src == c.src && a.f.id == c.f.id

/-- A frame is lost at link e for a cell that failed its CRC, if e has not completed it: as STITCH_ERR, once, there. -/
def State.stitchLoss (s : State) (c : Cell) (e : Nat) : State :=
  match (s.die e).arriving.find? (sameFrame c) with
  | none =>
    if (c :: s.flight).any (fun x => x.src == c.src && x.dst == e && x.f.id == c.f.id && x.num == 0 && !x.cut) then
      let s := (s.arrivalPorts e c.f).foldl (fun s p => s.egressDrop c.f p c.f.cls 0x26) s
      s.modDie e (fun x => { x with arriving := x.arriving ++ [⟨c.src, c.f, [], true⟩] })
    else s
  | some a =>
    let s := a.ports.foldl (fun s p => s.discardHeld a.f p a.f.cls 0x26) s
    s.modDie e (fun x => { x with
      arriving := x.arriving.map (fun b => if sameFrame c b then { b with ports := [], bad := true } else b) })

/-- The cell CRC errors of a stitch module within the last 1 ms, one more among them; at the sixteenth the module is removed
(R179).
(DESIGN CHOICE, log entry 55) -/
def State.crcError (s : State) (l q : Nat) : State :=
  let seen := s.ticks :: (kget s.crcAt (4 * l + q) []).filter (fun t => decide (s.ticks ≤ t + msT))
  if l < 8 ∧ 16 ≤ seen.length ∧ s.moduleUp l q then stitchRemoval l q { s with crcAt := kdel s.crcAt (4 * l + q) }
  else { s with crcAt := kput s.crcAt (4 * l + q) seen }

/-- A cell to link d failed its CRC: its frame is discarded at each destination link that has not completed it (R178).
(DESIGN CHOICE, log entry 55) -/
def State.badCell (s : State) (d : Nat) (c : Cell) : State :=
  let s := s.bump (Fld.XBAR_LINK_CRC_ERR_COUNT d) 1
  let s := (List.range 9).foldl (fun s e => s.stitchLoss c e) s
  s.crcError d (c.slot / 16)

/-- The last cell of a frame is in: it goes to its queues, and the Leaf learns from it (R148, R149, R181). -/
def State.frameArrived (s : State) (d : Nat) (c : Cell) : State :=
  match (s.die d).arriving.find? (sameFrame c) with
  | none => s
  | some a =>
    let s := s.modDie d (fun x => { x with arriving := x.arriving.filter (fun b => !sameFrame c b) })
    if a.bad then s
    else
      let s := a.ports.foldl (fun s p => s.place a.f p) s
      if a.f.learn ∧ d < 8 then s.queueLearn d a.f.fid (saOf a.f.bytes) a.f.inPort else s

/-- Whether a link's die receives: a Leaf in service, draining or stopped takes what is inside the crossbar (R43), the Spine while
SP_FAB is on. -/
def State.linkReceives (s : State) (d : Nat) : Bool := if d = 8 then s.domOn 5 else decide (4 ≤ s.leaf d) && decide (s.leaf d ≤ 6)

/-- Once no cell of a frame cut off at link d is inside the crossbar, what d holds of it goes, without a count of its own (R43,
R180).
(DEDUCED, log entry 56) -/
def State.cutOver (s : State) (l d : Nat) (f : Frame) : State :=
  if s.flight.any (fun c => c.src == l && c.dst == d && c.f.id == f.id) then s
  else
    let hit := fun (a : Arriving) => a.src == l && a.f.id == f.id
    let ports := ((s.die d).arriving.filter hit).flatMap (fun a => a.ports)
    let s := s.modDie d (fun x => { x with arriving := x.arriving.filter (fun a => !hit a) })
    ports.foldl (fun s p => s.freeCells p f.cls f) s

/-- The oldest cell on its way to a link arrives, its credit returning at once (R174, R178); admission there is requester 4
(R168). -/
def cellArrival (d : Nat) (crcOk : Bool) (s : State) : State :=
  match s.flight.find? (fun c => c.dst == d) with
  | none => s
  | some c =>
    let s := { s with flight := s.flight.eraseP (fun c => c.dst == d) }
    let s := if c.credit then s.returnCredit c.src d else s
    if c.cut then s.cutOver c.src d c.f
    else if !s.linkReceives d then s
    else
      let s := if !crcOk then s.badCell d c
        else if c.num = 0 ∧ !(s.die d).arriving.any (sameFrame c) then
          let (ports, s) := s.admitAll c.f (s.arrivalPorts d c.f)
          s.modDie d (fun x => { x with arriving := x.arriving ++ [⟨c.src, c.f, ports, false⟩], admitAt := some (s.ticks, 4) })
        else s
      if cellsOf c.f.bytes ≤ c.num + 1 then s.frameArrived d c else s

/-- CELL_ARRIVAL (R178): `crcOk` says that the cell passes the stitch CRC. -/
def execCellArrival (dt d : Nat) (crcOk : Bool) (s : State) : Host.Outcome State Fault Refusal :=
  effect dt (cellArrival d crcOk) s

/-! ## Frames that do not cross (R43, R177, R180) -/

/-- A frame that will not be completed at a destination is cut off there: its cells inside the crossbar are still delivered,
then it goes.
(DEDUCED, log entry 56) -/
def State.abandon (s : State) (l d : Nat) (f : Frame) : State :=
  { s with flight := s.flight.map (fun (c : Cell) => if c.src = l ∧ c.dst = d ∧ c.f.id = f.id then { c with cut := true } else c) }.cutOver
    l d f

/-- BUF.XQ_CFG.DEADLINE of a die, in ns. -/
def State.xqDeadline (s : State) (l : Nat) : Nat :=
  if l < 8 then s.fld (Fld.BUF_XQ_CFG_DEADLINE l) else s.fld Fld.SPB_XQ_CFG_DEADLINE

/-- Whether a frame's wait has reached the deadline before its first cell left. -/
def State.crossLate (s : State) (l : Nat) (x : XFrame) : Bool :=
  x.sent == 0 && decide (s.xqDeadline l * nsU ≤ (s.ticks - x.entered) * tickUnits)

/-- Every frame of crossing queue j of die l whose deadline has come is discarded whole (R177). -/
def crossDeadline (l j : Nat) (s : State) : State :=
  let q := s.xq l j
  let late := (q.sched ++ q.bulk).filter (s.crossLate l)
  if late = [] then s
  else
    let keep := fun (x : XFrame) => !s.crossLate l x
    let t := s.setXq l j { sched := headFollow s.ticks q.sched (q.sched.filter keep)
                           bulk := headFollow s.ticks q.bulk (q.bulk.filter keep) }
    let t := late.foldl (fun t x => t.dropLinks x.f x.links 0x24) t
    if l < 8 then t.raise (Fld.BUF_EVT_CROSS_EXPIRED l) else t

/-- CROSS_DEADLINE_EXPIRY (R177). -/
def execCrossDeadlineExpiry (dt l j : Nat) (s : State) : Host.Outcome State Fault Refusal :=
  effect dt (onlyIf (decide (l < 9) && decide (j < 10)) (crossDeadline l j)) s

/-- A FIFO's head frame goes on without link d; with no link left it goes, and the next begins to wait. -/
def skipHead (tick d : Nat) : List XFrame → List XFrame
  | [] => []
  | x :: l =>
    let links := x.links.filter (fun e => e != d)
    if links = [] then headNow tick l else { x with links := links } :: l

/-- 256 XBAR cycles (R180). -/
def skipTicks : Nat := 512

/-- Destination d has given source l no credit for 256 XBAR cycles while the head cell of its replication queue waits:
the frame goes ahead to the others (R180). -/
def replicationSkip (l d : Nat) (sched : Bool) (s : State) : State :=
  match s.xqHead l 9 sched with
  | none => s
  | some x =>
    let since := max x.headAt (kget (s.die l).gaveAt d 0)
    if x.links.contains d ∧ s.credits l d = 0 ∧ since + skipTicks ≤ s.ticks then
      let q := s.xq l 9
      let q := if sched then { q with sched := skipHead s.ticks d q.sched } else { q with bulk := skipHead s.ticks d q.bulk }
      (((s.setXq l 9 q).abandon l d x.f)).dropLinks x.f [d] 0x25
    else s

/-- REPLICATION_SKIP (R180). -/
def execReplicationSkip (dt l d : Nat) (sched : Bool) (s : State) : Host.Outcome State Fault Refusal :=
  effect dt (onlyIf (decide (l < 9)) (replicationSkip l d sched)) s

/-- Link d leaves service: no further cell crosses to it, and every frame queued for it is dropped there (R43, R44). -/
def State.linkLeaves (s : State) (d : Nat) : State :=
  (List.range 9).foldl (fun s l => (List.range 10).foldl (fun s j =>
    let q := s.xq l j
    let hit := (q.sched ++ q.bulk).filter (fun x => x.links.contains d)
    if hit = [] then s
    else
      let cut := fun (l : List XFrame) =>
        (l.map (fun x => { x with links := x.links.filter (fun e => e != d) })).filter (fun x => !x.links.isEmpty)
      let s := s.setXq l j { sched := headFollow s.ticks q.sched (cut q.sched), bulk := headFollow s.ticks q.bulk (cut q.bulk) }
      hit.foldl (fun s x => (s.abandon l d x.f).dropLinks x.f [d] 0x27) s) s) s

end Sys2Proof.Machine
end

