-- ==== Sys2Proof/Machine/Egr.lean ====
section
/-!
DEFINITION. Egr.lean: timed egress (spec/07): the choice of the next frame, the shaper, gate control lists, preemption
and the Ladle (R185 to R212).
-/
namespace Sys2Proof.Machine

/-! ## Times on the wire -/

/-- The hold advance H of a port (R199). -/
def State.holdAdvance (s : State) (p : Nat) : Nat :=
  bytesU (s.portMode p) (64 * (s.fld (Fld.PORT_MM_CTRL_ADD_FRAG p) + 2) + 20)

/-- G of R202 in units of 10 ps, by mode and FEC. -/
def ladleG (mode fec : Nat) : Nat :=
  match mode, fec with
  | 1, _ => 1600
  | 2, 0 => 640
  | 2, _ => 950
  | 3, 0 => 256
  | 3, 1 => 380
  | 3, _ => 1253
  | 4, _ => 800
  | 5, 0 => 320
  | 5, _ => 1310
  | 6, _ => 1096
  | 7, _ => 1273
  | 8, _ => 484
  | 9, _ => 484
  | 10, _ => 468
  | _, _ => 0

/-- G of a port in 2^-16 ns. -/
def State.gapU (s : State) (p : Nat) : Nat := ladleG (s.portMode p) (s.fld (Fld.PORT_MODE_FEC p)) * 65536 / 100

/-! ## Egress tagging (R141) -/

/-- The Leaf and the FWD.PORT index that hold a port's settings. -/
def State.fwdAt (s : State) (p : Nat) : Nat × Nat := ((s.ownerLeaf p).getD 0, fwdIdx p)

/-- A frame of a port's transmit MAC is at least 64 bytes with its FCS (R115: the MAC of Clause 4).
(DEDUCED, log entry 146) -/
def padded (p : Nat) (b : List Byte) : List Byte :=
  if p < 258 then b ++ (List.range (60 - b.length)).map Config.padByte else b

/-- A frame as its egress port tags it (R141): a frame with a named egress port goes as it is.
(DESIGN CHOICE, log entry 48) -/
def State.taggedFor (s : State) (f : Frame) (p : Nat) : List Byte :=
  if f.raw then f.bytes
  else
    let (n, k) := s.fwdAt p
    let bare := if f.tpid = 0 then f.bytes else f.bytes.take 12 ++ f.bytes.drop 16
    let tag := s.fld (Fld.FWD_PORT_CFG_EGRESS_TAG n k)
    if p < 258 && (tag == 2 || (tag == 1 && f.vid == s.fld (Fld.FWD_PORT_CFG_PVID n k))) then bare
    else
      let tci := f.pcp * 2 ^ 13 + (if f.dei then 2 ^ 12 else 0) + f.vid
      bare.take 12 ++ beBytes (if f.tpid = 0 then 0x8100 else f.tpid) 2 ++ beBytes tci 2 ++ bare.drop 12

/-- The bytes a port sends for a frame, from DA to the end of its pad (R115, R141). -/
def State.egressBytes (s : State) (f : Frame) (p : Nat) : List Byte := padded p (s.taggedFor f p)

/-! ## Gate control lists (R190 to R196) -/

/-- BASE and CYCLE of a list. -/
def State.gclBaseTime (s : State) (p l : Nat) : Nat := (timeOfRaw (s.getWide (Reg.EGR_PORT_GCL_BASE0 p l) 3)).getD 0
def State.gclCycle (s : State) (p l : Nat) : Nat :=
  s.fld (Fld.EGR_PORT_GCL_CYCLE1_CYCLE_NS p l) * nsU + s.fld (Fld.EGR_PORT_GCL_CYCLE0_CYCLE_FRAC p l)

/-- A stretch of a cycle with its gates: from, to. -/
abbrev GateSeg := Nat × Nat × Nat

/-- The entries of a list as stretches of its cycle: the last one holds to the cycle's end, what lies beyond is not
reached (R191). -/
def State.gateSegs (s : State) (p l : Nat) : List GateSeg :=
  let cycle := s.gclCycle p l
  let n := s.fld (Fld.EGR_PORT_GCL_LEN_LEN p l)
  ((List.range n).foldl (fun (r : List GateSeg × Nat) i =>
    let stop := if i + 1 = n then cycle else min cycle (r.2 + s.fld (Fld.EGR_GCL_INTERVAL_INTERVAL p l i) * nsU)
    if r.2 < stop then (r.1 ++ [(s.fld (Fld.EGR_GCL_GATES_GATES p l i), r.2, stop)], stop) else r) ([], 0)).1

/-- The position of a time in a list's cycle (R191).
(DESIGN CHOICE, log entry 58) -/
def State.gatePos (s : State) (p l t : Nat) : Nat := (((t : Int) - s.gclBaseTime p l) % (s.gclCycle p l)).toNat

/-- The gates of a list at a time. -/
def State.gatesAt (s : State) (p l t : Nat) : Nat :=
  let x := s.gatePos p l t
  ((s.gateSegs p l).find? (fun g => decide (x < g.2.2))).elim 0xFF (fun g => g.1)

/-- How long from a time class c's gate stays open in a list; none if it never closes. -/
def State.openFor (s : State) (p l c t : Nat) : Option Nat :=
  let x := s.gatePos p l t
  let segs := s.gateSegs p l
  let cycle := s.gclCycle p l
  let ahead := segs.filter (fun g => decide (x < g.2.2)) ++ segs.map (fun g => (g.1, g.2.1 + cycle, g.2.2 + cycle))
  (ahead.find? (fun g => g.1 / 2 ^ c % 2 == 0)).map (fun g => g.2.1 - x)

/-- The longest open window of class c in a list; none if it never closes. -/
def State.longestOpen (s : State) (p l c : Nat) : Option Nat :=
  let segs := s.gateSegs p l
  if segs.all (fun g => g.1 / 2 ^ c % 2 == 1) then none
  else
    some ((segs ++ segs).foldl (fun (r : Nat × Nat) g =>
      if g.1 / 2 ^ c % 2 = 1 then (max r.1 (r.2 + (g.2.2 - g.2.1)), r.2 + (g.2.2 - g.2.1)) else (r.1, 0)) (0, 0)).1

/-- The list that governs a queued frame (R196). -/
def State.governs (s : State) (p : Nat) (c : Copy) : Nat :=
  match (s.port p).oldList with
  | none => s.gclActive p
  | some (old, trigger, _) =>
    if c.f.flags % 2 = 0 then c.list else if c.f.stamp < trigger then old else s.gclActive p

/-- STAT shows the open gates of the active list, and the hold in force. -/
def State.egrShow (s : State) (p : Nat) : State :=
  let gates := if s.on (Fld.EGR_PORT_CTRL_GCL_EN p) then s.gatesAt p (s.gclActive p) s.now else 0xFF
  (s.setFld (Fld.EGR_PORT_STAT_OPEN p) gates).setBit (Fld.EGR_PORT_STAT_HOLD p)
    ((s.port p).holdTo.any (fun t => decide (s.now < t)))

/-- Whether a list may become active at a trigger (R190, R195). -/
def State.listOk (s : State) (p l trigger : Nat) : Bool :=
  let cycle := s.gclCycle p l
  let n := s.fld (Fld.EGR_PORT_GCL_LEN_LEN p l)
  decide (usU ≤ cycle) && decide (cycle ≤ secU) && decide (1 ≤ n) && decide (n ≤ 1024) &&
    decide (s.gclBaseTime p l ≤ trigger) && (List.range n).all (fun i => s.on (Fld.EGR_GCL_INTERVAL_INTERVAL p l i))

/-- Whether a list refuses writes: it is active, or still governs frames (R195). -/
def State.gclRefuses (s : State) (p l : Nat) : Bool :=
  l == s.gclActive p || (s.port p).oldList.any (fun o => o.1 == l)

/-! ## The Ladle (R200 to R212) -/

/-- Whether one held frame departs before another (R206); the list keeps the order of entry. -/
def Held.before (a b : Held) : Bool :=
  if a.release ≠ b.release then decide (a.release < b.release)
  else if a.c.cls ≠ b.c.cls then decide (b.c.cls < a.c.cls)
  else decide (a.c.f.inPort < b.c.f.inPort)

/-- The held frame that departs next from a port. -/
def State.ladleHead (s : State) (p : Nat) : Option Held :=
  (s.known p).foldl (fun r h => match r with
    | none => some h
    | some b => if h.before b then some h else some b) none

/-- The earliest SFD time of a held frame (R202, R205). -/
def Held.earliest (h : Held) : Nat := max h.release (h.entered + ladleLead)

/-- TSU lock is lost: every held frame meets its late rule, and nothing is released (R209). -/
def State.ladleHalt (s : State) : State :=
  s.forAll (List.range 8) (fun n s =>
    if !s.leafOn n then s
    else
      let l := (s.die n).ladle
      let s := s.modDie n (fun x => { x with ladle := [] })
      let s := l.foldl (fun s h => (s.ladleShow n h.port).lateRule h.c h.port h.send) s
      (s.ladleShow n (32 * n)).setBit (Fld.EGR_LADLE_HALTED n) (!s.on Fld.TIME_STATUS_TSU_LOCK))

/-- TSU lock is back. -/
def State.ladleResume (s : State) : State :=
  s.forAll (List.range 8) (fun n s => if s.leafOn n then s.setFld (Fld.EGR_LADLE_HALTED n) 0 else s)

/-- A step of network time to `new`: held frames whose release lies at or before it meet their late rule (R210).
(DESIGN CHOICE, log entry 59) -/
def State.ladleStep (s : State) (new : Nat) : State :=
  s.forAll (List.range 8) (fun n s =>
    ((s.die n).ladle.filter (fun h => decide (h.release ≤ new))).foldl (fun s h => s.heldLate h) s)

/-! ## Which class may send (R185 to R188, R193, R197, R203) -/

/-- Whether a class is preemptable on a port now (R197). -/
def State.preemptable (s : State) (p c : Nat) : Bool :=
  s.on (Fld.PORT_MM_STAT_TX_ACTIVE p) && s.fldBit (Fld.EGR_PORT_CTRL_PREEMPT p) c

/-- Whether a length from its SFD at `pos` respects the gate that governs it and the Ladle's hold rules. -/
def State.mayStart (s : State) (p : Nat) (c : Copy) (pre : Bool) (len pos : Nat) : Bool :=
  let need := bytesU (s.portMode p) (1 + len + 12)
  let h := s.holdAdvance p
  let gate := if !s.on (Fld.EGR_PORT_CTRL_GCL_EN p) then true
    else match s.openFor p (s.governs p c) c.cls pos with
      | none => true
      | some d => decide (0 < d) && (decide (need ≤ d) || (pre && decide (h ≤ d)))
  let hold := !pre || !(s.port p).holdTo.any (fun t => decide (pos < t))
  let room := (s.known p).all (fun x =>
    if pre then decide (pos + h < x.release) else decide (pos + need + bytesU (s.portMode p) 8 ≤ x.release))
  gate && hold && room

/-- The length of a class's head frame as transmitted. -/
def State.headLen (s : State) (p c : Nat) : Nat :=
  match s.queue p c with
  | [] => 0
  | h :: _ => frameLen (s.egressBytes h.f p)

/-- Whether class c is eligible to start at a time (R186). While a preempted frame waits only express classes are. -/
def State.eligible (s : State) (p pos c : Nat) (expressOnly : Bool) : Bool :=
  match s.queue p c with
  | [] => false
  | h :: _ =>
    let pre := s.preemptable p c
    !(pre && expressOnly) && !s.paused p c && (!s.fldBit (Fld.EGR_PORT_CTRL_CBS_EN p) c || decide (0 ≤ s.creditOf p c)) &&
      s.mayStart p h pre (s.headLen p c) pos

/-- The DWRR member after one, in descending order and round again. -/
def nextMember (members : List Nat) (c : Nat) : Nat :=
  match members.find? (fun m => decide (m < c)) with
  | some m => m
  | none => members.headD 0

/-- The DWRR group's choice (R188): the member, and the deficits after it sends its head frame. -/
def drrPick (elig : Nat → Bool) (len quantum : Nat → Nat) (members : List Nat) : Nat → Nat → KMap Nat → Option (Nat × KMap Nat)
  | 0, _, _ => none
  | fuel + 1, cur, deficit =>
    if members.contains cur && elig cur && decide (len cur ≤ kget deficit cur 0) then
      some (cur, kput deficit cur (kget deficit cur 0 - len cur))
    else
      let m := nextMember members cur
      drrPick elig len quantum members fuel m (if elig m then kput deficit m (kget deficit m 0 + quantum m) else deficit)

/-- The class to send, with the visit and the deficits of the DWRR group (R187, R188). -/
def State.chooseClass (s : State) (p pos : Nat) (expressOnly : Bool) : Option (Nat × Nat × KMap Nat) :=
  let x := s.port p
  let elig := fun c => s.eligible p pos c expressOnly
  let down := [7, 6, 5, 4, 3, 2, 1, 0]
  let members := down.filter (fun c => s.fldBit (Fld.EGR_PORT_CTRL_DWRR p) c)
  let stands := fun c => if members.contains c then members.head? == some c && members.any elig else elig c
  match down.find? stands with
  | none => none
  | some c =>
    if members.contains c then
      (drrPick elig (s.headLen p) (fun m => s.fld (Fld.EGR_PORT_QUANTUM_BYTES p m)) members 2400 x.drr x.deficit).map
        (fun r => (r.1, r.1, r.2))
    else some (c, x.drr, x.deficit)

/-! ## Transmission -/

/-- A marked transmit stamp enters the port's queue and goes to whom it is for; a firmware stamp that finds room is taken at once
(R125, R126, R398). A sampled frame's tag is the low half of its SAMPLE_ID.
(DESIGN CHOICE, log entry 42) -/
def State.giveStamp (s : State) (f : Frame) (p stamp flags : Nat) : State :=
  match f.mark with
  | some (.ring r slot tag) => (s.pushStamp p ⟨stamp, flags, tag⟩).descResult r slot (1, stamp, flags, 0, p)
  | some (.firmware kind inst seq) =>
    if s.stampFull p then s.pushStamp p ⟨stamp, flags, 0⟩
    else { s with fwStamps := s.fwStamps ++ [⟨p, kind, inst, seq, stamp, flags⟩] }
  | none =>
    match f.sample with
    | some (leaf, sid) => if s.on (Fld.SMP_FILT_DROPS_ONLY leaf) then s else s.pushStamp p ⟨stamp, flags, sid % 2 ^ 16⟩
    | none => s

/-- A frame starts with its SFD at `pos`: it counts, and its stamp is taken (R125, R447). Its cells are held until it has been
sent (R167).
(DEDUCED, log entry 52; DESIGN CHOICE, log entry 156) -/
def State.startFrame (s : State) (p : Nat) (c : Copy) (pos : Nat) (ladle : Bool) : State :=
  let b := s.egressBytes c.f p
  let len := frameLen b
  let at1 := s.physOf pos
  let pre := !ladle && s.preemptable p c.cls
  let fl := s.stampFlags p at1 pre
  let s := s.freeOwed p
  let s := (s.countTx p 0 1 pos fl).countTx p 1 len pos fl
  let s := (s.countQueue p c.cls 0 1 pos fl).countQueue p c.cls 1 len pos fl
  let s := if c.late then s.countQueue p c.cls 2 1 pos fl else s
  let s := (s.smpCopyEnd c.f p (.sent pos fl)).giveStamp c.f p pos fl
  let n := (s.port p).smd
  let x : Tx := { c := c, start := at1, preempt := pre, len := len, ladle := ladle, owes := true, smd := n }
  (s.modPort p (fun r => { r with
    cur := some x, freeAt := at1 + bytesD (s.portMode p) (1 + len + 12), smd := if pre then (n + 1) % 4 else n
    wire := some (if ladle then none else some c.cls, at1, at1 + bytesD (s.portMode p) (1 + len)) })).emit
    (if pre then .fragment p (.start n) b 0 pos else .frame p b 0 pos)

/-- A preempted frame goes on with its next fragment. -/
def State.resumeFrame (s : State) (p : Nat) (t : Tx) (pos : Nat) : State :=
  let at1 := s.physOf pos
  let s := (s.freeOwed p).modPort p (fun r => { r with
    cur := some { t with start := at1, frag := (t.frag + 1) % 4 }, part := none
    freeAt := at1 + bytesD (s.portMode p) (1 + (t.len - t.sent) + 12)
    wire := some (some t.c.cls, at1, at1 + bytesD (s.portMode p) (1 + (t.len - t.sent))) })
  s.emit (.fragment p (.cont t.smd t.frag) ((s.egressBytes t.c.f p).drop t.sent) t.sent pos)

/-- Whether a preemptable frame is in transmission now. -/
def State.inFragment (s : State) (p : Nat) : Option Tx :=
  match (s.port p).cur with
  | some t => if t.preempt && decide (s.phys < (s.port p).freeAt) then some t else none
  | none => none

/-- The fragment in transmission ends at the first point Clause 99 allows: 64 × (1 + ADD_FRAG) bytes with its mCRC are
behind it, and 64 bytes are left. A frame that cannot be cut goes on to its end. -/
def State.cutFragment (s : State) (p : Nat) (t : Tx) : State :=
  let mode := s.portMode p
  let gone := (s.phys - t.start) * modeGbps mode / 524288 - 1
  let n := max gone (64 * (1 + s.fld (Fld.PORT_MM_CTRL_ADD_FRAG p)) - 4)
  if t.len < t.sent + n + 64 then s
  else
    let s := if t.cut then s else s.count (dieOf p) (offTx p 2) 1 s.now
    (s.modPort p (fun r => { r with
      cur := none, part := some { t with sent := t.sent + n, cut := true }
      freeAt := t.start + bytesD mode (1 + n + 4 + 12)
      wire := some (some t.c.cls, t.start, t.start + bytesD mode (1 + n + 4)) })).emit (.cut p (t.sent + n))

/-- Whether the medium is free for a preamble and an SFD at a time. -/
def State.mediumFree (s : State) (p pos : Nat) : Bool :=
  decide ((s.port p).freeAt + bytesD (s.portMode p) 7 ≤ s.physOf pos)

/-- Whether a time lies in this tick. -/
def State.inTick (s : State) (pos : Nat) : Bool := decide (s.now ≤ pos) && decide (pos < s.now + tickUnits)

/-- The head of the Ladle departs at `pos`; `want` is the SFD position it would have taken with the medium free. A pause holds its
class (R116, R207). -/
def State.ladleSend (s : State) (p want pos : Nat) : State :=
  match s.ladleHead p with
  | none => s
  | some h =>
    if pos < h.earliest ∨ want < h.earliest ∨ pos < want then s
    else if s.paused p h.c.cls then s
    else if !s.mediumFree p pos then s
    else if h.earliest + s.gapU p ≤ want && !h.c.late then s
    else if want < pos && s.mediumFree p want && !h.c.late then s
    else
      let defer := decide (want < pos) && !s.mediumFree p want
      let fl := s.stampFlags p (s.physOf pos) false
      let s := s.ladleRemove h
      let s := if defer then
          let ps := ((pos - want) * 1000 + 32768) / 65536
          let s := (s.countQueue p h.c.cls 3 1 pos fl).raise (Fld.EGR_PORT_EVT_DEFERRED p)
          if s.fld (Fld.EGR_PORT_MAX_DEFER_PS p) < ps then s.setFld (Fld.EGR_PORT_MAX_DEFER_PS p) (sat 32 ps) else s
        else s
      (s.modPort p (fun r => { r with holdTo := none })).startFrame p h.c pos true

/-- Whether the Ladle's head has come to its departure position. -/
def State.ladleDue (s : State) (p pos : Nat) : Bool := (s.ladleHead p).any (fun h => decide (h.earliest ≤ pos))

/-- The head frame of a class queue is sent.
(DESIGN CHOICE, log entry 57) -/
def State.classSend (s : State) (p c drr : Nat) (deficit : KMap Nat) (pos : Nat) : State :=
  match s.queue p c with
  | [] => s
  | h :: rest =>
    let s := (s.modPort p (fun r => { r with drr := drr, deficit := deficit, headAt := kput r.headAt c s.ticks })).setQueue p c rest
    s.startFrame p h pos false

/-- A transmit opportunity with an SFD position at `pos` (R185, R197).
(DESIGN CHOICE, log entry 57) -/
def transmit (p want pos : Nat) (s : State) : State :=
  let s := (s.creditTo p).ladlePause p
  match s.inFragment p with
  | some t => if s.ladleDue p pos || (s.chooseClass p pos true).isSome then s.cutFragment p t else s
  | none =>
    if s.ladleDue p pos then s.ladleSend p want pos
    else if !s.mediumFree p pos then s
    else match s.chooseClass p pos ((s.port p).part.isSome) with
      | some (c, drr, deficit) => s.classSend p c drr deficit pos
      | none =>
        match (s.port p).part with
        | some t => if s.mayStart p t.c true (t.len - t.sent) pos then s.resumeFrame p t pos else s
        | none => s

/-- Whether a port with an egress scheduler may send. -/
def State.sends (s : State) (p : Nat) : Bool := s.namesPort p && s.portState p == 5

/-- FRAME_TRANSMIT (R185): `pos` is the network time of an SFD position in this tick. -/
def execFrameTransmit (dt p want pos : Nat) (s : State) : Host.Outcome State Fault Refusal :=
  effect dt (fun s => onlyIf (s.sends p && s.inTick pos) (transmit p want pos) s) s

/-- LADLE_DEPARTURE (R202, R206). -/
def execLadleDeparture (dt p want pos : Nat) (s : State) : Host.Outcome State Fault Refusal :=
  effect dt (fun s => onlyIf (s.sends p && s.inTick pos && (s.inFragment p).isNone)
    (fun s => ((s.creditTo p).ladlePause p).ladleSend p want pos) s) s

/-- The instants a hold of a port protects: the gate close of a preemptable frame in transmission, and each release
time (R199). -/
def State.protects (s : State) (p : Nat) : List Nat :=
  let gate := match s.inFragment p with
    | some t => if s.on (Fld.EGR_PORT_CTRL_GCL_EN p) then
        ((s.openFor p (s.governs p t.c) t.c.cls s.now).map (fun d => s.now + d)).toList else []
    | none => []
  gate ++ (s.known p).map (fun h => h.release)

/-- A hold point is reached: the preemptable fragment ends and preemptable starts wait. -/
def holdPoint (p : Nat) (s : State) : State :=
  match (s.protects p).find? (fun t => decide (s.now < t) && decide (t ≤ s.now + s.holdAdvance p)) with
  | none => s
  | some t =>
    let s := s.modPort p (fun r => { r with holdTo := some t })
    let s := match s.inFragment p with
      | some x => (s.creditTo p).cutFragment p x
      | none => s
    s.egrShow p

/-- HOLD_POINT (R199). -/
def execHoldPoint (dt p : Nat) (s : State) : Host.Outcome State Fault Refusal :=
  effect dt (fun s => onlyIf (s.sends p && s.on (Fld.PORT_MM_STAT_TX_ACTIVE p)) (holdPoint p) s) s

/-- GATE_CHANGE (R191): the gates, and the credits up to the change. -/
def execGateChange (dt p : Nat) (s : State) : Host.Outcome State Fault Refusal :=
  effect dt (fun s => onlyIf (s.namesPort p) (fun s => (s.creditTo p).egrShow p) s) s

/-- Whole cycles of a list that lie between two times. -/
def State.cyclesIn (s : State) (p l a b : Nat) : Int :=
  let cyc : Int := s.gclCycle p l
  ((b : Int) - s.gclBaseTime p l) / cyc - (((a : Int) - s.gclBaseTime p l) + cyc - 1) / cyc

/-- Whether class c's head frame has met two whole cycles of its list and fits no window of it (R194). -/
def State.noFit (s : State) (p c : Nat) : Bool :=
  match s.queue p c with
  | [] => false
  | h :: _ =>
    let l := s.governs p h
    let since := max h.seq (kget (s.port p).headAt c 0)
    let len := s.headLen p c
    s.on (Fld.EGR_PORT_CTRL_GCL_EN p) && decide (2 ≤ s.cyclesIn p l (s.now - (s.ticks - since) * tickUnits) s.now) &&
      (s.longestOpen p l c).any (fun w => decide (w < bytesU (s.portMode p) (1 + len + 12)) &&
        !(s.preemptable p c && decide (s.holdAdvance p ≤ w)))

/-- The head frame is discarded as GATE_NO_FIT. -/
def gateNoFit (p c : Nat) (s : State) : State :=
  match s.queue p c with
  | [] => s
  | h :: rest =>
    let s := (s.setQueue p c rest).modPort p (fun r => { r with headAt := kput r.headAt c s.ticks })
    (s.discardHeld h.f p h.cls 0x2B).raise (Fld.EGR_PORT_EVT_GATE_NO_FIT p)

/-- GATE_NO_FIT (R194). -/
def execGateNoFit (dt p c : Nat) (s : State) : Host.Outcome State Fault Refusal :=
  effect dt (fun s => onlyIf (s.namesPort p && decide (c < 8) && s.noFit p c) (gateNoFit p c) s) s

/-- A swap of a port's lists at a trigger: 0 toggles, 1 selects A, 2 selects B. It answers whether it was refused. -/
def State.gclSwap (s : State) (p arg trigger : Nat) : Bool × State :=
  let old := s.gclActive p
  let new := if arg = 0 then 1 - old else arg - 1
  if new = old then (false, s)
  else if !s.listOk p new trigger then (true, s)
  else
    let s := (s.creditTo p).setFld (Fld.EGR_PORT_GCL_CTRL_ACTIVE p) new
    let s := s.raise (Fld.EGR_PORT_GCL_CTRL_RETAIN p)
    (false, (s.modPort p (fun r => { r with oldList := some (old, trigger, s.ticks) })).egrShow p)

/-- A write of 1 to GCL_CTRL.SWAP. -/
def gclSwapWrite (p : Nat) (s : State) : State :=
  let (refused, s) := s.gclSwap p 0 s.now
  if refused then s.raise (Fld.EGR_PORT_EVT_CFG_ERR p) else s

/-- GCL_SWAP_WRITE (R195). -/
def execGclSwapWrite (dt : Nat) (src : Src) (p : Nat) (s : State) : Host.Outcome State Fault Refusal :=
  effect dt (onlyIf (decide (p < 258)) (fun s => s.guarded src (Reg.EGR_PORT_GCL_CTRL p) (gclSwapWrite p))) s

/-- Whether a port's old list governs no queued frame and 100 µs have passed (R196). -/
def State.retentionOver (s : State) (p : Nat) : Bool :=
  match (s.port p).oldList with
  | none => false
  | some (old, _, tick) =>
    decide (tick + 100 * usT ≤ s.ticks) &&
      (List.range 8).all (fun c => (s.queue p c).all (fun h => s.governs p h != old))

/-- GCL_RETENTION_END (R196). -/
def execGclRetentionEnd (dt p : Nat) (s : State) : Host.Outcome State Fault Refusal :=
  effect dt (fun s => onlyIf (s.namesPort p && s.retentionOver p)
    (fun s => (s.modPort p (fun r => { r with oldList := none })).setFld (Fld.EGR_PORT_GCL_CTRL_RETAIN p) 0) s) s

end Sys2Proof.Machine
end

