-- ==== Sys2Proof/Machine/Tcx.lean ====
section
/-!
DEFINITION. Tcx.lean: link phase samples and the timing capability exchange (R222 to R232).
-/
namespace Sys2Proof.Machine

/-! ## Link phase (R222, R223) -/

/-- The phase period P of a lane rate as a fraction of units of 2^-16 ns (R222). -/
def phasePeriod (rate : Nat) : Nat × Nat :=
  match rate with
  | 0 => (524288, 1)
  | 1 => (4194304, 10)
  | 2 => (16777216, 100)
  | 3 => (128 * 65536, 85)
  | _ => (64 * 65536, 85)

/-- Whether a phase lies from 0 to just below P.
(DESIGN CHOICE, log entry 63) -/
def State.phaseOk (s : State) (p x : Nat) : Bool :=
  let (n, d) := phasePeriod (modeRate (s.portMode p))
  decide (x * d < n)

/-- Ticks of a port's averaging interval.
(DESIGN CHOICE, log entry 63) -/
def State.lphTicks (s : State) (p : Nat) : Nat := s.fld (Fld.LPH_CTRL_AVG p) * msT

/-- Whether a calibration run holds a port's samples (R436). -/
def State.calHolds (s : State) (p : Nat) : Bool :=
  s.cal.runs.any (fun r => (r.item == 4 && r.inst == p) || (r.item == 2 && s.portOfLane r.inst == some p))

/-- The flags of a sample whose interval ends now (R88, R97, R223): bit 0 VALID, bit 1 STALE, bit 2 SLIP. -/
def State.lphFlags (s : State) (p : Nat) : Nat :=
  let x := s.port p
  let from1 := s.ticks - s.lphTicks p
  let valid := decide (4 ≤ s.portState p) && decide (x.exchAt ≤ from1) && s.on Fld.TIME_STATUS_TSU_LOCK &&
    decide (s.tsuLockAt ≤ from1)
  let stale := x.staleAt.any (fun t => decide (from1 ≤ t)) || x.ffeAt.any (fun t => decide (from1 ≤ t + msT)) || x.left ||
    s.calHolds p
  (if valid then 1 else 0) + (if stale then 2 else 0) + (if x.slip then 4 else 0)

/-- An averaging interval ends with the phases measured. -/
def linkPhaseSample (p rx tx : Nat) (s : State) : State :=
  let x := s.port p
  let fl := s.lphFlags p
  let (rx, tx) := if s.calHolds p then (x.lph.rx, x.lph.tx) else (rx, tx)
  let l : Lph := { rx := rx, tx := tx, flags := fl, seq := (x.lph.seq + 1) % 2 ^ 16, at_ := s.ticks
                   validAt := if fl % 2 = 1 then s.ticks else x.lph.validAt
                   freshAt := if fl / 2 % 2 = 0 then s.ticks else x.lph.freshAt }
  let s := s.setPort p { x with lph := l, slip := false, tcx := { x.tcx with sampled := true } }
  (s.set (Reg.LPH_RX_PHASE p) (BitVec.ofNat 32 rx)).raise (Fld.LPH_STAT_NEW p)

/-- LINK_PHASE_SAMPLE (R223): with the detector enabled, at the end of each averaging interval. -/
def execLinkPhaseSample (dt p rx tx : Nat) (s : State) : Host.Outcome State Fault Refusal :=
  effect dt (fun s => onlyIf (s.namesPort p && s.dieOn p && s.on (Fld.LPH_CTRL_EN p) && s.phaseOk p rx && s.phaseOk p tx &&
    decide ((s.port p).lph.at_ + s.lphTicks p ≤ s.ticks)) (linkPhaseSample p rx tx) s) s

/-- A read of RX_PHASE latches TX_PHASE and STAT[31:1] of the same sample. -/
def linkPhaseRead (src : Src) (p : Nat) (s : State) : State :=
  let l := (s.port p).lph
  let s := s.set (Reg.LPH_TX_PHASE p) (BitVec.ofNat 32 l.tx)
  let s := ((s.setFld (Fld.LPH_STAT_SEQ p) l.seq).setFld (Fld.LPH_STAT_SLIP p) (l.flags / 4)).setFld
    (Fld.LPH_STAT_STALE p) (l.flags / 2)
  (s.setFld (Fld.LPH_STAT_VALID p) l.flags).emit (.readData src [BitVec.ofNat 32 l.rx])

/-- LINK_PHASE_READ (R222). -/
def execLinkPhaseRead (dt : Nat) (src : Src) (p : Nat) (s : State) : Host.Outcome State Fault Refusal :=
  effect dt (fun s => onlyIf (s.laneExists p) (fun s => s.guarded src (Reg.LPH_RX_PHASE p) (s.portRead src p (linkPhaseRead src p))) s) s

/-! ## The exchange (R226 to R232) -/

/-- The state with a function applied to a port's exchange. -/
def State.modTcx (s : State) (p : Nat) (f : Tcx → Tcx) : State := s.modPort p (fun x => { x with tcx := f x.tcx })

/-- α in units of 2^-48 from its 64 bits. -/
def asymOf (v : Nat) : Int := signed 64 v

/-- Whether α lies within ±0.01 (R225). -/
def asymOk (v : Nat) : Bool := decide ((asymOf v).natAbs * 100 ≤ 2 ^ 48)

/-- Whether two coefficients of one fibre disagree: (1 + α_L)(1 + α_P) differs from 1 by more than 10^-6 (R225). -/
def asymMismatch (a b : Nat) : Bool :=
  decide ((2 : Int) ^ 96 < (((2 ^ 48 + asymOf a) * (2 ^ 48 + asymOf b) - 2 ^ 96).natAbs * 1000000 : Nat))

/-- MISMATCH sets when the coefficients disagree. -/
def State.checkAsym (s : State) (p : Nat) : State :=
  if s.on (Fld.TCX_STAT_PEER_VALID p) && asymMismatch (s.port p).tcx.asym (s.getWide (Reg.TCX_PEER_ASYM0 p) 2) then
    s.raise (Fld.TCX_STAT_MISMATCH p)
  else s

/-- A write of 1 to COMMIT (R232). -/
def tcxCommit (p : Nat) (s : State) : State :=
  let asym := s.getWide (Reg.TCX_ASYM0 p) 2
  if !asymOk asym then s.raise (Fld.TCX_STAT_CFG_ERR p)
  else
    let s := s.modTcx p (fun t => { t with
      cap := s.fld (Fld.TCX_CAP_CAP p), txfix := s.fld (Fld.TCX_TXFIX_TXFIX p), rxfix := s.fld (Fld.TCX_RXFIX_RXFIX p)
      asym := asym, extra := true })
    let s := s.wrapAdd (Fld.TCX_GEN_GEN p) 1
    let s := if s.fld (Fld.TCX_STAT_XSTATE p) = 2 then s.setFld (Fld.TCX_STAT_XSTATE p) 1 else s
    s.checkAsym p

/-- TCX_COMMIT (R232). -/
def execTcxCommit (dt : Nat) (src : Src) (p : Nat) (s : State) : Host.Outcome State Fault Refusal :=
  effect dt (fun s => onlyIf (s.namesPort p) (fun s => s.guarded src (Reg.TCX_CTRL p) (tcxCommit p)) s) s

/-- The die whose CLOCK_ID a port's messages carry. -/
def clockDie (p : Nat) : Nat := if p < 256 then p / 32 else 8

/-- OWN_MAC of a port's Leaf. -/
def State.portMac (s : State) (p : Nat) : Nat := s.ownMac ((s.ownerLeaf p).getD 0)

/-- The address, EtherType, company identifier and protocol of exchange messages (R226). -/
def tcxDa : Nat := 0x0180C200000E
def tcxCid : Nat := 0x9A5CD2

/-- The message a port sends, without its FCS (R226, R227). -/
def State.tcxMessage (s : State) (p : Nat) : List Byte :=
  let x := s.port p
  let t := x.tcx
  let fl := (if t.ack.isSome then 1 else 0) + 2 * x.lph.flags
  beBytes tcxDa 6 ++ beBytes (s.portMac p) 6 ++ beBytes 0x88B7 2 ++ beBytes tcxCid 3 ++ beBytes 0x0101 2 ++
    beBytes 1 1 ++ beBytes 1 1 ++ beBytes 64 2 ++ beBytes t.seq 2 ++ beBytes fl 1 ++
    beBytes (s.fld (Fld.TCX_CTRL_CLAIM_DOM p)) 1 ++ beBytes (t.cap % 32) 4 ++ beBytes (s.fld (Fld.TCX_GEN_GEN p)) 4 ++
    beBytes (t.ack.getD 0) 4 ++ beBytes t.txfix 4 ++ beBytes t.rxfix 4 ++ beBytes t.asym 8 ++ beBytes (s.portClaim p) 2 ++
    beBytes (s.fld (Fld.RESP_PORT_CFG_PORT_NUMBER p)) 2 ++ beBytes (s.getWide (Reg.CLOCK_ID0 (clockDie p)) 2) 8 ++
    beBytes x.lph.rx 4 ++ beBytes x.lph.tx 4 ++ beBytes (s.fld (Fld.LPH_CTRL_AVG p)) 2 ++ zeros 6

/-- Whether a message is due (R228). -/
def State.tcxDue (s : State) (p : Nat) : Bool :=
  let t := (s.port p).tcx
  let past := fun (d : Nat) => match t.sentAt with
    | none => true
    | some at1 => decide (at1 + d ≤ s.ticks)
  t.extra || (if s.fld (Fld.TCX_STAT_XSTATE p) = 2 then
      (if s.on (Fld.TCX_CTRL_PHASE_TX_EN p) then t.sampled else past (s.fld (Fld.TCX_CTRL_PERIOD p) * 10 * msT))
    else past msT)

/-- The message leaves with its SFD at `pos`, as an express frame outside the class queues. -/
def State.tcxTransmit (s : State) (p pos : Nat) : State :=
  let b := s.tcxMessage p
  let at1 := s.physOf pos
  let fl := s.stampFlags p at1 false
  let s := ((s.freeOwed p).countTx p 0 1 pos fl).countTx p 1 (frameLen b) pos fl
  let x : Tx := { c := { f := { bytes := b } }, start := at1, len := frameLen b, ladle := true }
  let s := s.modPort p (fun r => { r with
    cur := some x, freeAt := at1 + bytesD (s.portMode p) (1 + frameLen b + 12)
    wire := some (none, at1, at1 + bytesD (s.portMode p) (1 + frameLen b))
    tcx := { r.tcx with seq := (r.tcx.seq + 1) % 2 ^ 16, sentAt := some s.ticks, extra := false, sampled := false } })
  s.emit (.frame p b 0 pos)

/-- Whether a message of n bytes, an express frame outside the class queues, may start at `pos` under R203. -/
def State.messageFits (s : State) (p pos n : Nat) : Bool :=
  (s.known p).all (fun h => decide (pos + bytesU (s.portMode p) (1 + n + 12 + 8) ≤ h.release))

/-- An opportunity to send a message (R197, R203, R228): a preemptable fragment gives way to one that may start. -/
def tcxSend (p pos : Nat) (s : State) : State :=
  let s := s.creditTo p
  if !s.messageFits p pos 87 then s
  else match s.inFragment p with
    | some t => s.cutFragment p t
    | none => if s.mediumFree p pos then s.tcxTransmit p pos else s

/-- TCX_SEND (R228). -/
def execTcxSend (dt p pos : Nat) (s : State) : Host.Outcome State Fault Refusal :=
  effect dt (fun s => onlyIf (s.namesPort p && decide (4 ≤ s.portState p) && s.on (Fld.TCX_CTRL_EN p) && s.inTick pos &&
    s.tcxDue p) (tcxSend p pos) s) s

/-- Whether a frame is an exchange message: its EtherType, CID and Protocol are those of R226.
(DESIGN CHOICE, log entry 61) -/
def isTcx (b : List Byte) : Bool := beAt b 12 2 == 0x88B7 && beAt b 14 3 == tcxCid && beAt b 17 2 == 0x0101

/-- The thirteen words of the PEER set that a message gives. -/
def peerWords (b : List Byte) : List Nat :=
  [beAt b 31 4, beAt b 27 4, beAt b 39 4, beAt b 43 4, beAt b 51 4, beAt b 47 4,
   byteAt b 26 % 16 * 2 ^ 16 + beAt b 55 2, beAt b 63 4, beAt b 59 4, beAt b 57 2, beAt b 67 4, beAt b 71 4,
   byteAt b 25 / 2 % 8 * 2 ^ 16 + beAt b 75 2]

/-- The words of a set are written to consecutive registers. -/
def State.setWords (s : State) (a : Nat) : List Nat → State
  | [] => s
  | w :: l => (s.set a (BitVec.ofNat 32 w)).setWords (a + 4) l

/-- An accepted message replaces the PEER set; it may complete the exchange (R225, R228 to R230).
(DESIGN CHOICE, log entry 61) -/
def State.tcxAccept (s : State) (p : Nat) (b : List Byte) : State :=
  let gen := beAt b 31 4
  let was := (List.range 13).map (fun i => (s.get (Reg.TCX_PEER_GEN p + 4 * i)).toNat)
  let new := (s.port p).tcx.ack != some gen
  let s := (s.setWords (Reg.TCX_PEER_GEN p) (peerWords b)).raise (Fld.TCX_STAT_PEER_VALID p)
  let s := s.modTcx p (fun t => { t with ack := some gen, acceptedAt := s.ticks, extra := t.extra || new, was := was })
  let done := byteAt b 25 % 2 == 1 && beAt b 35 4 == s.fld (Fld.TCX_GEN_GEN p)
  let s := if done then s.setFld (Fld.TCX_STAT_XSTATE p) 2
    else if s.fld (Fld.TCX_STAT_XSTATE p) = 3 then s.setFld (Fld.TCX_STAT_XSTATE p) 1 else s
  (s.checkAsym p).tryActive p

/-- A received exchange message is accepted, noted for its version, or counted BAD (R229). `full` ends with the FCS. -/
def State.tcxReceive (s : State) (p : Nat) (full : List Byte) (bad : Bool) : State :=
  let body := full.take (full.length - 4)
  if !s.on (Fld.TCX_CTRL_EN p) || !decide (4 ≤ s.portState p) then s
  else if bad || crc32 body != leAt full (full.length - 4) 4 || daOf body != tcxDa then s.bump (Fld.TCX_STAT_BAD p) 1
  else if byteAt body 19 ≠ 1 then s.raise (Fld.TCX_STAT_VERSION_SEEN p)
  else if byteAt body 20 ≠ 1 ∨ beAt body 21 2 < 64 ∨ body.length < 83 then s.bump (Fld.TCX_STAT_BAD p) 1
  else s.tcxAccept p body

/-- No message has been accepted for TIMEOUT (R231).
(DEDUCED, log entry 62) -/
def tcxTimeout (p : Nat) (s : State) : State :=
  (s.setFld (Fld.TCX_STAT_XSTATE p) 3).setFld (Fld.TCX_STAT_PEER_VALID p) 0

/-- Whether a port waits for messages: it holds a peer's values, or exchanges (R231).
(DEDUCED, log entry 62) -/
def State.tcxWaits (s : State) (p : Nat) : Bool :=
  decide (3 ≤ s.portState p) && (s.on (Fld.TCX_STAT_PEER_VALID p) || s.fld (Fld.TCX_STAT_XSTATE p) == 2 ||
    (decide (4 ≤ s.portState p) && s.on (Fld.TCX_CTRL_EN p)))

/-- TCX_PEER_TIMEOUT (R231). -/
def execTcxPeerTimeout (dt p : Nat) (s : State) : Host.Outcome State Fault Refusal :=
  effect dt (fun s => onlyIf (s.namesPort p && s.tcxWaits p &&
    decide (max (s.port p).tcx.acceptedAt (s.port p).exchAt + s.fld (Fld.TCX_CTRL_TIMEOUT p) * 100 * msT ≤ s.ticks))
    (tcxTimeout p) s) s

/-- The PEER set that a read shows: in the cycle of an acceptance, the one before (R229). -/
def State.peerSet (s : State) (p : Nat) : List Word :=
  let t := (s.port p).tcx
  if t.acceptedAt = s.ticks ∧ t.was ≠ [] then t.was.map (fun w => BitVec.ofNat 32 w)
  else (List.range 13).map (fun i => s.get (Reg.TCX_PEER_GEN p + 4 * i))

/-- A read of PEER_GEN latches the rest of the set. -/
def peerRead (src : Src) (p : Nat) (s : State) : State :=
  let a := Reg.TCX_PEER_GEN p
  let l := s.peerSet p
  let s := { s with latched := (List.range 12).foldl (fun m i => kput m (a + 4 + 4 * i) ((l[i + 1]?).getD 0#32)) s.latched }
  s.emit (.readData src [l.headD 0#32])

/-- PEER_READ (R229). -/
def execPeerRead (dt : Nat) (src : Src) (p : Nat) (s : State) : Host.Outcome State Fault Refusal :=
  effect dt (fun s => onlyIf (s.laneExists p) (fun s => s.guarded src (Reg.TCX_PEER_GEN p) (s.portRead src p (peerRead src p))) s) s

end Sys2Proof.Machine
end

