-- ==== Sys2Proof/Machine/Param.lean ====
section
/-!
DEFINITION. Param.lean: the parameter key space (R269, R314, R415, R416, R426 to R431): which keys exist, their widths,
ranges and defaults, and the committed values.
-/
namespace Sys2Proof.Machine

/-- What a parameter's table gives for it; `only` lists the values of an item that takes few. -/
structure ParamSpec where
  wide : Bool := false
  signed : Bool := false
  lo : Int
  hi : Int
  dflt : Int
  only : List Int := []
  deriving DecidableEq, Repr

/-- A 32-bit and a 64-bit item. -/
def p32 (lo hi dflt : Int) : Option ParamSpec := some { lo := lo, hi := hi, dflt := dflt }
def p32s (lo hi dflt : Int) : Option ParamSpec := some { signed := true, lo := lo, hi := hi, dflt := dflt }
def p64 (lo hi dflt : Int) : Option ParamSpec := some { wide := true, lo := lo, hi := hi, dflt := dflt }
def p64s (lo hi dflt : Int) : Option ParamSpec := some { wide := true, signed := true, lo := lo, hi := hi, dflt := dflt }

/-- A key from its class, instance and item (R415). -/
def pkey (cls inst item : Nat) : Nat := cls * 2 ^ 24 + inst * 2 ^ 12 + item
def keyClass (k : Nat) : Nat := k / 2 ^ 24
def keyInst (k : Nat) : Nat := k / 2 ^ 12 % 2 ^ 12
def keyItem (k : Nat) : Nat := k % 2 ^ 12

/-- The DPLL items (R269, R431). -/
def dpllItem (i : Nat) : Option ParamSpec :=
  match i with
  | 0x001 => p32s (-40 * 256) (125 * 256) (25 * 256)
  | 0x002 | 0x003 | 0x004 | 0x005 => p64s (-(2 ^ 62)) (2 ^ 62) 0
  | 0x010 => p64 0 (2 ^ 64 - 1) 0
  | 0x011 | 0x012 => p64s (-(2 ^ 62)) (2 ^ 62) 0
  | 0x013 => p32 1 3650 30
  | 0x014 => p32 0 1 1
  | 0x020 => p32 0 (2 ^ 32 - 1) 2
  | 0x021 => p64 0 140737488355 281475
  | 0x022 => p64 0 (2 ^ 48) 281
  | 0x030 => p32 0 0xFFFF 0
  | _ => none

/-- The GNSS items (R314). -/
def gnssItem (i : Nat) : Option ParamSpec :=
  match i with
  | 0x001 => p32 0 1 1
  | 0x002 => p32 1 0x1F 0x1F
  | 0x003 => p32 0 45 10
  | 0x004 => p32 1 32 4
  | 0x005 => p32 1 1000 30
  | 0x010 => p32 0 1 0
  | 0x011 => p32 600 86400 3600
  | 0x012 | 0x013 | 0x014 => p64s (-(10 ^ 10)) (10 ^ 10) 0
  | 0x020 | 0x021 => p32s (-10000000) 10000000 0
  | 0x022 | 0x023 | 0x024 | 0x025 | 0x026 => p32s (-1000000) 1000000 0
  | 0x030 => p32 0 1 1
  | 0x040 => p32 1 100000 100
  | 0x041 => p32 10 3600 300
  | _ => none

/-- The PTP instance and port items (R426); a default that hangs on the profile is filled in by `paramDefault`. -/
def ptpItem (i : Nat) : Option ParamSpec :=
  match i with
  | 0x001 => p32 0 1 0
  | 0x002 => p32 0 4 0
  | 0x003 => p32 0 255 0
  | 0x004 => p32 0 2 1
  | 0x005 | 0x006 => p32 0 255 128
  | 0x007 => some { lo := 0, hi := 14, dflt := 0, only := [0, 13, 14] }
  | 0x008 => p32 0 1 0
  | 0x010 => p32 0 (2 ^ 32 - 1) 30000
  | 0x011 => p32 0 (2 ^ 32 - 1) 1001
  | 0x012 => p32 0 (2 ^ 32 - 1) 1
  | _ => none
def ptpPortItem (i : Nat) : Option ParamSpec :=
  match i with
  | 0x001 => p32 0 15 0
  | 0x002 => p32s (-7) 1 0
  | 0x003 => p32s (-3) 4 0
  | 0x004 => p32s (-7) 5 0
  | 0x005 => p32 2 10 3
  | 0x006 => p32 0 3 0
  | _ => none

/-- The snooping items (R428). -/
def snoopItem (i : Nat) : Option ParamSpec :=
  match i with
  | 0x001 | 0x002 | 0x005 => p32 0 1 0
  | 0x003 => p32 10 3600 125
  | 0x004 => p32 30 7200 260
  | 0x006 => p32 0 16383 12288
  | 0x007 => p32 0 16384 4096
  | _ => none

/-- The remaining items (R429 to R431). -/
def miscItem (cls inst i : Nat) : Option ParamSpec :=
  if cls = 0x23 then
    if inst = 0xFFF then (if i = 1 then p32 5 3600 30 else if i = 2 then p32 2 10 4 else none)
    else if i = 1 then p32 0 3 3 else none
  else if cls = 0x24 then (if i = 1 ∨ i = 2 then p32 0 (2 ^ 32 - 1) 0 else none)
  else if cls = 0x25 then (if i = 1 then p32 0 1 1 else if i = 2 then p32 10 86400 300 else none)
  else if cls = 0x28 then
    (if i = 1 ∨ i = 3 then p32 0 1 0 else if i = 2 then p32 1500 1000000 1500 else none)
  else if cls = 0x29 then (if inst = 0 ∧ i = 1 then p32 0 (2 ^ 32 - 1) 0x3C7E else none)
  else none

/-- What the tables give for a key; none where it is not defined. -/
def paramSpec (k : Nat) : Option ParamSpec :=
  let inst := keyInst k
  let i := keyItem k
  match keyClass k with
  | 0x07 => if inst ≤ 2 then dpllItem i else none
  | 0x0A => if inst = 0 then gnssItem i else none
  | 0x20 => if inst ≤ 3 then ptpItem i else none
  | 0x21 => if inst < 258 then ptpPortItem i else none
  | 0x22 => if inst = 0 then snoopItem i else none
  | 0x23 => if inst < 258 ∨ inst = 0xFFF then miscItem 0x23 inst i else none
  | 0x24 => if inst < 258 then miscItem 0x24 inst i else none
  | 0x25 => if inst < 8 then miscItem 0x25 inst i else none
  | 0x28 => if inst < 16 then miscItem 0x28 inst i else none
  | 0x29 => miscItem 0x29 inst i
  | _ => none

/-- Whether a key names an absent Leaf or a front-panel port beyond the member (R408). -/
def State.keyAbsent (s : State) (k : Nat) : Bool :=
  let c := keyClass k
  let inst := keyInst k
  ((c == 0x21 || c == 0x23 || c == 0x24) && decide (inst < 258) && !s.namesPort inst) ||
    (c == 0x25 && decide (s.leaves ≤ inst))

/-- Default message rates of a profile: logSync, logAnnounce, logDelayReq (the standards R213 names).
(PRESUMED, log entry 80) -/
def profileRates (profile : Nat) : Int × Int × Int :=
  match profile with
  | 2 => (-3, 0, 0)
  | 3 => (-3, -2, -3)
  | 4 => (-3, 1, 0)
  | _ => (0, 1, 0)

/-- A committed value, if one was committed. -/
def State.committed (s : State) (k : Nat) : Option Int := kfind s.params k

/-- PROFILE of an instance, and the profile of the lowest instance a port is in.
(PRESUMED, log entry 80) -/
def State.ptpProfile (s : State) (i : Nat) : Nat := ((s.committed (pkey 0x20 i 2)).getD 0).toNat
def State.portProfile (s : State) (p : Nat) : Nat :=
  let m := ((s.committed (pkey 0x21 p 1)).getD 0).toNat
  s.ptpProfile (((List.range 4).find? (fun i => m / 2 ^ i % 2 == 1)).getD 0)

/-- The default of a key (R426: some hang on the profile). -/
def State.paramDefault (s : State) (k : Nat) : Int :=
  let inst := keyInst k
  let base := ((paramSpec k).map (fun p => p.dflt)).getD 0
  match keyClass k, keyItem k with
  | 0x20, 0x003 => if s.ptpProfile inst = 3 then 127 else 0
  | 0x20, 0x004 => if s.ptpProfile inst = 2 then 0 else 1
  | 0x21, 0x002 => (profileRates (s.portProfile inst)).1
  | 0x21, 0x003 => (profileRates (s.portProfile inst)).2.1
  | 0x21, 0x004 => (profileRates (s.portProfile inst)).2.2
  | _, _ => base

/-- The committed value of a parameter, or its default. -/
def State.param (s : State) (k : Nat) : Int := (s.committed k).getD (s.paramDefault k)

/-- A parameter that is not signed. -/
def State.paramNat (s : State) (k : Nat) : Nat := (s.param k).toNat

/-- A value as PARAM_STAGE gives it, low and high word, read for its item (R416). -/
def paramValue (p : ParamSpec) (lo hi : Nat) : Int :=
  if p.wide then (if p.signed then signed 64 (lo + 2 ^ 32 * hi) else (lo + 2 ^ 32 * hi : Nat))
  else if p.signed then signed 32 lo else (lo : Nat)

/-- Whether a value lies in its item's range. -/
def ParamSpec.inRange (p : ParamSpec) (v : Int) : Bool :=
  decide (p.lo ≤ v) && decide (v ≤ p.hi) && (p.only.isEmpty || p.only.contains v)

end Sys2Proof.Machine
end

