-- ==== Sys2Proof/Machine/Ref.lean ====
section
/-!
DEFINITION. Ref.lean: the reference slots, the Sieve, the three digital PLLs and holdover (R236 to R269).
-/
namespace Sys2Proof.Machine

/-! ## DPLL bandwidths and words (R253 to R255) -/

/-- DPLL d. -/
def State.dpll (s : State) (d : Nat) : DpllSt := kget s.dplls d {}

/-- The state with a function applied to DPLL d. -/
def State.modDpll (s : State) (d : Nat) (f : DpllSt → DpllSt) : State := { s with dplls := kput s.dplls d (f (s.dpll d)) }

/-- STATE of a DPLL (R251): 0 FREERUN, 1 ACQUIRING, 2 LOCKED, 3 BRIDGING, 4 SWITCHING, 5 HOLDOVER, 6 OPEN, 7 FOLLOW. -/
def State.dstate (s : State) (d : Nat) : Nat := s.fld (Fld.DPLL_STAT_STATE d)

/-- MODE of a DPLL (R250). -/
def State.dmode (s : State) (d : Nat) : Nat := s.fld (Fld.DPLL_CTRL_MODE d)

/-- 10^(j/8) in units of 10^-9. -/
def tenth (j : Nat) : Nat :=
  match j with
  | 0 => 1000000000
  | 1 => 1333521432
  | 2 => 1778279410
  | 3 => 2371373706
  | 4 => 3162277660
  | 5 => 4216965034
  | 6 => 5623413252
  | _ => 7498942093

/-- The bandwidth of code k in 10^-12 Hz (R253). -/
def bandwidth (k : Nat) : Nat := if 53 ≤ k then 4000 * 10 ^ 12 else tenth (k % 8) * 10 ^ (k / 8)

/-- Ticks of 10 / b seconds at code k. -/
def dwellTicks (k : Nat) : Nat := (10 * 10 ^ 12 * secT + bandwidth k - 1) / bandwidth k

/-- Ticks between updates of slot i (R238); none for slot 15. -/
def State.slotTicks (s : State) (i : Nat) : Option Nat :=
  if i < 4 then
    if s.on (Fld.REF_SLOT_CFG_PPS i) then some secT else some (secT / max 1 (min 1000000 (s.fld (Fld.REF_SLOT_NOMINAL_HZ i))))
  else if i < 12 then some (s.lphTicks (s.fld (Fld.REF_SLOT_CFG_PORT i)))
  else if i = 12 then some secT
  else if i < 15 then some (kget s.slotEvery i secT)
  else none

/-- The widest code a slot's update rate allows (R254). -/
def State.codeLimit (s : State) (i : Nat) : Nat :=
  match s.slotTicks i with
  | none => 53
  | some t => ((List.range 54).reverse.find? (fun k => decide (bandwidth k * 10 * t ≤ secT * 10 ^ 12))).getD 0

/-- The selected slot of a DPLL. -/
def State.selected (s : State) (d : Nat) : Option Nat :=
  if s.on (Fld.DPLL_STAT_SEL_VALID d) then some (s.fld (Fld.DPLL_STAT_SELECTED d)) else none

/-- The code in use follows the profile and the selected slot's limit. -/
def State.showBw (s : State) (d : Nat) : State :=
  let prof := (s.dpll d).profile
  let lim := match s.selected d with
    | some i => s.codeLimit i
    | none => 53
  (s.setFld (Fld.DPLL_STAT_BW_NOW d) (min prof lim)).setBit (Fld.DPLL_STAT_BW_LIMITED d) (decide (lim < prof))

/-- The codes in use follow a changed update rate (R254). -/
def State.showBws (s : State) : State :=
  s.forAll [0, 1, 2] (fun d s => if (s.selected d).isSome then s.showBw d else s)

/-- y_m of a temperature (R262), in 2^-48. -/
def State.tempModel (s : State) (d : Nat) (t : Int) : Int :=
  let x := t - s.param (pkey 7 d 1)
  let c := fun i => s.param (pkey 7 d (1 + i))
  (c 1 * x * 2 ^ 24 + c 2 * x ^ 2 * 2 ^ 16 + c 3 * x ^ 3 * 2 ^ 8 + c 4 * x ^ 4) / 2 ^ 32

/-- The day's sum for the ageing fit goes up to now, with the word and the temperature in use until now (R264). -/
def State.ageNote (s : State) : State :=
  let x := s.dpll 0
  let n := s.ticks - s.age.noted
  let y := (x.temps.head?).elim 0 (fun e => s.tempModel 0 e.2)
  let a := match x.hist with
    | h :: _ => if h.locked then { s.age with sum := s.age.sum + (h.word - y) * n, span := s.age.span + n } else s.age
    | [] => s.age
  { s with age := { a with noted := s.ticks } }

/-- FREQ_CLAMP in units of 2^-48. -/
def State.clampWord (s : State) (d : Nat) : Int := (s.fld (Fld.DPLL_CLAMP_FREQ_CLAMP d) * 2 ^ 48 / 1000000 : Nat)

/-- The history takes the word in use and whether the DPLL is LOCKED; what is older than 10,002 s is dropped. -/
def State.noteWord (s : State) (d : Nat) : State :=
  let s := if d = 0 then s.ageNote else s
  let w := signed 64 (s.getWide (Reg.DPLL_FREQ_NOW0 d) 2)
  let locked := s.dstate d == 2
  let old := s.ticks - 10002 * secT
  s.modDpll d (fun x => match x.hist with
    | [] => { x with hist := [⟨s.ticks, w, locked⟩] }
    | h :: l =>
      if h.word = w ∧ h.locked = locked then x
      else
        let keep := (h :: l).takeWhile (fun e => decide (old < e.at_))
        let rest := ((h :: l).drop keep.length).take 1
        { x with hist := ⟨s.ticks, w, locked⟩ :: (keep ++ rest) })

/-- A word is applied at one DPLL, limited to its clamp (R255). -/
def State.applyOne (s : State) (d : Nat) (w : Int) : State :=
  let c := s.clampWord d
  let v := max (-c) (min c w)
  let s := (s.setWide (Reg.DPLL_FREQ_NOW0 d) 2 (unsigned 64 v)).setBit (Fld.DPLL_STAT_CLAMPED d) (decide (v ≠ w))
  (if v = w then s else s.raise (Fld.DPLL_EVT_CLAMPED d)).noteWord d

/-- What an open-loop slew adds to the word (R249): a tracking loop holds it in its own word.
(DESIGN CHOICE, log entry 77) -/
def State.slewRate (s : State) (d : Nat) : Int :=
  let x := (s.dpll d).slew
  let r : Int := (s.fld (Fld.DPLL_SLEW_MAX_PPB d) * 2 ^ 48 / 1000000000 : Nat)
  if s.dstate d = 1 ∨ s.dstate d = 2 ∨ x = 0 then 0 else if 0 < x then r else -r

/-- A DPLL's own word is applied with what a slew adds. -/
def State.applyBase (s : State) (d : Nat) (w : Int) : State :=
  (s.modDpll d (fun x => { x with base := w })).applyOne d (w + s.slewRate d)

/-- A word is applied; the DPLLs that follow DPLL-T take it in the same cycle, each with its own slew (R256, R260). -/
def State.applyWord (s : State) (d : Nat) (w : Int) : State :=
  let s := s.applyBase d w
  if d ≠ 0 then s
  else
    let now := s.steer
    s.forAll [1, 2] (fun e s => if s.dstate e = 7 then s.applyBase e now else s)

/-! ## Holdover (R261 to R266) -/

/-- Sum and span, in ticks, of the words applied LOCKED between two ticks; the spans are newest first. -/
def lockedSum (a b : Nat) : List WordSpan → Nat → Int × Nat
  | [], _ => (0, 0)
  | h :: l, till =>
    let n := overlapU a b h.at_ till
    let (v, t) := lockedSum a b l h.at_
    if h.locked then (v + h.word * n, t + n) else (v, t)

/-- w_avg over the window that ends 1 s before now, when it holds at least 10 s of LOCKED words. -/
def State.wordMean (s : State) (d : Nat) : Option Int :=
  let b := s.ticks - secT
  let a := b - s.fld (Fld.DPLL_HO_CFG_HO_AVG d) * secT
  let (v, t) := lockedSum a b (s.dpll d).hist s.ticks
  if 10 * secT ≤ t then some (v / t) else none

/-- The mean of y_m between two ticks; the temperatures are newest first. -/
def State.tempMean (s : State) (d a b : Nat) : Int :=
  let go := (s.dpll d).temps.foldl (fun (r : Int × Nat × Nat) e =>
    let n := overlapU a b e.1 r.2.2
    (r.1 + s.tempModel d e.2 * n, r.2.1 + n, e.1)) (0, 0, s.ticks)
  if go.2.1 = 0 then ((s.dpll d).temps.head?).elim 0 (fun e => s.tempModel d e.2) else go.1 / go.2.1

/-- Twice the area tangent of z / 2^80, in units of 2^-80, by its series: n terms from the power of z with exponent k on. -/
def atanhSum (z2 : Nat) : Nat → Nat → Nat → Nat
  | 0, _, _ => 0
  | n + 1, k, power => 2 * power / k + atanhSum z2 n (k + 2) (power * z2 / 2 ^ 80)

/-- ln(n/d) in units of 2^-80, for d ≤ n < 2d. -/
def lnBelow2 (n d : Nat) : Nat :=
  let z := (n - d) * 2 ^ 80 / (n + d)
  atanhSum (z * z / 2 ^ 80) 26 1 z

/-- ln(n/d) in units of 2^-80. -/
def lnRatio (n d : Nat) : Int :=
  let up := fun (a b : Nat) => let k := Nat.log2 (a / b); k * lnBelow2 2 1 + lnBelow2 a (b * 2 ^ k)
  if d ≤ n then (up n d : Int) else -(up d n : Int)

/-- The mean of ln(1 + t/τ) over the seconds from a to b, in units of 2^-80: by its integral, or its value where they are one.
(DESIGN CHOICE, log entry 11) -/
def lnMean (tau : Nat) (a b : Int) : Int :=
  let t : Int := tau * 86400
  let at1 := fun (x : Int) => lnRatio (t + x).toNat t.toNat
  if t + a ≤ 0 ∨ t + b ≤ 0 then Config.lnMean tau a b
  else if a = b then at1 a
  else ((t + b) * at1 b - (t + a) * at1 a) / (b - a) - 2 ^ 80

/-- The mean of y_a between two ticks (R262), in 2^-48: t counts days since AGE_EPOCH. -/
def State.ageMean (s : State) (d a b : Nat) : Int :=
  let at1 := fun (t : Nat) => ((s.now - (s.ticks - t) * tickUnits) / secU : Nat) - s.param (pkey 7 d 0x10)
  let (ta, tb) := (at1 a, at1 b)
  s.param (pkey 7 d 0x11) * (ta + tb) / (2 * 86400) +
    s.param (pkey 7 d 0x12) * lnMean (s.paramNat (pkey 7 d 0x13)) ta tb / 2 ^ 80

/-- w(t) of R262; a disabled term counts as 0.
(DESIGN CHOICE, log entry 75) -/
def State.holdWord (s : State) (d : Nat) : Int :=
  let x := s.dpll d
  let m := if s.on (Fld.DPLL_HO_CFG_MODEL_EN d) then
      (x.temps.head?).elim 0 (fun e => s.tempModel d e.2 - s.tempMean d x.hoFrom x.hoTo) else 0
  let a := if s.on (Fld.DPLL_HO_CFG_AGE_EN d) then s.ageMean d s.ticks s.ticks - s.ageMean d x.hoFrom x.hoTo else 0
  x.hoAvg - m - a

/-- The DPLL goes on at the holdover frequency from now (R261).
(DESIGN CHOICE, log entry 75) -/
def State.holdFreq (s : State) (d : Nat) : State :=
  let b := s.ticks - secT
  let a := b - s.fld (Fld.DPLL_HO_CFG_HO_AVG d) * secT
  match s.wordMean d with
  | none => s.setFld (Fld.DPLL_STAT_HO_READY d) 0
  | some w =>
    let s := (s.raise (Fld.DPLL_STAT_HO_READY d)).modDpll d (fun x => { x with hoAvg := w, hoFrom := a, hoTo := b })
    s.applyWord d (s.holdWord d)

/-- B(t) times 2^49 (R266). -/
def State.boundScaled (s : State) (d t : Nat) : Nat :=
  s.paramNat (pkey 7 d 0x20) * 2 ^ 49 + 2 * s.paramNat (pkey 7 d 0x21) * t * 10 ^ 9 +
    s.paramNat (pkey 7 d 0x22) * t ^ 2 * 10 ^ 9

/-- HO_TIME and HO_BOUND after t seconds; EVT.HO_LIMIT when the bound first exceeds HO_LIMIT (R266). -/
def State.showBound (s : State) (d t : Nat) : State :=
  let b := s.boundScaled d t
  let s := (s.setFld (Fld.DPLL_HO_TIME_S d) (sat 32 t)).setFld (Fld.DPLL_HO_BOUND_NS d) (sat 32 (b / 2 ^ 49))
  let s := s.modDpll d (fun x => { x with hoDone := t })
  if s.fld (Fld.DPLL_HO_LIMIT_NS d) * 2 ^ 49 < b && !(s.dpll d).hoOver then
    (s.modDpll d (fun x => { x with hoOver := true })).raise (Fld.DPLL_EVT_HO_LIMIT d)
  else s

/-- A DPLL enters a state: EVT.STATE, the holdover frequency, HO_TIME and HO_BOUND follow it; they run until the DPLL tracks a
reference (R246, R247, R261, R266). -/
def State.setDstate (s : State) (d st : Nat) : State :=
  let old := s.dstate d
  if old = st then s
  else
    let held := fun n => n == 3 || n == 4 || n == 5
    let s := ((s.setFld (Fld.DPLL_STAT_STATE d) st).raise (Fld.DPLL_EVT_STATE d)).noteWord d
    let s := if held st && !held old then s.holdFreq d else s
    if (st = 3 ∨ st = 5) ∧ (s.dpll d).hoAt = none then
      (s.modDpll d (fun x => { x with hoAt := some s.ticks, hoOver := false })).showBound d 0
    else if st = 1 ∨ st = 2 then s.modDpll d (fun x => { x with hoAt := none })
    else s

/-- SELECTED changes. -/
def State.select (s : State) (d : Nat) (slot : Option Nat) : State :=
  let t := match slot with
    | some i => (s.setFld (Fld.DPLL_STAT_SELECTED d) i).raise (Fld.DPLL_STAT_SEL_VALID d)
    | none => (s.setFld (Fld.DPLL_STAT_SELECTED d) 0).setFld (Fld.DPLL_STAT_SEL_VALID d) 0
  if s.selected d = slot then t else t.raise (Fld.DPLL_EVT_SWITCH d)

/-- HOLDOVER with no slot selected. -/
def State.enterHoldover (s : State) (d : Nat) : State :=
  (((s.select d none).setFld (Fld.DPLL_STAT_RETURN_PENDING d) 0).modDpll d (fun x => { x with rstep := none })).setDstate d 5

/-- ACQUIRING, with the profile begun afresh (R253). -/
def State.acquire (s : State) (d : Nat) : State :=
  let s := s.setDstate d 1
  let k := max 40 (s.fld (Fld.DPLL_CTRL_BW d))
  (s.modDpll d (fun x => { x with profile := k, dwellAt := s.ticks, inSince := none, outSince := none })).showBw d

/-- A DPLL begins to follow a slot: slot 15 puts it in OPEN at once, any other through a switch; a return step that waits for
another slot is dropped (R247, R250, R267). -/
def State.beginSwitch (s : State) (d i : Nat) : State :=
  let s := ((s.select d (some i)).setFld (Fld.DPLL_STAT_RETURN_PENDING d) 0).modDpll d (fun x => { x with rstep := none })
  if i = 15 then s.setDstate d 6
  else ((s.setDstate d 4).modDpll d (fun x => { x with switchAt := s.ticks })).showBw d

/-! ## Slots -/

/-- STATE of a slot (R241): 0 DISABLED, 1 QUALIFIED, 2 HOLDOFF, 3 FAILED, 4 RESTORING. -/
def State.slotState (s : State) (i : Nat) : Nat := s.fld (Fld.REF_SLOT_STAT_STATE i)

/-- Whether a slot has a fault: an activity fault or a frequency fault. -/
def State.slotFault (s : State) (i : Nat) : Bool := s.on (Fld.REF_SLOT_STAT_ACT_FAULT i) || s.on (Fld.REF_SLOT_STAT_FREQ_FAULT i)

/-- Whether a pair still marks slot i: it has not yet stayed within PAIR_LIMIT for that slot's WTR (R242).
(DEDUCED, log entry 144) -/
def State.pairMarks (s : State) (p : Pair) (i : Nat) : Bool :=
  (p.a == i || p.b == i) && !p.within.any (fun t => decide (t + s.fld (Fld.REF_SLOT_TIMERS_WTR i) * secT ≤ s.ticks))

/-- DISPUTED and MAJORITY follow the pairs; MAJORITY clears with DISPUTED.
(DEDUCED, log entry 144) -/
def State.showPairs (s : State) : State :=
  s.forAll (List.range 16) (fun i s =>
    let bad := s.pairs.any (fun p => s.pairMarks p i)
    let s := if bad && !s.on (Fld.REF_SLOT_STAT_DISPUTED i) then s.raise Fld.REF_EVT_DISPUTE else s
    let maj := bad && s.on (Fld.REF_SLOT_STAT_MAJORITY i)
    let s := (s.setBit (Fld.REF_SLOT_STAT_DISPUTED i) bad).setBit (Fld.REF_SLOT_STAT_MAJORITY i) maj
    (s.setFldBit Fld.REF_DISPUTE_DISPUTED i bad).setFldBit Fld.REF_DISPUTE_MAJORITY i maj)

/-- What a change of its selected slot's state does to a DPLL (R246, R247, R267). -/
def State.dpllOnSlot (s : State) (d i new : Nat) : State :=
  let s := if new ≠ 1 ∧ (s.dpll d).avoid = some i then s.modDpll d (fun x => { x with avoid := none }) else s
  if s.selected d ≠ some i then s
  else match s.dstate d with
    | 1 | 2 => if new = 2 then (s.modDpll d (fun x => { x with prev := s.dstate d })).setDstate d 3 else s
    | 3 => if new = 1 then s.setDstate d (s.dpll d).prev else s
    | 4 => if new = 1 then s else s.enterHoldover d
    | 5 => if new = 1 then s else s.enterHoldover d
    | _ => s

/-- A slot enters a state (R241): its timers, its pairs and the DPLLs follow. -/
def State.setSlot (s : State) (i st : Nat) : State :=
  if s.slotState i = st then s
  else
    let s := (s.setFld (Fld.REF_SLOT_STAT_STATE i) st).setFldBit Fld.REF_EVT_SLOT i true
    let hold := s.fld (Fld.REF_SLOT_TIMERS_HOLDOFF i) * 100 * msT
    let s := (s.stopTimer .slotHold i).stopTimer .slotRestore i
    let s := if st = 2 then s.startTimer .slotHold i hold
      else if st = 4 then s.startTimer .slotRestore i (hold + s.fld (Fld.REF_SLOT_TIMERS_WTR i) * secT) else s
    let s := if st = 1 then s
      else { s with pairs := s.pairs.filter (fun p => p.a != i && p.b != i) }.showPairs
    s.forAll [0, 1, 2] (fun d s => s.dpllOnSlot d i st)

/-- A slot follows its faults and R46 by the transition table of R241. -/
def State.slotFollow (s : State) (i : Nat) : State :=
  let fault := s.slotFault i
  let forced := s.on (Fld.REF_SLOT_STAT_FORCED_OUT i)
  match s.slotState i with
  | 0 => s
  | 1 => if forced then s.setSlot i 3
    else if fault then s.setSlot i (if s.fld (Fld.REF_SLOT_TIMERS_HOLDOFF i) = 0 then 3 else 2) else s
  | 2 => if forced then s.setSlot i 3 else if fault then s else s.setSlot i 1
  | 3 => if forced || fault then s else s.setSlot i 4
  | _ => if forced || fault then s.setSlot i 3 else s

/-- Whether R46 disqualifies a slot: a link slot bound to a port of a Leaf not in service. -/
def State.slotForced (s : State) (i : Nat) : Bool :=
  let p := s.fld (Fld.REF_SLOT_CFG_PORT i)
  decide (4 ≤ i) && decide (i < 12) && s.on (Fld.REF_SLOT_CFG_EN i) && decide (p < 256) && !s.inService (p / 32)

/-- The Sieve follows the Leaves' states (R46). -/
def State.sieveLeaves (s : State) : State :=
  s.forAll (List.range 16) (fun i s => (s.setBit (Fld.REF_SLOT_STAT_FORCED_OUT i) (s.slotForced i)).slotFollow i)

/-- The edges of an input slot. -/
def State.edges (s : State) (i : Nat) : InEdges := kget s.slotEdges i {}

/-- Whether an input slot's edges stop for ACT_MISS nominal periods before a tick: in pulse mode, whether the windows of
ACT_MISS expected edges have closed without one (R238). -/
def State.edgeGap (s : State) (i : Nat) (e : InEdges) (t : Nat) : Bool :=
  let miss := s.fld (Fld.REF_SLOT_TIMERS_ACT_MISS i)
  if s.on (Fld.REF_SLOT_CFG_PPS i) then decide (e.last + miss * secT + 8000 < t)
  else decide (miss * secT ≤ (t - e.last) * max 1 (s.fld (Fld.REF_SLOT_NOMINAL_HZ i)))

/-- Whether an edge at a tick lies within ±10 µs of where the edge at `last` lets one be expected (R238). -/
def edgeExpected (last t : Nat) : Bool := decide (last + secT ≤ t + 8000) && decide ((t + 8000 - last) % secT ≤ 16000)

/-- A run of edges from one tick to another reaches an input slot: with no gap it goes on with the last one. In pulse mode a run
is one edge, and an edge where none is expected is ignored (R238). -/
def State.takeRun (s : State) (i : Nat) (e : InEdges) (r : Nat × Nat) : InEdges :=
  let pps := s.on (Fld.REF_SLOT_CFG_PPS i)
  let last := if pps then r.1 else r.2
  if r.1 < e.last ∨ r.2 < r.1 ∨ s.ticks < r.2 then e
  else if s.edgeGap i e r.1 then { run := r.1, last := last }
  else if pps && !edgeExpected e.last r.1 then e
  else { e with last := last }

/-- The edges an input slot took are noted. -/
def State.takeEdges (s : State) (i : Nat) (runs : List (Nat × Nat)) : State :=
  if 4 ≤ i then s else { s with slotEdges := kput s.slotEdges i (runs.foldl (s.takeRun i) (s.edges i)) }

/-- Whether a slot meets its activity-fault condition (R238). -/
def State.actFault (s : State) (i : Nat) : Bool :=
  let miss := s.fld (Fld.REF_SLOT_TIMERS_ACT_MISS i)
  if i < 4 then s.edgeGap i (s.edges i) s.ticks
  else if i < 12 then
    let p := s.fld (Fld.REF_SLOT_CFG_PORT i)
    let l := (s.port p).lph
    !s.namesPort p || s.portState p != 5 || s.fld (Fld.TCX_STAT_XSTATE p) != 2 ||
      decide (l.validAt + miss * s.lphTicks p ≤ s.ticks) || decide (l.freshAt + 10 * secT ≤ s.ticks)
  else decide (i < 15) && decide (kget s.slotHeard i 0 + miss * (s.slotTicks i).getD secT ≤ s.ticks)

/-- Whether an activity fault ends: its condition no longer holds, and on an input slot edges have arrived since, for 1 s in
frequency mode and in their window in pulse mode (R238). -/
def State.actOver (s : State) (i : Nat) : Bool :=
  let e := s.edges i
  !s.actFault i && (decide (4 ≤ i) ||
    (if s.on (Fld.REF_SLOT_CFG_PPS i) then decide (e.run < e.last) else decide (e.run + secT ≤ s.ticks)))

/-- Whether a write of CFG is discarded (R237).
(DESIGN CHOICE, log entry 71) -/
def State.slotCfgBad (s : State) (i : Nat) (w : Word) : Bool :=
  let en := s.on (Fld.REF_SLOT_CFG_EN i)
  let link := decide (4 ≤ i) && decide (i < 12)
  let port := bitsOf w 0 9
  let moved := link && port != s.fld (Fld.REF_SLOT_CFG_PORT i)
  let pps := decide (i < 4) && bitsOf w 16 1 != s.fld (Fld.REF_SLOT_CFG_PPS i)
  let rise := bitsOf w 31 1 == 1 && !en
  (en && (moved || pps)) || (link && (moved || rise) && !s.namesPort port)

/-- The edges of an input slot as its enabling finds them: present, or none. -/
def State.freshEdges (s : State) (i : Nat) (fault : Bool) : State :=
  if 4 ≤ i then s
  else { s with slotEdges := kput s.slotEdges i { run := s.ticks, last := if fault then 0 else s.ticks } }

/-- A write of SLOT[i].CFG (R237, R241): `fault` says whether an input slot enabled by it has an activity fault.
(DESIGN CHOICE, log entry 71) -/
def slotCfgWrite (i : Nat) (w : Word) (fault : Bool) (s : State) : State :=
  if s.slotCfgBad i w then s.raise Fld.REF_EVT_CFG_ERR
  else
    let en := s.on (Fld.REF_SLOT_CFG_EN i)
    let new := bitsOf w 31 1 == 1
    let s := s.set (Reg.REF_SLOT_CFG i) (w &&& 0x8F0111FF#32)
    let s := if en && !new then
        let s := ((s.setFld (Fld.REF_SLOT_STAT_ACT_FAULT i) 0).setFld (Fld.REF_SLOT_STAT_FREQ_FAULT i) 0).setFld
          (Fld.REF_SLOT_STAT_FOFF_VALID i) 0
        (s.setFld (Fld.REF_SLOT_STAT_FORCED_OUT i) 0).setSlot i 0
      else if !en && new then
        let s := (s.freshEdges i fault).setBit (Fld.REF_SLOT_STAT_ACT_FAULT i) (if i < 4 then fault else s.actFault i)
        let s := s.setBit (Fld.REF_SLOT_STAT_FORCED_OUT i) (s.slotForced i)
        if i = 15 then s.setSlot i 1
        else s.setSlot i (if s.slotFault i || s.on (Fld.REF_SLOT_STAT_FORCED_OUT i) then 3 else 4)
      else s
    if bitsOf w 30 1 = 1 ∧ s.slotState i = 4 then s.setSlot i 1 else s

/-- REF_SLOT_CFG_WRITE (R237). -/
def execRefSlotCfgWrite (dt : Nat) (src : Src) (i : Nat) (w : Word) (fault : Bool) (s : State) :
    Host.Outcome State Fault Refusal :=
  effect dt (onlyIf (decide (i < 16)) (fun s => s.guarded src (Reg.REF_SLOT_CFG i) (slotCfgWrite i w fault))) s

/-- FORCE_QUAL (R241). -/
def execForceQual (dt : Nat) (src : Src) (i : Nat) (s : State) : Host.Outcome State Fault Refusal :=
  effect dt (onlyIf (decide (i < 16)) (fun s => s.guarded src (Reg.REF_SLOT_CFG i)
    (fun s => if s.slotState i = 4 then s.setSlot i 1 else s))) s

/-- An input slot's edges are noted; then its fault sets where they fail. -/
def activityFault (i : Nat) (s : State) : State :=
  if s.actFault i then ((s.raise (Fld.REF_SLOT_STAT_ACT_FAULT i)).setFld (Fld.REF_SLOT_STAT_FOFF_VALID i) 0).slotFollow i else s

/-- ACTIVITY_FAULT (R238): an input slot's edges fail, or a slot meets the condition its sources show. -/
def execActivityFault (dt : Nat) (e : Edges) (s : State) : Host.Outcome State Fault Refusal :=
  effect dt (fun s => onlyIf (decide (e.slot < 15) && s.on (Fld.REF_SLOT_CFG_EN e.slot))
    (fun s => activityFault e.slot (s.takeEdges e.slot e.runs)) s) s

/-- A slot's activity fault ends where its condition does. -/
def activityFaultClear (i : Nat) (s : State) : State :=
  if s.actOver i then (s.setFld (Fld.REF_SLOT_STAT_ACT_FAULT i) 0).slotFollow i else s

/-- ACTIVITY_FAULT_CLEAR (R238). -/
def execActivityFaultClear (dt : Nat) (e : Edges) (s : State) : Host.Outcome State Fault Refusal :=
  effect dt (fun s => onlyIf (decide (e.slot < 15) && s.on (Fld.REF_SLOT_CFG_EN e.slot))
    (fun s => activityFaultClear e.slot (s.takeEdges e.slot e.runs)) s) s

/-- HOLDOFF_EXPIRY (R241). -/
def execHoldoffExpiry (dt i : Nat) (s : State) : Host.Outcome State Fault Refusal :=
  effect dt (fun s => onlyIf (decide (i < 16) && s.slotState i == 2 && s.due .slotHold i) (fun s => s.setSlot i 3) s) s

/-- RESTORE_EXPIRY (R241). -/
def execRestoreExpiry (dt i : Nat) (s : State) : Host.Outcome State Fault Refusal :=
  effect dt (fun s => onlyIf (decide (i < 16) && s.slotState i == 4 && s.due .slotRestore i) (fun s => s.setSlot i 1) s) s

/-! ## Frequency readings, disputes and majority (R240, R242, R243) -/

/-- The reading of one slot: FOFF and its frequency fault. -/
def State.slotReading (s : State) (i : Nat) (ppb : Int) : State :=
  if !s.on (Fld.REF_SLOT_CFG_EN i) || s.on (Fld.REF_SLOT_STAT_ACT_FAULT i) then s
  else
    let s := (s.setFld (Fld.REF_SLOT_FOFF_PPB i) (unsigned 32 ppb)).raise (Fld.REF_SLOT_STAT_FOFF_VALID i)
    let s := if s.fld (Fld.REF_SLOT_LIMITS_REJECT i) * 10 < ppb.natAbs then s.raise (Fld.REF_SLOT_STAT_FREQ_FAULT i)
      else if ppb.natAbs ≤ s.fld (Fld.REF_SLOT_LIMITS_ACCEPT i) * 10 then s.setFld (Fld.REF_SLOT_STAT_FREQ_FAULT i) 0
      else s
    s.slotFollow i

/-- FOFF of a slot. -/
def State.foff (s : State) (i : Nat) : Int := s.fldInt (Fld.REF_SLOT_FOFF_PPB i)

/-- Whether two slots' readings differ by more than PAIR_LIMIT. -/
def State.apart (s : State) (a b : Nat) : Bool := decide (s.fld Fld.REF_CFG_PAIR_LIMIT * 10 < (s.foff a - s.foff b).natAbs)

/-- Whether a slot takes part in disputes: QUALIFIED and not slot 15. -/
def State.disputes (s : State) (i : Nat) : Bool := decide (i < 15) && s.slotState i == 1

/-- The pairs after a reading: new ones are marked, old ones time how long they stay within PAIR_LIMIT (R242). -/
def State.pairsAfter (s : State) : List Pair :=
  let old := s.pairs.map (fun p =>
    if s.apart p.a p.b then { p with within := none } else { p with within := some (p.within.getD s.ticks) })
  let old := old.filter (fun p => s.pairMarks p p.a || s.pairMarks p p.b)
  let new := (List.range 15).flatMap (fun a => (List.range 15).filterMap (fun b =>
    if a < b ∧ s.disputes a ∧ s.disputes b ∧ s.fld (Fld.REF_SLOT_CFG_RANK a) = s.fld (Fld.REF_SLOT_CFG_RANK b) ∧
      s.apart a b ∧ !(s.pairs.any (fun p => p.a == a && p.b == b)) then some { a := a, b := b } else none))
  old ++ new

/-- How many QUALIFIED, undisputed slots lie within PAIR_LIMIT of a slot (R243). -/
def State.backers (s : State) (i : Nat) : Nat :=
  ((List.range 15).filter (fun j =>
    s.disputes j && !s.on (Fld.REF_SLOT_STAT_DISPUTED j) && !s.apart i j)).length

/-- MAJORITY is decided at each reading (R243). -/
def State.decideMajority (s : State) : State :=
  s.forAll (List.range 15) (fun i s =>
    let foes := s.pairs.filterMap (fun p => if p.a = i then some p.b else if p.b = i then some p.a else none)
    let maj := s.on (Fld.REF_SLOT_STAT_DISPUTED i) && !foes.isEmpty && foes.all (fun j => decide (s.backers j < s.backers i))
    (s.setBit (Fld.REF_SLOT_STAT_MAJORITY i) maj).setFldBit Fld.REF_DISPUTE_MAJORITY i maj)

/-- The readings of one second.
(DESIGN CHOICE, log entry 74) -/
def frequencyReading (foffs : List Int) (s : State) : State :=
  let s := s.forAll (List.range 15) (fun i s => match foffs[i]? with
    | some v => s.slotReading i v
    | none => s)
  { s with pairs := s.pairsAfter, refAt := s.ticks }.showPairs.decideMajority

/-- FREQUENCY_READING (R240): `foffs` holds the measured offset of each slot in ppb. -/
def execFrequencyReading (dt : Nat) (foffs : List Int) (s : State) : Host.Outcome State Fault Refusal :=
  effect dt (fun s => onlyIf (s.powered && decide (s.refAt + secT ≤ s.ticks)) (frequencyReading foffs) s) s

/-! ## Selection (R244, R245) -/

/-- Whether a slot is eligible for a DPLL (R244). -/
def State.slotEligible (s : State) (d i : Nat) : Bool :=
  s.fldBit (Fld.DPLL_CAND_MASK d) i && s.slotState i == 1 && (s.dpll d).avoid != some i &&
    (!s.on (Fld.REF_SLOT_STAT_DISPUTED i) || s.on (Fld.REF_SLOT_STAT_MAJORITY i) || s.selected d == some i)

/-- The order of slots: by RANK, then by number.
(DESIGN CHOICE, log entry 72) -/
def State.slotKey (s : State) (i : Nat) : Nat := 16 * s.fld (Fld.REF_SLOT_CFG_RANK i) + i

/-- The best eligible slot of a DPLL.
(DESIGN CHOICE, log entry 72) -/
def State.bestSlot (s : State) (d : Nat) : Option Nat :=
  (List.range 16).foldl (fun r i =>
    if !s.slotEligible d i then r
    else match r with
      | none => some i
      | some b => if s.slotKey i < s.slotKey b then some i else r) none

/-- Whether a disputed pair without MAJORITY keeps a DPLL from selecting a new slot (R245). -/
def State.pairBlocks (s : State) (d : Nat) : Bool :=
  s.pairs.any (fun p =>
    !s.on (Fld.REF_SLOT_STAT_MAJORITY p.a) && !s.on (Fld.REF_SLOT_STAT_MAJORITY p.b) &&
    (s.fldBit (Fld.DPLL_CAND_MASK d) p.a || s.fldBit (Fld.DPLL_CAND_MASK d) p.b) &&
    (match s.selected d with
     | some i => decide (s.fld (Fld.REF_SLOT_CFG_RANK p.a) < s.fld (Fld.REF_SLOT_CFG_RANK i))
     | none => true))

/-- A DPLL in AUTO or MIXED re-evaluates (R244, R245). -/
def State.reevaluateAuto (s : State) (d : Nat) : State :=
  let cur := s.selected d
  let s := if s.pairBlocks d then s.raise (Fld.DPLL_EVT_STATE d) else s
  match cur with
  | some i =>
    if s.slotEligible d i then
      match s.bestSlot d with
      | some b =>
        let pending := s.on (Fld.DPLL_STAT_RETURN_PENDING d)
        if s.slotKey b < s.slotKey i && !s.pairBlocks d && (s.on (Fld.DPLL_CTRL_REVERTIVE d) || pending) then s.beginSwitch d b
        else s
      | none => s
    else
      let t := s.select d none
      match (if s.pairBlocks d then none else t.bestSlot d) with
      | some b => t.beginSwitch d b
      | none => s.enterHoldover d
  | none =>
    if s.pairBlocks d then (if s.dstate d = 5 then s else s.enterHoldover d)
    else match s.bestSlot d with
    | some b => s.beginSwitch d b
    | none => s

/-- A DPLL in FORCED follows FORCE_SLOT while it is QUALIFIED. -/
def State.reevaluateForced (s : State) (d : Nat) : State :=
  let i := s.fld (Fld.DPLL_CTRL_FORCE_SLOT d)
  if s.slotState i = 1 ∧ (s.dpll d).avoid ≠ some i then (if s.selected d = some i then s else s.beginSwitch d i)
  else if s.dstate d = 5 ∧ s.selected d = none then s else s.enterHoldover d

/-- A DPLL re-evaluates, but not during a switch or while it bridges a hold-off (R246, R247). -/
def dpllReevaluation (d : Nat) (s : State) : State :=
  let m := s.dmode d
  let bridging := s.dstate d == 3 && (s.selected d).any (fun i => s.slotState i == 2)
  if s.dstate d = 4 ∨ bridging then s
  else if m = 0 ∨ m = 5 then s.reevaluateAuto d
  else if m = 1 then s.reevaluateForced d
  else s

/-- DPLL_REEVALUATION (R244). -/
def execDpllReevaluation (dt d : Nat) (s : State) : Host.Outcome State Fault Refusal :=
  effect dt (fun s => onlyIf (s.powered && decide (d < 3)) (dpllReevaluation d) s) s

/-! ## Slews and switches (R247 to R249) -/

/-- OFFSET and PEND_OFFSET. -/
def State.dpllOffset (s : State) (d : Nat) : Int := signed 64 (s.getWide (Reg.DPLL_OFFSET0 d) 2)
def State.setOffset (s : State) (d : Nat) (v : Int) : State := s.setWide (Reg.DPLL_OFFSET0 d) 2 (unsigned 64 v)
def State.pendOffset (s : State) (d : Nat) : Int := signed 64 (s.getWide (Reg.DPLL_PEND_OFFSET0 d) 2)
def State.setPend (s : State) (d : Nat) (v : Int) : State := s.setWide (Reg.DPLL_PEND_OFFSET0 d) 2 (unsigned 64 v)

/-- The slew remaining now.
(DESIGN CHOICE, log entry 81) -/
def State.slewLeft (s : State) (d : Nat) : Int :=
  let x := s.dpll d
  let done : Int := ((s.ticks - x.slewAt) * tickUnits * s.fld (Fld.DPLL_SLEW_MAX_PPB d) / 1000000000 : Nat)
  if 0 ≤ x.slew then max 0 (x.slew - done) else min 0 (x.slew + done)

/-- The remaining slew is set; SLEWING and the word follow it. -/
def State.setSlew (s : State) (d : Nat) (v : Int) : State :=
  let s := (s.modDpll d (fun x => { x with slew := v, slewAt := s.ticks })).setBit (Fld.DPLL_STAT_SLEWING d) (decide (v ≠ 0))
  if s.dstate d = 1 ∨ s.dstate d = 2 then s else s.applyWord d (s.dpll d).base

/-- SLEW_END (R249). -/
def execSlewEnd (dt d : Nat) (s : State) : Host.Outcome State Fault Refusal :=
  effect dt (fun s => onlyIf (decide (d < 3) && s.on (Fld.DPLL_STAT_SLEWING d) && s.slewLeft d == 0) (fun s => s.setSlew d 0) s) s

/-- An integer reduced modulo n/k into (−n/2k, +n/2k]; the result in whole units. -/
def reduceMod (v : Int) (n k : Nat) : Int :=
  let x := v * k % n
  (if (n : Int) < 2 * x then x - n else x) / k

/-- An offset to a slot, reduced as R248 lays down. -/
def State.reduceOffset (s : State) (i : Nat) (v : Int) : Int :=
  if i < 4 then
    if s.on (Fld.REF_SLOT_CFG_PPS i) then reduceMod v secU 1 else reduceMod v secU (max 1 (s.fld (Fld.REF_SLOT_NOMINAL_HZ i)))
  else v

/-- A return step of minus an offset waits for the next second boundary (R267).
(DESIGN CHOICE, log entry 79) -/
def State.returnStep (s : State) (d : Nat) (v : Int) : State :=
  let s := (s.setDstate d 5).setOffset d 0
  s.modDpll d (fun x => { x with rstep := some (-v, s.now / secU) })

/-- A switch ends with an offset of the output from the reference (R248, R267).
(DESIGN CHOICE, log entry 78) -/
def switchEnd (d : Nat) (offset : Int) (s : State) : State :=
  match s.selected d with
  | none => s
  | some i =>
    let v := s.reduceOffset i offset
    let big := decide (s.fld (Fld.DPLL_SLEW_THRESH_NS d) * nsU < v.natAbs)
    if d = 0 ∧ !s.on Fld.TIME_STATUS_VALID then
      let sec := s.now / secU
      let t := (((sec + 1) * secU : Nat) : Int) - v
      let s := { s with setLoad := some (t.toNat, sec) }.raise Fld.TIME_STATUS_SET_PENDING
      (s.setOffset d 0).acquire d
    else if !s.on (Fld.DPLL_CTRL_ALIGN d) then (s.setOffset d v).acquire d
    else if !big then ((s.setOffset d 0).acquire d).setSlew d (-v)
    else if s.on (Fld.DPLL_CTRL_RET_POLICY d) then s.returnStep d v
    else
      let s := ((s.setDstate d 5).setPend d v).raise (Fld.DPLL_STAT_RETURN_PENDING d)
      s.raise (Fld.DPLL_EVT_RETURN d)

/-- SWITCH_END (R248): `offset` is the output time minus the reference time, in 2^-16 ns. -/
def execSwitchEnd (dt d : Nat) (offset : Int) (s : State) : Host.Outcome State Fault Refusal :=
  effect dt (fun s => onlyIf (decide (d < 3) && s.dstate d == 4) (switchEnd d offset) s) s

/-! ## Lock (R252, R253) -/

/-- DPLL_LOCK (R252). -/
def execDpllLock (dt d : Nat) (s : State) : Host.Outcome State Fault Refusal :=
  effect dt (fun s =>
    let now := s.fld (Fld.DPLL_STAT_BW_NOW d)
    let atEnd := (s.dpll d).profile == s.fld (Fld.DPLL_CTRL_BW d) || s.on (Fld.DPLL_STAT_BW_LIMITED d)
    onlyIf (decide (d < 3) && s.dstate d == 1 && atEnd && !s.on (Fld.DPLL_STAT_SLEWING d) &&
      (s.dpll d).inSince.any (fun t => decide (t + dwellTicks now ≤ s.ticks))) (fun s => s.setDstate d 2) s) s

/-- DPLL_LOCK_LOSS (R252): ACQUIRING again at the current bandwidth. -/
def execDpllLockLoss (dt d : Nat) (s : State) : Host.Outcome State Fault Refusal :=
  effect dt (fun s => onlyIf (decide (d < 3) && s.dstate d == 2 &&
    (s.dpll d).outSince.any (fun t => decide (t + secT ≤ s.ticks)))
    (fun s => (s.setDstate d 1).modDpll d (fun x => { x with dwellAt := s.ticks, inSince := none, outSince := none })) s) s

/-- BANDWIDTH_STEP (R253): a loop LOCKED at the limit of R254 goes on to its final code.
(DEDUCED, log entry 145) -/
def execBandwidthStep (dt d : Nat) (s : State) : Host.Outcome State Fault Refusal :=
  effect dt (fun s =>
    let x := s.dpll d
    let fin := s.fld (Fld.DPLL_CTRL_BW d)
    onlyIf (decide (d < 3) && (s.dstate d == 1 || s.dstate d == 2) && decide (fin < x.profile) &&
      x.inSince.any (fun t => decide (max t x.dwellAt + dwellTicks (s.fld (Fld.DPLL_STAT_BW_NOW d)) ≤ s.ticks)))
      (fun s => (s.modDpll d (fun x => { x with profile := max (x.profile - 8) fin, dwellAt := s.ticks })).showBw d) s) s

/-! ## Modes and software (R250, R255 to R258) -/

/-- Whether a bandwidth code is accepted (R5, R253). -/
def State.bwOk (s : State) (k : Nat) : Bool := if s.member = .d8 then decide (k ≤ 53) else k == 16 || k == 24 || k == 32 || k == 40

/-- The step or slew a DPLL makes while it tracks a reference is added to OFFSET (R257).
(DESIGN CHOICE, log entry 78) -/
def State.addOffset (s : State) (d : Nat) (v : Int) : State :=
  if s.dstate d = 1 ∨ s.dstate d = 2 then s.setOffset d (s.dpllOffset d + v) else s

/-- FREQ_SW.
(DEDUCED, log entry 73) -/
def State.freqSw (s : State) (d : Nat) : Int := signed 64 (s.getWide (Reg.DPLL_FREQ_SW0 d) 2)

/-- A mode is entered (R250).
(DEDUCED, log entry 73) -/
def State.enterMode (s : State) (d old new : Nat) : State :=
  let stop := fun (s : State) => ((s.select d none).setFld (Fld.DPLL_STAT_RETURN_PENDING d) 0).modDpll d
    (fun x => { x with rstep := none })
  match new with
  | 2 => s.enterHoldover d
  | 3 => ((stop s).setDstate d 0).applyWord d 0
  | 4 => let t := (stop s).setDstate d 6
         t.applyWord d (t.freqSw d)
  | 6 => let t := (stop s).setDstate d 7
         t.applyBase d t.steer
  | _ => if old = 3 ∨ old = 4 ∨ old = 6 then s.enterHoldover d else s

/-- A write of DPLL[d].CTRL (R250, R253, R267). -/
def dpllCtrlWrite (d : Nat) (w : Word) (s : State) : State :=
  let m := bitsOf w 0 3
  if m = 7 ∨ (m = 6 ∧ d = 0) ∨ !s.bwOk (bitsOf w 24 8) then s.raise (Fld.DPLL_EVT_CFG_ERR d)
  else
    let old := s.dmode d
    let s := (s.set (Reg.DPLL_CTRL d) (w &&& 0xFFFF1C07#32)).modDpll d (fun x => { x with
      avoid := none, profile := max x.profile (bitsOf w 24 8) })
    let s := if old = m then s else s.enterMode d old m
    s.showBw d

/-- DPLL_MODE_WRITE (R250). -/
def execDpllModeWrite (dt : Nat) (src : Src) (d : Nat) (w : Word) (s : State) : Host.Outcome State Fault Refusal :=
  effect dt (onlyIf (decide (d < 3)) (fun s => s.guarded src (Reg.DPLL_CTRL d) (dpllCtrlWrite d w))) s

/-- PSTEP. -/
def State.pstepValue (s : State) (d : Nat) : Int := signed 64 (s.getWide (Reg.DPLL_PSTEP0 d) 2)

/-- A GO with WHEN = 0 arms the step for the next second boundary (R256). -/
def pstepAtSecond (d : Nat) (s : State) : State :=
  let s := (s.setFld (Fld.DPLL_PSTEP_CTRL_WHEN d) 0).raise (Fld.DPLL_PSTEP_CTRL_PENDING d)
  s.modDpll d (fun x => { x with pstep := some (s.pstepValue d, s.now / secU) })

/-- PSTEP_AT_SECOND (R256). -/
def execPstepAtSecond (dt : Nat) (src : Src) (d : Nat) (s : State) : Host.Outcome State Fault Refusal :=
  effect dt (onlyIf (decide (d < 3)) (fun s => s.guarded src (Reg.DPLL_PSTEP_CTRL d) (pstepAtSecond d))) s

/-- A GO with WHEN = 1 adds the step to the remaining slew (R256, R257).
(DESIGN CHOICE, log entry 77) -/
def pstepSlew (d : Nat) (s : State) : State :=
  let v := s.pstepValue d
  ((s.raise (Fld.DPLL_PSTEP_CTRL_WHEN d)).addOffset d v).setSlew d (s.slewLeft d + v)

/-- PSTEP_SLEW (R256). -/
def execPstepSlew (dt : Nat) (src : Src) (d : Nat) (s : State) : Host.Outcome State Fault Refusal :=
  effect dt (onlyIf (decide (d < 3)) (fun s => s.guarded src (Reg.DPLL_PSTEP_CTRL d) (pstepSlew d))) s

/-- ±500 ppm (R17). -/
def wordLimit : Nat := 140737488355

/-- A write of the lowest word of FREQ_SW (R17, R258). -/
def freqSwWrite (d : Nat) (w : Word) (s : State) : State :=
  let a := Reg.DPLL_FREQ_SW0 d
  let v := s.wideValue a 2 w
  let s := s.dropHeld a 2
  if wordLimit < (signed 64 v).natAbs then s.raise (Fld.DPLL_EVT_CFG_ERR d)
  else
    let s := s.setWide a 2 v
    if s.dstate d = 6 then s.applyWord d (signed 64 v) else s

/-- FREQ_SW_WRITE (R258). -/
def execFreqSwWrite (dt : Nat) (src : Src) (d : Nat) (w : Word) (s : State) : Host.Outcome State Fault Refusal :=
  effect dt (onlyIf (decide (d < 3)) (fun s => s.guarded src (Reg.DPLL_FREQ_SW0 d) (freqSwWrite d w))) s

/-! ## Phase comparisons (R239, R258, R259) -/

/-- The slot a DPLL compares its output with now. -/
def State.compared (s : State) (d : Nat) : Option Nat :=
  match s.dstate d with
  | 6 => some (s.fld (Fld.DPLL_CTRL_PD_SLOT d))
  | 1 | 2 | 4 => s.selected d
  | 5 => if s.on (Fld.DPLL_STAT_RETURN_PENDING d) then s.selected d else none
  | _ => none

/-- The flags of a slot's sample: a link slot's come from the port's link phase sample. -/
def State.sampleFlags (s : State) (i : Nat) (valid stale : Bool) : Bool × Bool :=
  if 4 ≤ i ∧ i < 12 then
    let fl := (s.port (s.fld (Fld.REF_SLOT_CFG_PORT i))).lph.flags
    (valid && fl % 2 == 1, stale || fl / 2 % 2 == 1)
  else (valid, stale)

/-- The window of 10 / b seconds over which MIXED takes the drift of the phase error: a dwell that begins starts one, and one
that ends leaves its drift for the next (R259).
(DESIGN CHOICE, log entry 76) -/
def State.driftWindow (s : State) (d : Nat) (err : Int) : DpllSt :=
  let x := s.dpll d
  if s.dstate d = 1 ∧ x.inSince = none then { x with errAt := err, winAt := s.ticks, drift := 0 }
  else if x.winAt + dwellTicks (s.fld (Fld.DPLL_STAT_BW_NOW d)) ≤ s.ticks then
    { x with errAt := err, winAt := s.ticks, drift := err - x.errAt }
  else x

/-- The dwell and the loss of lock follow the phase error; in MIXED, the larger of its drift over the last window and since
(R252, R259).
(DESIGN CHOICE, log entry 76) -/
def State.judgeError (s : State) (d : Nat) (err : Int) : State :=
  let x := if s.dmode d = 5 then s.driftWindow d err else s.dpll d
  let e := if s.dmode d = 5 then max (err - x.errAt).natAbs x.drift.natAbs else err.natAbs
  let thr := s.fld (Fld.DPLL_LOCK_LOCK_THRESH d) * 65536
  let within := decide (e * 1000 ≤ thr)
  let far := decide (4 * thr < e * 1000)
  s.modDpll d (fun _ => { x with
    inSince := if within then some (x.inSince.getD s.ticks) else none
    outSince := if far then some (x.outSince.getD s.ticks) else none })

/-- A comparison is reported; a tracking loop applies its next word.
(DESIGN CHOICE, log entry 74) -/
def pdComparison (d i : Nat) (err : Int) (valid stale : Bool) (word : Int) (s : State) : State :=
  let (v, st) := s.sampleFlags i valid stale
  let s := s.modDpll d (fun x => { x with pdAt := s.ticks })
  let s := (s.setWide (Reg.DPLL_PD0 d) 2 (unsigned 64 err)).wrapAdd (Fld.DPLL_PDX_PD_SEQ d) 1
  let s := (s.setBit (Fld.DPLL_PDX_PD_STALE d) st).setBit (Fld.DPLL_PDX_PD_VALID d) v
  let usable := v && !st && s.slotState i == 1
  if !usable then s
  else if s.dstate d = 1 ∨ s.dstate d = 2 then (s.applyWord d word).judgeError d err
  else if s.on (Fld.DPLL_STAT_RETURN_PENDING d) then s.setPend d (s.reduceOffset i err)
  else s

/-- PD_COMPARISON (R258): `err` is the phase compared, `word` the loop's next word while it tracks. -/
def execPdComparison (dt d : Nat) (err : Int) (valid stale : Bool) (word : Int) (s : State) : Host.Outcome State Fault Refusal :=
  effect dt (fun s => match s.compared d with
    | some i => onlyIf (decide (d < 3) && decide ((s.dpll d).pdAt + (s.slotTicks i).getD 0 ≤ s.ticks))
        (pdComparison d i err valid stale word) s
    | none => s) s

/-! ## Holdover seconds, temperature and ageing (R262 to R266) -/

/-- One second of holdover: the word while the DPLL holds over, HO_TIME and HO_BOUND. -/
def holdoverRecompute (d t0 : Nat) (s : State) : State :=
  let held := s.dstate d == 3 || s.dstate d == 4 || s.dstate d == 5
  let s := if held && s.on (Fld.DPLL_STAT_HO_READY d) then s.applyWord d (s.holdWord d) else s
  s.showBound d ((s.ticks - t0) / secT)

/-- HOLDOVER_RECOMPUTE (R262, R266): once per second from the start of BRIDGING or HOLDOVER. -/
def execHoldoverRecompute (dt d : Nat) (s : State) : Host.Outcome State Fault Refusal :=
  effect dt (fun s => match (s.dpll d).hoAt with
    | some t0 => onlyIf (decide (d < 3) && decide (t0 + ((s.dpll d).hoDone + 1) * secT ≤ s.ticks)) (holdoverRecompute d t0) s
    | none => s) s

/-- A usable temperature reaches a DPLL (R263); those older than the longest window are dropped. -/
def State.dpllTemp (s : State) (d : Nat) (t : Int) : State :=
  let old := s.ticks - 10002 * secT
  let s := (if d = 0 then s.ageNote else s).modDpll d (fun x =>
    let keep := x.temps.takeWhile (fun e => decide (old < e.1))
    { x with temps := (s.ticks, t) :: (keep ++ (x.temps.drop keep.length).take 1) })
  s.setFld (Fld.DPLL_STAT_TEMP_STALE d) 0

/-- TEMP_STALE (R263): ten seconds without a usable reading. -/
def execTempStale (dt d : Nat) (s : State) : Host.Outcome State Fault Refusal :=
  effect dt (fun s =>
    let last := ((s.dpll d).temps.head?).elim 0 (fun e => e.1)
    onlyIf (decide (d < 3) && s.powered && decide (last + 10 * secT ≤ s.ticks) && !s.on (Fld.DPLL_STAT_TEMP_STALE d))
      (fun s => (s.raise (Fld.DPLL_STAT_TEMP_STALE d)).raise (Fld.DPLL_EVT_TEMP_STALE d)) s) s

/-- A quotient by a positive number, rounded up or down. -/
def roundDiv (up : Bool) (a b : Int) : Int := if up then -(-a / b) else a / b

/-- The least-squares fit of A1·t + A2·ln(1 + t/τ) to the daily means, with t in seconds since AGE_EPOCH: A1 per day and A2, or
none where the days do not fix both (R264). -/
def lsFit (up1 up2 : Bool) (tau : Nat) (epoch : Int) (l : List (Int × Int)) : Option (Int × Int) :=
  let rows := l.map (fun (e : Int × Int) => (e.1 - epoch, lnMean tau (e.1 - epoch) (e.1 - epoch), e.2))
  let sum := fun (f : Int → Int → Int → Int) => rows.foldl (fun (a : Int) (r : Int × Int × Int) => a + f r.1 r.2.1 r.2.2) 0
  let tt := sum (fun t _ _ => t * t)
  let tl := sum (fun t l _ => t * l)
  let ll := sum (fun _ l _ => l * l)
  let ty := sum (fun t _ y => t * y)
  let ly := sum (fun _ l y => l * y)
  let det := tt * ll - tl * tl
  if det = 0 then none
  else some (roundDiv up1 (86400 * (ty * ll - ly * tl)) det, roundDiv up2 (2 ^ 80 * (ly * tt - ty * tl)) det)

/-- A day's mean joins the fit; with AGE_LEARN on and three days or more, the firmware rewrites A1 and A2 (R264). -/
def ageFit (up1 up2 : Bool) (s : State) : State :=
  let s := s.ageNote
  let a := s.age
  let day := if a.span = 0 then [] else [((s.now / secU : Nat) - (43200 : Int), a.sum / a.span)]
  let s := { s with age := { noted := s.ticks, at_ := s.ticks, means := a.means ++ day } }
  let lim := fun (v : Int) => max (-2 ^ 62) (min (2 ^ 62) v)
  if s.param (pkey 7 0 0x14) = 1 ∧ 3 ≤ s.age.means.length then
    match lsFit up1 up2 (s.paramNat (pkey 7 0 0x13)) (s.param (pkey 7 0 0x10)) s.age.means with
    | some (a1, a2) => { s with params := kput (kput s.params (pkey 7 0 0x11) (lim a1)) (pkey 7 0 0x12) (lim a2) }
    | none => s
  else s

/-- AGE_FIT (R264): once a day. -/
def execAgeFit (dt : Nat) (up1 up2 : Bool) (s : State) : Host.Outcome State Fault Refusal :=
  effect dt (fun s => onlyIf (s.powered && decide (s.age.at_ + 86400 * secT ≤ s.ticks)) (ageFit up1 up2) s) s

/-! ## Return of a reference (R267) -/

/-- RETURN.CMD acts while RETURN_PENDING is 1.
(DESIGN CHOICE, log entry 79) -/
def dpllReturn (d cmd : Nat) (s : State) : State :=
  if !s.on (Fld.DPLL_STAT_RETURN_PENDING d) then s
  else match cmd with
    | 1 => (s.setFld (Fld.DPLL_STAT_RETURN_PENDING d) 0).returnStep d (s.pendOffset d)
    | 2 => (((s.setFld (Fld.DPLL_STAT_RETURN_PENDING d) 0).setOffset d 0).acquire d).setSlew d (-(s.pendOffset d))
    | 3 => (s.modDpll d (fun x => { x with avoid := s.selected d })).enterHoldover d
    | _ => s

/-- RETURN_STEP (R267). -/
def execReturnStep (dt : Nat) (src : Src) (d : Nat) (s : State) : Host.Outcome State Fault Refusal :=
  effect dt (onlyIf (decide (d < 3)) (fun s => s.guarded src (Reg.DPLL_RETURN d) (dpllReturn d 1))) s

/-- RETURN_SLEW (R267). -/
def execReturnSlew (dt : Nat) (src : Src) (d : Nat) (s : State) : Host.Outcome State Fault Refusal :=
  effect dt (onlyIf (decide (d < 3)) (fun s => s.guarded src (Reg.DPLL_RETURN d) (dpllReturn d 2))) s

/-- RETURN_HOLD (R267). -/
def execReturnHold (dt : Nat) (src : Src) (d : Nat) (s : State) : Host.Outcome State Fault Refusal :=
  effect dt (onlyIf (decide (d < 3)) (fun s => s.guarded src (Reg.DPLL_RETURN d) (dpllReturn d 3))) s

end Sys2Proof.Machine
end

