-- ==== Sys2Proof/Machine/Claim.lean ====
section
/-!
DEFINITION. Claim.lean: claims, heartbeats, the witness and drills (R316 to R329).
-/
namespace Sys2Proof.Machine

/-- Domain d. -/
def State.clm (s : State) (d : Nat) : ClmDom := kget s.clms d {}

/-- The state with a function applied to domain d's record. -/
def State.modClm (s : State) (d : Nat) (f : ClmDom → ClmDom) : State := { s with clms := kput s.clms d (f (s.clm d)) }

/-- The claim controller runs; ROLE in a domain: 0 NONE, 1 MEMBER, 2 WITNESS_HW, 3 WITNESS_SW.
(DESIGN CHOICE, log entry 95) -/
def State.clmOn (s : State) : Bool := s.on Fld.CLM_CTRL_EN
def State.role (s : State) (d : Nat) : Nat := s.fld (Fld.CLM_DOM_CFG_ROLE d)
def State.isMember (s : State) (d : Nat) : Bool := s.clmOn && s.role d == 1

/-- EFFECTIVE follows. -/
def State.clmEffective (s : State) (d : Nat) : State := s.setFld (Fld.CLM_DOM_CLAIM_EFFECTIVE d) (s.claimIn d (s.clmState d))

/-- An event of the claim controller in a domain (R329). -/
def State.clmEvent (s : State) (f : FRef) (d : Nat) : State := (s.raise f).setFldBit Fld.CLM_EVT_DOM d true

/-- STATE changes. -/
def State.setClm (s : State) (d st : Nat) : State :=
  if s.clmState d = st then s.clmEffective d
  else
    let s := (s.setFld (Fld.CLM_DOM_STAT_STATE d) st).clmEvent Fld.CLM_EVT_STATE d
    let s := if st = 1 then s.modClm d (fun x => { x with holdAt := s.ticks, admitted := false }) else s
    s.clmEffective d

/-! ## What is heard (R319, R320, R324) -/

/-- The claim domain of a port (R316). -/
def State.claimDom (s : State) (p : Nat) : Nat := s.fld (Fld.TCX_CTRL_CLAIM_DOM p)

/-- The heartbeat that counts on a port: accepted within HB_LOSS, the port ACTIVE since (R320). -/
def State.heartbeat (s : State) (p : Nat) : Option Heartbeat :=
  match kfind s.hbs p with
  | some h =>
    if s.clmOn && s.portActive p && decide ((s.port p).activeAt ≤ h.at_) &&
      decide (s.ticks < h.at_ + s.fld Fld.CLM_CTRL_HB_LOSS * msT) then some h else none
  | none => none

/-- The heartbeats heard on a domain's ports, by port, rising. -/
def State.heardIn (s : State) (d : Nat) : List (Nat × Heartbeat) :=
  s.hbs.filterMap (fun e => if s.claimDom e.1 = d then (s.heartbeat e.1).map (fun h => (e.1, h)) else none)

/-- Whether the domain's current notice deposes a serial. -/
def State.deposed (s : State) (d serial : Nat) : Bool :=
  s.fld (Fld.CLM_DOM_NOTICE_KIND d) == 1 && s.fld (Fld.CLM_DOM_NOTICE_SERIAL d) == serial

/-- The claim a heartbeat gives in a domain; a deposed serial's is heard as 0 (R320). -/
def State.claimOf (s : State) (d : Nat) (h : Heartbeat) : Nat :=
  if s.deposed d h.serial then 0 else (h.claims[d]?).getD 0

/-- The last heartbeat heard from a serial in a domain. -/
def State.heardFrom (s : State) (d serial : Nat) : Option Heartbeat :=
  (s.heardIn d).foldl (fun best e =>
    if e.2.serial ≠ serial then best
    else match best with
      | some (b : Heartbeat) => if b.at_ < e.2.at_ then some e.2 else best
      | none => some e.2) none

/-- PEER0 and PEER1 of a domain. -/
def State.peer (s : State) (d i : Nat) : Nat := s.fld (if i = 0 then Fld.CLM_DOM_PEERS_PEER0 d else Fld.CLM_DOM_PEERS_PEER1 d)

/-- The direct and relay paths of PEERi (R324). -/
def State.direct (s : State) (d i : Nat) : Bool := (s.heardFrom d (s.peer d i)).isSome
def State.relay (s : State) (d i : Nat) : Bool := (s.heardFrom d (s.peer d (1 - i))).any (fun h => h.seen / 2 ^ d % 2 == 1)

/-- Whether a member hears its partner: on any port, whatever domain the port takes part in (R320). -/
def State.hearsPartner (s : State) (d : Nat) : Bool :=
  s.isMember d && s.hbs.any (fun e => (s.heartbeat e.1).any (fun h => h.serial == s.peer d 0))

/-! ## Notices (R325, R326) -/

/-- A notice takes effect: DEPOSE of the device's own serial deposes it; ADMIT lets it leave HOLD or DEPOSED.
(DESIGN CHOICE, log entry 98) -/
def State.noticeActs (s : State) (d kind serial : Nat) : State :=
  if !s.isMember d || serial != s.serial then s
  else if kind = 1 then (s.modClm d (fun x => { x with admitted := false, drillEnd := none })).setClm d 4
  else if s.clmState d = 1 ∨ s.clmState d = 4 then s.modClm d (fun x => { x with admitted := true })
  else s

/-- A notice becomes the domain's current one. -/
def State.setNotice (s : State) (d gen kind serial : Nat) : State :=
  let s := s.set (Reg.CLM_DOM_NOTICE d) (BitVec.ofNat 32 (gen % 2 ^ 16 * 2 ^ 16 + kind * 2 ^ 14 + serial))
  (s.clmEvent Fld.CLM_EVT_WITNESS d).noticeActs d kind serial

/-- A witness issues a notice. -/
def State.issue (s : State) (d kind serial : Nat) : State :=
  s.setNotice d (s.fld (Fld.CLM_DOM_NOTICE_GEN d) + 1) kind serial

/-- A received notice is adopted when its GEN exceeds the current one by 1 to 32,767 (R326).
(DESIGN CHOICE, log entry 98) -/
def State.adopt (s : State) (d w : Nat) : State :=
  let gen := w / 2 ^ 16
  let ahead := (gen + 2 ^ 16 - s.fld (Fld.CLM_DOM_NOTICE_GEN d)) % 2 ^ 16
  if 1 ≤ ahead ∧ ahead ≤ 32767 then s.setNotice d gen (w / 2 ^ 14 % 4) (w % 2 ^ 12) else s

/-! ## The witness (R324, R325, R327) -/

/-- A hardware witness judges PEERi: lost with its claim accepted, it is deposed if the other is heard with a claim.
(DESIGN CHOICE, log entry 97) -/
def State.judge (s : State) (d i : Nat) : State :=
  let m := s.peer d i
  let lost := m != 0 && !s.direct d i && !s.relay d i
  let served := (kfind (s.clm d).lastClaim i).any (fun c => c != 0 && c == s.fld (Fld.CLM_DOM_CLAIM_ACCEPTED d))
  if !lost || !served || s.deposed d m then s
  else match s.heardFrom d (s.peer d (1 - i)) with
    | some h => if s.claimOf d h = 0 then s else s.issue d 1 m
    | none =>
      if s.on (Fld.CLM_DOM_STAT_ISOLATED d) then s
      else (s.raise (Fld.CLM_DOM_STAT_ISOLATED d)).clmEvent Fld.CLM_EVT_WITNESS d

/-- A witness's path bits follow what it hears, and a hardware witness judges its members in the same cycle.
(DESIGN CHOICE, log entry 96) -/
def State.watch (s : State) (d : Nat) : State :=
  if !s.clmOn || decide (s.role d < 2) then s.setFld (Fld.CLM_DOM_STAT_PATHS d) 0
  else
    let bit := fun (b : Bool) (i : Nat) => if b then 2 ^ i else 0
    let paths := bit (s.direct d 0) 0 + bit (s.relay d 0) 1 + bit (s.direct d 1) 2 + bit (s.relay d 1) 3
    let s := s.setFld (Fld.CLM_DOM_STAT_PATHS d) paths
    let s := if s.direct d 0 || s.direct d 1 then s.setFld (Fld.CLM_DOM_STAT_ISOLATED d) 0 else s
    let s := s.forAll [0, 1] (fun i s => s.modClm d (fun x => { x with
      pathsAt := if s.direct d i && s.relay d i then kput x.pathsAt i (kget x.pathsAt i s.ticks) else kdel x.pathsAt i }))
    if s.role d = 2 then (s.judge d 0).judge d 1 else s

/-- What a heartbeat says of the members a witness watches.
(DESIGN CHOICE, log entry 97) -/
def State.noteMember (s : State) (d : Nat) (h : Heartbeat) : State :=
  let c := (h.claims[d]?).getD 0
  let s := if h.member / 2 ^ d % 2 = 1 ∧ s.claimOf d h ≠ 0 then s.modClm d (fun x => { x with claimAt := s.ticks }) else s
  s.forAll ([0, 1].filter (fun i => s.peer d i == h.serial)) (fun i s => s.modClm d (fun x => { x with
    lastClaim := kput x.lastClaim i c, rankClaim := if c = 0 then x.rankClaim else kput x.rankClaim i c }))

/-- Whether a drill is seen, or was a moment ago, in a domain (R328). -/
def State.noteDrill (s : State) (d : Nat) (h : Heartbeat) : State :=
  s.modClm d (fun x =>
    if h.drill / 2 ^ d % 2 = 1 then { x with drilling := if x.drilling.contains h.serial then x.drilling else h.serial :: x.drilling }
    else if x.drilling.contains h.serial then
      { x with drilling := x.drilling.erase h.serial, drillTail := s.ticks + s.fld Fld.CLM_CTRL_HB_LOSS * msT }
    else x)

/-- The domains. -/
def allDoms : List Nat := List.range 16

/-- A heartbeat's notices apply, then its claims (R326). -/
def State.hbTake (s : State) (p : Nat) (h : Heartbeat) (notices : List Nat) : State :=
  let s := s.forAll allDoms (fun d s => s.adopt d ((notices[d]?).getD 0))
  let s := { s with hbs := kput s.hbs p h }
  let d := s.claimDom p
  let s := (s.noteMember d h).noteDrill d h
  s.forAll allDoms (fun d s => s.watch d)

/-- Whether a frame is a heartbeat: its EtherType, CID and Protocol are those of R318. -/
def isHb (b : List Byte) : Bool := beAt b 12 2 == 0x88B7 && beAt b 14 3 == tcxCid && beAt b 17 2 == 0x0102

/-- A received heartbeat is accepted under the tests of R229 with TYPE 2 and LENGTH at least 110 (R319). -/
def State.hbReceive (s : State) (p : Nat) (full : List Byte) (bad : Bool) : State :=
  let b := full.take (full.length - 4)
  if !s.clmOn || !s.portActive p || bad || crc32 b != leAt full (full.length - 4) 4 || daOf b != tcxDa ||
      byteAt b 19 != 1 || byteAt b 20 != 2 || decide (beAt b 21 2 < 110) || decide (b.length < 129) then s
  else s.hbTake p
    { at_ := s.ticks, serial := beAt b 25 2 % 2 ^ 12, sa := saOf b, member := beAt b 27 2, seen := beAt b 29 2
      drill := beAt b 127 2, claims := allDoms.map (fun d => beAt b (31 + 2 * d) 2) }
    (allDoms.map (fun d => beAt b (63 + 4 * d) 4))

/-- A 16-bit mask of the domains where something holds. -/
def domMask (f : Nat → Bool) : Nat := allDoms.foldl (fun m d => if f d then m + 2 ^ d else m) 0

/-- The heartbeat a port sends, without its FCS (R318). -/
def State.hbMessage (s : State) (p : Nat) : List Byte :=
  beBytes tcxDa 6 ++ beBytes (s.portMac p) 6 ++ beBytes 0x88B7 2 ++ beBytes tcxCid 3 ++ beBytes 0x0102 2 ++
    beBytes 1 1 ++ beBytes 2 1 ++ beBytes 110 2 ++ beBytes (kget s.hbSent p (0, 0)).1 2 ++ beBytes s.serial 2 ++
    beBytes (domMask (fun d => s.isMember d)) 2 ++ beBytes (domMask (fun d => s.hearsPartner d)) 2 ++
    (allDoms.flatMap (fun d => beBytes (s.claimIn d (s.clmState d)) 2)) ++
    (allDoms.flatMap (fun d => beBytes (s.get (Reg.CLM_DOM_NOTICE d)).toNat 4)) ++
    beBytes (domMask (fun d => s.isMember d && s.clmState d == 5)) 2

/-- Whether heartbeats go out on a port.
(DESIGN CHOICE, log entry 99) -/
def State.hbPort (s : State) (p : Nat) : Bool :=
  s.clmOn && s.namesPort p && s.portState p == 5 && s.fldBit (Fld.CLM_HB_PORTS_PORTS (p / 32)) (p % 32)

/-- A heartbeat leaves with its SFD at `pos`, as an express frame outside the class queues (R203, R318). -/
def State.hbTransmit (s : State) (p pos : Nat) : State :=
  let b := s.hbMessage p
  let at1 := s.physOf pos
  let fl := s.stampFlags p at1 false
  let s := ((s.freeOwed p).countTx p 0 1 pos fl).countTx p 1 (frameLen b) pos fl
  let x : Tx := { c := { f := { bytes := b } }, start := at1, len := frameLen b, ladle := true }
  let s := s.modPort p (fun r => { r with
    cur := some x, freeAt := at1 + bytesD (s.portMode p) (1 + frameLen b + 12)
    wire := some (none, at1, at1 + bytesD (s.portMode p) (1 + frameLen b)) })
  let n := (kget s.hbSent p (0, 0)).1
  { s with hbSent := kput s.hbSent p ((n + 1) % 2 ^ 16, s.ticks) }.emit (.frame p b 0 pos)

/-- An opportunity to send a heartbeat: a preemptable fragment gives way.
(DESIGN CHOICE, log entry 99) -/
def hbSend (p pos : Nat) (s : State) : State :=
  let s := s.creditTo p
  if !s.messageFits p pos 133 then s
  else match s.inFragment p with
    | some t => s.cutFragment p t
    | none => if s.mediumFree p pos then s.hbTransmit p pos else s

/-- HEARTBEAT_SEND (R318): 1 ms less 10 µs after the one before, or later; RUNNING or in an update (R363, R373). -/
def execHeartbeatSend (dt p pos : Nat) (s : State) : Host.Outcome State Fault Refusal :=
  effect dt (fun s => onlyIf (s.hbPort p && s.inTick pos && (s.fwRuns || s.fld Fld.SYS_BOOT_STATUS_STATE == 7) &&
    (match kfind s.hbSent p with
      | some x => decide (x.2 + 990 * usT ≤ s.ticks)
      | none => true)) (hbSend p pos) s) s

/-- HEARD_CLAIM_LAPSE (R320): what was heard on a port is heard no longer.
(DESIGN CHOICE, log entry 94) -/
def heardLapse (p : Nat) (s : State) : State :=
  { s with hbs := kdel s.hbs p }.forAll allDoms (fun d s => s.watch d)

/-- HEARD_CLAIM_LAPSE (R320). -/
def execHeardClaimLapse (dt p : Nat) (s : State) : Host.Outcome State Fault Refusal :=
  effect dt (fun s => onlyIf ((kfind s.hbs p).isSome && (s.heartbeat p).isNone) (heardLapse p) s) s

/-! ## Acceptance (R321 to R323) -/

/-- Where a member begins: DEPOSED while the domain's current notice deposes it, else HOLD (R317). -/
def State.clmEnter (s : State) (d : Nat) : State := s.setClm d (if s.deposed d s.serial then 4 else 1)

/-- A member that may serve does so: ACTIVE above every claim heard, else STANDBY (R317); an adopted ADMIT is carried out
once DPLL-T is LOCKED (R326). -/
def State.clmRank (s : State) (d top : Nat) : State :=
  let x := s.clm d
  let own := s.claimIn d 2
  let st := if top < own then 2 else 3
  if !s.isMember d then s.setClm d 0
  else if s.clmState d = 0 then s.clmEnter d
  else if x.admitted && s.dstate 0 == 2 then (s.modClm d (fun x => { x with admitted := false })).setClm d st
  else if s.clmState d = 2 ∨ s.clmState d = 3 then s.setClm d st
  else s.clmEffective d

/-- Whether two heartbeats with the same non-zero claim come from different senders. -/
def State.dupIn (s : State) (d : Nat) : Bool :=
  (s.heardIn d).any (fun a => (s.heardIn d).any (fun b =>
    s.claimOf d a.2 != 0 && s.claimOf d a.2 == s.claimOf d b.2 && a.2.sa != b.2.sa))

/-- The accepted claim and ports are recomputed (R321).
(DESIGN CHOICE, log entry 94) -/
def acceptedUpdate (d : Nat) (s : State) : State :=
  let heard := s.heardIn d
  let top := heard.foldl (fun m e => max m (s.claimOf d e.2)) 0
  let s := s.clmRank d top
  let own := s.claimIn d (s.clmState d)
  let acc := max top own
  let old := s.fld (Fld.CLM_DOM_CLAIM_ACCEPTED d)
  let ports := if acc = own then [] else (heard.filter (fun e => s.claimOf d e.2 == acc)).map (fun e => e.1)
  let dup := s.dupIn d
  let event := old != acc || (dup && !s.on (Fld.CLM_DOM_STAT_DUP d))
  let drill := !(s.clm d).drilling.isEmpty || decide (s.ticks < (s.clm d).drillTail)
  let s := (s.setFld (Fld.CLM_DOM_CLAIM_ACCEPTED d) acc).setFld (Fld.CLM_DOM_STAT_ACC_PORT d) (ports.headD 0x1FF)
  let s := s.setBit (Fld.CLM_DOM_STAT_DUP d) dup
  let s := if event then s.clmEvent Fld.CLM_EVT_ACCEPT d else s
  let s := if old != acc && drill then s.bump (Fld.CLM_DOM_SWITCHES_COUNT d) 1 else s
  let moved := (s.clm d).ports != ports && s.on (Fld.CLM_DOM_CFG_GATE_SLOTS d)
  ({ s.modClm d (fun x => { x with ports := ports }) with gateDue := s.gateDue || moved }).watch d

/-- ACCEPTED_CLAIM_UPDATE (R321). -/
def execAcceptedClaimUpdate (dt d : Nat) (s : State) : Host.Outcome State Fault Refusal :=
  effect dt (fun s => onlyIf (s.powered && decide (d < 16)) (acceptedUpdate d) s) s

/-- Whether traffic of R322 is refused on a port: the controller runs and the port is not accepted in its domain.
(DESIGN CHOICE, log entry 95) -/
def State.portRefused (s : State) (p : Nat) : Bool :=
  let d := s.claimDom p
  let acc := s.fld (Fld.CLM_DOM_CLAIM_ACCEPTED d)
  s.clmOn && !(s.fld (Fld.CLM_DOM_CLAIM_EFFECTIVE d) != acc && (s.heartbeat p).any (fun h => s.claimOf d h == acc))

/-- The port a link slot or packet-time slot is bound to. -/
def State.slotPort (s : State) (i : Nat) : Option Nat :=
  if 4 ≤ i ∧ i < 12 then some (s.fld (Fld.REF_SLOT_CFG_PORT i)) else if i = 13 ∨ i = 14 then kfind s.slotBound i else none

/-- The candidate mask the firmware writes: the base mask without the slots bound to ports not accepted (R323). -/
def State.gatedMask (s : State) (base : Nat) : Nat :=
  (List.range 16).foldl (fun m i =>
    let shut := match s.slotPort i with
      | some p => s.on (Fld.CLM_DOM_CFG_GATE_SLOTS (s.claimDom p)) && s.portRefused p
      | none => false
    if base / 2 ^ i % 2 = 1 ∧ !shut then m + 2 ^ i else m) 0

/-- The firmware writes CAND of every DPLL, where some domain has GATE_SLOTS = 1 (R323). -/
def candGating (s : State) : State :=
  let s := { s with gateDue := false }
  s.forAll (if allDoms.any (fun d => s.on (Fld.CLM_DOM_CFG_GATE_SLOTS d)) then [0, 1, 2] else []) (fun d s =>
    s.setFld (Fld.DPLL_CAND_MASK d) (s.gatedMask (s.paramNat (pkey 7 d 0x30))))

/-- CAND_GATING (R323): after accepted ports changed, or the firmware resumed.
(DESIGN CHOICE, log entry 165) -/
def execCandGating (dt : Nat) (s : State) : Host.Outcome State Fault Refusal :=
  effect dt (fun s => onlyIf (s.fwRuns && s.gateDue) candGating s) s

/-! ## Admission (R327) -/

/-- Whether a hardware witness may readmit PEERi now. -/
def State.mayAdmit (s : State) (d i : Nat) : Bool :=
  let m := s.peer d i
  let out := (s.heardFrom d m).any (fun h =>
    h.member / 2 ^ d % 2 == 1 && (h.claims[d]?).getD 0 == 0 && h.drill / 2 ^ d % 2 == 0)
  let claims := (s.heardIn d).any (fun e => e.2.member / 2 ^ d % 2 == 1 && s.claimOf d e.2 != 0)
  let waited := match kfind (s.clm d).pathsAt i with
    | some t => decide (t + s.fld Fld.CLM_WTR_WTR * secT ≤ s.ticks)
    | none => false
  let above := decide (s.fld (Fld.CLM_DOM_CLAIM_ACCEPTED d) < kget (s.clm d).rankClaim i 0)
  let current := s.fld (Fld.CLM_DOM_NOTICE_KIND d) == 2 && s.fld (Fld.CLM_DOM_NOTICE_SERIAL d) == m
  s.clmOn && s.role d == 2 && m != 0 && out && !current &&
    (!claims || (waited && (s.on (Fld.CLM_DOM_CFG_REVERTIVE d) || !above)))

/-- WITNESS_ADMIT (R327). -/
def execWitnessAdmit (dt d i : Nat) (s : State) : Host.Outcome State Fault Refusal :=
  effect dt (fun s => onlyIf (decide (d < 16) && decide (i < 2) && s.mayAdmit d i) (fun s => s.issue d 2 (s.peer d i)) s) s

/-- Whether a member has been alone in HOLD for ALONE seconds, hearing no member claim; a witness is an operand.
(DESIGN CHOICE, log entry 96) -/
def State.alone (s : State) (d : Nat) : Bool :=
  let x := s.clm d
  let n := s.fld Fld.CLM_CTRL_ALONE
  s.isMember d && s.clmState d == 1 && n != 0 && decide (max x.holdAt x.claimAt + n * secT ≤ s.ticks)

/-- ALONE_EXPIRY (R327): `witness` says whether a witness was heard in that time. -/
def execAloneExpiry (dt d : Nat) (witness : Bool) (s : State) : Host.Outcome State Fault Refusal :=
  effect dt (fun s => onlyIf (decide (d < 16) && !witness && s.alone d) (fun s => s.setClm d 2) s) s

/-- A write of CLM.CMD with GO: DEPOSE or ADMIT from a witness (R325). -/
def clmCmd (w : Word) (s : State) : State :=
  let s := s.storeRw Reg.CLM_CMD w
  let (op, d, m) := (bitsOf w 24 2, bitsOf w 16 4, bitsOf w 0 12)
  if bitsOf w 31 1 = 0 ∨ (op ≠ 1 ∧ op ≠ 2) then s
  else if s.role d < 2 then s.setFld Fld.CLM_CMD_STAT_RESULT 1
  else if m ≠ s.peer d 0 ∧ m ≠ s.peer d 1 then s.setFld Fld.CLM_CMD_STAT_RESULT 2
  else (s.setFld Fld.CLM_CMD_STAT_RESULT 0).issue d op m

/-- The word of a CMD write: GO, OP, domain and serial. -/
def clmCmdWord (op d m : Nat) : Word := BitVec.ofNat 32 (2 ^ 31 + op * 2 ^ 24 + d % 16 * 2 ^ 16 + m % 2 ^ 12)

/-- CLM_DEPOSE (R325). -/
def execClmDepose (dt : Nat) (src : Src) (d m : Nat) (s : State) : Host.Outcome State Fault Refusal :=
  effect dt (fun s => s.guarded src Reg.CLM_CMD (clmCmd (clmCmdWord 1 d m))) s

/-- CLM_ADMIT (R325). -/
def execClmAdmit (dt : Nat) (src : Src) (d m : Nat) (s : State) : Host.Outcome State Fault Refusal :=
  effect dt (fun s => s.guarded src Reg.CLM_CMD (clmCmd (clmCmdWord 2 d m))) s

/-! ## Drills (R328) -/

/-- REMAIN: the milliseconds left in a drill. -/
def State.drillLeft (s : State) (d : Nat) : Nat :=
  match (s.clm d).drillEnd with
  | some t => sat 16 ((t - s.ticks + msT - 1) / msT)
  | none => 0

/-- A CLAIM_DRILL action: whether it is refused, and the state after it. -/
def clmDrill (d ms : Nat) (s : State) : Bool × State :=
  let serving := s.isMember d && (s.clmState d == 2 || s.clmState d == 5)
  let partner := (s.heardFrom d (s.peer d 0)).any (fun h => s.claimOf d h != 0)
  if !serving then (false, s)
  else if !partner then (true, s)
  else
    let first := s.clmState d == 2
    let s := s.modClm d (fun x => { x with drillEnd := some (s.ticks + ms * msT), before := if first then 2 else x.before })
    (false, if first then (s.setClm d 5).clmEvent Fld.CLM_EVT_DRILL d else s)

/-- The drill's length expires. -/
def drillEnd (d : Nat) (s : State) : State :=
  let s := s.modClm d (fun x => { x with drillEnd := none })
  if s.clmState d = 5 then (s.setClm d (s.clm d).before).clmEvent Fld.CLM_EVT_DRILL d else s

/-- DRILL_END (R328). -/
def execDrillEnd (dt d : Nat) (s : State) : Host.Outcome State Fault Refusal :=
  effect dt (fun s => onlyIf (decide (d < 16) && (s.clm d).drillEnd.any (fun t => decide (t ≤ s.ticks))) (drillEnd d) s) s

/-! ## Settings -/

/-- A domain takes up the role its settings give (R317). -/
def State.clmRole (s : State) (d : Nat) : State :=
  if !s.isMember d then (s.modClm d (fun x => { x with admitted := false, drillEnd := none })).setClm d 0
  else if s.clmState d = 0 then s.clmEnter d
  else s.clmEffective d

/-- Writes of CTRL (HB_LOSS at least 2), ID (not 0), WTR (1 to 3,600) and DOM.CFG (RANK not 0). -/
def clmCtrlWrite (w : Word) (s : State) : State :=
  if bitsOf w 8 8 < 2 then s else (s.storeRw Reg.CLM_CTRL w).forAll allDoms (fun d s => (s.clmRole d).watch d)
def clmIdWrite (w : Word) (s : State) : State :=
  if bitsOf w 0 12 = 0 then s else (s.storeRw Reg.CLM_ID w).forAll allDoms (fun d s =>
    if s.isMember d && s.deposed d s.serial then s.setClm d 4 else s.clmEffective d)
def clmWtrWrite (w : Word) (s : State) : State :=
  if bitsOf w 0 12 = 0 ∨ 3600 < bitsOf w 0 12 then s else s.storeRw Reg.CLM_WTR w
def clmCfgWrite (d : Nat) (w : Word) (s : State) : State :=
  if bitsOf w 4 4 = 0 then s else ((s.storeRw (Reg.CLM_DOM_CFG d) w).clmRole d).watch d
def clmPeersWrite (d : Nat) (w : Word) (s : State) : State :=
  ((s.storeRw (Reg.CLM_DOM_PEERS d) w).modClm d (fun x => { x with lastClaim := [], rankClaim := [], pathsAt := [] })).watch d

end Sys2Proof.Machine
end

