-- ==== Sys2Proof/Machine/Nav.lean ====
section
/-!
DEFINITION. Nav.lean: the words of a navigation record from the bits received (R310). Parity, CRC-24 and BCH(15,11) are those of
the systems' interface specifications, which R310 names.
-/
namespace Sys2Proof.Machine

/-- Bit i of a number, and the parity of a list of its bits. -/
def bitAt (v i : Nat) : Nat := v / 2 ^ i % 2
def parityOf (l : List Nat) : Nat := l.foldl (fun a b => a + b) 0 % 2

/-- The low n bits of a number, inverted. -/
def flipLow (n v : Nat) : Nat := 2 ^ n - 1 - v % 2 ^ n

/-! ## LNAV -/

/-- The data bits that enter each of the six parity bits D25 to D30, and whether D29* (0) or D30* (1) of the word before does.
(PRESUMED, log entry 164) -/
def lnavRows : List (Nat × List Nat) := [
  (0, [1, 2, 3, 5, 6, 10, 11, 12, 13, 14, 17, 18, 20, 23]), (1, [2, 3, 4, 6, 7, 11, 12, 13, 14, 15, 18, 19, 21, 24]),
  (0, [1, 3, 4, 5, 7, 8, 12, 13, 14, 15, 16, 19, 20, 22]), (1, [2, 4, 5, 6, 8, 9, 13, 14, 15, 16, 17, 20, 21, 23]),
  (1, [1, 3, 5, 6, 7, 9, 10, 14, 15, 16, 17, 18, 21, 22, 24]), (0, [3, 5, 6, 8, 9, 10, 11, 13, 15, 19, 22, 23, 24])]

/-- A 30-bit word with its data bits corrected for D30*, d1 in bit 29; `star` holds D29* and D30* in bits 1 and 0. -/
def lnavCorrect (star w : Nat) : Nat := if bitAt star 0 = 1 then flipLow 24 (w / 64) * 64 + w % 64 else w % 2 ^ 30

/-- Whether a corrected word passes its parity check. -/
def lnavPass (star w : Nat) : Bool :=
  let bits := lnavRows.map (fun (r : Nat × List Nat) => parityOf (bitAt star (1 - r.1) :: r.2.map (fun d => bitAt w (30 - d))))
  bits.foldl (fun a b => 2 * a + b) 0 == w % 64

/-- The ten corrected words, with the check of each; the last two bits of a word received are the next one's D29* and D30*. -/
def lnavWords : Nat → List Nat → List (Nat × Bool)
  | _, [] => []
  | star, w :: l => (lnavCorrect star w, lnavPass star (lnavCorrect star w)) :: lnavWords (w % 4) l

/-! ## I/NAV -/

/-- The CRC-24 of some bits, the first one highest: generator 0x1864CFB. -/
def crc24 (bits : List Nat) : Nat :=
  bits.foldl (fun r b =>
    let r := 2 * r + b
    if 2 ^ 24 ≤ r then r ^^^ 0x1864CFB else r) 0

/-- The n bits of a number from bit i down. -/
def bitsDown (v i n : Nat) : List Nat := (List.range n).map (fun k => bitAt v (i - k))

/-- Whether a page pair passes: over the even part less its tail and the odd part up to its CRC. -/
def inavPass (even odd : Nat) : Bool :=
  crc24 (bitsDown even 119 114 ++ bitsDown odd 119 82 ++ List.replicate 24 0) == odd / 2 ^ 14 % 2 ^ 24

/-- The four words of a 120-bit part, lowest first. -/
def wordsOf120 (v : Nat) : List Nat := (List.range 4).map (fun k => v % 2 ^ 120 / 2 ^ (32 * k) % 2 ^ 32)

/-! ## D1 -/

/-- The remainder of n bits by x^4 + x + 1. -/
def bchRem (n v : Nat) : Nat :=
  (bitsDown v (n - 1) n).foldl (fun r b =>
    let r := 2 * r + b
    if 16 ≤ r then r ^^^ 0x13 else r) 0

/-- A 15-bit codeword corrected, and its two result bits: 0 passed, 1 one error corrected. -/
def bchCorrect (v : Nat) : Nat × Nat :=
  let r := bchRem 15 v
  if r = 0 then (v, 0)
  else match (List.range 15).find? (fun i => bchRem 15 (2 ^ i) == r) with
    | some i => (v ^^^ 2 ^ i, 1)
    | none => (v, 2)

/-- The codeword among the bits of an interleaved word: the first one's are bits 29, 27, …, 1. -/
def deinterleave (w first : Nat) : Nat := (List.range 15).foldl (fun a k => 2 * a + bitAt w (29 - 2 * k - first)) 0

/-- The words of a D1 subframe and the results of its 19 codewords: one in the first word, two in each of the others. -/
def d1Words : List Nat → List Nat × List Nat
  | [] => ([], [])
  | w :: l =>
    let c := bchCorrect (w % 2 ^ 15)
    let rest := l.map (fun w => (bchCorrect (deinterleave w 0), bchCorrect (deinterleave w 1)))
    ((w % 2 ^ 30 / 2 ^ 15 * 2 ^ 15 + c.1) :: rest.map (fun (e : (Nat × Nat) × (Nat × Nat)) => e.1.1 * 2 ^ 15 + e.2.1),
      c.2 :: rest.flatMap (fun (e : (Nat × Nat) × (Nat × Nat)) => [e.1.2, e.2.2]))

/-! ## Records -/

/-- A number whose fields of n bits are given, lowest first. -/
def fieldsOf (n : Nat) : List Nat → Nat
  | [] => 0
  | v :: l => v % 2 ^ n + 2 ^ n * fieldsOf n l

/-- Words 4 to 15 of a record of a signal: the polarity found is taken out first (R310). -/
def navData (g : Nat) (inverted : Bool) (prev : Nat) (raw : List Nat) : List Nat :=
  let turn := fun (n v : Nat) => if inverted then flipLow n v else v % 2 ^ n
  let ten := fun (l : List Nat) => (List.range 10).map (fun i => (l[i]?).getD 0)
  match g with
  | 0 =>
    let ws := lnavWords (turn 2 prev) ((ten raw).map (turn 30))
    [fieldsOf 1 (ws.map (fun (e : Nat × Bool) => if e.2 then 1 else 0)), 0] ++ ws.map (fun (e : Nat × Bool) => e.1)
  | 1 =>
    let (even, odd) := (turn 120 ((raw[0]?).getD 0), turn 120 ((raw[1]?).getD 0))
    [(if inavPass even odd then 1 else 0) + 2 * (prev % 2), 0] ++ wordsOf120 even ++ wordsOf120 odd ++ [0, 0]
  | _ =>
    let (ws, res) := d1Words ((ten raw).map (turn 30))
    [fieldsOf 2 res % 2 ^ 32, fieldsOf 2 res / 2 ^ 32] ++ ws

end Sys2Proof.Machine
end

