-- ==== Sys2Proof/Machine/Gnss.lean ====
section
/-!
DEFINITION. Gnss.lean: the GNSS baseband: sample ports, acquisition, channels, the Kettle, measurement epochs,
navigation records and the firmware's time service (R291 to R315).
-/
namespace Sys2Proof.Machine

/-- The state with a function applied to the baseband's record. -/
def State.modGnss (s : State) (f : Gnss → Gnss) : State := { s with gnss := f s.gnss }

/-- Channel c. -/
def State.chan (s : State) (c : Nat) : Chan := kget s.chans c {}

/-- The state with a function applied to channel c's record. -/
def State.modChan (s : State) (c : Nat) (f : Chan → Chan) : State := { s with chans := kput s.chans c (f (s.chan c)) }

/-- STATE of a channel (R299): 0 IDLE, 1 PULL_IN, 2 TRACKING, 3 SLEEP, 4 WAKING, 5 LOST. -/
def State.chanState (s : State) (c : Nat) : Nat := s.fld (Fld.GNSS_CH_STAT_STATE c)

/-- The channels. -/
def allChans : List Nat := List.range 64

/-- SIGNAL of a channel; the sample port of a signal; its carrier in kHz, its chips per code period, its half-width in kHz; its
code period in ms; the range of its PRNs (R295). -/
def State.chanSignal (s : State) (c : Nat) : Nat := s.fld (Fld.GNSS_CH_CTRL_SIGNAL c)
def signalPort (g : Nat) : Nat := if g ≤ 2 then 0 else 1
def signalCarrier (g : Nat) : Nat := if g ≤ 1 then 1575420 else if g = 2 then 1561098 else 1176450
def signalChips (g : Nat) : Nat := if g = 0 then 1023 else if g = 1 then 4092 else if g = 2 then 2046 else 10230
def signalHalf (g : Nat) : Nat := if g = 0 then 1023 else if g ≤ 2 then 2046 else 10230
def signalPeriod (g : Nat) : Nat := if g = 1 then 4 else 1
def prnOk (g prn : Nat) : Bool :=
  match g with
  | 0 | 3 => decide (1 ≤ prn) && decide (prn ≤ 32)
  | 1 | 4 => decide (1 ≤ prn) && decide (prn ≤ 36)
  | 2 => decide (6 ≤ prn) && decide (prn ≤ 58)
  | _ => false

/-- Whether a signal has a pilot, and a data prompt beside it (R295, R300). -/
def signalPilot (g : Nat) : Bool := g == 1 || g == 3 || g == 4

/-- Code periods in a signal's data bit or secondary code: the interface specifications'.
(PRESUMED, log entry 164) -/
def signalSecondary (g : Nat) : Nat := if g = 1 then 25 else if g = 4 then 100 else 20

/-- A port runs while SP_GNSS is on and its EN is 1 (R291). -/
def State.portRuns (s : State) (x : Nat) : Bool := s.domOn 3 && s.on (Fld.GNSS_PORT_CFG_EN x)

/-- A port without a good clock (R293). -/
def State.clockBad (s : State) (x : Nat) : Bool :=
  !s.on (Fld.GNSS_PORT_STAT_CLK_OK x) || s.on (Fld.GNSS_PORT_STAT_FREQ_BAD x)

/-- Whether a channel is a burst channel, and whether the Kettle runs (R303). -/
def State.burstCh (s : State) (c : Nat) : Bool := s.on (Fld.GNSS_CH_CTRL_BURST c)
def State.kettleOn (s : State) : Bool := s.on Fld.KETTLE_CTRL_EN

/-- Whether some channel tracks in bursts. -/
def State.bursting (s : State) : Bool := s.kettleOn && allChans.any (fun c => s.chanState c != 0 && s.burstCh c)

/-- Whether a continuous channel uses a port. -/
def State.portContinuous (s : State) (x : Nat) : Bool :=
  allChans.any (fun c => s.chanState c != 0 && !s.burstCh c && signalPort (s.chanSignal c) == x)

/-- The PWREN pins follow EN, but where the Kettle gates them to its bursts and the lead before them (R294, R305). -/
def State.pwren (s : State) : State :=
  s.forAll [0, 1] (fun x s =>
    let en := s.on (Fld.GNSS_PORT_CFG_EN x)
    let gated := s.bursting && s.on Fld.KETTLE_CTRL_FE_GATE && !s.portContinuous x
    s.setBit (Fld.GNSS_PORT_STAT_PWREN x) (en && (!gated || s.gnss.awake.isSome || s.gnss.lead)))

/-- KETTLE.STAT.ACTIVE and the PWREN pins follow. -/
def State.kettleShow (s : State) : State := (s.setBit Fld.KETTLE_STAT_ACTIVE s.bursting).pwren

/-- Whether SP_GNSS is held continuously: in READY and SERVICE, with a port enabled and a channel with BURST = 0 (R342).
(DEDUCED, log entry 89) -/
def State.gnssHeld (s : State) : Bool :=
  decide (2 ≤ s.fld Fld.PWR_STATE_STATE) && (s.on (Fld.GNSS_PORT_CFG_EN 0) || s.on (Fld.GNSS_PORT_CFG_EN 1)) &&
    allChans.any (fun c => !s.burstCh c)

/-- SP_GNSS is requested while it is held continuously, and released when neither that nor a burst needs it.
(DEDUCED, log entry 89) -/
def State.gnssFollow (s : State) : State :=
  let s := s.kettleShow
  if s.gnssHeld then s.request 3 else if s.gnss.awake.isSome ∨ s.rq 3 = 0 then s else s.release 3

/-! ## Samples and NCOs (R291 to R294) -/

/-- A sample's value from the levels of its pins, pin 3 highest (R292): sign and magnitude on pins 1 and 0, or two's complement on
all four. -/
def sampleValue (fourBits : Bool) (pins : Nat) : Int :=
  if fourBits then signed 4 (pins % 16)
  else
    let m : Int := if pins % 2 = 1 then 3 else 1
    if pins / 2 % 2 = 1 then -m else m

/-- A port's samples from the levels of its I and Q pins at each rising edge of its clock (R292). -/
def State.samples (s : State) (x : Nat) (i q : List Nat) : List (Int × Int) :=
  let four := s.on (Fld.GNSS_PORT_CFG_BITS x)
  (i.zip q).map (fun (e : Nat × Nat) => (sampleValue four e.1, sampleValue four e.2))

/-- Samples per second of network time on a port, times 10^9: the nominal rate corrected by FMEAS (R291, R293). -/
def State.sampleRate (s : State) (x : Nat) : Int :=
  20460000 * (1 + s.fld (Fld.GNSS_PORT_CFG_RATE x) : Nat) * (10 ^ 9 + s.fldInt (Fld.GNSS_PORT_FMEAS_PPB x))

/-- A signal's carrier in mHz. -/
def carrierMilli (g : Nat) : Int := signalCarrier g * 10 ^ 6

/-- The carrier NCO's step per sample in 2^-32 cycle, for a Doppler in mHz: the sample clock and the LO are both corrected by
FMEAS (R293, R294). -/
def State.carrierStep (s : State) (g : Nat) (rate : Int) : Int :=
  let x := signalPort g
  let lo : Int := s.fld (Fld.GNSS_PORT_LO_LO x) * (10 ^ 9 + s.fldInt (Fld.GNSS_PORT_FMEAS_PPB x))
  ((carrierMilli g + rate) * 10 ^ 9 - lo * 1000) * 2 ^ 32 / (s.sampleRate x * 1000)

/-- The code NCO's step per sample in 2^-32 chip, corrected in the same way (R293). -/
def State.codeStep (s : State) (g : Nat) (rate codeRate : Int) : Int :=
  let chips : Int := signalChips g * 1000 / signalPeriod g
  chips * 10 ^ 9 * (carrierMilli g + rate) * 2 ^ 32 / (carrierMilli g * s.sampleRate (signalPort g)) + codeRate

/-- Where a code and a carrier stand a time later, with the NCOs running on at a Doppler (R303). -/
def runMeasure (g : Nat) (rate : Int) (u : Nat) (m : Measure) : Measure :=
  let (frac, chips, count, carrier) := m
  let perS : Int := signalChips g * 1000 / signalPeriod g
  let adv : Int := perS * 2 ^ 32 * u * (carrierMilli g + rate) / (carrierMilli g * secU)
  let pos := (((chips * 2 ^ 32 + frac : Nat) : Int) + adv).toNat
  let len := signalChips g * 2 ^ 32
  (pos % 2 ^ 32, pos % len / 2 ^ 32, (count + pos / len) % signalSecondary g, carrier + rate * u * 2 ^ 32 / (1000 * secU))

/-- Where a channel's NCOs have run to since it was last measured. -/
def State.predicted (s : State) (c : Nat) : Measure :=
  let x := s.chan c
  runMeasure (s.chanSignal c) x.rate (s.now - x.measAt) x.meas

/-! ## Channels (R293 to R302) -/

/-- A channel that no longer tracks shows no lock. -/
def State.chanUnlock (s : State) (c : Nat) : State :=
  ((s.setFld (Fld.GNSS_CH_STAT_CODE_LOCK c) 0).setFld (Fld.GNSS_CH_STAT_CARRIER_LOCK c) 0).modChan c (fun x => { x with lockSince := none })

/-- A channel goes to IDLE. -/
def State.chanIdle (s : State) (c : Nat) : State :=
  ({ s with chans := kdel s.chans c }.set (Reg.GNSS_CH_STAT c) 0#32).kettleShow

/-- A channel enters LOST: its NCOs stop where they are (R302). -/
def State.chanLost (s : State) (c : Nat) : State :=
  if s.chanState c = 0 ∨ s.chanState c = 5 then s
  else
    let m := s.predicted c
    let s := (s.setFld (Fld.GNSS_CH_STAT_STATE c) 5).raise Fld.GNSS_EVT_CHAN_LOST
    (s.chanUnlock c).modChan c (fun x => { x with meas := m })

/-- Every channel on a port enters LOST (R293). -/
def State.portLost (s : State) (x : Nat) : State :=
  s.forAll (allChans.filter (fun c => signalPort (s.chanSignal c) == x)) (fun c s => s.chanLost c)

/-- The event bit of a port. -/
def portEvt (x : Nat) : FRef := if x = 0 then Fld.GNSS_EVT_PORT_A else Fld.GNSS_EVT_PORT_B

/-- A channel enters PULL_IN at a code phase and a Doppler; on a port without a good clock it is lost at once. -/
def State.chanStart (s : State) (c code doppler : Nat) : State :=
  let x : Chan := {
    startAt := s.ticks, dumpAt := s.ticks, rate := signed 32 doppler, measAt := s.now
    meas := (code % 256 * 2 ^ 24, code / 256, 0, 0)
    taps := (s.get (Reg.GNSS_CH_TAPS0 c), s.get (Reg.GNSS_CH_TAPS1 c)) }
  let s := { s with chans := kput s.chans c x }
  let s := ((s.set (Reg.GNSS_CH_STAT c) 0#32).setFld (Fld.GNSS_CH_STAT_STATE c) 1).kettleShow
  if s.clockBad (signalPort (s.chanSignal c)) then s.chanLost c else s

/-- SAMPLE_CLOCK_LOSS (R293): of a port that runs with its front end on. -/
def execSampleClockLoss (dt x : Nat) (s : State) : Host.Outcome State Fault Refusal :=
  effect dt (fun s => onlyIf (decide (x < 2) && s.portRuns x && s.on (Fld.GNSS_PORT_STAT_PWREN x) &&
      s.on (Fld.GNSS_PORT_STAT_CLK_OK x))
    (fun s => (((s.setFld (Fld.GNSS_PORT_STAT_CLK_OK x) 0).raise (portEvt x)).modGnss (fun g => { g with
      clkAt := kput g.clkAt x s.ticks })).portLost x) s) s

/-- SAMPLE_CLOCK_RESTORE (R293): after 1 ms of edges. -/
def execSampleClockRestore (dt x : Nat) (s : State) : Host.Outcome State Fault Refusal :=
  effect dt (fun s => onlyIf (decide (x < 2) && s.portRuns x && decide (kget s.gnss.clkAt x 0 + msT ≤ s.ticks)) (fun s => s.raise (Fld.GNSS_PORT_STAT_CLK_OK x)) s) s

/-- A reading of a port's clock offset in ppb (R293). -/
def gnssFmeas (x : Nat) (ppb : Int) (s : State) : State :=
  let bad := decide (200000 < ppb.natAbs)
  let was := s.on (Fld.GNSS_PORT_STAT_FREQ_BAD x)
  let s := s.modGnss (fun g => { g with fmeasSec := kput g.fmeasSec x (s.now / secU) })
  let s := (s.setFld (Fld.GNSS_PORT_FMEAS_PPB x) (unsigned 32 ppb)).setBit (Fld.GNSS_PORT_STAT_FREQ_BAD x) bad
  if bad && !was then (s.raise (portEvt x)).portLost x else s

/-- GNSS_FMEAS (R293): once in each second of network time. -/
def execGnssFmeas (dt x : Nat) (ppb : Int) (s : State) : Host.Outcome State Fault Refusal :=
  effect dt (fun s => onlyIf (decide (x < 2) && s.portRuns x && s.on (Fld.GNSS_PORT_STAT_CLK_OK x) &&
    kfind s.gnss.fmeasSec x != some (s.now / secU)) (gnssFmeas x ppb) s) s

/-- Whether a source is software rather than the device's firmware. -/
def isSoftware : Src → Bool
  | .core | .app => false
  | _ => true

/-- A write to ACQ, KETTLE or CH: software's is discarded while the firmware owns them. -/
def State.owned (s : State) (src : Src) (f : State → State) : State :=
  if isSoftware src && !s.on Fld.GNSS_CTRL_SW_OWN then s.raise Fld.GNSS_EVT_OWNER else f s

/-- Whether a signal's band lies within LO ± RATE / 2 of its port (R294), in units of 10 kHz of RATE. -/
def State.bandWithin (s : State) (g : Nat) : Bool :=
  let x := signalPort g
  let half : Int := 10230000 * (1 + s.fld (Fld.GNSS_PORT_CFG_RATE x) : Nat)
  let lo : Int := s.fld (Fld.GNSS_PORT_LO_LO x)
  let c : Int := 1000 * signalCarrier g
  let w : Int := 1000 * signalHalf g
  decide (lo - half ≤ c - w) && decide (c + w ≤ lo + half)

/-- A write of CH[c].CTRL (R299): STOP idles the channel; START begins PULL_IN; SIGNAL and PRN change in IDLE only.
(DESIGN CHOICE, log entry 88) -/
def chanCtrlWrite (c : Nat) (w : Word) (s : State) : State :=
  let idle := s.chanState c == 0
  let (g, prn) := (bitsOf w 16 3, bitsOf w 0 8)
  let changes := g != s.chanSignal c || prn != s.fld (Fld.GNSS_CH_CTRL_PRN c)
  let start := bitsOf w 31 1 == 1
  if bitsOf w 30 1 = 1 then
    let s := if changes && !idle then s.raise Fld.GNSS_EVT_CFG_ERR else s.storeRw (Reg.GNSS_CH_CTRL c) w
    (s.chanIdle c).gnssFollow
  else if !idle && (start || changes) then s.raise Fld.GNSS_EVT_CFG_ERR
  else if start && (!prnOk g prn || !s.bandWithin g) then s.raise Fld.GNSS_EVT_CFG_ERR
  else
    let s := s.storeRw (Reg.GNSS_CH_CTRL c) w
    let s := if start then
        s.chanStart c (s.fld (Fld.GNSS_CH_INIT_CODE_CODE c)) (s.fld (Fld.GNSS_CH_INIT_DOPPLER_DOPPLER c)) else s
    s.gnssFollow

/-- CHANNEL_START (R299): a write of CTRL with START = 1. -/
def execChannelStart (dt : Nat) (src : Src) (c : Nat) (w : Word) (s : State) : Host.Outcome State Fault Refusal :=
  effect dt (onlyIf (decide (c < 64))
    (fun s => s.guarded src (Reg.GNSS_CH_CTRL c) (fun s => s.owned src (chanCtrlWrite c (w ||| 0x80000000#32))))) s

/-- CHANNEL_STOP (R299): a write of CTRL with STOP = 1. -/
def execChannelStop (dt : Nat) (src : Src) (c : Nat) (w : Word) (s : State) : Host.Outcome State Fault Refusal :=
  effect dt (onlyIf (decide (c < 64))
    (fun s => s.guarded src (Reg.GNSS_CH_CTRL c) (fun s => s.owned src (chanCtrlWrite c (w ||| 0x40000000#32))))) s

/-- A write of CH[c].LOOP: bandwidths in range and T_COH no reserved code (R301). -/
def chanLoopWrite (c : Nat) (w : Word) (s : State) : State :=
  let within := fun (lo len a b : Nat) => decide (a ≤ bitsOf w lo len) && decide (bitsOf w lo len ≤ b)
  if within 24 8 1 200 && within 16 6 2 50 && within 8 5 1 20 && within 0 3 0 5 then s.storeRw (Reg.GNSS_CH_LOOP c) w
  else s.raise Fld.GNSS_EVT_CFG_ERR

/-- A write of TAPS +0x10 commits both words: tap 3 stays at 0, and tap 7 lies at least 1.5 chips from the prompt (R11, R300). -/
def chanTapsWrite (c : Nat) (w : Word) (s : State) : State :=
  let a := Reg.GNSS_CH_TAPS0 c
  let v := s.wideValue a 2 (w &&& 0x00FFFFFF#32)
  let s := s.dropHeld a 2
  if (signed 8 (v / 2 ^ 56)).natAbs < 48 then s.raise Fld.GNSS_EVT_CFG_ERR else s.setWide a 2 v

/-- A write of PORT[x].CFG or LO: RATE, BITS and LO change while EN is 0 only (R291, R294).
(DESIGN CHOICE, log entry 88) -/
def gnssCfgWrite (x : Nat) (w : Word) (s : State) : State :=
  if s.on (Fld.GNSS_PORT_CFG_EN x) &&
      (bitsOf w 8 1 != s.fld (Fld.GNSS_PORT_CFG_BITS x) || bitsOf w 0 2 != s.fld (Fld.GNSS_PORT_CFG_RATE x)) then
    s.raise Fld.GNSS_EVT_CFG_ERR
  else
    let on := bitsOf w 31 1 == 1 && !s.on (Fld.GNSS_PORT_CFG_EN x)
    let s := if on then s.modGnss (fun g => { g with clkAt := kput g.clkAt x s.ticks }) else s
    (s.storeRw (Reg.GNSS_PORT_CFG x) w).gnssFollow
def gnssLoWrite (x : Nat) (w : Word) (s : State) : State :=
  if s.on (Fld.GNSS_PORT_CFG_EN x) || decide (w.toNat < 1100000000) || decide (1650000000 < w.toNat) then
    s.raise Fld.GNSS_EVT_CFG_ERR
  else s.set (Reg.GNSS_PORT_LO x) w

/-- A pull-in's conditions have held for 200 ms (R299). -/
def State.pulledIn (s : State) (c : Nat) : Bool :=
  match (s.chan c).goodSince with
  | some t => s.chanState c == 1 && decide (t + 200 * msT ≤ s.ticks)
  | none => false

/-- A channel enters TRACKING. -/
def State.chanTrack (s : State) (c : Nat) : State :=
  (s.setFld (Fld.GNSS_CH_STAT_STATE c) 2).modChan c (fun x => { x with trackAt := s.ticks })

/-- PULL_IN_DONE (R299). -/
def execPullInDone (dt c : Nat) (s : State) : Host.Outcome State Fault Refusal :=
  effect dt (fun s => onlyIf (decide (c < 64) && s.pulledIn c) (fun s => s.chanTrack c) s) s

/-- An instant since which a condition holds. -/
def sinceWhen (old : Option Nat) (now : Nat) (holds : Bool) : Option Nat := if holds then some (old.getD now) else none

/-- The offset of tap t of a pair of TAPS words, in 1/32 chip; tap 3 is the prompt (R300). -/
def tapOffset (w : Word × Word) (t : Nat) : Int :=
  if t = 3 then 0 else signed 8 (bitsOf (if t < 4 then w.1 else w.2) (8 * (t % 4)) 8)

/-- The coherent interval in ms: 1 until the bit or secondary-code boundary is found, then T_COH, at most the signal's bit or
secondary-code period (R301). -/
def State.coherent (s : State) (c : Nat) : Nat :=
  let g := s.chanSignal c
  let ms := match s.fld (Fld.GNSS_CH_LOOP_T_COH c) with
    | 0 => 1
    | 1 => 2
    | 2 => 4
    | 3 => 5
    | 4 => 10
    | _ => 20
  if s.on (Fld.GNSS_CH_STAT_BIT_SYNC c) then min ms (signalSecondary g * signalPeriod g) else 1

/-- The correlators of a dump: the eight taps of the tracked component, and on a pilot the data prompt (R300). -/
def State.correlators (s : State) (c : Nat) (samples : List (Int × Int)) : List (Int × Int) :=
  let x := s.chan c
  let g := s.chanSignal c
  let at1 := fun (data : Bool) (o : Int) => Config.correlate g (s.fld (Fld.GNSS_CH_CTRL_PRN c)) data
    (o, s.carrierStep g x.rate, s.codeStep g x.rate x.codeRate) samples
  (List.range 8).map (fun t => at1 false (tapOffset x.taps t)) ++ (if signalPilot g then [at1 true 0] else [])

/-- The loops close at a dump (R301): in PULL_IN the FLL alone for 100 ms, then as an aid to the PLL; in TRACKING the PLL and the
aided DLL, which begins with the PLL.
(DESIGN CHOICE, log entry 91) -/
def State.closeLoops (s : State) (c : Nat) (corr : List (Int × Int)) : State :=
  let x := s.chan c
  let tap := fun (l : List (Int × Int)) t => (l[t]?).getD (0, 0)
  let pull := s.chanState c == 1
  let alone := pull && decide (s.ticks < x.startAt + 100 * msT)
  let fll := if pull then some (s.fld (Fld.GNSS_CH_LOOP_FLL_BW c)) else none
  let pll := if alone then none else some (s.fld (Fld.GNSS_CH_LOOP_PLL_BW c))
  let rate := Config.carrierLoop fll pll (tap x.corr 3) (tap corr 3) x.rate
  let code := if alone then x.codeRate
    else Config.codeLoop (s.fld (Fld.GNSS_CH_LOOP_DLL_BW c)) (tap corr 2) (tap corr 4) rate x.codeRate
  s.modChan c (fun x => { x with rate := rate, codeRate := code })

/-- What a dump makes of C/N0 in 0.01 dB-Hz and PLI in thousandths (R299, R302). -/
def State.judgeDump (s : State) (c cn0 pli : Nat) (half slip : Bool) : State :=
  let track := s.chanState c == 2
  let lock := track && decide (800 ≤ pli)
  let s := s.modChan c (fun x => { x with
    pli := pli
    goodSince := sinceWhen x.goodSince s.ticks (decide (800 ≤ pli) && decide (50 * s.fld (Fld.GNSS_CH_THR_TRACK_CN0 c) ≤ cn0))
    lowSince := sinceWhen x.lowSince s.ticks (decide (pli < 300))
    lockSince := sinceWhen (if slip then none else x.lockSince) s.ticks lock
    cn0s := (s.ticks, cn0) :: x.cn0s.takeWhile (fun e => decide (s.ticks < e.1 + secT + msT))
    half := half, slip := x.slip || slip })
  let s := s.setFld (Fld.GNSS_CH_STAT_CN0 c) (sat 16 cn0)
  (s.setBit (Fld.GNSS_CH_STAT_CARRIER_LOCK c) lock).setBit (Fld.GNSS_CH_STAT_CODE_LOCK c)
    (track && decide (50 * s.fld (Fld.GNSS_CH_THR_LOSS_CN0 c) ≤ cn0))

/-- A dump: the samples are correlated at the taps in force, the loops close, C/N0 comes from the prompt and tap 7, and TAPS come
into force (R292, R300, R301). -/
def integrationDump (c : Nat) (i q : List Nat) (sync half slip : Bool) (s : State) : State :=
  let x := signalPort (s.chanSignal c)
  let samples := s.samples x i q
  let corr := s.correlators c samples
  let tap := fun t => (corr[t]?).getD (0, 0)
  let cn0 := Config.cn0Estimate (tap 3) (tap 7) (s.fld (Fld.GNSS_CH_STAT_CN0 c))
  let pli := Config.lockIndicator (tap 3) (s.chan c).pli
  let s := s.modGnss (fun g => { g with sample := samples.getLast?.elim g.sample (fun v => kput g.sample x v) })
  let s := (s.closeLoops c corr).modChan c (fun y => { y with
    corr := corr, dumpAt := s.ticks, taps := (s.get (Reg.GNSS_CH_TAPS0 c), s.get (Reg.GNSS_CH_TAPS1 c)) })
  (s.judgeDump c cn0 pli half slip).setBit (Fld.GNSS_CH_STAT_BIT_SYNC c) sync

/-- Whether a channel's dump is due: a coherent interval since the last, which Doppler may shorten by up to a thousandth.
(DESIGN CHOICE, log entry 91) -/
def State.dumpDue (s : State) (c : Nat) : Bool := decide ((s.chan c).dumpAt + s.coherent c * (msT - msT / 1000) ≤ s.ticks)

/-- INTEGRATION_DUMP (R301): of a channel in PULL_IN or TRACKING. -/
def execIntegrationDump (dt c : Nat) (i q : List Nat) (sync half slip : Bool) (s : State) :
    Host.Outcome State Fault Refusal :=
  effect dt (fun s => onlyIf (decide (c < 64) && s.domOn 3 && (s.chanState c == 1 || s.chanState c == 2) && s.dumpDue c)
    (integrationDump c i q sync half slip) s) s

/-- Whether a channel's signal is lost: its mean C/N0 over 1 s below LOSS_CN0, or PLI below 0.3 for 1 s (R302). -/
def State.signalGone (s : State) (c : Nat) : Bool :=
  let l := (s.chan c).cn0s
  let whole := l.any (fun e => decide (e.1 + secT ≤ s.ticks))
  let sum := l.foldl (fun a e => a + e.2) 0
  (whole && decide (sum < 50 * s.fld (Fld.GNSS_CH_THR_LOSS_CN0 c) * l.length)) ||
    (s.chan c).lowSince.any (fun t => decide (t + secT ≤ s.ticks))

/-- CHANNEL_LOSS (R302). -/
def execChannelLoss (dt c : Nat) (s : State) : Host.Outcome State Fault Refusal :=
  effect dt (fun s => onlyIf (decide (c < 64) && (s.chanState c == 1 || s.chanState c == 2) && s.signalGone c)
    (fun s => s.chanLost c) s) s

/-- A write of GNSS.CTRL: a change of SW_OWN idles every channel and empties the acquisition queues. -/
def ownerChange (w : Word) (s : State) : State :=
  if (bitsOf w 0 1 == 1) = s.on Fld.GNSS_CTRL_SW_OWN then s
  else
    let s := (s.setFld Fld.GNSS_CTRL_SW_OWN (bitsOf w 0 1)).forAll allChans (fun c s => s.chanIdle c)
    ((s.modGnss (fun g => { g with reqs := [], res := [], capAt := none })).set Reg.GNSS_ACQ_STAT 0#32).gnssFollow

/-- GNSS_OWNER_CHANGE (R299). -/
def execGnssOwnerChange (dt : Nat) (src : Src) (w : Word) (s : State) : Host.Outcome State Fault Refusal :=
  effect dt (fun s => s.guarded src Reg.GNSS_CTRL (ownerChange w)) s

/-! ## Acquisition (R297, R298) -/

/-- ACQ.STAT follows the queues. -/
def State.acqShow (s : State) : State :=
  (s.setFld Fld.GNSS_ACQ_STAT_REQ_LEVEL s.gnss.reqs.length).setFld Fld.GNSS_ACQ_STAT_RES_LEVEL s.gnss.res.length

/-- A write of ACQ.REQ1: N from 1 to 64 and B to 64 (R297). -/
def acqReq1Write (w : Word) (s : State) : State :=
  if bitsOf w 0 8 = 0 ∨ 64 < bitsOf w 0 8 ∨ 64 < bitsOf w 8 8 then s.raise Fld.GNSS_EVT_CFG_ERR
  else s.storeRw Reg.GNSS_ACQ_REQ1 w

/-- A write of ACQ.REQ0: with GO it queues the three words as they now stand.
(DESIGN CHOICE, log entry 90) -/
def acqRequest (w : Word) (s : State) : State :=
  let s := s.storeRw Reg.GNSS_ACQ_REQ0 w
  if bitsOf w 31 1 = 0 then s
  else if 16 ≤ s.gnss.reqs.length then s.raise Fld.GNSS_EVT_CFG_ERR
  else (s.modGnss (fun g => { g with
    reqs := g.reqs ++ [[s.get Reg.GNSS_ACQ_REQ0, s.get Reg.GNSS_ACQ_REQ1, s.get Reg.GNSS_ACQ_REQ2]] })).acqShow

/-- ACQ_REQUEST (R297). -/
def execAcqRequest (dt : Nat) (src : Src) (w : Word) (s : State) : Host.Outcome State Fault Refusal :=
  effect dt (fun s => s.guarded src Reg.GNSS_ACQ_REQ0 (fun s => s.owned src (acqRequest (w ||| 0x80000000#32)))) s

/-- Word i of the request at the head. -/
def State.acqHead (s : State) (i : Nat) : Word := ((s.gnss.reqs.headD [])[i]?).getD 0#32

/-- Whether the head names a signal and a PRN that exist, and its port runs with a good clock. -/
def State.acqValid (s : State) : Bool := prnOk (bitsOf (s.acqHead 0) 16 3) (bitsOf (s.acqHead 0) 0 8)
def State.acqPortUp (s : State) : Bool :=
  let x := signalPort (bitsOf (s.acqHead 0) 16 3)
  s.portRuns x && !s.clockBad x

/-- ACQ_CAPTURE_START (R298): the engine takes the head while the result queue has room. -/
def execAcqCaptureStart (dt : Nat) (s : State) : Host.Outcome State Fault Refusal :=
  effect dt (fun s => onlyIf (!s.gnss.reqs.isEmpty && s.gnss.capAt.isNone && decide (s.gnss.res.length < 16) &&
      s.acqValid && s.acqPortUp)
    (fun s => s.modGnss (fun g => { g with capAt := some s.ticks })) s) s

/-- Ticks the head's capture takes: N code periods. -/
def State.acqCapture (s : State) : Nat := bitsOf (s.acqHead 1) 0 8 * signalPeriod (bitsOf (s.acqHead 0) 16 3) * msT

/-- Whether a peak lies on the head's search grid: code phases in half chips, 2B + 1 Dopplers about CENTRE spaced by
1 / (2 × code period) (R297). -/
def State.acqOnGrid (s : State) (code : Nat) (doppler : Int) : Bool :=
  let g := bitsOf (s.acqHead 0) 16 3
  let off := doppler - 1000 * signed 16 (bitsOf (s.acqHead 1) 16 16)
  let step : Int := 500000 / signalPeriod g
  code % 128 == 0 && decide (code < 256 * signalChips g) && off % step == 0 &&
    decide (off.natAbs ≤ bitsOf (s.acqHead 1) 8 8 * step.natAbs)

/-- A result enters the result queue and the request leaves. -/
def State.acqResult (s : State) (result code doppler cn0 : Nat) : State :=
  let w0 := s.acqHead 0
  let r := [BitVec.ofNat 32 (result * 2 ^ 28 + bitsOf w0 16 3 * 2 ^ 16 + bitsOf w0 24 6 * 2 ^ 8 + bitsOf w0 0 8),
    BitVec.ofNat 32 code, BitVec.ofNat 32 doppler, BitVec.ofNat 32 (sat 16 cn0)]
  ((s.modGnss (fun g => { g with reqs := g.reqs.drop 1, capAt := none, res := g.res ++ [r] })).acqShow).raise
    Fld.GNSS_EVT_ACQ_DONE

/-- A request that cannot be captured has no peak: the spec states no value of it. -/
def State.acqNoPeak (s : State) (result : Nat) : State :=
  let (a, s) := s.draw
  let (b, s) := s.draw
  let (c, s) := s.draw
  s.acqResult result a.toNat b.toNat (c.toNat % 2 ^ 16)

/-- A found signal is handed over to an idle channel (R298). -/
def State.acqHandover (s : State) (code doppler cn0 : Nat) : State :=
  let w0 := s.acqHead 0
  let c := bitsOf w0 24 6
  if s.chanState c ≠ 0 then s.acqResult 4 code doppler cn0
  else
    let t := (s.acqResult 0 code doppler cn0).setFld (Fld.GNSS_CH_CTRL_SIGNAL c) (bitsOf w0 16 3)
    (t.setFld (Fld.GNSS_CH_CTRL_PRN c) (bitsOf w0 0 8)).chanStart c code doppler

/-- An acquisition completes with its peak: code phase in 2^-8 chip, Doppler in mHz, C/N0 in 0.01 dB-Hz (R298).
(DESIGN CHOICE, log entry 90) -/
def acqComplete (code : Nat) (doppler : Int) (cn0 : Nat) (s : State) : State :=
  if s.gnss.reqs.isEmpty ∨ 16 ≤ s.gnss.res.length then s
  else if !s.acqValid then s.acqNoPeak 3
  else if !s.acqPortUp then s.acqNoPeak 2
  else match s.gnss.capAt with
    | none => s
    | some t =>
      let d := unsigned 32 doppler
      if s.ticks < t + s.acqCapture ∨ !s.acqOnGrid code doppler then s
      else if cn0 < 10 * bitsOf (s.acqHead 2) 0 10 then s.acqResult 1 code d cn0
      else if bitsOf (s.acqHead 0) 30 1 = 1 then s.acqHandover code d cn0
      else s.acqResult 0 code d cn0

/-- ACQ_COMPLETE (R298). -/
def execAcqComplete (dt code : Nat) (doppler : Int) (cn0 : Nat) (s : State) : Host.Outcome State Fault Refusal :=
  effect dt (acqComplete code doppler cn0) s

/-- A read of RES +0x0 removes the oldest result and latches it (R298). -/
def acqRead (src : Src) (s : State) : State :=
  let r := s.gnss.res.headD [0#32, 0#32, 0#32, 0#32]
  let s := (s.modGnss (fun g => { g with res := g.res.drop 1 })).acqShow
  (s.setWide Reg.GNSS_ACQ_RES0 4 (r.foldr (fun w a => w.toNat + 2 ^ 32 * a) 0)).emit (.readData src [r.headD 0#32])

/-- ACQ_RESULT_READ (R298). -/
def execAcqResultRead (dt : Nat) (src : Src) (s : State) : Host.Outcome State Fault Refusal :=
  effect dt (fun s => s.guarded src Reg.GNSS_ACQ_RES0 (acqRead src)) s

/-! ## The Kettle (R303 to R306) -/

/-- Half the burst window. -/
def State.burstHalf (s : State) : Nat := s.fld Fld.KETTLE_CTRL_LEN * msU / 2

/-- The second boundary whose window has begun last or is next to begin: the first S with S + LEN / 2 after now. -/
def State.burstS (s : State) : Nat := (s.now + secU - s.burstHalf) / secU * secU

/-- A write of KETTLE.CTRL: MISS_LIMIT is not 0, LEN and FE_LEAD in range (R303 to R305). -/
def kettleCtrlWrite (w : Word) (s : State) : State :=
  if bitsOf w 0 4 = 0 ∨ bitsOf w 16 8 < 20 ∨ 200 < bitsOf w 16 8 ∨ 50 < bitsOf w 24 6 then s.raise Fld.GNSS_EVT_CFG_ERR
  else
    let was := s.kettleOn
    let s := s.storeRw Reg.KETTLE_CTRL w
    let s := if was then s else s.modGnss (fun g => { g with ended := s.burstS })
    s.gnssFollow

/-- A step of network time moves the schedule from the next burst, and marks the records of the next epoch (R303, R308). -/
def State.gnssStep (s : State) : State :=
  let n := s.burstS
  s.modGnss (fun g => { g with
    stepped := true, ended := n, decided := if n ≤ s.now + s.burstHalf then n else n - 1, epoch := (s.now - 1) / secU })

/-- How far ahead of a window the Kettle asks for power. -/
def State.burstLead (s : State) : Nat := s.fld Fld.KETTLE_CTRL_FE_LEAD * msU

/-- The next window that no decision has been made for. -/
def State.nextBurst (s : State) : Nat := if s.burstS ≤ s.gnss.decided then s.burstS + secU else s.burstS

/-- KETTLE_POWER_REQUEST (R305). -/
def execKettlePowerRequest (dt : Nat) (s : State) : Host.Outcome State Fault Refusal :=
  effect dt (fun s => onlyIf (s.bursting && decide (s.nextBurst ≤ s.now + s.burstHalf + s.burstLead + msU))
    (fun s => s.request 3) s) s

/-- FE_LEAD_PWREN_HIGH (R305): FE_LEAD before the window, with the grant made. -/
def execFeLeadPwrenHigh (dt : Nat) (s : State) : Host.Outcome State Fault Refusal :=
  effect dt (fun s => onlyIf (s.bursting && s.on Fld.KETTLE_CTRL_FE_GATE && s.domOn 3 &&
    decide (s.nextBurst ≤ s.now + s.burstHalf + s.burstLead)) (fun s => (s.modGnss (fun g => { g with lead := true })).pwren) s) s

/-- Ticks of a span of network time. -/
def unitTicks (u : Nat) : Nat := (u + tickUnits - 1) / tickUnits

/-- A burst begins at the start of its window (R303, R304): sleeping channels wake.
(DESIGN CHOICE, log entry 92) -/
def burstStart (s : State) : State :=
  let n := s.nextBurst
  let miss := s.ticks + unitTicks (n - msU - s.now)
  let fin := s.ticks + unitTicks (n + s.burstHalf - s.now)
  let s := (s.modGnss (fun g => { g with awake := some (n, miss, fin), lead := false, decided := n })).raise Fld.KETTLE_STAT_AWAKE
  s.pwren.forAll (allChans.filter (fun c => s.chanState c == 3)) (fun c s => s.setFld (Fld.GNSS_CH_STAT_STATE c) 4)

/-- Whether a window is open and not decided. -/
def State.burstDue (s : State) : Bool :=
  s.bursting && s.gnss.awake.isNone && decide (s.nextBurst ≤ s.now + s.burstHalf)

/-- Whether SP_GNSS was granted by the start of the window that is due (R305). -/
def State.burstGranted (s : State) : Bool :=
  s.rq 3 == 2 && decide (kget s.power.grantAt 3 0 + (s.now - (s.nextBurst - s.burstHalf)) / tickUnits ≤ s.ticks)

/-- BURST_START (R304). -/
def execBurstStart (dt : Nat) (s : State) : Host.Outcome State Fault Refusal :=
  effect dt (fun s => onlyIf (s.burstDue && s.burstGranted && s.domOn 3) burstStart s) s

/-- A burst without a grant is skipped (R305).
(DESIGN CHOICE, log entry 92) -/
def burstSkip (s : State) : State :=
  let s := ((s.modGnss (fun g => { g with decided := s.nextBurst, lead := false })).bump Fld.KETTLE_CNT_SKIPPED 1).raise Fld.GNSS_EVT_BURST_SKIP
  s.gnssFollow

/-- BURST_SKIP (R305). -/
def execBurstSkip (dt : Nat) (s : State) : Host.Outcome State Fault Refusal :=
  effect dt (fun s => onlyIf (s.burstDue && !s.burstGranted) burstSkip s) s

/-- The tick a burst's window began in. -/
def State.burstBegan (s : State) : Nat :=
  match s.gnss.awake with
  | some x => x.2.2 - unitTicks (2 * s.burstHalf)
  | none => s.ticks

/-- Whether a waking channel has its signal: after the 4 ms check by its C/N0, after 4 ms more by the search, and by S - 1 ms
(R304). -/
def State.reacquired (s : State) (cn0 : Nat) (found : Bool) : Bool :=
  let past := fun (ms : Nat) => decide (s.burstBegan + ms * msT ≤ s.ticks)
  s.gnss.awake.any (fun x => decide (s.ticks ≤ x.2.1)) &&
    ((past 4 && decide (50 * s.fld Fld.KETTLE_CTRL_REACQ_CN0 ≤ cn0)) || (past 8 && found))

/-- WAKING_REACQUIRED (R304). -/
def execWakingReacquired (dt c cn0 : Nat) (found : Bool) (s : State) : Host.Outcome State Fault Refusal :=
  effect dt (fun s => onlyIf (decide (c < 64) && s.chanState c == 4 && s.reacquired cn0 found)
    (fun s => ((s.chanTrack c).setFld (Fld.GNSS_CH_STAT_MISSED c) 0).modChan c
      (fun x => { x with misses := 0, cn0s := [], lowSince := none })) s) s

/-- A channel misses its burst (R304). -/
def burstMiss (c : Nat) (s : State) : State :=
  let k := (s.chan c).misses + 1
  let s := (s.modChan c (fun x => { x with misses := k, slept := true })).raise (Fld.GNSS_CH_STAT_MISSED c)
  let s := (s.bump Fld.KETTLE_CNT_MISSES 1).raise Fld.GNSS_EVT_BURST_MISS
  if s.fld Fld.KETTLE_CTRL_MISS_LIMIT ≤ k then s.chanLost c else s.setFld (Fld.GNSS_CH_STAT_STATE c) 3

/-- BURST_MISS (R304). -/
def execBurstMiss (dt c : Nat) (s : State) : Host.Outcome State Fault Refusal :=
  effect dt (fun s => onlyIf (decide (c < 64) && s.chanState c == 4 && s.gnss.awake.any (fun x => decide (x.2.1 ≤ s.ticks)))
    (burstMiss c) s) s

/-- A window ends: burst channels in TRACKING sleep, the front ends go off, SP_GNSS is released (R303, R305, R342). -/
def burstEnd (s : State) : State :=
  let at1 := s.burstS
  let s := (s.modGnss (fun g => { g with awake := none, lead := false, ended := at1 })).setFld Fld.KETTLE_STAT_AWAKE 0
  let s := s.forAll (allChans.filter (fun c => s.burstCh c && s.chanState c == 2)) (fun c s =>
    ((s.setFld (Fld.GNSS_CH_STAT_STATE c) 3).chanUnlock c).modChan c (fun x => { x with slept := true }))
  s.gnssFollow

/-- BURST_END (R303): of a burst in progress, whatever EN has become, or of the window in which EN became 1. -/
def execBurstEnd (dt : Nat) (s : State) : Host.Outcome State Fault Refusal :=
  effect dt (fun s => onlyIf (match s.gnss.awake with
    | some x => decide (x.2.2 ≤ s.ticks)
    | none => s.kettleOn && decide (s.gnss.ended < s.burstS) && decide (s.burstS ≤ s.now + secU - s.burstHalf)) burstEnd s) s

/-! ## Measurement epochs (R307, R308) -/

/-- Whether a channel was TRACKING in time for the epoch S just past: in burst mode by S - 1 ms (R308). -/
def State.epochValid (s : State) (c : Nat) : Bool :=
  s.chanState c == 2 && (!(s.kettleOn && s.burstCh c) ||
    decide ((s.chan c).trackAt + msT + s.now % secU / tickUnits ≤ s.ticks))

/-- The record of a channel at an epoch (R308). -/
def State.epochRecord (s : State) (c : Nat) (m : Measure) : List Word :=
  let x := s.chan c
  let (frac, chips, count, carrier) := m
  let f := fun (b : Bool) (i : Nat) => if b then 2 ^ i else 0
  let asleep := s.chanState c == 3
  let lockS := match x.lockSince with
    | some t => sat 16 ((s.ticks - t) / secT)
    | none => 0
  let flags := f (s.epochValid c) 0 + f (s.on (Fld.GNSS_CH_STAT_CODE_LOCK c)) 1 +
    f (s.on (Fld.GNSS_CH_STAT_CARRIER_LOCK c)) 2 + f (s.on (Fld.GNSS_CH_STAT_BIT_SYNC c)) 3 + f x.half 4 + f x.slip 5 +
    f (x.slept || asleep) 6 + f s.gnss.stepped 7 + f (!s.on Fld.TIME_STATUS_TSU_LOCK) 8
  let car := unsigned 64 carrier
  [s.fld (Fld.GNSS_CH_CTRL_PRN c) + 2 ^ 8 * s.chanSignal c + 2 ^ 16 * c, frac % 2 ^ 32,
    chips % 2 ^ 14 + 2 ^ 16 * (count % 2 ^ 7), car % 2 ^ 32, car / 2 ^ 32, unsigned 32 x.rate,
    s.fld (Fld.GNSS_CH_STAT_CN0 c) + 2 ^ 16 * lockS, flags].map (BitVec.ofNat 32)

/-- What an epoch latches of a channel: the measure of one in PULL_IN or TRACKING; where the NCOs have run to of one asleep or
waking, and where they stopped of one LOST (R302, R303, R307). -/
def State.measureOf (s : State) (l : List (Nat × Measure)) (c : Nat) : Measure :=
  match s.chanState c with
  | 1 | 2 => (kfind l c).getD (s.predicted c)
  | 5 => (s.chan c).meas
  | _ => s.predicted c

/-- The parameters of the service come into force (R314). -/
def State.gnssParams (s : State) : State :=
  s.modGnss (fun g => { g with params := s.params.filter (fun (e : Nat × Int) => keyClass e.1 == 10) })

/-- At a second boundary the baseband latches every channel that is not IDLE (R307), and the service's parameters apply (R314). -/
def measurementEpoch (ms : List (Nat × Measure)) (s : State) : State :=
  let active := allChans.filter (fun c => s.chanState c != 0)
  let recs := active.map (fun c => (c, s.epochRecord c (s.measureOf ms c)))
  let sec := s.now / secU
  let t := (s.modGnss (fun g => { g with recs := some (sec * secU, recs), epoch := sec, stepped := false })).gnssParams
  t.forAll active (fun c t => t.modChan c (fun x => { x with
    slip := false, slept := s.chanState c == 3, meas := s.measureOf ms c, measAt := s.now }))

/-- MEASUREMENT_EPOCH (R307): once in each second of network time. -/
def execMeasurementEpoch (dt : Nat) (ms : List (Nat × (Nat × Nat × Nat × Int))) (s : State) :
    Host.Outcome State Fault Refusal :=
  effect dt (fun s => onlyIf (s.powered && s.counting && s.gnss.recs.isNone && s.now / secU != s.gnss.epoch &&
    (s.domOn 3 || allChans.any (fun c => s.chanState c == 3))) (measurementEpoch ms) s) s

/-- The records are written into the other bank, which becomes the bank shown (R307). -/
def epochComplete (s : State) : State :=
  match s.gnss.recs with
  | none => s
  | some (t, recs) =>
    let b := 1 - s.fld Fld.GNSS_EPOCH_STAT_BANK
    let s := s.forAll allChans (fun c s => s.forAll (List.range 8) (fun e s =>
      s.set (Reg.GNSS_MEAS b c e) ((((kfind recs c).getD [])[e]?).getD 0#32)))
    let s := (s.setFld Fld.GNSS_EPOCH_STAT_BANK b).wrapAdd Fld.GNSS_EPOCH_STAT_SEQ 1
    ((s.setWide Reg.GNSS_EPOCH_TIME0 3 (rawOfTime t)).raise Fld.GNSS_EVT_EPOCH).modGnss (fun g => { g with recs := none })

/-- EPOCH_COMPLETE (R307). -/
def execEpochComplete (dt : Nat) (s : State) : Host.Outcome State Fault Refusal := effect dt epochComplete s

/-! ## Navigation records (R309, R310) -/

/-- A unit completes: the time of its first bit, its polarity, its checks and data (R309, R310). Units of one cycle stand in
ascending channel order. -/
def navRecord (c t : Nat) (inverted : Bool) (u : NavUnit) (s : State) : State :=
  let w0 := s.fld (Fld.GNSS_CH_CTRL_PRN c) + 2 ^ 8 * c + 2 ^ 16 * (s.chanSignal c + 1) + (if inverted then 2 ^ 20 else 0)
  let data := (navData (s.chanSignal c) inverted u.prev u.raw).map (fun (v : Nat) => BitVec.ofNat 32 v)
  let r := [BitVec.ofNat 32 w0] ++ timeWords t ++ data
  let n := s.gnss.nav.length
  let later := fun (e : Nat × List Word) => e.1 == s.ticks && decide (c < bitsOf (e.2.headD 0#32) 8 6)
  let (l, out) := pushOrdered 512 later (s.ticks, r) s.gnss.nav
  let s := (s.modGnss (fun g => { g with nav := l })).setFld Fld.GNSS_NAV_STAT_LEVEL l.length
  if out.isSome then ((s.raise Fld.GNSS_NAV_STAT_OVERFLOW).bump Fld.GNSS_NAV_STAT_LOST 1).raise Fld.GNSS_EVT_NAV_OVERFLOW
  else if n = 0 then s.raise Fld.GNSS_EVT_NAV else s

/-- NAV_RECORD (R309): of a channel in TRACKING with BIT_SYNC on signals 0 to 2; none in KEEP (R306). -/
def execNavRecord (dt c t : Nat) (inverted : Bool) (u : NavUnit) (s : State) : Host.Outcome State Fault Refusal :=
  effect dt (fun s => onlyIf (decide (c < 64) && s.domOn 3 && s.chanState c == 2 && s.on (Fld.GNSS_CH_STAT_BIT_SYNC c) &&
    decide (s.chanSignal c ≤ 2) && s.fld Fld.PWR_STATE_STATE != 1) (navRecord c t inverted u) s) s

/-- A read of NAV.REC +0x0 removes the oldest record and latches it. -/
def navRead (src : Src) (s : State) : State :=
  let r := (s.gnss.nav.headD (0, [])).2
  let s := s.modGnss (fun g => { g with nav := g.nav.drop 1 })
  let s := s.setFld Fld.GNSS_NAV_STAT_LEVEL s.gnss.nav.length
  (s.forAll (List.range 16) (fun e s => s.set (Reg.GNSS_NAV_REC e) ((r[e]?).getD 0#32))).emit
    (.readData src [r.headD 0#32])

/-- NAV_READ (R309). -/
def execNavRead (dt : Nat) (src : Src) (s : State) : Host.Outcome State Fault Refusal :=
  effect dt (fun s => s.guarded src (Reg.GNSS_NAV_REC 0) (navRead src)) s

/-- A write of NAV.STAT: FLUSH empties the queue and clears LOST; OVERFLOW clears where 1 is written. -/
def navFlush (w : Word) (s : State) : State :=
  let s := if bitsOf w 10 1 = 1 then s.setFld Fld.GNSS_NAV_STAT_OVERFLOW 0 else s
  if bitsOf w 11 1 = 0 then s
  else ((s.modGnss (fun g => { g with nav := [] })).setFld Fld.GNSS_NAV_STAT_LOST 0).setFld Fld.GNSS_NAV_STAT_LEVEL 0

/-- NAV_FLUSH (R309). -/
def execNavFlush (dt : Nat) (src : Src) (w : Word) (s : State) : Host.Outcome State Fault Refusal :=
  effect dt (fun s => s.guarded src Reg.GNSS_NAV_STAT (navFlush (w ||| 0x800#32))) s

/-! ## The time service (R306, R311 to R314) -/

/-- A parameter of the service in force (R314). -/
def State.gnssParam (s : State) (item : Nat) : Int := { s with params := s.gnss.params }.param (pkey 10 0 item)

/-- Whether the service runs. -/
def State.gnssService (s : State) : Bool := s.fwRuns && !s.on Fld.GNSS_CTRL_SW_OWN && decide (s.gnssParam 1 = 1)

/-- Whether the antenna position is held: fixed, or surveyed (R311). -/
def State.positionHeld (s : State) : Bool := decide (s.gnssParam 0x10 = 1) || s.gnss.position.isSome

/-- The limit of |x| for handing on, in 2^-16 ns (R312). -/
def State.jumpLimit (s : State) : Int :=
  let more := if s.dstate 0 = 3 ∨ s.dstate 0 = 5 then (s.fld (Fld.DPLL_HO_BOUND_NS 0) : Int) else 0
  (s.gnssParam 0x40 + more) * 65536

/-- A solution is handed to slot 12. -/
def State.handOn (s : State) : State :=
  { s with slotHeard := kput s.slotHeard 12 s.ticks }.setFld Fld.GNSS_SOL_STAT_STATE 2

/-- The key of a satellite: its system and PRN. -/
def State.satKey (s : State) (c : Nat) : Nat :=
  let g := s.chanSignal c
  (if g = 2 then 2 else if g = 1 ∨ g = 4 then 1 else 0) * 64 + s.fld (Fld.GNSS_CH_CTRL_PRN c)

/-- Whether the firmware uses a channel's record: of the bank shown, VALID, not STALE nor TIME_INVALID, on a signal of SIGNALS
(R308, R314). -/
def State.recordUsed (s : State) (c : Nat) : Bool :=
  let b := s.fld Fld.GNSS_EPOCH_STAT_BANK
  let fl := (s.get (Reg.GNSS_MEAS b c 7)).toNat
  decide (c < 64) && fl % 2 == 1 && fl / 128 % 4 == 0 && s.gnssParam 2 / 2 ^ s.chanSignal c % 2 == 1

/-- A band's offset with the antenna and signal delays applied, its system's time taken to TAI (R311). -/
def State.offsetOf (s : State) (c : Nat) (off : Int) : Int :=
  let g := s.chanSignal c
  let delay := (s.gnssParam (0x20 + signalPort g) + s.gnssParam (0x22 + g)) * 65536 / 1000
  off + delay + (if g = 2 then 33 else 19) * (secU : Int)

/-- What a satellite gives a solution: none below ELEV_MASK, without a valid ephemeris or a record in use; the ionosphere-free
combination of both bands, else one band with the broadcast model (R306, R311). -/
def State.satOffset (s : State) (o : SatObs) : Option Int :=
  let usedB := o.b.filter (fun c => s.recordUsed c)
  if o.elev < s.gnssParam 3 ∨ !s.recordUsed o.a ∨ kget s.gnss.ephs (s.satKey o.a) 0 ≤ s.ticks then none
  else match usedB with
    | some c =>
      let sq := fun (c : Nat) => ((signalCarrier (s.chanSignal c) : Int)) ^ 2
      if sq o.a = sq c then none
      else some ((sq o.a * s.offsetOf o.a o.offA - sq c * s.offsetOf c o.offB) / (sq o.a - sq c))
    | none => some (s.offsetOf o.a o.offA + o.iono)

/-- The mean of some offsets, rounded up or down. -/
def meanOf (up : Bool) (l : List Int) : Int := roundDiv up (l.foldl (fun (a : Int) v => a + v) 0) l.length

/-- Offsets whose residual from the mean exceeds a limit leave, the farthest first; n bounds how many. -/
def excludeFar (limit : Int) : Nat → List Int → List Int
  | 0, l => l
  | n + 1, l =>
    let m := meanOf false l
    let far := l.foldl (fun (w : Nat) v => max w (v - m).natAbs) 0
    if limit < far then excludeFar limit n (l.eraseP (fun v => (v - m).natAbs == far)) else l

/-- A solution of an epoch from what its satellites give (R311, R312). -/
def timeSolution (sats : List SatObs) (up : Bool) (s : State) : State :=
  let s := s.modGnss (fun g => { g with solved := some (s.fld Fld.GNSS_EPOCH_STAT_SEQ) })
  let all := sats.filterMap (fun o => s.satOffset o)
  let used := excludeFar (s.gnssParam 5 * 65536) all.length all
  let x := meanOf up used
  if !s.positionHeld then s.setFld Fld.GNSS_SOL_STAT_STATE 1
  else if (used.length : Int) < s.gnssParam 4 then s.raise Fld.GNSS_FW_EVT_FEW_SATS
  else
    let s := (s.setFld Fld.GNSS_SOL_STAT_NSATS (sat 8 used.length)).setWide Reg.GNSS_SOL_OFFSET0 2 (unsigned 64 x)
    let near := s.gnss.accepted.any (fun m => decide (((x - m).natAbs : Int) ≤ s.gnssParam 0x40 * 65536))
    if !s.on Fld.TIME_STATUS_VALID || decide ((x.natAbs : Int) ≤ s.jumpLimit) then
      (s.modGnss (fun g => { g with withheld := [], accepted := none })).handOn
    else if near then s.handOn
    else ((s.modGnss (fun g => { g with withheld := (s.ticks, x) :: g.withheld, accepted := none })).setFld
      Fld.GNSS_SOL_STAT_STATE 3).raise Fld.GNSS_FW_EVT_JUMP

/-- TIME_SOLUTION (R311): once per epoch. -/
def execTimeSolution (dt : Nat) (sats : List SatObs) (up : Bool) (s : State) : Host.Outcome State Fault Refusal :=
  effect dt (fun s => onlyIf (s.gnssService && s.gnss.solved != some (s.fld Fld.GNSS_EPOCH_STAT_SEQ))
    (timeSolution sats up) s) s

/-- A list in rising order. -/
def sortInt (l : List Int) : List Int := l.foldr (fun x r => r.takeWhile (fun y => decide (y < x)) ++ x :: r.dropWhile (fun y => decide (y < x))) []

/-- The median of a list of offsets (of an even number, the lower of the two in the middle).
(DESIGN CHOICE, log entry 93) -/
def medianOf (l : List Int) : Int := ((sortInt l)[(l.length - 1) / 2]?).getD 0

/-- The offsets withheld in the last JUMP_CONFIRM. -/
def State.jumpWindow (s : State) : List Int :=
  let from1 := s.ticks - (s.gnssParam 0x41).toNat * secT
  (s.gnss.withheld.takeWhile (fun e => decide (from1 ≤ e.1))).map (fun e => e.2)

/-- The withheld offsets have stayed within JUMP_LIMIT of their median for JUMP_CONFIRM (R312).
(DESIGN CHOICE, log entry 93) -/
def State.jumpSure (s : State) : Bool :=
  let l := s.jumpWindow
  s.gnss.withheld.any (fun e => decide (e.1 + (s.gnssParam 0x41).toNat * secT ≤ s.ticks)) && !l.isEmpty &&
    l.all (fun v => decide (((v - medianOf l).natAbs : Int) ≤ s.gnssParam 0x40 * 65536))

/-- The firmware hands the withheld solutions on again (R312). -/
def jumpConfirm (s : State) : State :=
  let m := medianOf s.jumpWindow
  (((s.modGnss (fun g => { g with withheld := [], accepted := some m })).raise Fld.GNSS_FW_EVT_JUMP_ACCEPTED)).handOn

/-- JUMP_CONFIRM (R312). -/
def execJumpConfirm (dt : Nat) (s : State) : Host.Outcome State Fault Refusal :=
  effect dt (fun s => onlyIf (s.gnssService && s.jumpSure) jumpConfirm s) s

/-- SURVEY_DONE (R311): after SURVEY_TIME, with the position found, in mm. -/
def execSurveyDone (dt : Nat) (x y z : Int) (s : State) : Host.Outcome State Fault Refusal :=
  effect dt (fun s => onlyIf (s.gnssService && !s.positionHeld &&
      decide (s.gnss.surveyAt + (s.gnssParam 0x11).toNat * secT ≤ s.ticks))
    (fun s => (s.modGnss (fun g => { g with position := some (x, y, z) })).raise Fld.GNSS_FW_EVT_SURVEY_DONE) s) s

/-- How many satellites hold an ephemeris that is valid past a tick. -/
def State.ephsPast (s : State) (t : Nat) : Nat := (s.gnss.ephs.filter (fun (e : Nat × Nat) => decide (t < e.2))).length

/-- Whether the firmware may set BURST on a channel: BURST_EN, the position held, and a valid ephemeris of its satellite and of
every burst channel's (R306). -/
def State.mayBurst (s : State) (c : Nat) : Bool :=
  decide (s.gnssParam 0x30 = 1) && s.positionHeld &&
    (allChans.filter (fun k => k == c || (s.chanState k != 0 && s.burstCh k))).all (fun k =>
      decide (s.ticks < kget s.gnss.ephs (s.satKey k) 0))

/-- An ephemeris within 30 min of its end sends its burst channel to continuous tracking; one collected there, over 36 s at the
least, is valid for its life, and the channel returns to bursts where it may (R306). -/
def State.renew (s : State) (c : Nat) (done : Bool) (life : Nat) : State :=
  match done with
  | false =>
    if s.burstCh c && decide (kget s.gnss.ephs (s.satKey c) 0 ≤ s.ticks + 1800 * secT) then
      ((s.setFld (Fld.GNSS_CH_CTRL_BURST c) 0).modGnss (fun g => { g with renewing := kput g.renewing c s.ticks })).gnssFollow
    else s
  | true =>
    let since := (kfind s.gnss.renewing c).getD (s.chan c).trackAt
    if s.chanState c ≠ 2 ∨ s.burstCh c ∨ s.ticks < since + 36 * secT then s
    else
      let again := (kfind s.gnss.renewing c).isSome
      let s := s.modGnss (fun g => { g with
        ephs := kput g.ephs (s.satKey c) (s.ticks + life * secT), renewing := kdel g.renewing c })
      if again && s.mayBurst c then (s.setFld (Fld.GNSS_CH_CTRL_BURST c) 1).gnssFollow else s

/-- A renewal, outside KEEP; fewer than MIN_SATS ephemerides valid in 30 min show as EPH_LOW (R306). -/
def ephemerisRenewal (c : Nat) (done : Bool) (life : Nat) (s : State) : State :=
  let s := if s.fld Fld.PWR_STATE_STATE = 1 ∨ 64 ≤ c then s else s.renew c done life
  if (s.ephsPast (s.ticks + 1800 * secT) : Int) < s.gnssParam 4 then s.raise Fld.GNSS_FW_EVT_EPH_LOW else s

/-- EPHEMERIS_RENEWAL (R306). -/
def execEphemerisRenewal (dt c : Nat) (done : Bool) (life : Nat) (s : State) : Host.Outcome State Fault Refusal :=
  effect dt (fun s => onlyIf s.gnssService (ephemerisRenewal c done life) s) s

end Sys2Proof.Machine
end

