-- ==== Sys2Proof/Machine/Time.lean ====
section
/-!
DEFINITION. Time.lean: network time (spec/02): the load of the master counter, Leaf timebases, capture inputs, pulse
outputs, the timed-action entries and what a step of network time does to them (R49 to R73).
-/
namespace Sys2Proof.Machine

/-! ## TIME.SET (R51) -/

/-- A write of the lowest word of TIME.SET arms a load, or sets SET_ERR for an invalid time.
(DESIGN CHOICE, log entry 28) -/
def timeSetWrite (w : Word) (s : State) : State :=
  let v := s.wideValue (Reg.TIME_SET0) 3 w
  let s := s.dropHeld Reg.TIME_SET0 3
  match timeOfRaw v with
  | none => s.raise Fld.TIME_STATUS_SET_ERR
  | some t =>
    let s := s.setWide Reg.TIME_SET0 3 v
    { s with setLoad := some (t, s.now / secU) }.raise Fld.TIME_STATUS_SET_PENDING

/-- TIME_SET_WRITE (R51). -/
def execTimeSetWrite (dt : Nat) (src : Src) (w : Word) (s : State) : Host.Outcome State Fault Refusal :=
  effect dt (fun s => s.guarded src Reg.TIME_SET0 (timeSetWrite w)) s

/-- A pending load is discarded. -/
def setCancel (s : State) : State := { s with setLoad := none }.setFld Fld.TIME_STATUS_SET_PENDING 0

/-- SET_CANCEL (R51). -/
def execSetCancel (dt : Nat) (src : Src) (s : State) : Host.Outcome State Fault Refusal :=
  effect dt (fun s => s.guarded src Reg.TIME_CTRL setCancel) s

/-! ## Pulse outputs (R59 to R63) -/

/-- The state of pulse channel j. -/
def State.pulse (s : State) (j : Nat) : PulseCh := kget s.pulses j {}

/-- The state with the record of pulse channel j written. -/
def State.setPulse (s : State) (j : Nat) (p : PulseCh) : State := { s with pulses := kput s.pulses j p }

/-- START, PERIOD and WIDTH as the registers hold them; a START the registers never completed reads 0. -/
def State.pulseStart (s : State) (j : Nat) : Nat := (timeOfRaw (s.getWide (Reg.TIME_PULSE_START0 j) 3)).getD 0
def State.pulsePeriod (s : State) (j : Nat) : Nat :=
  s.fld (Fld.TIME_PULSE_PERIOD1_NS j) * nsU + s.fld (Fld.TIME_PULSE_PERIOD0_FRAC j)
def State.pulseWidth (s : State) (j : Nat) : Nat :=
  s.fld (Fld.TIME_PULSE_WIDTH1_NS j) * nsU + s.fld (Fld.TIME_PULSE_WIDTH0_FRAC j)

/-- The limits of PERIODIC mode (R60). -/
def periodicOk (period width : Nat) : Bool :=
  decide (10 * nsU ≤ period) && decide (period ≤ 4294967295 * nsU) && decide (pulseMin ≤ width) &&
    decide (width + pulseMin ≤ period)

/-- The first time of the schedule start + k × period at or after t. -/
def scheduleAtOrAfter (start period t : Nat) : Nat :=
  if t ≤ start then start else if period = 0 then start else start + (t - start + period - 1) / period * period

/-- The first time of the schedule strictly after t. -/
def scheduleAfter (start period t : Nat) : Nat := scheduleAtOrAfter start period (t + 1)

/-- A channel in ONCE has given its pulse, and the pulse is over (R59). -/
def State.onceOver (s : State) (j : Nat) : Bool :=
  s.fld (Fld.TIME_PULSE_CTRL_MODE j) == 1 && (s.pulse j).next.isNone && (s.pulse j).busyTo.all (fun t => decide (t ≤ s.now))

/-- MODE of a pulse channel (R59): ONCE returns to OFF when its pulse ends. -/
def State.pulseMode (s : State) (j : Nat) : Nat := if s.onceOver j then 0 else s.fld (Fld.TIME_PULSE_CTRL_MODE j)

/-- A pulse channel is stopped: its mode is OFF, its pin is at the inactive level and no edge is due (R59). -/
def State.pulseOff (s : State) (j : Nat) : State :=
  (((s.setFld (Fld.TIME_PULSE_CTRL_MODE j) 0).setFld (Fld.TIME_PULSE_STAT_RUNNING j) 0).setFld
    (Fld.TIME_PULSE_STAT_MUTED j) 0).setPulse j { s.pulse j with next := none, attempt := none, busyTo := none }

/-- The registers of a channel show that its single pulse is over. -/
def State.pulseShow (s : State) (j : Nat) : State := if s.onceOver j then s.pulseOff j else s

/-- A channel that leaves OFF while TSU_LOCK is 0 is muted from the start (R63). -/
def State.pulseMute (s : State) (j : Nat) : State :=
  s.setBit (Fld.TIME_PULSE_STAT_MUTED j) (!s.on Fld.TIME_STATUS_TSU_LOCK)

/-- A pulse channel starts a schedule with its first leading edge at t. -/
def State.pulseRun (s : State) (j mode t : Nat) : State :=
  (((s.setFld (Fld.TIME_PULSE_CTRL_MODE j) mode).raise (Fld.TIME_PULSE_STAT_RUNNING j)).pulseMute j).setPulse j
    { s.pulse j with start := s.pulseStart j, period := s.pulsePeriod j, width := s.pulseWidth j, next := some t,
                     attempt := none }

/-- A mode written to a pulse channel (R60, R61). -/
def pulseMode (j m : Nat) (s : State) : State :=
  match m with
  | 1 =>
    if !onceOk (s.pulseWidth j) then (s.pulseOff j).raise (Fld.TIME_PULSE_STAT_CFG_ERR j)
    else if s.pulseStart j < s.now + usU then (s.pulseOff j).raise (Fld.TIME_PULSE_STAT_LATE j)
    else s.pulseRun j 1 (s.pulseStart j)
  | 2 =>
    if !periodicOk (s.pulsePeriod j) (s.pulseWidth j) then (s.pulseOff j).raise (Fld.TIME_PULSE_STAT_CFG_ERR j)
    else s.pulseRun j 2 (scheduleAtOrAfter (s.pulseStart j) (s.pulsePeriod j) (s.now + usU))
  | 3 => ((s.pulseOff j).setFld (Fld.TIME_PULSE_CTRL_MODE j) 3).pulseMute j
  | _ => s.pulseOff j

/-- A write of PULSE[j].CTRL: a mode other than the running one starts, stops or refuses the schedule.
(DEDUCED, log entry 29) -/
def pulseCtrlWrite (j : Nat) (w : Word) (s : State) : State :=
  let m := bitsOf w 0 2
  let s := s.pulseShow j
  let s1 := (s.setFld (Fld.TIME_PULSE_CTRL_POL j) (bitsOf w 2 1)).setFld (Fld.TIME_PULSE_CTRL_MUTE_HIZ j) (bitsOf w 3 1)
  if m = s.pulseMode j ∧ s.on (Fld.TIME_PULSE_STAT_RUNNING j) then s1 else pulseMode j m s1

/-- PULSE_CTRL_WRITE (R61). -/
def execPulseCtrlWrite (dt : Nat) (src : Src) (j : Nat) (w : Word) (s : State) : Host.Outcome State Fault Refusal :=
  effect dt (onlyIf (decide (j < 8)) (fun s => s.guarded src (Reg.TIME_PULSE_CTRL j) (pulseCtrlWrite j w))) s

/-- New values of a running PERIODIC channel may apply from 1 µs after the write (R62). -/
def pulseAttempt (j : Nat) (s : State) : State :=
  if s.pulseMode j = 2 ∧ s.on (Fld.TIME_PULSE_STAT_RUNNING j) then
    s.setPulse j { s.pulse j with attempt := some (s.now + usU) }
  else s

/-- A write of the lowest word of START, PERIOD or WIDTH (R11, R14, R62). -/
def pulseParamWrite (j : Nat) (p : PulseParam) (w : Word) (s : State) : State :=
  match p with
  | .start =>
    let a := Reg.TIME_PULSE_START0 j
    let v := s.wideValue a 3 w
    let s := s.dropHeld a 3
    if (timeOfRaw v).isNone then s.raise (Fld.TIME_PULSE_STAT_CFG_ERR j) else pulseAttempt j (s.setWide a 3 v)
  | .period =>
    let a := Reg.TIME_PULSE_PERIOD0 j
    let v := s.wideValue a 2 (w &&& 0xFFFF#32)
    pulseAttempt j ((s.dropHeld a 2).setWide a 2 v)
  | .width =>
    let a := Reg.TIME_PULSE_WIDTH0 j
    let v := s.wideValue a 2 (w &&& 0xFFFF#32)
    pulseAttempt j ((s.dropHeld a 2).setWide a 2 v)

/-- The address of the lowest word of a pulse value. -/
def pulseParamAddr (j : Nat) : PulseParam → Nat
  | .start => Reg.TIME_PULSE_START0 j
  | .period => Reg.TIME_PULSE_PERIOD0 j
  | .width => Reg.TIME_PULSE_WIDTH0 j

/-- PULSE_PARAM_WRITE (R62). -/
def execPulseParamWrite (dt : Nat) (src : Src) (j : Nat) (p : PulseParam) (w : Word) (s : State) :
    Host.Outcome State Fault Refusal :=
  effect dt (onlyIf (decide (j < 8)) (fun s => s.guarded src (pulseParamAddr j p) (pulseParamWrite j p w))) s

/-- Where a leading edge for time t is placed at the ball: TRIM added, rounded to the nearest picosecond (R60). -/
def State.edgePs (s : State) (j t : Nat) : Int :=
  ((t * 1000 + 32768) / 65536 : Nat) + s.fldInt (Fld.TIME_PULSE_TRIM_TRIM j)

/-- A pulse leaves channel j with its leading edge at t; a muted channel's pin shows none of it (R63). -/
def State.givePulse (s : State) (j t width : Nat) : State :=
  let s := s.setPulse j { s.pulse j with busyTo := some (t + width) }
  if s.on Fld.TIME_STATUS_TSU_LOCK then
    (s.emitPin (.pulse j (s.edgePs j t) width)).setFld (Fld.TIME_PULSE_STAT_MUTED j) 0
  else s.raise (Fld.TIME_PULSE_STAT_MUTED j)

/-- The values a leading edge at t uses: the staged set, when its attempt has come and it is within the limits.
(DEDUCED, log entry 29) -/
def State.applyStaged (s : State) (j t : Nat) : State :=
  let p := s.pulse j
  match p.attempt with
  | some at1 =>
    if t < at1 then s
    else if periodicOk (s.pulsePeriod j) (s.pulseWidth j) then
      s.setPulse j { p with start := s.pulseStart j, period := s.pulsePeriod j, width := s.pulseWidth j, attempt := none }
    else (s.setPulse j { p with attempt := none }).raise (Fld.TIME_PULSE_STAT_CFG_ERR j)
  | none => s

/-- A channel reaches its scheduled leading edge. A ONCE channel keeps its mode until the pulse ends (R59). The edge at which
new values apply has the new width, and the next edge is the first of the new schedule 2.5 ns or more after that pulse.
(DESIGN CHOICE, log entry 152) -/
def pulseEdge (j : Nat) (s : State) : State :=
  match (s.pulse j).next with
  | none => s
  | some t =>
    if s.now + tickUnits ≤ t then s
    else if s.pulseMode j = 1 then
      let s := s.givePulse j t (s.pulse j).width
      s.setPulse j { s.pulse j with next := none }
    else
      let changed := (s.pulse j).attempt.any (fun a => decide (a ≤ t))
      let s := s.applyStaged j t
      let p := s.pulse j
      let s := s.givePulse j t p.width
      let from1 := if changed then t + p.width + pulseMin else t + 1
      s.setPulse j { s.pulse j with next := some (scheduleAtOrAfter p.start p.period from1) }

/-- PULSE_EDGE (R60). -/
def execPulseEdge (dt j : Nat) (s : State) : Host.Outcome State Fault Refusal :=
  effect dt (fun s => onlyIf (s.powered && decide (j < 8)) (pulseEdge j) s) s

/-- What a step of network time by `v` does to one pulse channel, with the new time of the step (R52): a pulse in progress
keeps its width, and a step of 0 moves no edge. -/
def pulseOnStep (v : Int) (new : Nat) (j : Nat) (s : State) : State :=
  let p := s.pulse j
  let moved := fun (t : Nat) => ((t : Int) + v).toNat
  let left := (p.busyTo.filter (fun (e : Nat) => decide ((s.now : Int) < (e : Int) + v))).map moved
  let s := s.setPulse j { p with busyTo := left, attempt := p.attempt.map moved }
  match p.next with
  | none => s
  | some t =>
    if v = 0 then s else
    if s.pulseMode j = 1 then
      if t < new then (s.pulseOff j).raise (Fld.TIME_PULSE_STAT_LATE j) else s
    else
      let t' := match left with
        | some e => scheduleAfter p.start p.period (e + pulseMin)
        | none => scheduleAtOrAfter p.start p.period new
      s.setPulse j { s.pulse j with next := some t' }

/-! ## Capture inputs (R56 to R58) -/

/-- The state of capture channel i. -/
def State.cap (s : State) (i : Nat) : CapCh := kget s.caps i {}

/-- The state with the record of capture channel i written; STAT.LEVEL follows it. -/
def State.setCap (s : State) (i : Nat) (c : CapCh) : State :=
  { s with caps := kput s.caps i c }.setFld (Fld.TIME_CAP_STAT_LEVEL i) c.fifo.length

/-- An edge at an enabled capture pin: EDGE selects rising (bit 0) and falling (bit 1).
(DEDUCED, log entry 31) -/
def captureEdge (i : Nat) (rising : Bool) (sub : Nat) (s : State) : State :=
  let c := s.cap i
  let at1 := s.ticks * tickUnits + sub
  let close := c.last.any (fun l => decide (at1 < l + 100 * nsU))
  let s1 := s.setCap i { c with last := some at1 }
  let edge := s.fld (Fld.TIME_CAP_CTRL_EDGE i)
  let chosen := if rising then edge % 2 == 1 else edge / 2 == 1
  if !s.on (Fld.TIME_CAP_CTRL_EN i) then s
  else if !chosen then s1
  else if close || decide (16 ≤ c.fifo.length) then
    let s := if close then s1.raise (Fld.TIME_CAP_STAT_TOO_CLOSE i) else s1
    (if 16 ≤ c.fifo.length then s.raise (Fld.TIME_CAP_STAT_OVERFLOW i) else s).bump (Fld.TIME_CAP_STAT_LOST i) 1
  else s.setCap i { fifo := c.fifo ++ [⟨s.now + sub, rising, s.on Fld.TIME_STATUS_TSU_LOCK⟩], last := some at1 }

/-- CAPTURE_EDGE (R56, R57). -/
def execCaptureEdge (dt i : Nat) (rising : Bool) (sub : Nat) (s : State) : Host.Outcome State Fault Refusal :=
  effect dt (fun s => onlyIf (s.powered && decide (i < 6) && decide (sub < tickUnits)) (captureEdge i rising sub) s) s

/-- A read of the lowest word of CAP[i].TS: the oldest stamp is removed and latched into the TS words and TSX. -/
def captureRead (src : Src) (i : Nat) (s : State) : State :=
  let c := s.cap i
  match c.fifo with
  | [] => ((s.setWide (Reg.TIME_CAP_TS0 i) 3 0).set (Reg.TIME_CAP_TSX i) 0#32).emit (.readData src [0#32])
  | st :: rest =>
    let s := s.setCap i { c with fifo := rest }
    let s := s.setWide (Reg.TIME_CAP_TS0 i) 3 (rawOfTime st.ts)
    let s := (s.setBit (Fld.TIME_CAP_TSX_VALID i) st.valid).setBit (Fld.TIME_CAP_TSX_RISING i) st.rising
    s.emit (.readData src [s.get (Reg.TIME_CAP_TS0 i)])

/-- CAPTURE_READ (R58). -/
def execCaptureRead (dt : Nat) (src : Src) (i : Nat) (s : State) : Host.Outcome State Fault Refusal :=
  effect dt (onlyIf (decide (i < 6)) (fun s => s.guarded src (Reg.TIME_CAP_TS0 i) (captureRead src i))) s

/-- All held stamps are discarded and LOST clears. -/
def captureFlush (i : Nat) (s : State) : State :=
  (s.setCap i { s.cap i with fifo := [] }).setFld (Fld.TIME_CAP_STAT_LOST i) 0

/-- CAPTURE_FLUSH (R57). -/
def execCaptureFlush (dt : Nat) (src : Src) (i : Nat) (s : State) : Host.Outcome State Fault Refusal :=
  effect dt (onlyIf (decide (i < 6)) (fun s => s.guarded src (Reg.TIME_CAP_CTRL i) (captureFlush i))) s

/-! ## Leaf timebases (R53, R54) -/

/-- ±2.5 ps and ±100 ps in units of 2^-16 ns, as the largest whole number of units inside.
(DESIGN CHOICE, log entry 30) -/
def residAligned (r : Int) : Bool := decide (r.natAbs * 100 ≤ 16384)
def residStampOk (r : Int) : Bool := decide (r.natAbs * 10 ≤ 65536)

/-- LEAF_RESID_WARN (R54): the residual of a Leaf in service outside ±2.5 ps for more than 1 ms. -/
def execLeafResidWarn (dt n : Nat) (s : State) : Host.Outcome State Fault Refusal :=
  effect dt (fun s => onlyIf (s.inService n && s.due .residOut n) (fun s => s.raise (Fld.TIME_LEAF_RESID_WARN n)) s) s

/-! ## Timed-action entries (R64 to R74) -/

/-- A command on TIME.ACT[w] with GO: discarded with OVERRUN while BUSY; it acts in the cycle in which it completes, `took`
ticks on and at most 200 ns (R67). -/
def actCmd (w op e took : Nat) (s : State) : State :=
  let took := min took 160
  if s.waiting .actBusy w then s.raise (Fld.TIME_ACT_STAT_OVERRUN w)
  else
    let s := (s.setFld (Fld.TIME_ACT_CMD_OP w) op).setFld (Fld.TIME_ACT_CMD_INDEX w) e
    let s := s.startTimer .actBusy w took
    actComplete w { s with actCmds := kput s.actCmds w ⟨op, e, s.ticks + took⟩ }

/-- ACT_CMD_WRITE (R66). -/
def execActCmdWrite (dt : Nat) (src : Src) (w index took : Nat) (s : State) : Host.Outcome State Fault Refusal :=
  effect dt (onlyIf (decide (w < 2) && decide (index < 256))
    (fun s => s.guarded src (Reg.TIME_ACT_CMD w) (actCmd w 1 index took))) s

/-- ACT_CMD_READ (R68). -/
def execActCmdRead (dt : Nat) (src : Src) (w index took : Nat) (s : State) : Host.Outcome State Fault Refusal :=
  effect dt (onlyIf (decide (w < 2) && decide (index < 256))
    (fun s => s.guarded src (Reg.TIME_ACT_CMD w) (actCmd w 2 index took))) s

/-- ACT_CMD_CANCEL (R68). -/
def execActCmdCancel (dt : Nat) (src : Src) (w index took : Nat) (s : State) : Host.Outcome State Fault Refusal :=
  effect dt (onlyIf (decide (w < 2) && decide (index < 256))
    (fun s => s.guarded src (Reg.TIME_ACT_CMD w) (actCmd w 3 index took))) s

/-- Entries that a new boundary would move to the other world. -/
def movedEntries (old new : Nat) : List Nat :=
  (List.range 256).filter (fun e => decide (e < old) != decide (e < new))

/-- A write of TIME.ACT_PART (R64). -/
def actPartWrite (w : Word) (s : State) : State :=
  let n := bitsOf w 0 9
  if 256 < n then s.setFld (Fld.TIME_ACT_STAT_RESULT 1) resInvalid
  else if (movedEntries s.secureEntries n).any (fun e => (s.act e).state != .free) then
    s.setFld (Fld.TIME_ACT_STAT_RESULT 1) resInUse
  else s.setFld Fld.TIME_ACT_PART_SECURE_ENTRIES n

/-- ACT_PART_WRITE (R64). -/
def execActPartWrite (dt : Nat) (src : Src) (w : Word) (s : State) : Host.Outcome State Fault Refusal :=
  effect dt (fun s => s.guarded src Reg.TIME_ACT_PART (actPartWrite w)) s

/-- The number of FREE entries in a world's share (TIME.ACT[w].FREE). -/
def State.actFree (s : State) (w : Nat) : Nat :=
  ((List.range 256).filter (fun e => s.actWorld e == w && (s.act e).state == .free)).length

/-- ACT_ARM (R65): 10 µs before its trigger an entry becomes ARMED. -/
def execActArm (dt e : Nat) (s : State) : Host.Outcome State Fault Refusal :=
  effect dt (fun s => onlyIf (decide (e < 256) && (s.act e).state == .pending &&
    decide ((s.act e).trigger ≤ s.now + 10 * usU)) (fun s => s.setAct e { s.act e with state := .armed }) s) s

/-- The count at the start of this tick, whatever steps were taken in it (R69). -/
def State.tickStart (s : State) : Nat :=
  match s.stepAt with
  | some (t, n) => if t = s.ticks then n else s.now
  | none => s.now

/-- An entry is due: armed, or carried past by a step, with its trigger not after the start of this tick (R69, R72). A
PARAM_COMMIT waits while the firmware is paused (R420).
(DEDUCED, log entry 32) -/
def State.actDue (s : State) (e : Nat) : Bool :=
  let a := s.act e
  (a.state == .armed || (a.state == .pending && a.carried.isSome)) && decide (a.trigger ≤ s.tickStart) &&
    (a.code != 0x0A || s.fwRuns)

/-- No entry of a lower index is due: entries of one tick execute in ascending index (R69). -/
def State.actFirst (s : State) (e : Nat) : Bool := s.acts.all (fun x => decide (e ≤ x.1) || !s.actDue x.1)

/-- How an action took its targets (R73). -/
inductive FireResult where
  | ok | skippedPart | skippedWorld | refused
  deriving DecidableEq, Repr

/-- The LAST_FIRE code of a firing: SKIPPED_WORLD, REFUSED, SKIPPED_PART, STEPPED, OK in that order (R73). -/
def fireCode (r : FireResult) (late : Bool) : Nat :=
  match r with
  | .skippedWorld => 3
  | .refused => 5
  | .skippedPart => 2
  | .ok => if late then 4 else 1

/-- The words of an entry with another trigger time. -/
def ActEntry.retrigger (a : ActEntry) (t : Nat) : ActEntry := { a with words := timeWords t ++ a.words.drop 3 }

/-- An entry after a firing: it repeats with its next trigger, or returns to FREE (R65, R71, R72). -/
def ActEntry.afterFire (a : ActEntry) (result : Nat) : ActEntry :=
  let a1 := { a with fires := a.fires + 1, last := result, carried := none }
  if a.period = 0 ∨ (a.count ≠ 0 ∧ a.count ≤ a1.fires) then { a1 with state := .free }
  else
    let next := match a.carried with
      | some new => scheduleAfter a.trigger a.period (max new a.trigger)
      | none => a.trigger + a.period
    { a1.retrigger next with state := .pending }

/-- Entry e fires with an action that answers how it took its targets (R69, R71, R73). -/
def fireEntry (e code : Nat) (act : ActEntry → State → FireResult × State) (s : State) : State :=
  let a := s.act e
  if a.code = code ∧ s.actDue e ∧ s.actFirst e then
    let (r, t) := act a s
    let c := fireCode r a.carried.isSome
    let t := t.setAct e ((s.act e).afterFire c)
    if c = 1 then t else t.latchEvent 18
  else s

/-- An entry that fires in this tick as R69 says, although a step was taken in the tick. -/
def State.firesNow (s : State) (a : ActEntry) : Bool :=
  a.state == .armed && s.stepAt.any (fun x => x.1 == s.ticks && decide (a.trigger ≤ x.2))

/-- A step forward by v carries an entry past whose trigger lies before the new time (R72). -/
def actOnStep (v : Int) (new : Nat) (e : Nat) (s : State) : State :=
  let a := s.act e
  if 0 < v ∧ a.state ≠ .free ∧ a.trigger < new ∧ !s.firesNow a then s.setAct e { a with carried := some new } else s

/-- RAISE_EVENT (R74): the user event bit sets. -/
def execRaiseEvent (dt e : Nat) (s : State) : Host.Outcome State Fault Refusal :=
  effect dt (fireEntry e 0x0D (fun a s => (.ok, s.setFldBit Fld.TIME_ACT_EVT_USER a.target true))) s

/-- A PULSE action (R74): its leading edge at the trigger, or at the start of the tick when carried past (R72). -/
def pulseAction (a : ActEntry) (s : State) : FireResult × State :=
  let j := a.target
  if s.pulseMode j = 3 then
    (.ok, s.givePulse j (if a.carried.isSome then s.now else a.trigger) a.arg)
  else (.refused, s)

/-- PULSE_ACTION (R74). -/
def execPulseAction (dt e : Nat) (s : State) : Host.Outcome State Fault Refusal :=
  effect dt (fireEntry e 0x01 pulseAction) s

end Sys2Proof.Machine
end

