-- ==== Sys2Proof/Machine/Syn.lean ====
section
/-!
DEFINITION. Syn.lean: the analogue PLLs and their band tables, the clock outputs with their alignment and dividers, and
the loops that clock the device (R270 to R290).
-/
namespace Sys2Proof.Machine

/-! ## The APLLs (R270 to R276) -/

/-- STATE of an APLL (R272): 0 OFF, 1 NO_BAND, 2 ACQUIRING, 3 LOCKED. -/
def State.apllState (s : State) (a : Nat) : Nat := s.fld (Fld.APLL_STAT_STATE a)

/-- An APLL enters a state; calibrations that need another one abort (R438). -/
def State.setApll (s : State) (a st : Nat) : State :=
  let s := s.setFld (Fld.APLL_STAT_STATE a) st
  s.calDisturb (fun item inst => (item == 3 && inst == a && decide (1 < st)) ||
    (item == 5 && decide (inst < 12) && s.fld (Fld.OUT_CFG_SRC inst) == a && st != 3)) calDisturbed

/-- F_VCO in units of 2^-16 Hz (R271). -/
def State.fvco (s : State) (a : Nat) : Nat := s.getWide (Reg.APLL_FVCO0 a) 2

/-- The DPLL that drives an APLL: 1 DPLL-M, 2 DPLL-A. -/
def State.driver (s : State) (a : Nat) : Nat := 1 + s.fld (Fld.APLL_CTRL_SRC a)

/-- One hertz in units of 2^-16 Hz times 10^6: the scale of the margin's ppm. -/
def hzPpm : Nat := 65536 * 1000000

/-- Whether band b is eligible for an APLL (R274). -/
def State.bandOk (s : State) (a b : Nat) : Bool :=
  let m := s.fld (Fld.DPLL_CLAMP_FREQ_CLAMP (s.driver a)) + 150
  s.on (Fld.SYN_BAND_VALID a b) &&
    decide (s.fld (Fld.SYN_BAND_LO_MHZ a b) * 1000000 * hzPpm + s.fvco a * m ≤ s.fvco a * 1000000) &&
    decide (s.fvco a * (1000000 + m) ≤ s.fld (Fld.SYN_BAND_HI_MHZ a b) * 1000000 * hzPpm)

/-- Twice the distance of a band's centre from F_VCO. -/
def State.bandFar (s : State) (a b : Nat) : Nat :=
  (((s.fld (Fld.SYN_BAND_LO_MHZ a b) + s.fld (Fld.SYN_BAND_HI_MHZ a b)) * 1000000 * 65536 : Nat) - (2 * s.fvco a : Nat) : Int).natAbs

/-- The band an APLL takes: the eligible one whose centre lies nearest F_VCO, the lower number on a tie (R274). -/
def State.pickBand (s : State) (a : Nat) : Option Nat :=
  ((List.range 256).filter (fun b => s.bandOk a b)).foldl (fun best b =>
    match best with
    | none => some b
    | some x => if s.bandFar a b < s.bandFar a x then some b else some x) none

/-- An APLL enters ACQUIRING: band selection, and an attempt of 5 ms (R274, R275). -/
def State.apllAcquire (s : State) (a : Nat) : State :=
  let s := (s.stopTimer .apllRetry a).stopTimer .apllTry a
  match s.pickBand a with
  | some b =>
    (((s.setApll a 2).setFld (Fld.APLL_STAT_BAND a) b).raise (Fld.APLL_STAT_BAND_VALID a)).startTimer
      .apllTry a (5 * msT)
  | none => ((s.setApll a 1).setFld (Fld.APLL_STAT_BAND_VALID a) 0).raise (Fld.APLL_EVT_NO_BAND a)

/-! ## Clock outputs (R277 to R283) -/

/-- Output j. -/
def State.ckout (s : State) (j : Nat) : CkOut := kget s.ckouts j {}

/-- The state with a function applied to output j's record. -/
def State.modOut (s : State) (j : Nat) (f : CkOut → CkOut) : State := { s with ckouts := kput s.ckouts j (f (s.ckout j)) }

/-- STATE of an output: 0 OFF, 1 MUTED, 2 ALIGNING, 3 AWAIT_SYNC, 4 RUNNING. -/
def State.outState (s : State) (j : Nat) : Nat := s.fld (Fld.OUT_STAT_STATE j)

/-- The APLL an output takes its clock from, and that APLL's driving DPLL. -/
def State.outSrc (s : State) (j : Nat) : Nat := s.fld (Fld.OUT_CFG_SRC j)
def State.outDriver (s : State) (j : Nat) : Nat := s.driver (s.outSrc j)

/-- The highest frequency of a format in hertz (R277). -/
def formatMax (f : Nat) : Nat := if f = 0 ∨ f = 2 then 1600000000 else if f = 1 then 700000000 else 250000000

/-- Whether a set of dividers is accepted for F_VCO and a format (R278). -/
def dividersOk (fv fmt hs ls : Nat) : Bool :=
  decide (8 ≤ hs) && decide (hs ≤ 255) && decide (1 ≤ ls) && decide (65536 * hs * ls ≤ fv) &&
    decide (fv ≤ formatMax fmt * 65536 * hs * ls)

/-- The divider product in use. -/
def State.divNow (s : State) (j : Nat) : Nat := s.fld (Fld.OUT_DIV_NOW0_HS j) * s.fld (Fld.OUT_DIV_NOW1_LS j)

/-- Whether an output may run: enabled, its APLL LOCKED, its format and dividers valid (R280). -/
def State.outMayRun (s : State) (j : Nat) : Bool :=
  s.on (Fld.OUT_CFG_EN j) && s.apllState (s.outSrc j) == 3 &&
    dividersOk (s.fvco (s.outSrc j)) (s.fld (Fld.OUT_CFG_FORMAT j)) (s.fld (Fld.OUT_DIV_NOW0_HS j)) (s.fld (Fld.OUT_DIV_NOW1_LS j))

/-- A second in units of 2^-50 ns. -/
def secF : Nat := secU * 2 ^ 34

/-- A period of an output over its F_VCO: divisor product n gives n × perF / F_VCO in 2^-50 ns. -/
def perF : Nat := 65536 * secF

/-- The first instant `base + k × period` at or after t, with the period n × perF / fv. -/
def firstEdge (n fv : Nat) (base t : Int) : Int :=
  let p : Int := n * perF
  if fv = 0 ∨ n = 0 then t else base + (-(-((t - base) * fv) / p)) * p / fv

/-- What APLL a has yet to move after a small step, `dt` ticks on, in units of 2^-50 ns (R286). -/
def State.moveLeft (s : State) (a dt : Nat) : Int :=
  match s.timer .apllMove a with
  | some t => (kget s.apllMove a 0).sign * ((t - (s.ticks + dt)) * tickUnits * 2 ^ 34 / 10000 : Nat)
  | none => 0

/-- The output time of APLL a: its driving DPLL's, but for what it has yet to move (R281, R286). -/
def State.otime (s : State) (a : Nat) : Int := s.dtime (s.driver a) - s.moveLeft a 0
def State.otimeAfter (s : State) (a dt : Nat) : Int := s.dtimeAfter (s.driver a) dt - s.moveLeft a dt

/-- The ticks for which a running output's high phase goes on from now. -/
def State.highLeft (s : State) (j : Nat) : Nat :=
  let (n, fv) := (s.divNow j, s.fvco (s.outSrc j))
  let p : Int := n * perF
  let e := (s.ckout j).edge
  let t := s.otime (s.outSrc j)
  if s.outState j ≠ 4 ∨ fv = 0 ∨ n = 0 ∨ t < e then 0
  else
    let fall := e + (t - e) * fv / p * p / fv + p / (2 * fv)
    (-(-(fall - t) / (tickFine (s.wordNow (s.outDriver j)) : Int))).toNat

/-- EPOCH_OK (R282). -/
def State.epochOk (s : State) (j : Nat) : Bool :=
  s.outState j == 4 && s.fld (Fld.OUT_CFG_ALIGN j) == 1 && (s.ckout j).epoch && s.dmode (s.outDriver j) == 6 &&
    s.fvco (s.outSrc j) % (65536 * s.divNow j) == 0

/-- STAT.EPOCH_OK follows. -/
def State.outShow (s : State) (j : Nat) : State := s.setBit (Fld.OUT_STAT_EPOCH_OK j) (s.epochOk j)

/-- An output's ARM bit. -/
def State.armed (s : State) (j : Nat) : Bool := s.fldBit Fld.SYN_SYNCIN_ARM j
def State.arm (s : State) (j : Nat) (b : Bool) : State := s.setFldBit Fld.SYN_SYNCIN_ARM j b

/-- A running output completes its high phase and goes low until its new edge (R285). -/
def State.outLow (s : State) (j left : Nat) : State := s.modOut j (fun x => { x with high := s.ticks + left, low := true })

/-- An output's STATE is written; EPOCH_OK follows. One that is muted gives up its high phase after 100 ns at the latest
(R280). -/
def State.setOut (s : State) (j st : Nat) : State :=
  let cut := s.outState j == 4 && st != 4 && !(s.ckout j).low
  let high := if cut then s.ticks + min (100 * usT / 1000) (s.highLeft j) else (s.ckout j).high
  let s := s.modOut j (fun x => { x with high := high, low := x.low && (st == 2 || st == 3) })
  let s := (s.setFld (Fld.OUT_STAT_STATE j) st).outShow j
  if st = 4 then s else s.calDisturb (fun item inst => item == 5 && inst == j) calDisturbed

/-- Network time may serve alignment. -/
def State.timeGood (s : State) : Bool := s.on Fld.TIME_STATUS_VALID && s.on Fld.TIME_STATUS_TSU_LOCK

/-- A cause of alignment arises for an output that may run: its edge comes no sooner than `earliest` (R281, R283, R285). -/
def State.outCause (s : State) (j : Nat) (earliest : Int) : State :=
  let x := s.ckout j
  let s := if x.auto then s.arm j false else s
  let align := s.fld (Fld.OUT_CFG_ALIGN j)
  let fb := align == 1 && !s.timeGood && s.on (Fld.OUT_CFG_FALLBACK j)
  let auto := align == 2 || fb
  let s := (s.modOut j (fun x => { x with
    causeAt := s.ticks, base := s.dtime (s.outDriver j), net := s.now, earliest := earliest, fixed := none
    auto := auto, fb := fb, epoch := false })).setFld (Fld.OUT_STAT_FALLBACK_USED j) 0
  let s := if auto then s.arm j true else s
  s.setOut j (if s.armed j || (align == 1 && !s.timeGood) then 3 else 2)

/-- Alignment with a cause that is no load: the edge comes at least 1 ms after it. -/
def State.outAlign (s : State) (j : Nat) : State := s.outCause j (s.otimeAfter (s.outSrc j) msT)

/-- STATE of an enabled output that does not run: MUTED, or AWAIT_SYNC while it is armed (R283). -/
def State.mutedState (s : State) (j : Nat) : Nat := if s.armed j then 3 else 1

/-- An output that may run is aligned afresh; another one is muted. -/
def State.outFollow (s : State) (j : Nat) : State :=
  if !s.on (Fld.OUT_CFG_EN j) then s.setOut j 0 else if s.outMayRun j then s.outAlign j else s.setOut j (s.mutedState j)

/-- An enabled output is muted; a running one that a loss of lock or a step mutes shows in OUT_EVT (R276, R286). -/
def State.outMute (s : State) (j : Nat) (event : Bool) : State :=
  let s := if event && s.outState j == 4 then s.setFldBit Fld.OUT_EVT_MUTED j true else s
  if s.on (Fld.OUT_CFG_EN j) then s.setOut j (s.mutedState j) else s

/-- The outputs an APLL feeds. -/
def State.outsOf (s : State) (a : Nat) : List Nat := (List.range 12).filter (fun j => s.outSrc j == a)

/-- An APLL goes OFF (R272): its outputs are muted. -/
def State.apllOff (s : State) (a : Nat) : State :=
  let s := s.forAll (s.outsOf a) (fun j s => s.outMute j false)
  let s := ((s.stopTimer .apllRetry a).stopTimer .apllTry a).stopTimer .apllMove a
  ((s.setApll a 0).setFld (Fld.APLL_STAT_BAND_VALID a) 0).setFld (Fld.APLL_STAT_MOVING a) 0

/-- An APLL follows its EN and its domain SP_SYNa, which it requests; while its band table waits to be filled at boot it keeps
the domain and stays OFF (R272, R273, R342). -/
def State.apllFollow (s : State) (a : Nat) : State :=
  let boot := s.cal.boot.contains a
  if !s.on (Fld.APLL_CTRL_EN a) then (if boot then s.apllOff a else (s.apllOff a).release a)
  else
    let s := s.request a
    if s.domOn a && s.apllState a == 0 && !boot then s.apllAcquire a else s

/-- A write of APLL[a].CTRL: SRC may change while EN is 0 only (R271); in NO_BAND it runs band selection again (R272). -/
def apllCtrlWrite (a : Nat) (w : Word) (s : State) : State :=
  if s.on (Fld.APLL_CTRL_EN a) && bitsOf w 1 1 != s.fld (Fld.APLL_CTRL_SRC a) then s.raise (Fld.APLL_EVT_CFG_ERR a)
  else
    let s := (s.storeRw (Reg.APLL_CTRL a) w).apllFollow a
    if s.apllState a = 1 then s.apllAcquire a else s

/-- APLL_CTRL_WRITE (R272). -/
def execApllCtrlWrite (dt : Nat) (src : Src) (a : Nat) (w : Word) (s : State) : Host.Outcome State Fault Refusal :=
  effect dt (onlyIf (decide (a < 3)) (fun s => s.guarded src (Reg.APLL_CTRL a) (apllCtrlWrite a w))) s

/-- A write of the lowest word of FVCO: with EN = 0, from 10 to 13 GHz (R271). -/
def fvcoWrite (a : Nat) (w : Word) (s : State) : State :=
  let v := s.wideValue (Reg.APLL_FVCO0 a) 2 w
  let s := s.dropHeld (Reg.APLL_FVCO0 a) 2
  if s.on (Fld.APLL_CTRL_EN a) || decide (v < 10000000000 * 65536) || decide (13000000000 * 65536 < v) then
    s.raise (Fld.APLL_EVT_CFG_ERR a)
  else s.setWide (Reg.APLL_FVCO0 a) 2 v

/-- A band entry is written while its APLL is OFF or NO_BAND (R273).
(DESIGN CHOICE, log entry 82) -/
def bandWrite (a b : Nat) (w : Word) (s : State) : State :=
  if 2 ≤ s.apllState a ∨ (bitsOf w 31 1 = 1 ∧ bitsOf w 14 14 ≤ bitsOf w 0 14) then s.raise (Fld.APLL_EVT_CFG_ERR a)
  else
    let s := s.storeRw (Reg.SYN_BAND a b) w
    if s.apllState a = 1 then s.apllAcquire a else s

/-- BAND_WRITE (R273). -/
def execBandWrite (dt : Nat) (src : Src) (a b : Nat) (w : Word) (s : State) : Host.Outcome State Fault Refusal :=
  effect dt (onlyIf (decide (a < 3) && decide (b < 256)) (fun s => s.guarded src (Reg.SYN_BAND a b) (bandWrite a b w))) s

/-- An APLL enters LOCKED: every enabled output it feeds is aligned afresh (R275, R276). -/
def apllLock (a : Nat) (s : State) : State :=
  let s := (s.stopTimer .apllTry a).setApll a 3
  s.forAll (s.outsOf a) (fun j s => s.outFollow j)

/-- APLL_LOCK (R275): within the 5 ms of an attempt. -/
def execApllLock (dt a : Nat) (s : State) : Host.Outcome State Fault Refusal :=
  effect dt (fun s => onlyIf (decide (a < 3) && s.apllState a == 2 && s.waiting .apllTry a) (apllLock a) s) s

/-- An attempt fails; the next begins 100 ms later (R275). -/
def apllLockFail (a : Nat) (s : State) : State :=
  (((s.stopTimer .apllTry a).bump (Fld.APLL_LOSS_LOCK_FAIL a) 1).raise (Fld.APLL_EVT_LOCK_FAIL a)).startTimer .apllRetry a
    (100 * msT)

/-- APLL_LOCK_FAIL (R275). -/
def execApllLockFail (dt a : Nat) (s : State) : Host.Outcome State Fault Refusal :=
  effect dt (fun s => onlyIf (decide (a < 3) && s.due .apllTry a) (apllLockFail a) s) s

/-- APLL_RETRY (R275). -/
def execApllRetry (dt a : Nat) (s : State) : Host.Outcome State Fault Refusal :=
  effect dt (fun s => onlyIf (decide (a < 3) && s.due .apllRetry a) (fun s => s.apllAcquire a) s) s

/-- A LOCKED APLL loses lock (R275, R276). -/
def apllLoss (a : Nat) (s : State) : State :=
  let s := ((s.bump (Fld.APLL_LOSS_LOSS a) 1).raise (Fld.APLL_EVT_LOSS a)).setFld (Fld.APLL_STAT_MOVING a) 0
  ((s.forAll (s.outsOf a) (fun j s => s.outMute j true)).stopTimer .apllMove a).apllAcquire a

/-- APLL_LOSS (R275). -/
def execApllLoss (dt a : Nat) (s : State) : Host.Outcome State Fault Refusal :=
  effect dt (fun s => onlyIf (decide (a < 3) && s.apllState a == 3) (apllLoss a) s) s

/-- APLL_MOVE_END (R286). -/
def execApllMoveEnd (dt a : Nat) (s : State) : Host.Outcome State Fault Refusal :=
  effect dt (fun s => onlyIf (decide (a < 3) && s.due .apllMove a)
    (fun s => (s.stopTimer .apllMove a).setFld (Fld.APLL_STAT_MOVING a) 0) s) s

/-- A write of OUT[j].CFG (R277, R281). -/
def outCfgWrite (j : Nat) (w : Word) (s : State) : State :=
  let en := s.on (Fld.OUT_CFG_EN j)
  let fmt := bitsOf w 8 3
  let bad := decide (6 ≤ fmt) || bitsOf w 4 2 == 3 || bitsOf w 12 2 == 3 ||
    (en && (bitsOf w 4 2 != s.outSrc j || fmt != s.fld (Fld.OUT_CFG_FORMAT j)))
  if bad then s.raise Fld.OUT_EVT_CFG_ERR
  else
    let s := s.storeRw (Reg.OUT_CFG j) w
    let new := bitsOf w 0 1 == 1
    if new != en then s.outFollow j else s.outShow j

/-- OUT_CFG_WRITE (R277). -/
def execOutCfgWrite (dt : Nat) (src : Src) (j : Nat) (w : Word) (s : State) : Host.Outcome State Fault Refusal :=
  effect dt (onlyIf (decide (j < 12)) (fun s => s.guarded src (Reg.OUT_CFG j) (outCfgWrite j w))) s

/-- The aligned edge of an output under its ALIGN (R281): FREE takes the first tick, EPOCH the first instant S + k / f.
(DESIGN CHOICE, log entry 83) -/
def State.outEdge (s : State) (j : Nat) : Int :=
  let x := s.ckout j
  match x.fixed with
  | some e => e
  | none =>
    if s.fld (Fld.OUT_CFG_ALIGN j) = 0 then
      let t : Int := tickFine (s.wordNow (s.outDriver j))
      let now := s.otime (s.outSrc j)
      now + (-(-(x.earliest - now) / t)) * t
    else firstEdge (s.divNow j) (s.fvco (s.outSrc j)) (x.base - (x.net % secU * 2 ^ 34 : Nat)) x.earliest

/-- An output that waits for network time takes it as its reference once VALID and TSU_LOCK are 1 (R283).
(DESIGN CHOICE, log entry 83) -/
def State.outTake (s : State) (j : Nat) : State :=
  if s.outState j = 3 ∧ !s.armed j ∧ s.timeGood then
    let t := s.dtime (s.outDriver j)
    (s.modOut j (fun x => { x with base := t, net := s.now, earliest := max x.earliest t })).setFld (Fld.OUT_STAT_STATE j) 2
  else s

/-- An output gives its first aligned edge and runs. -/
def State.outRun (s : State) (j : Nat) : State :=
  let e := s.outEdge j
  let x := s.ckout j
  let ps : Int := ((s.now * 2 ^ 34 : Nat) + (e - s.otime (s.outSrc j))) * 1000 / 2 ^ 50 + s.fldInt (Fld.OUT_DIV_NOW0_DELAY j)
  let good := s.on Fld.TIME_STATUS_VALID && x.fixed.isNone && s.fld (Fld.OUT_CFG_ALIGN j) == 1
  ((s.modOut j (fun x => { x with edge := e, fixed := none, epoch := good })).emitPin (.clock j ps)).setOut j 4

/-- OUTPUT_ALIGN (R281): in the tick its edge falls in, or later. -/
def outputAlign (j : Nat) (s : State) : State :=
  let s := s.outTake j
  if s.outState j = 2 ∧ s.outMayRun j ∧ s.outEdge j < s.otimeAfter (s.outSrc j) 1 then s.outRun j else s

/-- OUTPUT_ALIGN (R281). -/
def execOutputAlign (dt j : Nat) (s : State) : Host.Outcome State Fault Refusal :=
  effect dt (onlyIf (decide (j < 12)) (outputAlign j)) s

/-- A running output's last falling edge before an instant, with its period (R285). -/
def State.outFell (s : State) (j : Nat) (t : Int) : Int :=
  let (n, fv) := (s.divNow j, s.fvco (s.outSrc j))
  let p : Int := n * perF
  let e := (s.ckout j).edge
  if fv = 0 ∨ n = 0 ∨ t ≤ e then e else e + (-(-((t - e) * fv) / p) - 1) * p / fv + p / (2 * fv)

/-- An edge of SYNCIN is accepted: every armed output that may run takes its first edge 1,000 ns later, or k periods
after that where the low phase asks for it (R283). -/
def syncinEdge (sub : Nat) (s : State) : State :=
  let s := { s with syncinAt := some s.ticks }.raise Fld.SYN_SYNCIN_SEEN
  s.forAll ((List.range 12).filter (fun j => s.armed j && s.outMayRun j)) (fun j s =>
    let now := s.otime (s.outSrc j)
    let e0 : Int := now + (sub * 2 ^ 34 + 1000 * 2 ^ 50 : Nat)
    let half : Int := s.divNow j * perF / (2 * max 1 (s.fvco (s.outSrc j)))
    let run := s.outState j == 4
    let low := if run then s.outFell j e0 + half else if (s.ckout j).causeAt = 0 then e0 else (s.ckout j).earliest
    let e := firstEdge (s.divNow j) (s.fvco (s.outSrc j)) e0 (max e0 low)
    let s := if (s.ckout j).fb then s.raise (Fld.OUT_STAT_FALLBACK_USED j) else s
    let s := if run then s.outLow j (s.highLeft j) else s
    ((s.arm j false).modOut j (fun x => { x with
      fixed := some e, base := now, net := s.now, auto := false, fb := false })).setOut j 2)

/-- Whether an edge of SYNCIN is accepted (R283): its polarity, 1 ms after the latest cause and after the previous
accepted edge, 5 ns at the opposite level before it. -/
def State.syncinOk (s : State) (falling settled : Bool) : Bool :=
  settled && falling == s.on Fld.SYN_SYNCIN_EDGE &&
    s.ckouts.all (fun (x : Nat × CkOut) => x.2.causeAt == 0 || decide (x.2.causeAt + msT ≤ s.ticks)) &&
    (match s.syncinAt with
      | some t => decide (t + msT ≤ s.ticks)
      | none => true)

/-- SYNCIN_EDGE (R283). -/
def execSyncinEdge (dt : Nat) (falling : Bool) (sub : Nat) (settled : Bool) (s : State) : Host.Outcome State Fault Refusal :=
  effect dt (fun s => onlyIf (s.powered && decide (sub < tickUnits) && s.syncinOk falling settled) (syncinEdge sub) s) s

/-- A write of SYN.SYNCIN: EDGE and SEEN as their access types say, ARM bits written 1 arm (R283). -/
def syncinWrite (w : Word) (s : State) : State :=
  let s := (s.setFld Fld.SYN_SYNCIN_EDGE (bitsOf w 16 1)).setBit Fld.SYN_SYNCIN_SEEN
    (s.on Fld.SYN_SYNCIN_SEEN && bitsOf w 17 1 == 0)
  s.forAll ((List.range 12).filter (fun j => bitsOf w j 1 == 1)) (fun j s =>
    let s := (s.arm j true).modOut j (fun x => { x with fb := x.fb && s.armed j, auto := false })
    if s.on (Fld.OUT_CFG_EN j) && s.outState j != 4 then s.setOut j 3 else s)

/-- SYNCIN_ARM (R283). -/
def execSyncinArm (dt : Nat) (src : Src) (w : Word) (s : State) : Host.Outcome State Fault Refusal :=
  effect dt (fun s => s.guarded src Reg.SYN_SYNCIN (syncinWrite w)) s

/-! ## Dividers (R284, R285) -/

/-- A write of DIV_NEXT +0x0 checks and stages the set (R284). -/
def divNextWrite (j : Nat) (w : Word) (s : State) : State :=
  let a := Reg.OUT_DIV_NEXT0 j
  let v := s.wideValue a 2 (w &&& 0x0FFF00FF#32)
  let s := s.dropHeld a 2
  if !dividersOk (s.fvco (s.outSrc j)) (s.fld (Fld.OUT_CFG_FORMAT j)) (v % 256) (v / 2 ^ 32) then s.raise Fld.OUT_EVT_CFG_ERR
  else (s.modOut j (fun x => { x with
    nextAt := some s.ticks
    before := if x.nextAt = some s.ticks then x.before else (s.get a, s.get (a + 4)) })).setWide a 2 v

/-- DIV_NEXT_WRITE (R284). -/
def execDivNextWrite (dt : Nat) (src : Src) (j : Nat) (w : Word) (s : State) : Host.Outcome State Fault Refusal :=
  effect dt (onlyIf (decide (j < 12)) (fun s => s.guarded src (Reg.OUT_DIV_NEXT0 j) (divNextWrite j w))) s

/-- A write of SYN.UPDATE: with GO = 1 the load comes at the first tick at least 1 µs later (R284).
(DESIGN CHOICE, log entry 85) -/
def divUpdate (w : Word) (s : State) : State :=
  let s := s.setFld Fld.SYN_UPDATE_MASK (bitsOf w 0 12)
  if bitsOf w 31 1 = 1 then { s with divLoads := s.divLoads ++ [(s.ticks + usT, bitsOf w 0 12)] } else s

/-- DIVIDER_UPDATE (R284). -/
def execDividerUpdate (dt : Nat) (src : Src) (w : Word) (s : State) : Host.Outcome State Fault Refusal :=
  effect dt (fun s => s.guarded src Reg.SYN_UPDATE (divUpdate w)) s

/-- One output at a load instant (R284, R285): a set staged before the tick enters use. -/
def State.loadOut (s : State) (j l : Nat) : State :=
  let x := s.ckout j
  if x.loadedAt = some l then s
  else
    let run := s.outState j == 4
    let now := s.otime (s.outSrc j)
    let fell := s.outFell j now
    let left := s.highLeft j
    let old := s.divNow j
    let (w0, w1) := if x.nextAt.any (fun t => decide (l ≤ t)) then x.before
      else (s.get (Reg.OUT_DIV_NEXT0 j), s.get (Reg.OUT_DIV_NEXT1 j))
    let s := ((s.set (Reg.OUT_DIV_NOW0 j) w0).set (Reg.OUT_DIV_NOW1 j) w1).modOut j (fun x => { x with loadedAt := some l })
    let half : Int := min old (s.divNow j) * perF / (2 * max 1 (s.fvco (s.outSrc j)))
    if run && s.outMayRun j then (s.outLow j left).outCause j (max now (fell + half))
    else if run then s.outMute j false
    else if s.outState j = 1 ∧ s.outMayRun j then s.outAlign j
    else s.outShow j

/-- DIV_NEXT is loaded for the outputs in a mask. -/
def State.loadOuts (s : State) (mask l : Nat) : State :=
  s.forAll ((List.range 12).filter (fun j => mask / 2 ^ j % 2 == 1)) (fun j s => s.loadOut j l)

/-- The first load falls due, with every other of its tick (R284).
(DESIGN CHOICE, log entry 85) -/
def dividerLoad (s : State) : State :=
  match s.divLoads with
  | [] => s
  | (l, _) :: _ =>
    if s.ticks < l then s
    else
      let same := s.divLoads.filter (fun x => x.1 == l)
      { s with divLoads := s.divLoads.filter (fun x => x.1 != l) }.loadOuts (same.foldl (fun m (x : Nat × Nat) => m ||| x.2) 0) l

/-- DIVIDER_LOAD (R285). -/
def execDividerLoad (dt : Nat) (s : State) : Host.Outcome State Fault Refusal := effect dt dividerLoad s

/-! ## Steps of the driving DPLL (R286) -/

/-- A step reduced modulo 1 s to (-0.5 s, +0.5 s]; units of 2^-16 ns. -/
def halfSecond (v : Int) : Int :=
  let r := v % (secU : Int)
  if (secU : Int) < 2 * r then r - secU else r

/-- One APLL takes a small step: its phase moves at 100 ppm.
(DESIGN CHOICE, log entry 84) -/
def State.apllMoveBy (s : State) (a : Nat) (v : Int) : State :=
  if s.apllState a ≠ 3 then s
  else
    let left : Int := match s.timer .apllMove a with
      | some t => (kget s.apllMove a 0).sign * ((t - s.ticks) * tickUnits / 10000 : Nat)
      | none => 0
    let m := left + v
    let s := { s with apllMove := kput s.apllMove a m }
    if m = 0 then (s.stopTimer .apllMove a).setFld (Fld.APLL_STAT_MOVING a) 0
    else (s.raise (Fld.APLL_STAT_MOVING a)).startTimer .apllMove a (m.natAbs * 10000 / tickUnits)

/-- DPLL d steps by v, in 2^-16 ns: a FREE output does not take a large one (R286).
(DESIGN CHOICE, log entry 84) -/
def State.dpllStep (s : State) (d : Nat) (v : Int) : State :=
  let r := halfSecond v
  let aplls := (List.range 3).filter (fun a => s.driver a == d)
  if r = 0 then s
  else
    let s := { s with dfine := kput s.dfine d (s.dtime d + r * 2 ^ 34) }
    if r.natAbs ≤ 10 * usU then s.forAll aplls (fun a s => s.apllMoveBy a r)
    else s.forAll (aplls.flatMap (fun a => s.outsOf a)) (fun j s =>
      if s.fld (Fld.OUT_CFG_ALIGN j) = 0 then s.modOut j (fun x => { x with
        base := x.base + r * 2 ^ 34, earliest := x.earliest + r * 2 ^ 34
        fixed := x.fixed.map (fun e => e + r * 2 ^ 34), edge := x.edge + r * 2 ^ 34 })
      else if 2 ≤ s.outState j then (s.outMute j true).outFollow j
      else s)

/-! ## Loops that clock the device (R287 to R289) -/

/-- A Leaf's PLL loses lock (R287): CORE, or MEM, moves to its safe clock. -/
def leafPllLoss (n : Nat) (mem : Bool) (s : State) : State :=
  let i := 2 * n + (if mem then 1 else 0)
  let s := ({ s with relocks := kput s.relocks i 0 }.setFld (Fld.LCTL_CLK_ATTEMPTS n) 0).stopTimer .relock i
  if mem then ((s.setFld (Fld.LCTL_CLK_MEM_LOCK n) 0).raise (Fld.LCTL_CLK_MEM_SAFE n)).raise (Fld.LCTL_CLK_EVT_MEM_LOSS n)
  else ((s.setFld (Fld.LCTL_CLK_CORE_LOCK n) 0).setFld (Fld.LCTL_CLK_CORE_RATE n) 3).raise (Fld.LCTL_CLK_EVT_CORE_LOSS n)

/-- Whether a Leaf's PLL is locked. -/
def State.leafPll (s : State) (n : Nat) (mem : Bool) : Bool :=
  s.on (if mem then Fld.LCTL_CLK_MEM_LOCK n else Fld.LCTL_CLK_CORE_LOCK n)

/-- LEAF_PLL_LOSS (R287). -/
def execLeafPllLoss (dt n : Nat) (mem : Bool) (s : State) : Host.Outcome State Fault Refusal :=
  effect dt (fun s => onlyIf (s.leafOn n && s.leafPll n mem) (leafPllLoss n mem) s) s

/-- The firmware starts a relock attempt, at most the third since the loss (R288).
(DESIGN CHOICE, log entry 86) -/
def relockAttempt (n i : Nat) (s : State) : State :=
  let k := kget s.relocks i 0
  if 3 ≤ k ∨ s.running .relock i then s
  else ({ s with relocks := kput s.relocks i (k + 1) }.setFld (Fld.LCTL_CLK_ATTEMPTS n) (k + 1)).startTimer .relock i (10 * msT)

/-- LEAF_PLL_RELOCK_ATTEMPT (R288). -/
def execLeafPllRelockAttempt (dt n : Nat) (mem : Bool) (s : State) : Host.Outcome State Fault Refusal :=
  effect dt (fun s => onlyIf (s.fwRuns && s.leafOn n && !s.leafPll n mem) (relockAttempt n (2 * n + (if mem then 1 else 0))) s) s

/-- An attempt has not locked within 10 ms; the third such failure is reported (R288).
(DESIGN CHOICE, log entry 86) -/
def relockTimeout (n i : Nat) (s : State) : State :=
  let s := s.stopTimer .relock i
  if kget s.relocks i 0 < 3 then s else (s.raise (Fld.LCTL_CLK_RELOCK_FAIL n)).raise (Fld.LCTL_CLK_EVT_RELOCK_FAIL n)

/-- RELOCK_ATTEMPT_TIMEOUT (R288). -/
def execRelockAttemptTimeout (dt n : Nat) (mem : Bool) (s : State) : Host.Outcome State Fault Refusal :=
  let i := 2 * n + (if mem then 1 else 0)
  effect dt (fun s => onlyIf (s.leafOn n && s.due .relock i) (relockTimeout n i) s) s

/-- The throttle level of a Leaf (R343), which CORE_RATE follows when CORE is locked. -/
def State.throttle (s : State) (n : Nat) : Nat := s.fld ⟨Reg.PWR_THROTTLE, 2 * n, 2⟩

/-- The PLL has held lock for 10 ms and its clock switches back to the rate granted (R288). -/
def leafPllRelocked (n : Nat) (mem : Bool) (s : State) : State :=
  let s := s.stopTimer .relock (2 * n + (if mem then 1 else 0))
  if mem then (s.raise (Fld.LCTL_CLK_MEM_LOCK n)).setFld (Fld.LCTL_CLK_MEM_SAFE n) 0
  else (s.raise (Fld.LCTL_CLK_CORE_LOCK n)).setFld (Fld.LCTL_CLK_CORE_RATE n) (s.throttle n)

/-- LEAF_PLL_RELOCKED (R288). -/
def execLeafPllRelocked (dt n : Nat) (mem : Bool) (s : State) : Host.Outcome State Fault Refusal :=
  effect dt (fun s => onlyIf (s.leafOn n && !s.leafPll n mem && s.due .relock (2 * n + (if mem then 1 else 0)))
    (leafPllRelocked n mem) s) s

/-- The TSU PLL loses lock (R287, R289): stamps lose VALID, the Ladle halts, pulses mute, and the counter goes on. -/
def tsuPllLoss (s : State) : State :=
  let s := ((s.setFld Fld.TSU_PLL_LOCK 0).raise Fld.TSU_PLL_LOSS).bump Fld.TSU_PLL_COUNT 1
  let s := { s with tsuLossAt := s.ticks }.raise Fld.TSU_PLL_LANES_ON_XO
  let s := (s.setFld Fld.TIME_STATUS_TSU_LOCK 0).startTimer .tsuRetry 0 msT
  let s := s.forAll (List.range 8) (fun j s => if s.pulseMode j = 0 then s else s.raise (Fld.TIME_PULSE_STAT_MUTED j))
  (s.calDisturb (fun item _ => item == 1 || item == 4) calDisturbed).ladleHalt

/-- TSU_PLL_LOSS (R289). -/
def execTsuPllLoss (dt : Nat) (s : State) : Host.Outcome State Fault Refusal :=
  effect dt (fun s => onlyIf (s.powered && s.on Fld.TSU_PLL_LOCK) tsuPllLoss s) s

/-- TSU_PLL_RETRY (R289): the hardware tries again, every 1 ms. -/
def execTsuPllRetry (dt : Nat) (s : State) : Host.Outcome State Fault Refusal :=
  effect dt (fun s => onlyIf (s.powered && !s.on Fld.TSU_PLL_LOCK && s.due .tsuRetry 0)
    (fun s => s.startTimer .tsuRetry 0 msT) s) s

/-- TSU_LOCK sets once the PLL is locked and every Leaf in service is within ±2.5 ps (R289).
(DESIGN CHOICE, log entry 87) -/
def State.tsuFollow (s : State) : State :=
  if s.on Fld.TSU_PLL_LOCK && !s.on Fld.TIME_STATUS_TSU_LOCK &&
      (List.range 8).all (fun n => !s.inService n || s.fldBit Fld.TIME_STATUS_LEAF_ALIGNED n) then
    ({ s with tsuLockAt := s.ticks }.raise Fld.TIME_STATUS_TSU_LOCK).ladleResume
  else s

/-- The TSU PLL has held lock for 1 ms (R50, R289): the counter counts ticks, the lanes return.
(DESIGN CHOICE, log entry 87) -/
def tsuPllRelock (s : State) : State :=
  let s := { s with counting := true }.stopTimer .tsuRetry 0
  ((s.raise Fld.TSU_PLL_LOCK).setFld Fld.TSU_PLL_LANES_ON_XO 0).tsuFollow

/-- TSU_PLL_RELOCK (R289). -/
def execTsuPllRelock (dt : Nat) (s : State) : Host.Outcome State Fault Refusal :=
  effect dt (fun s => onlyIf (s.powered && !s.on Fld.TSU_PLL_LOCK && decide (s.tsuLossAt + msT ≤ s.ticks)) tsuPllRelock s) s

/-- The lowest-numbered stitch module of Leaf n in service, on which its alignment exchange runs (R53). -/
def State.alignModule (s : State) (n : Nat) : Option Nat :=
  (List.range 4).find? (fun q => s.fldBit (Fld.XBAR_LINK_STAT_MODULES_UP n) q)

/-- Whether an exchange with Leaf n may take place: it is in service, or aligning, over a module in service, and 1,024 ticks
have passed since the last one (R53). -/
def State.alignDue (s : State) (n : Nat) : Bool :=
  decide (n < 8) && (s.leaf n == 3 || s.leaf n == 4) && (s.alignModule n).isSome &&
    (kfind s.aligns n).all (fun x => decide (x.at_ + 1024 ≤ s.ticks))

/-- The Spine corrects Leaf n's counter, which then differs from the master counter by the residual it reports (R53);
LEAF_ALIGNED and LEAF_STAMP_INVALID follow it, and the time for which the residual of a Leaf in service lies outside ±2.5 ps
starts or ends (R54).
(DESIGN CHOICE, log entry 30) -/
def leafAlignExchange (n : Nat) (resid : Int) (s : State) : State :=
  let s := { s with aligns := kput s.aligns n ⟨(s.alignModule n).getD 0, s.ticks⟩ }
  let s := s.setFld (Fld.TIME_LEAF_RESID_RESID n) (unsigned 16 resid)
  let ok := residAligned resid
  let s := s.setFldBit Fld.TIME_STATUS_LEAF_ALIGNED n ok
  let s := if ok then s.setFldBit Fld.TIME_STATUS_LEAF_STAMP_INVALID n false
    else if residStampOk resid then s else s.setFldBit Fld.TIME_STATUS_LEAF_STAMP_INVALID n true
  if ok then (s.stopTimer .residOut n).setFld (Fld.TIME_LEAF_RESID_WARN n) 0
  else if s.running .residOut n || !s.inService n then s else s.startTimer .residOut n (msT + 1)

/-- LEAF_ALIGN_EXCHANGE (R53). -/
def execLeafAlignExchange (dt n : Nat) (resid : Int) (s : State) : Host.Outcome State Fault Refusal :=
  effect dt (fun s => onlyIf (s.alignDue n) (fun s => (leafAlignExchange n resid s).tsuFollow) s) s

end Sys2Proof.Machine
end

