-- ==== Sys2Proof/Machine/Power.lean ====
section
/-!
DEFINITION. Power.lean: Leaves leaving and rejoining service (R42 to R48), the power states, the budget arbiter, thermal
throttling and the regulators (R330 to R350).
-/
namespace Sys2Proof.Machine

/-- The state with a function applied to the power manager's record. -/
def State.modPower (s : State) (f : Power → Power) : State := { s with power := f s.power }

/-- STATE of the device (R330): 0 BOOT, 1 KEEP, 2 READY, 3 SERVICE. -/
def State.pstate (s : State) : Nat := s.fld Fld.PWR_STATE_STATE

/-- The Leaves present. -/
def State.allLeaves (s : State) : List Nat := List.range s.leaves

/-! ## Leaf states (R42 to R48) -/

/-- Every present Leaf is OFF. -/
def State.leavesOff (s : State) : Bool := s.allLeaves.all (fun n => s.leaf n == 1)

/-- The device's state changes. -/
def State.setPstate (s : State) (st : Nat) : State :=
  if s.pstate = st then s else ((s.setFld Fld.PWR_STATE_STATE st).raise Fld.PWR_EVT_STATE).gnssFollow

/-- READY and SERVICE follow the Leaves (R330). -/
def State.serviceFollow (s : State) : State := if s.pstate < 2 then s else s.setPstate (if s.leavesOff then 2 else 3)

/-- A Leaf enters a state; the Sieve and the requests of its octets follow (R42, R43, R46, R340). -/
def State.setLeaf (s : State) (n st : Nat) : State :=
  let was := s.inService n
  let s := { s with leafAt := kput s.leafAt n s.ticks }.setFld (leafField n) st
  let s := if was && st != 4 then s.linkLeaves n else s
  let s := s.calDisturb (fun item inst => (was && st != 4 && decide (inst < 256) && inst / 32 == n &&
    (item == 1 || item == 2 || item == 4)) || (item == 6 && inst == n + 1 && ((was && st != 4) || decide (st < 2)))) calNotPowered
  let s := s.sieveLeaves.serviceFollow
  if was && st != 4 then s.tsuFollow else s

/-- The ports of a Leaf. -/
def leafPorts (n : Nat) : List Nat := (List.range 32).map (fun i => 32 * n + i)

/-- The Leaf's pipelines and lane groups give up their requests, and its ports go OFF (R339, R344). -/
def State.leafUnpower (s : State) (n : Nat) : State :=
  let s := s.forAll ((List.range 4).map (fun m => 16 + 4 * n + m)) (fun r s => if s.rq r = 0 then s else s.release r)
  let s := s.forAll ((List.range 16).map (fun q => 48 + 16 * n + q)) (fun r s => if s.rq r = 0 then s else s.release r)
  s.forAll (leafPorts n) (fun p s => if s.namesPort p then s.followPort p else s)

/-- Whether a timer belongs to a Leaf. -/
def timerOfLeaf (n : Nat) (t : Timer) : Bool :=
  match t.kind with
  | .train | .lock | .exch | .backoff | .anNoDme | .signalOut | .escan => t.idx / 32 == n
  | .pipeRelease => t.idx / 4 == n
  | .drain | .leafAlign | .residOut | .respGap => t.idx == n
  | .relock => t.idx / 2 == n
  | _ => false

/-- What a Leaf holds is gone: registers, tables, queues, ports, counters (R42, R463). -/
def State.leafWipe (s : State) (n : Nat) : State :=
  let base := 0x1000000 + n * 0x400000
  let out := fun (e : Nat × Word) => !(decide (base ≤ e.1) && decide (e.1 < base + 0x400000))
  let s := { s with
    regs := s.regs.filter out, held := s.held.filter out, latched := s.latched.filter out
    dies := (kdel s.dies n).map (fun (e : Nat × Die) => (e.1, { e.2 with
      used := kdel e.2.used n, arriving := e.2.arriving.filter (fun a => a.src != n) }))
    ports := s.ports.filter (fun e => e.1 / 32 != n), escans := s.escans.filter (fun e => e.1 / 32 != n)
    calLanes := s.calLanes.filter (fun g => g / 32 != n)
    flight := s.flight.filter (fun c => c.src != n && c.dst != n)
    cnt := s.cnt.filter (fun e => e.1 / 2 ^ 20 != n), lately := s.lately.filter (fun e => e.1 / 2 ^ 20 != n), shadow := s.shadow.filter (fun e => e.1 / 2 ^ 20 != n)
    frozen := s.frozen.map (fun (m : KMap Nat) => m.filter (fun (e : Nat × Nat) => e.1 / 2 ^ 20 != n))
    snap := s.snap.map (fun (x : Snap) => { x with
      target := x.target - x.target / 2 ^ n % 2 * 2 ^ n, copy := x.copy.filter (fun (e : Nat × Nat) => e.1 / 2 ^ 20 != n) })
    timers := s.timers.filter (fun e => !timerOfLeaf n e.1)
    crcAt := s.crcAt.filter (fun e => e.1 / 4 != n), limWas := s.limWas.filter (fun e => decide (e.1 < base) || decide (base + 0x400000 ≤ e.1))
    scanEnd := s.scanEnd.filter (fun e => e.1 / 32 != n)
    relocks := kdel (kdel s.relocks (2 * n)) (2 * n + 1) }
  let s := (s.setFldBit Fld.TIME_STATUS_LEAF_ALIGNED n false).setFldBit Fld.TIME_STATUS_LEAF_STAMP_INVALID n false
  let s := (s.set (Reg.TIME_LEAF_RESID n) 0#32).set (Reg.CAL_MON_TEMP (2 + n)) 0#32
  s.forAll [0, 1, 2] (fun i s => s.set (Reg.CAL_MON_VOLT (3 + 3 * n + i)) 0#32)

/-- Frames arriving elsewhere from a Leaf will not be completed. -/
def State.leafAbandon (s : State) (n : Nat) : State :=
  s.forAll (List.range 9) (fun d s => (s.die d).arriving.foldl (fun s a => if a.src = n then s.abandon n d a.f else s) s)

/-- A start request is made: STARTING, with the clocks locked, and the shadow copy of this tick (R42, R47, R339). -/
def State.leafBegin (s : State) (n : Nat) : State :=
  let s := { s with starting := kput s.starting n (kget s.shadows n {}) }.setLeaf n 2
  let s := (s.setFld (Fld.XBAR_LINK_STAT_MODULES_UP n) 0xF).setFld (Fld.XBAR_LINK_STAT_RES_SUSPENDED n) 0
  let s := (s.raise (Fld.LCTL_CLK_CORE_LOCK n)).raise (Fld.LCTL_CLK_MEM_LOCK n)
  let s := s.setFld (Fld.FWD_WORLD_SECURE n) s.boot.fwdSecure
  (s.setFld (Fld.LCTL_CLK_CORE_RATE n) (s.throttle n)).setBit (Fld.EGR_LADLE_HALTED n) (!s.on Fld.TIME_STATUS_TSU_LOCK)

/-- A start is asked for: the Leaf's own power is requested (R339). -/
def State.leafStart (s : State) (n : Nat) : State := if s.leaf n = 1 then s.request (8 + n) else s

/-! ## Requests for a power state (R331 to R333) -/

/-- READY is approached: SP_HOST and SP_FAB are requested.
(DESIGN CHOICE, log entry 112) -/
def State.beginReady (s : State) : State :=
  (((s.raise Fld.PWR_STATE_BUSY).setFld Fld.PWR_STATE_TARGET 2).request 4).request 5

/-- A requester gives up its request, if it made one. -/
def State.letGo (s : State) (r : Nat) : State := if s.rq r = 0 then s else s.release r

/-- The Spine's services stop, as the device leaves READY (R332 steps 2 to 5) or enters HELD (R32): frames queued for the Spine
ports are discarded, outputs and APLLs but those of KEEP stop, channels but the burst ones go to IDLE, SP_FAB goes off.
(DESIGN CHOICE, log entry 160) -/
def State.stopSpine (s : State) (held : Bool) : State :=
  let stays := fun (s : State) (j : Nat) => !held && s.on (Fld.OUT_CFG_KEEP j)
  let s := (s.flushPort 258 0x29).flushPort 259 0x29
  let outs := (List.range 12).filter (fun j => s.on (Fld.OUT_CFG_EN j) && !stays s j)
  let aplls := (List.range 3).filter (fun a => s.on (Fld.APLL_CTRL_EN a) && !(s.outsOf a).any (stays s))
  let s := s.modPower (fun x => { x with savedOuts := x.savedOuts ++ outs, savedAplls := x.savedAplls ++ aplls })
  let s := s.forAll outs (fun j s => (s.setFld (Fld.OUT_CFG_EN j) 0).outFollow j)
  let s := s.forAll aplls (fun a s => (s.setFld (Fld.APLL_CTRL_EN a) 0).apllFollow a)
  let s := s.forAll (allChans.filter (fun c => held || !s.burstCh c)) (fun c s =>
    if s.chanState c = 0 then s else s.chanIdle c)
  (s.letGo 5).forAll [256, 257] (fun p s => s.followPort p)

/-- Steps 2 to 5 of a KEEP request (R332). -/
def State.enterKeep (s : State) : State :=
  let s := (s.stopSpine false).letGo 4
  ((s.setFld Fld.PWR_STATE_BUSY 0).setFld Fld.PWR_STATE_TARGET 0).setPstate 1

/-- A request held during a transition is carried out; the last one counts. -/
def State.nextRequest (s : State) (begin1 : State → State) : State :=
  match s.power.held with
  | some t =>
    let s := s.modPower (fun x => { x with held := none })
    if t = s.pstate then s else if t = 1 then begin1 s else if s.pstate = 1 then s.beginReady else s
  | none => s

/-- A KEEP request goes on once every Leaf is OFF.
(DESIGN CHOICE, log entry 100) -/
def State.keepFollow (s : State) : State :=
  if s.on Fld.PWR_STATE_BUSY && decide (2 ≤ s.pstate) && s.leavesOff then s.enterKeep.nextRequest (fun s => s) else s

/-- A Leaf goes OFF, or to STARTING when a restart was requested (R45). -/
def State.leafOff (s : State) (n : Nat) : State :=
  let again := s.restarts.contains n
  let s := ((s.leafUnpower n).leafAbandon n).setLeaf n 1
  let s := { s.leafWipe n with restarts := s.restarts.filter (fun m => m != n) }
  if again then s.leafBegin n else (s.release (8 + n)).keepFollow

/-- A Leaf in service begins to drain (R45). -/
def State.leafDrain (s : State) (n limit : Nat) (again : Bool) : State :=
  let s := { s with restarts := if again then n :: s.restarts else s.restarts.filter (fun m => m != n) }
  (s.setLeaf n 5).startTimer .drain n limit

/-- A KEEP request: Leaves in service drain, others go OFF (R332).
(DESIGN CHOICE, log entry 100) -/
def State.beginKeep (s : State) (limit : Nat → Nat) : State :=
  let s := (s.raise Fld.PWR_STATE_BUSY).setFld Fld.PWR_STATE_TARGET 1
  let s := s.forAll s.allLeaves (fun n s =>
    let s := { s with restarts := s.restarts.filter (fun m => m != n) }
    if s.leaf n = 4 then s.leafDrain n (limit n) false
    else if s.leaf n = 5 then s
    else if s.leaf n = 1 then (if s.rq (8 + n) = 0 then s else s.release (8 + n))
    else s.leafOff n)
  if s.on Fld.PWR_STATE_BUSY then s.keepFollow else s

/-- A Leaf's drain limit in ticks: 10 ms unless set (R45). -/
def State.limitOf (s : State) (n : Nat) : Nat := kget s.drainLimit n (10 * msT)

/-- A request for a state (R331): held while a transition runs, and then shown by TARGET; without effect for the present state.
(DESIGN CHOICE, log entry 101) -/
def State.requestState (s : State) (t : Nat) (limit : Nat → Nat) : State :=
  if s.on Fld.PWR_STATE_BUSY then (s.setFld Fld.PWR_STATE_TARGET t).modPower (fun x => { x with held := some t })
  else if s.pstate = t ∨ s.pstate = 0 then s
  else if t = 1 then s.beginKeep limit
  else if s.pstate = 1 then s.beginReady
  else s

/-- The Spine lies above THR_LO and so stays in KEEP (R345). -/
def State.spineHot (s : State) : Bool := s.power.tripped

/-- A wake by WAKE_AT is still to come, and is due by so many ticks from now (R333). -/
def State.wakeWithin (s : State) (d : Nat) : Bool :=
  s.on Fld.PWR_WAKE_EN && !s.power.woke && !s.spineHot &&
    (timeOfRaw (s.getWide Reg.PWR_WAKE_AT0 3)).any (fun t => decide (t ≤ s.now + d * tickUnits))

/-- WAKE_AT has come (R333).
(DESIGN CHOICE, log entry 102) -/
def wakeAt (s : State) : State := (s.modPower (fun x => { x with woke := true })).requestState 2 s.limitOf

/-- A write of PWR.REQ (R331); a wake of the same arbiter round is applied before it (R333).
(DESIGN CHOICE, log entry 101) -/
def pwrReqWrite (w : Word) (s : State) : State :=
  let s := s.storeRw Reg.PWR_REQ w
  let t := bitsOf w 0 2
  if bitsOf w 31 1 = 0 then s
  else if t = 1 ∨ t = 2 then
    let s := if s.wakeWithin (s.power.roundAt + 250 * usT - s.ticks) then wakeAt s else s
    s.requestState t s.limitOf
  else s.raise Fld.PWR_EVT_CFG_ERR

/-- POWER_REQUEST_KEEP (R332): a write of REQ with GO and TARGET KEEP. -/
def execPowerRequestKeep (dt : Nat) (src : Src) (s : State) : Host.Outcome State Fault Refusal :=
  effect dt (fun s => s.guarded src Reg.PWR_REQ (pwrReqWrite 0x80000001#32)) s

/-- POWER_REQUEST_READY (R333): a write of REQ with GO and TARGET READY. -/
def execPowerRequestReady (dt : Nat) (src : Src) (s : State) : Host.Outcome State Fault Refusal :=
  effect dt (fun s => s.guarded src Reg.PWR_REQ (pwrReqWrite 0x80000002#32)) s

/-- WAKE_AT (R333). -/
def execWakeAt (dt : Nat) (s : State) : Host.Outcome State Fault Refusal :=
  effect dt (fun s => onlyIf (s.powered && s.wakeWithin 0) wakeAt s) s

/-- Whether WAKE_AT holds a time that is valid and not past. -/
def State.wakeOk (s : State) : Bool :=
  match timeOfRaw (s.getWide Reg.PWR_WAKE_AT0 3) with
  | some t => decide (s.now ≤ t)
  | none => false

/-- Writes of WAKE and of the lowest word of WAKE_AT (R333).
(DESIGN CHOICE, log entry 102) -/
def wakeWrite (w : Word) (s : State) : State :=
  if bitsOf w 31 1 = 1 ∧ !s.on Fld.PWR_WAKE_EN ∧ !s.wakeOk then s.raise Fld.PWR_EVT_CFG_ERR
  else (s.storeRw Reg.PWR_WAKE w).modPower (fun x => { x with woke := x.woke && s.on Fld.PWR_WAKE_EN })
def wakeAtWrite (w : Word) (s : State) : State :=
  let v := s.wideValue Reg.PWR_WAKE_AT0 3 w
  let s := s.dropHeld Reg.PWR_WAKE_AT0 3
  if (timeOfRaw v).isNone then s.raise Fld.PWR_EVT_CFG_ERR
  else (s.setWide Reg.PWR_WAKE_AT0 3 v).modPower (fun x => { x with woke := false })

/-- READY is entered (R333): outputs and APLLs return, and the Leaves of LEAF_MASK are started.
(DESIGN CHOICE, log entry 112) -/
def readyEntry (s : State) : State :=
  let (outs, aplls) := (s.power.savedOuts, s.power.savedAplls)
  let s := ((s.setFld Fld.PWR_STATE_BUSY 0).setFld Fld.PWR_STATE_TARGET 0).setPstate 2
  let s := s.modPower (fun x => { x with savedOuts := [], savedAplls := [] })
  let s := s.forAll aplls (fun a s => (s.raise (Fld.APLL_CTRL_EN a)).apllFollow a)
  let s := s.forAll outs (fun j s => (s.raise (Fld.OUT_CFG_EN j)).outFollow j)
  let s := s.forAll (s.allLeaves.filter (fun n => s.fldBit Fld.PWR_WAKE_LEAF_MASK n)) (fun n s => s.leafStart n)
  s.nextRequest (fun s => s.beginKeep s.limitOf)

/-- READY_ENTRY (R333). -/
def execReadyEntry (dt : Nat) (s : State) : Host.Outcome State Fault Refusal :=
  effect dt (fun s => onlyIf (s.on Fld.PWR_STATE_BUSY && decide (s.pstate < 2) && s.domOn 4 && s.domOn 5)
    readyEntry s) s

/-! ## Draining and starting Leaves (R45, R47, R48) -/

/-- Whether a draining Leaf has nothing left to send. -/
def State.leafEmpty (s : State) (n : Nat) : Bool :=
  let d := s.die n
  d.hdr.all (fun e => e.2.isEmpty) && d.queues.all (fun e => e.2.isEmpty) && d.ladle.isEmpty && d.arriving.isEmpty &&
    d.xq.all (fun e => e.2.sched.isEmpty && e.2.bulk.isEmpty) && d.resp.isEmpty &&
    s.flight.all (fun c => c.src != n && c.dst != n) &&
    (leafPorts n).all (fun p => (s.port p).part.isNone && ((s.port p).cur.isNone || decide ((s.port p).freeAt ≤ s.phys)))

/-- DRAIN_COMPLETE (R45). -/
def execDrainComplete (dt n : Nat) (s : State) : Host.Outcome State Fault Refusal :=
  effect dt (fun s => onlyIf (decide (n < 8) && s.leaf n == 5 && s.leafEmpty n) (fun s => s.leafOff n) s) s

/-- What a Leaf still holds is discarded as DRAINED (R45): a frame not yet looked up, or a queued response, at its own port.
(DESIGN CHOICE, log entry 104) -/
def State.leafDiscard (s : State) (n : Nat) : State :=
  let s := s.forAll (leafPorts n) (fun p s => s.flushPort p 0x28)
  let s := (List.range 4).foldl (fun s m => (s.hdr n m).foldl (fun s f =>
    let g := (s.classify n f).1
    s.egressDrop g g.inPort g.cls 0x28) (s.setHdr n m [])) s
  let s := (s.die n).resp.foldl (fun s f => s.egressDrop f f.inPort f.cls 0x28) (s.modDie n (fun d => { d with resp := [] }))
  s.forAll (List.range 10) (fun j s =>
    let q := s.xq n j
    (q.sched ++ q.bulk).foldl (fun s x => s.dropLinks x.f x.links 0x28) (s.setXq n j {}))

/-- DRAIN_LIMIT_EXPIRY (R45). -/
def execDrainLimitExpiry (dt n : Nat) (s : State) : Host.Outcome State Fault Refusal :=
  effect dt (fun s => onlyIf (decide (n < 8) && s.leaf n == 5 && s.due .drain n) (fun s => (s.leafDiscard n).leafOff n) s) s

/-- The firmware has restored a Leaf from the copy of its start request; the Leaf begins to align (R42, R47). -/
def restoreComplete (n : Nat) (s : State) : State :=
  let c := kget s.starting n {}
  let s := c.regs.foldl (fun s e => s.set e.1 e.2) { s with starting := kdel s.starting n }
  let s := s.modDie n (fun d => { d with tables := c.tables })
  let fixed := fun (p : Nat) => [Reg.TCX_CAP p, Reg.TCX_TXFIX p, Reg.TCX_RXFIX p].any (fun a => (kfind c.regs a).isSome)
  let s := s.forAll ((leafPorts n).filter fixed) tcxCommit
  let moded := (leafPorts n).any (fun p => (kfind c.regs (Reg.PORT_MODE p)).isSome)
  let s := s.forAll (leafPorts n) (fun g s => if moded then s.setFld (Fld.LANE_STATE_RATE g) (s.laneRate g) else s)
  let s := c.admin.foldl (fun s (e : Nat × Bool) => if e.2 then s else s.adminDown e.1 s.now) (s.poolShow n)
  (s.setLeaf n 3).startTimer .leafAlign n (10 * msT)

/-- RESTORE_COMPLETE (R47). -/
def execRestoreComplete (dt n : Nat) (s : State) : Host.Outcome State Fault Refusal :=
  effect dt (fun s => onlyIf (decide (n < 8) && s.fwRuns && s.leaf n == 2 && s.domOn (8 + n)) (restoreComplete n) s) s

/-- A Leaf enters service: its pipelines are requested (R340, R342). -/
def leafAligned (n : Nat) (s : State) : State :=
  ((s.stopTimer .leafAlign n).setLeaf n 4).forAll (List.range 4) (fun m s => s.followOctet (4 * n + m))

/-- LEAF_ALIGNED (R48): with the residual within ±2.5 ps. -/
def execLeafAligned (dt n : Nat) (s : State) : Host.Outcome State Fault Refusal :=
  effect dt (fun s => onlyIf (decide (n < 8) && s.leaf n == 3 && s.fldBit Fld.TIME_STATUS_LEAF_ALIGNED n) (leafAligned n) s) s

/-- A Leaf is stopped into FAULT: it leaves service, its pipelines and groups are released, LF_n stays on (R344).
(DESIGN CHOICE, log entry 104) -/
def State.leafFault (s : State) (n : Nat) : State :=
  let s := ((s.stopTimer .leafAlign n).stopTimer .drain n).setLeaf n 6
  (s.leafUnpower n).raise (Fld.LCTL_FAULT_STOPPED n)

/-- ALIGN_TIMEOUT (R48). -/
def execAlignTimeout (dt n : Nat) (s : State) : Host.Outcome State Fault Refusal :=
  effect dt (fun s => onlyIf (decide (n < 8) && s.leaf n == 3 && s.due .leafAlign n)
    (fun s => (s.leafFault n).raise (Fld.LCTL_FAULT_ALIGN n)) s) s

/-! ## Regulators (R346 to R349) -/

/-- The entries of PWR.REG. -/
def allRegs : List Nat := List.range 16

/-- The requester whose domain a DOMAIN code names; none for a standing rail. -/
def regRq (code : Nat) : Option Nat :=
  match code with
  | 1 => some 4
  | 2 => some 5
  | 3 => some 3
  | 4 => some 0
  | 5 => some 1
  | 6 => some 2
  | _ => if 8 ≤ code then some code else none

/-- The requester an entry serves. -/
def State.regOf (s : State) (i : Nat) : Option Nat := regRq (s.fld (Fld.PWR_REG_CFG_DOMAIN i))

/-- Entries of PWR.REG in ascending ORDER, ties by entry (R347). -/
def State.inOrder (s : State) (l : List Nat) : List Nat :=
  (List.range 16).flatMap (fun o => l.filter (fun i => s.fld (Fld.PWR_REG_CFG_ORDER i) == o))

/-- The regulators switched for a requester, in the order they are turned on: valid entries while the PMBus master is enabled. -/
def State.regsOf (s : State) (r : Nat) : List Nat :=
  if s.on Fld.PWR_PMB_CFG_EN then s.inOrder (allRegs.filter (fun i => s.on (Fld.PWR_REG_CFG_VALID i) && s.regOf i == some r))
  else []

/-- A write on the PMBus to an entry's regulator, at its PAGE (R346). -/
def State.regSend (s : State) (i command : Nat) (data : List Byte) : State :=
  s.emit (.pmbus (s.fld (Fld.PWR_REG_CFG_ADDR i)) (s.fld (Fld.PWR_REG_CFG_PAGE i)) command data)

/-- A regulator is turned on: VOUT_COMMAND when VOUT is not 0, then OPERATION 0x80 (R347). -/
def State.regOn (s : State) (i : Nat) : State :=
  let v := s.fld (Fld.PWR_REG_VOUT_VOUT i)
  let s := if v = 0 then s else s.regSend i 0x21 [BitVec.ofNat 8 v, BitVec.ofNat 8 (v / 256)]
  (s.regSend i 0x01 [0x80#8]).raise (Fld.PWR_REG_STAT_ON i)

/-- A regulator that is on is turned off: OPERATION 0x00 (R347). -/
def State.regOff (s : State) (i : Nat) : State :=
  if s.on (Fld.PWR_REG_STAT_ON i) then (s.regSend i 0x01 [0x00#8]).setFld (Fld.PWR_REG_STAT_ON i) 0 else s

/-- Regulators of a domain that is off, and not granted, are turned off in descending ORDER (R347). -/
def State.regsFollow (s : State) : State :=
  let off := fun (i : Nat) => s.on Fld.PWR_PMB_CFG_EN && (s.regOf i).any (fun r => s.rq r != 2)
  s.forAll (s.inOrder (allRegs.filter off)).reverse (fun i s => s.regOff i)

/-- ON_DELAY of regulators, one after another, in ticks. -/
def State.delayOf (s : State) (l : List Nat) : Nat := l.foldl (fun a i => a + s.fld (Fld.PWR_REG_TIME_ON_DELAY i) * msT) 0
def State.onDelay (s : State) (r : Nat) : Nat := s.delayOf (s.regsOf r)

/-- A granted domain is powered and clocked (R334, R347). -/
def domainPowerUp (r : Nat) (s : State) : State :=
  let s := s.forAll (s.regsOf r) (fun i s => (s.regOn i).raise (Fld.PWR_REG_STAT_PG i))
  let s := { s with doms := r :: s.doms }
  if r < 3 then (s.apllFollow r).bootBands r
  else if r = 5 then s.forAll [256, 257] (fun p s => s.followPort p)
  else if 48 ≤ r then
    let g := 2 * (r - 48)
    s.forAll [g, g + 1] (fun g s => match s.portOfLane g with
      | some p => s.followPort p
      | none => s)
  else s

/-- DOMAIN_POWER_UP (R347). -/
def execDomainPowerUp (dt r : Nat) (s : State) : Host.Outcome State Fault Refusal :=
  effect dt (fun s => onlyIf (decide (r < 176) && s.rq r == 2 && !s.domOn r &&
    decide (kget s.power.grantAt r 0 + s.onDelay r ≤ s.ticks)) (domainPowerUp r) s) s

/-- A requester's regulators up to entry i, in the order they are turned on. -/
def State.regsUpTo (s : State) (r i : Nat) : List Nat := (s.regsOf r).takeWhile (fun k => k != i) ++ [i]

/-- A failed SP_HOST or SP_FAB keeps the device in KEEP: the transition ends, and a held request is carried out (R348). -/
def State.readyFails (s : State) : State :=
  if s.on Fld.PWR_STATE_BUSY && decide (s.pstate < 2) then
    let s := s.forAll [4, 5] (fun q s => if s.rq q = 4 then s else s.letGo q)
    (((s.setFld Fld.PWR_STATE_BUSY 0).setFld Fld.PWR_STATE_TARGET 0).setPstate 1).nextRequest (fun s => s)
  else s

/-- A regulator fails while its domain is turned on: those already on go off in reverse order, and the request FAILED (R348).
(DESIGN CHOICE, log entry 106) -/
def regulatorFail (i r : Nat) (s : State) : State :=
  let s := (s.raise (Fld.PWR_REG_STAT_FAIL i)).raise Fld.PWR_EVT_REG_FAIL
  let on := s.regsUpTo r i
  let s := (s.forAll on (fun k s => s.regOn k)).forAll on.reverse (fun k s => s.regOff k)
  let s := if 8 ≤ r ∧ r < 16 then { s with restarts := s.restarts.filter (fun m => m != r - 8) }.leafOff (r - 8) else s.release r
  let s := (s.setFld (Fld.PWR_RQ_STATE r) 4).showGrant
  if r = 4 ∨ r = 5 then s.readyFails else s

/-- REGULATOR_FAIL (R348): no power good within PG_TMO, or a transaction failed three times. -/
def execRegulatorFail (dt i : Nat) (tx : Bool) (s : State) : Host.Outcome State Fault Refusal :=
  effect dt (fun s => match s.regOf i with
    | some r => onlyIf (decide (i < 16) && (s.regsOf r).contains i && s.rq r == 2 && !s.domOn r &&
        (tx || decide (kget s.power.grantAt r 0 + s.delayOf (s.regsUpTo r i) + s.fld (Fld.PWR_REG_TIME_PG_TMO i) * msT
          ≤ s.ticks))) (regulatorFail i r) s
    | none => s) s

/-- STATUS_WORD as read from some entries: power good, and a fault bit (R349).
(DESIGN CHOICE, log entry 106) -/
def State.regsRead (s : State) (reads : List (Nat × Bool × Bool)) : State :=
  (reads.filter (fun e => decide (e.1 < 16) && s.on (Fld.PWR_REG_CFG_VALID e.1))).foldl (fun s e =>
    let (i, pg, fault) := e
    let s := s.setBit (Fld.PWR_REG_STAT_PG i) pg
    if fault && (s.on (Fld.PWR_REG_STAT_ON i) || (s.regOf i).isNone) then
      let s := (s.raise (Fld.PWR_REG_STAT_FAIL i)).raise Fld.PWR_EVT_REG_FAIL
      match s.regOf i with
      | some r => if 8 ≤ r ∧ 2 ≤ s.leaf (r - 8) ∧ s.leaf (r - 8) ≤ 5 then
          (s.leafFault (r - 8)).raise (Fld.LCTL_FAULT_REG (r - 8)) else s
      | none => s
    else s) s

/-- REGULATOR_POLL (R349): every 100 ms, of every valid entry. -/
def execRegulatorPoll (dt : Nat) (reads : List (Nat × Bool × Bool)) (s : State) : Host.Outcome State Fault Refusal :=
  effect dt (fun s => onlyIf (s.powered && s.on Fld.PWR_PMB_CFG_EN && decide (s.power.pollAt + 100 * msT ≤ s.ticks))
    (fun s => ((s.modPower (fun x => { x with pollAt := s.ticks })).regsRead reads).regsFollow) s) s

/-- PMB_ALERT (R349). -/
def execPmbAlert (dt : Nat) (reads : List (Nat × Bool × Bool)) (s : State) : Host.Outcome State Fault Refusal :=
  effect dt (fun s => onlyIf s.powered (fun s =>
    let s := s.raise Fld.PWR_EVT_PMB_ALERT
    if s.on Fld.PWR_PMB_CFG_EN then s.regsRead reads else s) s) s

/-- A write to word e of a REG entry: not while its domain is on, and DOMAIN a code that exists (R350). -/
def regWrite (i e : Nat) (w : Word) (s : State) : State :=
  let a := Reg.PWR_REG_CFG i + 4 * e
  let d := bitsOf w 0 4
  if e = 3 then (if bitsOf w 2 1 = 1 then s.setFld (Fld.PWR_REG_STAT_FAIL i) 0 else s)
  else if (s.regOf i).any (fun r => s.domOn r) || (e == 0 && d == 7) || (e == 1 && bitsOf w 16 16 == 0) then
    s.raise Fld.PWR_EVT_CFG_ERR
  else s.storeRw a w

/-! ## The budget arbiter (R335 to R342) -/

/-- Tokens that may be granted. -/
def State.budgetRoom (s : State) : Nat := s.fld Fld.PWR_BUDGET_CEILING - s.fld Fld.PWR_BUDGET_GUARD

/-- The requests that wait, in class order and ascending index. -/
def State.waitOrder (s : State) : List Nat :=
  let l := (List.range 176).filter (fun r => s.rq r == 1 || s.rq r == 3)
  [0, 1, 2].flatMap (fun c => l.filter (fun r => s.fld (Fld.PWR_RQ_CLASS r) == c))

/-- A request is granted; a Leaf's start request is made then, and a pipeline's lane groups ask (R339, R340). -/
def State.grant (s : State) (r : Nat) : State :=
  let s := { s with rqSince := kdel s.rqSince r }.modPower (fun x => { x with grantAt := kput x.grantAt r s.ticks })
  let s := (s.setFld (Fld.PWR_RQ_STATE r) 2).showGrant
  if 8 ≤ r ∧ r < 16 then s.leafBegin (r - 8)
  else if 16 ≤ r ∧ r < 48 then s.forAll (List.range 4) (fun q s => s.followGroup (48 + 4 * (r - 16) + q))
  else if 48 ≤ r then s.modPower (fun x => { x with groupAt := kput x.groupAt ((r - 48) / 16) s.ticks })
  else s

/-- Whether a lane group must wait for its Leaf's stagger interval (R341). -/
def State.staggered (s : State) (r : Nat) : Bool :=
  decide (48 ≤ r) && (match kfind s.power.groupAt ((r - 48) / 16) with
    | some t => decide (s.ticks < t + s.fld Fld.PWR_ARB_CFG_STAGGER * 100 * usT)
    | none => false)

/-- One request of a round: it is granted, waits, or becomes OVERDUE and holds back those after it (R337).
(DESIGN CHOICE, log entry 103) -/
def roundStep (x : State × Bool) (r : Nat) : State × Bool :=
  let (s, shut) := x
  if !shut && !s.staggered r && decide (s.grantedTokens + s.fld (Fld.PWR_RQ_PEAK r) ≤ s.budgetRoom) then (s.grant r, shut)
  else if s.rq r = 3 then (s, true)
  else if kget s.rqSince r s.ticks + s.fld Fld.PWR_ARB_CFG_WAIT_LIMIT * msT < s.ticks then
    (((s.setFld (Fld.PWR_RQ_STATE r) 3).raise Fld.PWR_EVT_WAIT), true)
  else (s, shut)

/-- A round of the arbiter (R337, R338).
(DESIGN CHOICE, log entry 103) -/
def arbiterRound (s : State) : State :=
  let s := s.modPower (fun x => { x with roundAt := s.ticks })
  let (s, _) := s.waitOrder.foldl roundStep (s, false)
  let s := s.regsFollow.showGrant
  s.setBit Fld.PWR_GRANT_OVER (decide (s.budgetRoom < s.grantedTokens))

/-- ARBITER_ROUND (R337). -/
def execArbiterRound (dt : Nat) (s : State) : Host.Outcome State Fault Refusal :=
  effect dt (fun s => onlyIf (s.powered && decide (s.power.roundAt + 250 * usT ≤ s.ticks)) arbiterRound s) s

/-- PIPELINE_RELEASE (R340): 1 s after the last lane of octet o has EN = 0. -/
def execPipelineRelease (dt o : Nat) (s : State) : Host.Outcome State Fault Refusal :=
  effect dt (fun s => onlyIf (decide (o < 32) && s.due .pipeRelease o)
    (fun s => ((s.stopTimer .pipeRelease o).release (16 + o)).forAll (List.range 4) (fun q s => s.followGroup (48 + 4 * o + q))) s) s

/-- A write of PWR.BUDGET (R335, R338). -/
def budgetWrite (w : Word) (s : State) : State :=
  let (guard, ceil) := (bitsOf w 16 16, bitsOf w 0 16)
  if s.member.budget.1 < ceil ∨ ceil ≤ guard then s.raise Fld.PWR_EVT_CFG_ERR else s.storeRw Reg.PWR_BUDGET w

/-- BUDGET_WRITE (R338). -/
def execBudgetWrite (dt : Nat) (src : Src) (w : Word) (s : State) : Host.Outcome State Fault Refusal :=
  effect dt (fun s => s.guarded src Reg.PWR_BUDGET (budgetWrite w)) s

/-- A write of ARB_CFG: WAIT_LIMIT 1 to 60,000 ms, STAGGER not 0 (R337, R341). -/
def arbCfgWrite (w : Word) (s : State) : State :=
  if bitsOf w 16 16 = 0 ∨ 60000 < bitsOf w 16 16 ∨ bitsOf w 0 8 = 0 then s.raise Fld.PWR_EVT_CFG_ERR
  else s.storeRw Reg.PWR_ARB_CFG w

/-! ## Thermal throttling (R343 to R345) -/

/-- A write of THERM (R343, R344). -/
def thermWrite (w : Word) (s : State) : State :=
  let (t, hi, lo) := (bitsOf w 24 8, bitsOf w 16 8, bitsOf w 8 8)
  if hi < 85 ∨ 105 < hi ∨ hi ≤ lo ∨ t ≤ hi ∨ 125 < t then s.raise Fld.PWR_EVT_CFG_ERR else s.storeRw Reg.PWR_THERM w

/-- A junction reading in 1/256 °C that is not STALE, of Leaf n or the Spine (8), is judged against THERM.
(DESIGN CHOICE, log entry 105) -/
def State.judgeTemp (s : State) (n : Nat) (t : Int) : State :=
  let hi : Int := 256 * s.fld Fld.PWR_THERM_THR_HI
  let lo : Int := 256 * s.fld Fld.PWR_THERM_THR_LO
  let crit : Int := 256 * s.fld Fld.PWR_THERM_TCRIT
  let note := fun (m : KMap Nat) (b : Bool) => if b then kput m n (kget m n s.ticks) else kdel m n
  s.modPower (fun x => { x with
    hotAt := note x.hotAt (decide (hi < t)), tripped := x.tripped && (n != 8 || decide (lo < t))
    coldAt := note x.coldAt (decide (t < lo)), critAt := note x.critAt (decide (crit ≤ t)) })

/-- Whether a condition noted since a tick has held long enough. -/
def State.heldFor (s : State) (m : KMap Nat) (n d : Nat) : Bool := (kfind m n).any (fun t => decide (t + d ≤ s.ticks))

/-- A Leaf's throttle level becomes v; CORE follows it (R343).
(DESIGN CHOICE, log entry 105) -/
def State.setThrottle (s : State) (n v : Nat) : State :=
  let s := (s.setFld ⟨Reg.PWR_THROTTLE, 2 * n, 2⟩ v).setFldBit Fld.PWR_EVT_THR_LEAF n true
  if s.on (Fld.LCTL_CLK_CORE_LOCK n) then s.setFld (Fld.LCTL_CLK_CORE_RATE n) v else s

/-- THROTTLE_RISE (R343): 10 ms above THR_HI, at most to level 2, 1 s after the rise before. -/
def execThrottleRise (dt n : Nat) (s : State) : Host.Outcome State Fault Refusal :=
  effect dt (fun s => onlyIf (s.leafOn n && decide (s.throttle n < 2) && s.heldFor s.power.hotAt n (10 * msT) &&
      (match kfind s.power.roseAt n with
        | some t => decide (t + secT ≤ s.ticks)
        | none => true))
    (fun s => (s.modPower (fun x => { x with roseAt := kput x.roseAt n s.ticks })).setThrottle n (s.throttle n + 1)) s) s

/-- THROTTLE_FALL (R343): 5 s below THR_LO. -/
def execThrottleFall (dt n : Nat) (s : State) : Host.Outcome State Fault Refusal :=
  effect dt (fun s => onlyIf (s.leafOn n && decide (0 < s.throttle n) && s.heldFor s.power.coldAt n (5 * secT))
    (fun s => (s.modPower (fun x => { x with coldAt := kput x.coldAt n s.ticks })).setThrottle n (s.throttle n - 1)) s) s

/-- LEAF_TCRIT (R344). -/
def execLeafTcrit (dt n : Nat) (s : State) : Host.Outcome State Fault Refusal :=
  effect dt (fun s => onlyIf (decide (n < 8) && decide (2 ≤ s.leaf n) && decide (s.leaf n ≤ 5) && s.heldFor s.power.critAt n msT)
    (fun s => (s.leafFault n).setThrottle n 2) s) s

/-- SPINE_TCRIT (R345): a KEEP request with every drain limit 1 ms. -/
def spineTcrit (s : State) : State :=
  let s := (s.raise Fld.PWR_EVT_TCRIT).modPower (fun x => { x with critAt := kdel x.critAt 8, tripped := true })
  let s := s.forAll s.allLeaves (fun n s => if s.leaf n = 5 then s.startTimer .drain n msT else s)
  s.requestState 1 (fun _ => msT)

/-- SPINE_TCRIT (R345). -/
def execSpineTcrit (dt : Nat) (s : State) : Host.Outcome State Fault Refusal :=
  effect dt (fun s => onlyIf (s.powered && s.heldFor s.power.critAt 8 msT) spineTcrit s) s

end Sys2Proof.Machine
end

