-- ==== Sys2Proof/Machine/Commit.lean ====
section
/-!
DEFINITION. Commit.lean: committing a set of parameters (R418, R421, R426, R431): the rules that join items, the committed
values, and what the firmware writes to registers and to the shadow copy (R411) for them.
-/
namespace Sys2Proof.Machine

/-! ## PTP settings (R426) -/

/-- An item of PTP instance i, and of a PTP port. -/
def State.ptpItemOf (s : State) (i item : Nat) : Nat := s.paramNat (pkey 0x20 i item)
def State.ptpPortOf (s : State) (p item : Nat) : Int := s.param (pkey 0x21 p item)

/-- The instances that name a port.
(DESIGN CHOICE, log entry 70) -/
def State.instancesOf (s : State) (p : Nat) : List Nat :=
  (List.range 4).filter (fun i => (s.ptpPortOf p 1).toNat / 2 ^ i % 2 == 1)

/-- The ports some instance names. -/
def State.ptpPorts (s : State) : List Nat :=
  ((s.params.filter (fun (e : Nat × Int) => keyClass e.1 == 0x21 && keyItem e.1 == 1 && decide (e.2 ≠ 0))).map
    (fun (e : Nat × Int) => keyInst e.1))

/-- Whether the stack runs an instance: enabled, and the first enabled one of its domain (R214). -/
def State.instRuns (s : State) (i : Nat) : Bool :=
  s.ptpItemOf i 1 == 1 && (List.range i).all (fun j => s.ptpItemOf j 1 != 1 || s.ptpItemOf j 3 != s.ptpItemOf i 3)

/-- The ports of an instance. -/
def State.portsOfInst (s : State) (i : Nat) : List Nat := s.ptpPorts.filter (fun p => (s.instancesOf p).contains i)

/-- Whether a profile admits a transport (R213). -/
def transportOk (profile t : Nat) : Bool :=
  if profile = 2 then t == 0 else if profile = 3 ∨ profile = 4 then t == 1 else decide (t ≤ 2)

/-- The profiles with peer delay. -/
def peerProfile (profile : Nat) : Bool := profile == 1 || profile == 2

/-- Whether a port is in at most one instance of each domain. -/
def State.domainsOk (s : State) (p : Nat) : Bool :=
  ((s.instancesOf p).map (fun i => s.ptpItemOf i 3)).Nodup

/-- Whether an instance is given at most one SLAVE port.
(DESIGN CHOICE, log entry 70) -/
def State.slavesOk (s : State) (i : Nat) : Bool :=
  s.ptpItemOf i 8 != 1 || decide (((s.portsOfInst i).filter (fun p => s.ptpPortOf p 6 == 2)).length ≤ 1)

/-- Whether a key's item, with the items its rules join it to, stands in its ranges. -/
def State.keyOk (s : State) (k : Nat) : Bool :=
  (match paramSpec k with
    | some p => p.inRange (s.param k)
    | none => false) &&
  (match keyClass k with
    | 0x22 => decide (s.param (pkey 0x22 0 6) + s.param (pkey 0x22 0 7) ≤ 16384)
    | 0x20 => transportOk (s.ptpProfile (keyInst k)) (s.ptpItemOf (keyInst k) 4) && s.slavesOk (keyInst k) &&
        (s.portsOfInst (keyInst k)).all (fun p => s.domainsOk p)
    | 0x21 => s.domainsOk (keyInst k) && (s.instancesOf (keyInst k)).all (fun i => s.slavesOk i)
    | _ => true)

/-- The state with a set's values committed. -/
def State.putParams (s : State) (e : KMap Int) : State :=
  { s with params := e.foldl (fun m (x : Nat × Int) => kput m x.1 x.2) s.params }

/-- The first key of a set that fails its check against the values as the set would change them (R418). -/
def State.commitFails (s : State) (e : KMap Int) : Option Nat :=
  (e.find? (fun (x : Nat × Int) => !(s.putParams e).keyOk x.1)).map (fun (x : Nat × Int) => x.1)

/-! ## What the firmware writes -/

/-- A Leaf register written by the firmware: in the Leaf while it is on, and in its shadow copy (R47, R411). -/
def State.shadowReg (s : State) (a : Nat) (w : Word) : State :=
  if 0x1000000 ≤ a ∧ a < 0x3000000 then
    let n := (a - 0x1000000) / 0x400000
    { s with shadows := kmod s.shadows n {} (fun (x : Shadow) => { x with regs := kput x.regs a w }) }
  else s
def State.fwReg (s : State) (a : Nat) (w : Word) : State :=
  let s := s.shadowReg a w
  if s.domainAt a || decide (a < 0x1000000) then s.set a w else s
def State.fwFld (s : State) (f : FRef) (v : Nat) : State :=
  let old := if s.domainAt f.addr || decide (f.addr < 0x1000000) then s.get f.addr
    else kget (kget s.shadows ((f.addr - 0x1000000) / 0x400000) {}).regs f.addr (resetWord s.member f.addr)
  s.fwReg f.addr (withBits old f.lo f.len v)

/-- The Leaves that hold a port's FWD.PORT instance, with its number there. -/
def State.fwdPorts (s : State) (p : Nat) : List (Nat × Nat) :=
  if p < 256 then [(p / 32, fwdIdx p)] else s.allLeaves.map (fun n => (n, fwdIdx p))

/-- The capabilities of R227 the firmware sets: LINK_PHASE, L1_SYNTONISED and TIMED_ACTION of every port, HW_DELAY_RESP where
the responder answers on it, CLAIM_GATED while claims govern acceptance. -/
def State.capBits (s : State) (resp : Bool) : Nat := 19 + (if resp then 4 else 0) + (if s.clmOn then 8 else 0)

/-- A port's PTP_TRAP, RESP_PORT and capability settings follow the instances that name it (R137, R218, R227, R426).
(DEDUCED, log entry 65) -/
def State.ptpDerive (s : State) (p : Nat) : State :=
  let l := (s.instancesOf p).filter (fun i => s.instRuns i)
  let e2e := l.filter (fun i => !peerProfile (s.ptpProfile i))
  let has := fun (t : Nat) => if e2e.any (fun i => s.ptpItemOf i 4 == t) then 1 else 0
  let doms := (List.range 4).foldl (fun a i => a + 2 ^ (8 * i) * (if e2e.contains i then s.ptpItemOf i 3 else 0)) 0
  let en := e2e.foldl (fun a i => a + 2 ^ i) 0
  let s := (s.fwdPorts p).foldl (fun s e => s.fwFld (Fld.FWD_PORT_CFG_PTP_TRAP e.1 e.2) (if l = [] then 0 else 1)) s
  let s := (s.fwFld (Fld.RESP_PORT_CFG_L2 p) (has 0)).fwFld (Fld.RESP_PORT_CFG_UDP4 p) (has 1)
  let s := (s.fwFld (Fld.RESP_PORT_CFG_UDP6 p) (has 2)).fwFld (Fld.RESP_PORT_CFG_DOM_EN p) en
  let s := s.fwReg (Reg.RESP_PORT_DOMAIN p) (BitVec.ofNat 32 doms)
  let s := s.fwFld ⟨Reg.TCX_CAP p, 0, 5⟩ (s.capBits (en != 0))
  if s.dieOn p then tcxCommit p s else s

/-- The ports whose settings a key governs.
(DEDUCED, log entry 65) -/
def State.ptpTouched (s : State) (k : Nat) : List Nat :=
  if keyClass k = 0x21 then [keyInst k] else if keyClass k = 0x20 then s.portsOfInst (keyInst k) else []

/-- The word of EGR.PROFILE[i] its parameters give (R200, R431). -/
def State.profileWord (s : State) (i : Nat) : Word :=
  BitVec.ofNat 32 (2 ^ 31 * s.paramNat (pkey 0x28 i 1) + 2 ^ 30 * s.paramNat (pkey 0x28 i 3) + s.paramNat (pkey 0x28 i 2))

/-- What a committed key writes to registers. -/
def State.keyEffect (s : State) (k : Nat) : State :=
  let i := keyInst k
  match keyClass k, keyItem k with
  | 0x07, 0x30 =>
    let base := s.paramNat k
    s.setFld (Fld.DPLL_CAND_MASK i) (if s.clmOn then s.gatedMask base else base)
  | 0x24, 1 => let s := s.fwReg (Reg.TCX_TXFIX i) (BitVec.ofInt 32 (s.param k)); if s.dieOn i then tcxCommit i s else s
  | 0x24, 2 => let s := s.fwReg (Reg.TCX_RXFIX i) (BitVec.ofInt 32 (s.param k)); if s.dieOn i then tcxCommit i s else s
  | 0x28, _ => s.forAll s.allLeaves (fun n s => s.fwReg (Reg.EGR_PROFILE n i) (s.profileWord i))
  | 0x20, _ | 0x21, _ => s.forAll (s.ptpTouched k) (fun p s => s.ptpDerive p)
  | _, _ => s

/-- The key of what an instance holds for a port. -/
def ptpKey (i p : Nat) : Nat := i * 512 + p

/-- The state an instance gives a port by external configuration, as a portState code (R426). -/
def extState (e : Int) : Nat := if e = 1 then 6 else if e = 2 then 9 else if e = 3 then 7 else 3

/-- What instance i holds for port p. -/
def State.ptp (s : State) (i p : Nat) : PtpPort := kget s.ptps (ptpKey i p) {}

/-- The portState code of a port: by external configuration, or as the BMCA left it. -/
def State.ptpState (s : State) (i p : Nat) : Nat :=
  if s.ptpItemOf i 8 = 1 then extState (s.ptpPortOf p 6) else (s.ptp i p).state

/-- A packet-time slot takes up an instance's SLAVE port: its servo interval is 2^LOG_SYNC until a Sync comes (R214). -/
def logTicks (l : Int) : Nat := if 0 ≤ l then secT * 2 ^ l.toNat else secT / 2 ^ (-l).toNat
def State.ptpBind (s : State) (i p : Nat) : State :=
  let slot := s.ptpItemOf i 7
  if slot = 0 then s
  else
    let s := { s with
      slotBound := kput s.slotBound slot p
      slotEvery := kput s.slotEvery slot ((s.ptp i p).every.getD (logTicks (s.ptpPortOf p 2))) }
    s.showBws

/-- The stack holds a record for each running instance of each port and no other; a new port listens (R214, R426). -/
def State.ptpFollow (s : State) : State :=
  let want := (List.range 4).flatMap (fun i => if s.instRuns i then (s.portsOfInst i).map (fun p => (i, p)) else [])
  let s := { s with ptps := want.foldl (fun (m : KMap PtpPort) (e : Nat × Nat) =>
    kput m (ptpKey e.1 e.2) (kget s.ptps (ptpKey e.1 e.2) { heardAt := s.ticks })) [] }
  want.foldl (fun s (e : Nat × Nat) =>
    if s.ptpState e.1 e.2 = 9 then s.ptpBind e.1 e.2 else s) s

/-- A set that passed its check is committed in one step, with its register effects in key order (R418). -/
def State.commitSet (s : State) (e : KMap Int) : State :=
  (e.foldl (fun s (x : Nat × Int) => s.keyEffect x.1) (s.putParams e)).ptpFollow

end Sys2Proof.Machine
end

