-- ==== Sys2Proof/Machine/Boot.lean ====
section
/-!
DEFINITION. Boot.lean: reset and straps, image validation, starting and updating the firmware, HELD, the world map and the
debug unlock (R351 to R375), supply faults and the AON clock (R478, R485).
-/
namespace Sys2Proof.Machine

/-! ## Images in flash and in the staging memory (R354, R357) -/

/-- The offset of a commit record, and the bytes of a slot. -/
def commitAt : Nat := 0xFFF000
def slotBytes : Nat := 0x1000000

/-- The byte at an offset of an image slot: 0 and 1 are flash A and B, 2 the staging memory. -/
def State.imgByte (s : State) (slot i : Nat) : Byte :=
  if slot < 2 then kget s.flash (slot * slotBytes + i) 0xFF#8
  else BitVec.ofNat 8 ((kget s.staging (i / 4) 0#32).toNat / 256 ^ (i % 4))

/-- n bytes of a slot. -/
def State.imgBytes (s : State) (slot off n : Nat) : List Byte := (List.range n).map (fun i => s.imgByte slot (off + i))

/-- Flash with bytes written; an erased byte is not listed. -/
def flashPut (m : KMap Byte) (a : Nat) : List Byte → KMap Byte
  | [] => m
  | b :: l => flashPut (if b = 0xFF#8 then kdel m a else kput m a b) (a + 1) l

/-- Flash with n bytes from an address erased. -/
def flashErase (m : KMap Byte) (a n : Nat) : KMap Byte := m.filter (fun e => decide (e.1 < a) || decide (a + n ≤ e.1))

/-- A slot's commit record (R361). -/
def State.commitRec (s : State) (slot : Nat) : List Byte := s.imgBytes slot commitAt 32
def commitOk (r : List Byte) : Bool :=
  r.take 4 == [0x43#8, 0x4D#8, 0x49#8, 0x54#8] && leAt r 28 4 == crc32 (r.take 28)
def State.candidate (s : State) (slot : Nat) : Bool := commitOk (s.commitRec slot)
def State.genOf (s : State) (slot : Nat) : Nat := leAt (s.commitRec slot) 4 4

/-- Whether generation x is newer than y (R355). -/
def genNewer (x y : Nat) : Bool :=
  let d := (x + 2 ^ 32 - y) % 2 ^ 32
  decide (1 ≤ d) && decide (d < 2 ^ 31)

/-- A section of the header: type, offset, length (R359). -/
abbrev Section := Nat × Nat × Nat

/-- The sections a header lists. -/
def sectionsOf (h : List Byte) : List Section :=
  (List.range (byteAt h 19)).map (fun i => (leAt h (64 + 16 * i) 2, leAt h (68 + 16 * i) 4, leAt h (72 + 16 * i) 4))

/-- Whether no two of some spans (base, length) overlap. -/
def disjointSpans : List (Nat × Nat) → Bool
  | [] => true
  | (b, n) :: l => l.all (fun e => decide (b + n ≤ e.1) || decide (e.1 + e.2 ≤ b)) && disjointSpans l

/-- FORMAT, HDR_LEN, N_SECT, the sections' bounds and IMAGE_LEN (R356 check 4, R359).
(DESIGN CHOICE, log entry 110) -/
def headerOk (h r : List Byte) : Bool :=
  let len := leAt h 20 4
  let secs := sectionsOf h
  leAt h 4 2 == 1 && leAt h 6 2 == 320 && decide (1 ≤ byteAt h 19) && decide (byteAt h 19 ≤ 16) && leAt r 8 4 == len &&
    decide (len ≤ commitAt) &&
    secs.all (fun (e : Section) => e.2.1 % 64 == 0 && decide (320 ≤ e.2.1) && decide (e.2.1 + e.2.2 + 192 ≤ len)) &&
    disjointSpans (secs.map (fun (e : Section) => e.2))

/-- Whether MEMBERS includes this member, and the stepping is this one (R356 check 5). -/
def State.memberOk (s : State) (h : List Byte) : Bool :=
  let bit := match s.member with
    | .d2 => 0
    | .d4 => 1
    | .d8 => 2
  byteAt h 16 / 2 ^ bit % 2 == 1 && byteAt h 17 == 0xB0

/-- Whether SHA-384 of a public key equals an owner key hash that is set and not revoked (R360, R369). -/
def State.ownerKey (s : State) (key : List Byte) : Bool :=
  (List.range 4).any (fun i => s.fldBit Fld.SEC_FUSE_KEY_SET i && !s.fldBit Fld.SEC_FUSE_KEY_REVOKED i &&
    s.fuses.keys[i]? == some (Config.sha384 key))

/-- The ranges regions may lie in (R470). -/
def regionRanges : List (Nat × Nat) := [(0x10000000, 0x1000000), (0x20000000, 0x4000000), (0x1000000000, 0x1000000000)]

/-- The regions of a world map (R365): base, size, secure. -/
def regionsOf (w : List Byte) : List (Nat × Nat × Bool) :=
  (List.range (leAt w 20 4)).map (fun i => (leAt w (32 + 16 * i) 8, leAt w (40 + 16 * i) 4, leAt w (44 + 16 * i) 4 % 2 == 1))

/-- Whether a world map keeps the rules of R365, R366 and R470. -/
def worldOk (w : List Byte) : Bool :=
  let rs := regionsOf w
  decide (32 ≤ w.length) && leAt w 0 4 == 1 && decide (leAt w 4 4 < 2 ^ 10) && decide (leAt w 8 4 < 2 ^ 8) &&
    decide (leAt w 20 4 ≤ 32) && decide (32 + 16 * leAt w 20 4 ≤ w.length) &&
    rs.all (fun (r : Nat × Nat × Bool) => r.1 % 65536 == 0 && r.2.1 != 0 && r.2.1 % 65536 == 0 &&
      regionRanges.any (fun g => decide (g.1 ≤ r.1) && decide (r.1 + r.2.1 ≤ g.1 + g.2))) &&
    disjointSpans (rs.map (fun (r : Nat × Nat × Bool) => (r.1, r.2.1)))

/-- The bytes of an image's section of a type. -/
def State.sectionBytes (s : State) (slot type : Nat) : List Byte :=
  match (sectionsOf (s.imgBytes slot 0 320)).find? (fun (e : Section) => e.1 == type) with
  | some (_, off, len) => s.imgBytes slot off len
  | none => []

/-- The sections present and well formed (R356 check 10).
(DESIGN CHOICE, log entry 110) -/
def State.sectionsOk (s : State) (slot : Nat) (h : List Byte) : Bool :=
  let types := (sectionsOf h).map (fun (e : Section) => e.1)
  decide types.Nodup && types.all (fun t => decide (1 ≤ t) && decide (t ≤ 5)) && [1, 2, 3, 4].all (fun t => types.contains t) &&
    types.all (fun t => if t = 3 then worldOk (s.sectionBytes slot 3) else Config.sectionOk t (s.sectionBytes slot t))

/-- REASON codes (R356). -/
def reasonStart : Nat := 0xB
def reasonStraps : Nat := 0xC

/-- The checks of R356 on a slot that could be read or not, in order: 0, or the reason of the first that fails. -/
def State.validateSlot (s : State) (slot : Nat) (readable : Bool) : Nat :=
  let r := s.commitRec slot
  let h := s.imgBytes slot 0 320
  let len := leAt h 20 4
  if !readable then 0xA
  else if !commitOk r then 4
  else if !(h.take 4 == [0x53#8, 0x5A#8, 0x43#8, 0x4B#8]) then 1
  else if !headerOk h r then 2
  else if !s.memberOk h then 3
  else
    let img := s.imgBytes slot 0 len
    let key := (img.drop (len - 192)).take 96
    if leAt r 12 4 ≠ crc32 img then 5
    else if s.on Fld.SEC_FUSE_SB_EN && !s.ownerKey key then 6
    else if !Config.ecdsaOk key (img.take (len - 96)) (img.drop (len - 96)) then 7
    else if leAt h 12 4 < s.fld Fld.SEC_FUSE_SVN_MIN then 8
    else if !s.sectionsOk slot h then 9 else 0

/-- A slot's reason is recorded: slot B in REASON_B, slot A and the host image in REASON_A (R356, R357). -/
def State.setReason (s : State) (slot r : Nat) : State :=
  s.setFld (if slot = 1 then Fld.SYS_BOOT_STATUS_REASON_B else Fld.SYS_BOOT_STATUS_REASON_A) r

/-! ## HELD (R363, R364) -/

/-- The device enters HELD: every Leaf goes OFF, the switchable domains of the Spine go off, and SP_HOST is asked for (R32,
R364). What was running returns with the next entry to READY, as after KEEP.
(DESIGN CHOICE, log entry 160) -/
def State.enterHeld (s : State) : State :=
  let s := s.setBootState bootHeld
  let s := { s with restarts := [] }.modCal (fun c => { c with boot := [] })
  let s := s.forAll s.allLeaves (fun n s =>
    if 2 ≤ s.leaf n then s.leafOff n else if s.rq (8 + n) = 0 then s else s.release (8 + n))
  let s := (s.setFld Fld.PWR_STATE_BUSY 0).modPower (fun x => { x with held := none })
  let s := ((s.stopSpine true).modGnss (fun g => { g with awake := none })).letGo 3
  let s := s.forAll [0, 1, 2] (fun a s => s.letGo a)
  (s.setPstate 0).request 4

/-! ## Reset (R351 to R353) -/

/-- What the device does with its boot source (R353). -/
def State.bootSource (s : State) (sel : Nat) : State :=
  let s := s.setFld Fld.SYS_BOOT_STATUS_BOOTSEL sel
  match sel with
  | 0 => s.setBootState bootLoading
  | 1 => (s.setBootState bootWaitHost).request 4
  | 2 => s.setBootState bootWaitHost
  | _ => (s.setReason 0 reasonStraps).enterHeld

/-- The registers the fuses show. -/
def State.showFuses (s : State) : State :=
  let f := s.fuses
  let s := (s.setBit Fld.SYS_ID0_GRADE f.gradeE).setWide Reg.SYS_ID1 2 f.deviceId
  let s := (s.set Reg.SEC_FUSE f.sec).setFld Fld.SEC_DBG_STAT_OPEN (7 - bitsOf f.sec 0 3)
  if f.serial % 4096 = 0 then s else s.setFld Fld.CLM_ID_SERIAL f.serial

/-- The rising edge of PORn or WARMn on a part whose registers are reset: straps, fuses, the boot ROM.
(DESIGN CHOICE, log entry 108) -/
def State.bootBegin (s : State) (sel : Nat) : State :=
  let s := { s with powered := true, tsuLossAt := s.ticks }
  let s := s.showFuses.newNonce
  let s := s.forAll s.allLeaves (fun n s => s.setFld (leafField n) 1)
  s.bootSource (sel % 8)

/-- The member a fuse code names (R1). -/
def memberOf (code : Nat) : Member := if code = 2 then .d2 else if code = 4 then .d4 else .d8

/-- PORn rises with the supplies valid (R351).
(DESIGN CHOICE, log entry 4) -/
def porRelease (sel : Nat) (f : Fuses) (s : State) : State :=
  let s := { s with fuses := f, member := memberOf f.member, gradeE := f.gradeE }
  (s.bootBegin sel).startTimer .aonSelect 0 (500 * msT)

/-- POR_RELEASE (R351). -/
def execPorRelease (dt bootsel : Nat) (fuses : Fuses) (s : State) : Host.Outcome State Fault Refusal :=
  effect dt (fun s => onlyIf (!s.powered) (porRelease bootsel fuses) s) s

/-- The part with PORn low: everything is lost but the flash and the fuses; commands go on waiting. -/
def State.porLow (s : State) : State :=
  { pending := s.pending, out := s.out, member := s.member, gradeE := s.gradeE, ticks := s.ticks, fresh := s.fresh
    tsuLossAt := s.ticks, flash := s.flash, fuses := s.fuses }

/-- PORN_ASSERT (R351): a low level of at least 1 µs. -/
def execPornAssert (dt : Nat) (s : State) : Host.Outcome State Fault Refusal :=
  effect dt (fun s => onlyIf s.powered State.porLow s) s

/-- SUPPLY_FAULT (R485). -/
def execSupplyFault (dt : Nat) (s : State) : Host.Outcome State Fault Refusal :=
  effect dt (fun s => onlyIf s.powered State.porLow s) s

/-- AON_CLOCK_SELECT (R30, R478): 500 ms after PORn, the crystal if it oscillates, XO ÷ D otherwise. -/
def execAonClockSelect (dt : Nat) (crystal : Bool) (s : State) : Host.Outcome State Fault Refusal :=
  effect dt (fun s => onlyIf (s.powered && s.due .aonSelect 0)
    (fun s => (s.stopTimer .aonSelect 0).modBoot (fun b => { b with aonXtal := some crystal })) s) s

/-- Whether a register belongs to the AON island's power manager, which a warm reset leaves alone (R32, R352).
(DESIGN CHOICE, log entry 107) -/
def aonReg (a : Nat) : Bool := decide (0x30000 ≤ a) && decide (a < 0x40000)

/-- The reset that WARMn makes (R352), with its bit of RESET_CAUSE.
(DESIGN CHOICE, log entry 107) -/
def warmReset (cause : FRef) (sel : Nat) (s : State) : State :=
  let (fails, lock) := (s.fld Fld.SEC_DBG_STAT_FAILS, s.fld Fld.SEC_DBG_STAT_LOCKOUT)
  let t : State := { s.porLow with
    regs := s.regs.filter (fun e => aonReg e.1)
    power := { roundAt := s.power.roundAt, woke := s.power.woke, pollAt := s.power.pollAt, tripped := s.power.tripped }
    timers := s.timers.filter (fun e => e.1.kind == .aonSelect), boot := { aonXtal := s.boot.aonXtal } }
  let t := t.forAll (List.range 176) (fun r t => t.set (Reg.PWR_RQ r) (resetWord t.member (Reg.PWR_RQ r)))
  let t := t.forAll allRegs (fun i t => (t.setFld (Fld.PWR_REG_STAT_ON i) 0).setFld (Fld.PWR_REG_STAT_PG i) 0)
  let t := (((t.set Reg.PWR_STATE 0#32).setFld Fld.PWR_GRANT_OVER 0).showGrant).set Reg.SYS_RESET_CAUSE 0#32
  let t := ((t.raise cause).setFld Fld.SEC_DBG_STAT_FAILS fails).setFld Fld.SEC_DBG_STAT_LOCKOUT lock
  t.bootBegin sel

/-- WARM_RESET_PIN (R352): a low level of at least 1 µs ends. -/
def execWarmResetPin (dt bootsel : Nat) (s : State) : Host.Outcome State Fault Refusal :=
  effect dt (fun s => onlyIf s.powered (warmReset Fld.SYS_RESET_CAUSE_WARM_PIN bootsel) s) s

/-! ## Validating and starting (R354 to R362) -/

/-- The flash slots not yet judged, in the order of R355. -/
def State.toJudge (s : State) : List Nat :=
  let order := if s.candidate 0 && s.candidate 1 && genNewer (s.genOf 1) (s.genOf 0) then [1, 0] else [0, 1]
  order.filter (fun i => s.candidate i && !s.boot.tried.contains i)

/-- An image passed: it is to be started. SP_HOST stays on while BOOTSEL is 0b001 (R32). -/
def State.imagePassed (s : State) (slot : Nat) : State :=
  let s := if s.fld Fld.SYS_BOOT_STATUS_BOOTSEL = 1 then s else s.letGo 4
  ((s.setReason slot 0).modBoot (fun b => { b with image := some slot, started := false })).setBootState bootStarting

/-- A flash slot is judged; with no candidate left the device is held (R355).
(DESIGN CHOICE, log entry 108) -/
def State.flashNext (s : State) : State :=
  if s.toJudge = [] then s.forAll [0, 1] (fun i s =>
      if s.boot.tried.contains i then s else s.setReason i (s.validateSlot i true)) |>.enterHeld
  else s.setBootState bootLoading
def slotJudged (slot : Nat) (readable : Bool) (s : State) : State :=
  let r := s.validateSlot slot readable
  let other := 1 - slot
  let s := s.modBoot (fun b => { b with tried := slot :: b.tried })
  if r ≠ 0 then (s.setReason slot r).flashNext
  else
    let s := if s.boot.tried.contains other || s.candidate other then s else s.setReason other 4
    s.imagePassed slot

/-- The staged image is judged (R357).
(DEDUCED, log entry 109) -/
def stagedJudged (s : State) : State :=
  let r := s.validateSlot 2 true
  let s := (s.setFld Fld.IMG_STAT_BUSY 0).raise Fld.IMG_STAT_DONE
  if r = 0 then s.imagePassed 2
  else
    let s := s.setReason 2 r
    if s.bootState = bootHeld then s else s.enterHeld

/-- SLOT_VALIDATION (R355 to R357): of the next candidate, of a slot that is none or cannot be read, or of the staged image. -/
def execSlotValidation (dt slot : Nat) (readable : Bool) (s : State) : Host.Outcome State Fault Refusal :=
  effect dt (fun s =>
    if slot = 2 then onlyIf (s.powered && s.on Fld.IMG_STAT_BUSY) stagedJudged s
    else onlyIf (s.powered && decide (slot < 2) && s.bootState == bootLoading && !s.boot.tried.contains slot &&
      (!readable || !s.candidate slot || s.toJudge.head? == some slot)) (slotJudged slot readable) s) s

/-- Whether IMG accepts writes (R358). -/
def State.imgOpen (s : State) : Bool := s.bootState == bootWaitHost || s.bootState == bootHeld

/-- A write to the IMG block (R357, R358).
(DEDUCED, log entry 109) -/
def imgWrite (src : Src) (a : Nat) (w : Word) (s : State) : State :=
  let go := a == Reg.IMG_CTRL && bitsOf w 31 1 == 1
  if go && s.on Fld.IMG_STAT_BUSY then s.raise Fld.IMG_STAT_OVERRUN
  else if !s.imgOpen then s.raise Fld.IMG_STAT_REFUSED
  else if a = Reg.IMG_CTRL then
    let s := s.storeRw a w
    if !go then s
    else
      let s := (s.raise Fld.IMG_STAT_BUSY).modBoot (fun b => { b with hostSrc := if src = .pf1 then 3 else 4 })
      if s.bootState = bootWaitHost then s.setBootState bootValidating else s
  else if a = Reg.IMG_STAT then s.set a (s.get a &&& ~~~(w &&& 0xE0#32))
  else
    let i := s.fld Fld.IMG_CTRL_PAGE * 2 ^ 18 + (a - Reg.IMG_WIN 0) / 4
    { s with staging := if w = 0#32 then kdel s.staging i else kput s.staging i w }

/-- What IMG reads (R358). -/
def State.imgRead (s : State) (a : Nat) : Word :=
  if !s.imgOpen then 0#32
  else if a < Reg.IMG_WIN 0 then s.get a
  else kget s.staging (s.fld Fld.IMG_CTRL_PAGE * 2 ^ 18 + (a - Reg.IMG_WIN 0) / 4) 0#32

/-- IMG_GO (R357): a write of CTRL with GO = 1 and PAGE. -/
def execImgGo (dt : Nat) (src : Src) (page : Nat) (s : State) : Host.Outcome State Fault Refusal :=
  effect dt (fun s => s.guarded src Reg.IMG_CTRL (imgWrite src Reg.IMG_CTRL (BitVec.ofNat 32 (2 ^ 31 + page % 16)))) s

/-- The world map of an image is locked, unless one is (R361 step 1, R365, R367).
(DEDUCED, log entry 111) -/
def State.lockWorld (s : State) (slot : Nat) : State :=
  if s.on Fld.SEC_WORLD_LOCKED then s
  else
    let w := s.sectionBytes slot 3
    let s := (s.setFld Fld.SEC_WORLD_SPINE_SECURE (leAt w 4 4)).setFld Fld.SEC_WORLD_LEAF_SECURE (leAt w 8 4)
    let s := (s.setFld Fld.SEC_WORLD_SPI_SECURE (leAt w 12 4)).raise Fld.SEC_WORLD_LOCKED
    s.modBoot (fun b => { b with regions := regionsOf w, fwdSecure := leAt w 16 4 % 512 })

/-- The POWER section of an image is applied (R361 step 2). -/
def State.applyPower (s : State) (slot : Nat) : State :=
  let p := Config.powerSection (s.sectionBytes slot 4)
  let s := s.modBoot (fun b => { b with xoHz := p.xoHz })
  let s := budgetWrite (BitVec.ofNat 32 (p.guard % 65536 * 65536 + p.ceiling % 65536)) s
  let regs := (List.range 16).zip p.regs
  let s := regs.foldl (fun s (e : Nat × Word × Word × Word) =>
    regWrite e.1 2 e.2.2.2 (regWrite e.1 1 e.2.2.1 (regWrite e.1 0 e.2.1 s))) s
  let s := s.storeRw Reg.PWR_PMB_CFG p.pmb
  (s.setWide Reg.PWR_WAKE_AT0 3 p.wakeAt).storeRw Reg.PWR_WAKE p.wake

/-- A validated image is applied: world map, POWER, and the firmware starts (R361, R362). -/
def imageStart (s : State) : State :=
  let slot := s.boot.image.getD 0
  let s := ((s.lockWorld slot).applyPower slot).modBoot (fun b => { b with started := true })
  s.startTimer .fwStart 0 (10 * secT)

/-- IMAGE_START (R361). -/
def execImageStart (dt : Nat) (s : State) : Host.Outcome State Fault Refusal :=
  effect dt (fun s => onlyIf (s.powered && s.bootState == bootStarting && !s.boot.started) imageStart s) s

/-- SYS shows the image that runs. -/
def State.showImage (s : State) (slot : Nat) : State :=
  let s := s.setFld Fld.SYS_BOOT_STATUS_SOURCE (if slot < 2 then slot + 1 else s.boot.hostSrc)
  (s.set Reg.SYS_BOOT_GEN (BitVec.ofNat 32 (s.genOf slot))).set Reg.SYS_FW_VER (BitVec.ofNat 32 (leAt (s.imgBytes slot 0 320) 8 4))

/-- The firmware runs for the first time since reset: CONFIG is committed, the band calibrations of the APLLs are asked for with
their domains, the initial state is entered (R273, R361, R433). -/
def bootRuns (s : State) : State :=
  let slot := s.boot.image.getD 0
  let conf := (Config.configSection (s.sectionBytes slot 5)).foldl (fun m (e : Nat × Int) => kput m e.1 e.2) []
  let s := if (s.commitFails conf).isSome then s else s.commitSet conf
  let s := (s.modCal (fun c => { c with boot := [0, 1, 2] })).forAll [0, 1, 2] (fun a s => (s.request a).bootBands a)
  let s := if (Config.powerSection (s.sectionBytes slot 4)).ready then s.beginReady else (s.letGo 4).setPstate 1
  let s := { s with gnss := { s.gnss with surveyAt := s.ticks } }.gnssParams
  (s.showImage slot).setBootState bootRunning

/-- The firmware reports running (R361, R373). -/
def firmwareRunning (s : State) : State :=
  let s := { s.stopTimer .fwStart 0 with gateDue := true }
  if s.bootState = bootUpdating then
    ((s.showImage (s.boot.image.getD 0)).modBoot (fun b => { b with update := none, resumedAt := some s.ticks })).setPaused false |>.setBootState bootRunning
  else bootRuns s

/-- FIRMWARE_RUNNING (R361, R373). -/
def execFirmwareRunning (dt : Nat) (s : State) : Host.Outcome State Fault Refusal :=
  effect dt (fun s => onlyIf (s.powered && ((s.bootState == bootStarting && s.boot.started) || s.bootState == bootUpdating))
    firmwareRunning s) s

/-- An image fails to start at boot: the other candidate is judged, or the device is held (R362).
(DEDUCED, log entry 111) -/
def startTimeout (s : State) : State :=
  let slot := s.boot.image.getD 0
  let s := ((s.stopTimer .fwStart 0).setReason slot reasonStart).modBoot (fun b => { b with image := none, started := false })
  if slot < 2 then s.flashNext else s.enterHeld

/-- FIRMWARE_START_TIMEOUT (R362). -/
def execFirmwareStartTimeout (dt : Nat) (s : State) : Host.Outcome State Fault Refusal :=
  effect dt (fun s => onlyIf (s.powered && s.bootState == bootStarting && s.due .fwStart 0) startTimeout s) s

/-! ## In-service update (R372 to R374) -/

/-- New firmware has not reported: its commit record is erased and the cores restart on the previous slot; if that one fails
too, the device is held (R374). -/
def updateTimeout (s : State) : State :=
  let slot := s.boot.image.getD 0
  let s := (s.stopTimer .fwStart 0).setReason slot reasonStart
  match s.boot.update with
  | some (new, prev) =>
    let s := { s with flash := if new < 2 then flashErase s.flash (new * slotBytes + commitAt) 4096 else s.flash }
    let s := s.modBoot (fun b => { b with update := none, image := some prev })
    let r := s.validateSlot prev true
    if r = 0 then s.startTimer .fwStart 0 (10 * secT) else (s.setReason prev r).enterHeld
  | none => s.enterHeld

/-- UPDATE_TIMEOUT (R374). -/
def execUpdateTimeout (dt : Nat) (s : State) : Host.Outcome State Fault Refusal :=
  effect dt (fun s => onlyIf (s.powered && s.bootState == bootUpdating && s.due .fwStart 0) updateTimeout s) s

/-! ## Debug unlock (R368 to R371) -/

/-- DEVICE_ID, in 8 bytes little-endian. -/
def State.deviceIdBytes (s : State) : List Byte := leBytes (s.getWide Reg.SYS_ID1 2) 8

/-- Whether a response passes: the challenge signed by an owner key (R369), or the password (R370). -/
def State.debugPasses (s : State) (password : Bool) (scope : Nat) (resp : List Byte) : Bool :=
  if 3 ≤ scope ∨ s.on Fld.SEC_DBG_STAT_LOCKOUT then false
  else if password then
    s.on Fld.SEC_FUSE_PW_SET && s.fldBit Fld.SEC_FUSE_PW_SCOPES scope &&
      Config.sha384 (resp.take 16 ++ s.deviceIdBytes) == s.fuses.pw
  else
    let key := resp.take 96
    let nonce := (List.range 8).flatMap (fun i => wordBytes (s.get (Reg.SEC_DBG_NONCE i)))
    Config.ecdsaOk key (nonce ++ s.deviceIdBytes ++ leBytes scope 4) ((resp.drop 96).take 96) && s.ownerKey key

/-- An attempt begins, on the response, nonce and scope it finds; it completes within 20 ms (R369 to R371).
(DEDUCED, log entry 114) -/
def debugAttempt (password : Bool) (scope took : Nat) (resp : List Byte) (s : State) : State :=
  (s.modBoot (fun b => { b with attempt := some (s.debugPasses password scope resp, scope) })).startTimer .dbgBusy 0
    (max 1 (min took (20 * msT)))

/-- The bytes of DBG_RESP. -/
def State.respBytes (s : State) : List Byte := (List.range 48).flatMap (fun i => wordBytes (s.get (Reg.SEC_DBG_RESP i)))

/-- A write of DBG_CTRL; a GO while BUSY is discarded (R371).
(DEDUCED, log entry 114) -/
def dbgCtrlWrite (w : Word) (took : Nat) (s : State) : State :=
  if bitsOf w 31 1 = 0 then s.storeRw Reg.SEC_DBG_CTRL w
  else if s.waiting .dbgBusy 0 then s
  else
    let s := s.storeRw Reg.SEC_DBG_CTRL w
    debugAttempt (bitsOf w 8 1 == 1) (bitsOf w 0 2) took s.respBytes s

/-- CHALLENGE_RESPONSE_ATTEMPT (R369). -/
def execChallengeResponseAttempt (dt : Nat) (src : Src) (scope took : Nat) (s : State) : Host.Outcome State Fault Refusal :=
  effect dt (fun s => s.guarded src Reg.SEC_DBG_CTRL (dbgCtrlWrite (BitVec.ofNat 32 (2 ^ 31 + scope % 4)) took)) s

/-- PASSWORD_ATTEMPT (R370). -/
def execPasswordAttempt (dt : Nat) (src : Src) (scope took : Nat) (s : State) : Host.Outcome State Fault Refusal :=
  effect dt (fun s => s.guarded src Reg.SEC_DBG_CTRL (dbgCtrlWrite (BitVec.ofNat 32 (2 ^ 31 + 2 ^ 8 + scope % 4)) took)) s

/-- JTAG_DEBUG_UNLOCK (R371): the TAP's request runs on the same engine, or sees BUSY. -/
def execJtagDebugUnlock (dt : Nat) (password : Bool) (scope : Nat) (resp : List Byte) (took : Nat) (s : State) :
    Host.Outcome State Fault Refusal :=
  effect dt (fun s => onlyIf (s.powered && !s.waiting .dbgBusy 0) (debugAttempt password scope took resp) s) s

/-- A read of DBG_STAT clears source 2 (R460). -/
def dbgStatRead (src : Src) (s : State) : State :=
  let w := (s.setBit Fld.SEC_DBG_STAT_BUSY (s.waiting .dbgBusy 0)).get Reg.SEC_DBG_STAT
  (s.setFldBit (Fld.EVT_RAW_RAW 0) 2 false).emit (.readData src [w])

/-- DBG_STAT_READ (R460). -/
def execDbgStatRead (dt : Nat) (src : Src) (s : State) : Host.Outcome State Fault Refusal :=
  effect dt (fun s => s.guarded src Reg.SEC_DBG_STAT (dbgStatRead src)) s

end Sys2Proof.Machine
end

