-- ==== Sys2Proof/Machine/Cal.lean ====
section
/-!
DEFINITION. Cal.lean: the calibration engine and the monitors (R432 to R444).
-/
namespace Sys2Proof.Machine

/-! ## Requests (R437) -/

/-- Whether R433 knows an instance of an item. -/
def State.calKnown (s : State) (item inst : Nat) : Bool :=
  match item with
  | 1 | 4 => s.namesPort inst
  | 2 => s.laneExists inst
  | 3 => decide (inst < 3)
  | 5 => decide (inst < 12)
  | 6 => decide (inst ≤ s.leaves)
  | 7 => inst == 0
  | _ => false

/-- Why a request is refused; 0 when it is not. -/
def State.calRefusal (s : State) (item inst : Nat) : Nat :=
  if !s.calKnown item inst then calInvalid
  else if calHas s.cal.queue item inst || calHas s.cal.runs item inst then calAlready
  else if 32 ≤ s.cal.queue.length then calQueueFull else 0

/-- A write of CAL.REQ[w] (R437). -/
def calReqWrite (w : Nat) (v : Word) (s : State) : State :=
  if bitsOf v 31 1 = 1 ∧ s.on (Fld.CAL_REQ_STAT_BUSY w) then s.raise Fld.CAL_EVT_CFG_ERR
  else
    let s := s.storeRw (Reg.CAL_REQ w) v
    if bitsOf v 31 1 = 0 then s
    else
      let (item, inst) := (bitsOf v 24 4, bitsOf v 0 9)
      let r := s.calRefusal item inst
      if r = 0 then
        ((s.raise (Fld.CAL_REQ_STAT_BUSY w)).setFld (Fld.CAL_REQ_STAT_DONE w) 0).calQueue item inst w
      else (s.raise (Fld.CAL_REQ_STAT_DONE w)).setFld (Fld.CAL_REQ_STAT_ABORT w) r

/-- CAL_REQUEST (R437). -/
def execCalRequest (dt : Nat) (src : Src) (w item inst : Nat) (s : State) : Host.Outcome State Fault Refusal :=
  effect dt (onlyIf (decide (w < 2) && decide (item < 16) && decide (inst < 512)) (fun s =>
    s.guarded src (Reg.CAL_REQ w) (calReqWrite w (BitVec.ofNat 32 (2 ^ 31 + item * 2 ^ 24 + inst))))) s

/-- The schedule of an instance comes due: a run is asked for (R437, R439).
(DESIGN CHOICE, log entry 137) -/
def calSchedule (item inst : Nat) (s : State) : State :=
  let s := s.modCal (fun c => { c with dueAt := kput c.dueAt (calKey item inst) s.ticks })
  if s.calRefusal item inst = 0 then s.calQueue item inst 2 else s

/-- CAL_SCHEDULE (R439). -/
def execCalSchedule (dt item inst : Nat) (s : State) : Host.Outcome State Fault Refusal :=
  effect dt (fun s => onlyIf (s.powered && s.calKnown item inst && s.on (Fld.CAL_ITEM_CFG_PERIOD item) &&
    decide (kget s.cal.dueAt (calKey item inst) 0 + s.fld (Fld.CAL_ITEM_CFG_PERIOD item) * secT ≤ s.ticks))
    (calSchedule item inst) s) s

/-! ## Runs (R433 to R440) -/

/-- Whether a port or lane lies on a Leaf out of service, or on the Spine without SP_FAB. -/
def State.calOff (s : State) (g : Nat) : Bool := if g < 256 then !s.inService (g / 32) else !s.domOn 5

/-- The code of the first precondition of an item that fails; 0 when all hold (R433, R440).
(DESIGN CHOICE, log entry 137) -/
def State.calPrecondition (s : State) (item inst : Nat) : Nat :=
  let lane := s.fld (Fld.LANE_STATE_STATE inst)
  let lock := s.on Fld.TIME_STATUS_TSU_LOCK
  match item with
  | 1 => if s.calOff inst then calNotPowered else if !lock then calNoLock
      else if !s.tdcHealthy inst (s.fld (Fld.TSU_TDC_SERVING inst)) then calSamplerBusy else 0
  | 2 => if s.calOff inst then calNotPowered else if lane ≠ 4 ∧ lane ≠ 5 then calState
      else if (kfind s.escans inst).any (fun e => decide (e.since < s.ticks)) then calSamplerBusy else 0
  | 3 => if 2 ≤ s.apllState inst then calState else if !s.domOn inst then calNotPowered else 0
  | 4 => if s.calOff inst then calNotPowered else if s.portState inst ≠ 5 then calState else if !lock then calNoLock else 0
  | 5 => if s.outState inst ≠ 4 then calState else if s.apllState (s.outSrc inst) ≠ 3 then calNoLock else 0
  | 6 => if inst = 0 ∨ s.leafOn (inst - 1) then 0 else calNotPowered
  | _ => 0

/-- The temperature monitors and the voltage channels of a MONITOR instance's die (R441, R442). -/
def monTemps (inst : Nat) : List Nat := if inst = 0 then [0, 1] else [inst + 1]
def monVolts (inst : Nat) : List Nat := [3 * inst, 3 * inst + 1, 3 * inst + 2]

/-- What a run holds or marks from its start (R107, R130, R436). -/
def State.calHold (s : State) (item inst : Nat) : State :=
  match item with
  | 1 => s.raise (Fld.TSU_TDC_CAL_BUSY inst)
  | 2 => { s with calLanes := inst :: s.calLanes }.escanYield inst
  | 6 =>
    let s := (monTemps inst).foldl (fun s m =>
      if s.on (Fld.CAL_MON_TEMP_VALID m) then s.raise (Fld.CAL_MON_TEMP_STALE m) else s) s
    (monVolts inst).foldl (fun s v => if s.on (Fld.CAL_MON_VOLT_VALID v) then s.raise (Fld.CAL_MON_VOLT_STALE v) else s) s
  | _ => s

/-- The head of the queue starts, or aborts at once (R438, R439). -/
def calRunStart (s : State) : State :=
  match s.cal.queue with
  | [] => s
  | r :: rest =>
    let s := s.modCal (fun c => { c with queue := rest })
    let code := s.calPrecondition r.item r.inst
    if code = 0 then (s.modCal (fun c => { c with runs := c.runs ++ [{ r with at_ := s.ticks }] })).calHold r.item r.inst
    else if r.who = 2 then
      let (w, s) := s.abortWord code
      (s.calEnd r w).bump (Fld.CAL_ITEM_CNT_SKIPS r.item) 1
    else s.calAbort r code

/-- CAL_RUN_START (R438): at most 8 runs at once. -/
def execCalRunStart (dt : Nat) (s : State) : Host.Outcome State Fault Refusal :=
  effect dt (fun s => onlyIf (s.powered && decide (s.cal.runs.length < 8)) calRunStart s) s

/-- The correction METHOD chooses from a measurement, if one is in range: method, element, residual (R434). -/
def calChoose (method : Nat) (dac : Option Int) (el : Option (Nat × Int)) : Option (Nat × Nat × Int) :=
  let d := dac.map (fun v => (0, 0, v))
  let e := el.map (fun x => (1, x.1, x.2))
  match method with
  | 0 => d
  | 1 => e
  | _ => match d, e with
    | some a, some b => some (if b.2.2.natAbs < a.2.2.natAbs then b else a)
    | some a, none => some a
    | none, b => b

/-- The method, element and VALUE of a completed run, or none where it aborts with RANGE (R434, R440). For TDC `dac` is the
twin's residual, none when the twin fails its self-check; for AON the residual.
(DESIGN CHOICE, log entry 136) -/
def State.calResult (s : State) (item inst : Nat) (dac : Option Int) (el : Option (Nat × Int)) (bands : List Word) :
    Option (Nat × Nat × Int) :=
  match item with
  | 1 => dac.map (fun v => (3, 1 - s.fld (Fld.TSU_TDC_SERVING inst), v))
  | 3 => some (3, 0, ((bands.take 256).filter (fun w => bitsOf w 31 1 == 1)).length)
  | 6 => some (3, 0, 0)
  | 7 => some (3, 0, dac.getD 0)
  | _ => calChoose (s.fld (Fld.CAL_ITEM_CFG_METHOD item)) dac el

/-- What a correction changes (R433, R435). -/
def State.calApply (s : State) (item inst : Nat) (bands : List Word) : State :=
  let staleNow := fun (p : Nat) (s : State) => s.modPort p (fun x => { x with staleAt := some s.ticks })
  match item with
  | 1 => s.tdcPasses inst (1 - s.fld (Fld.TSU_TDC_SERVING inst))
  | 2 => match s.portOfLane inst with
    | some p => staleNow p s
    | none => s
  | 3 =>
    let s := s.forAll (List.range 256) (fun b s => s.storeRw (Reg.SYN_BAND inst b) ((bands[b]?).getD 0#32))
    let s := s.modCal (fun c => { c with boot := c.boot.filter (fun a => a != inst) })
    if s.apllState inst = 1 then s.apllAcquire inst else s.apllFollow inst
  | 4 => staleNow inst s
  | _ => s

/-- A run's measurement has passed, or shows an offset beyond every correction (R435, R440).
(DESIGN CHOICE, log entry 136) -/
def calComplete (r : CalRun) (dac : Option Int) (el : Option (Nat × Int)) (bands : List Word) (s : State) : State :=
  match s.calResult r.item r.inst dac el bands with
  | none =>
    let s := if r.item = 1 then s.tdcFails r.inst (1 - s.fld (Fld.TSU_TDC_SERVING r.inst)) else s
    s.calAbort r calRange
  | some (m, e, v) =>
    let w := BitVec.ofNat 32 (m * 2 ^ 26 + e % 256 * 2 ^ 16 + unsigned 16 v)
    let s := (s.raise Fld.CAL_EVT_DONE).calApply r.item r.inst bands
    (s.calEnd r w).modCal (fun c => { c with applied := kput c.applied (calKey r.item r.inst) w })

/-- CAL_RUN_COMPLETE (R435). -/
def execCalRunComplete (dt item inst : Nat) (dac : Option Int) (el : Option (Nat × Int)) (bands : List Word) (s : State) :
    Host.Outcome State Fault Refusal :=
  effect dt (fun s => match s.cal.runs.find? (fun r => r.item == item && r.inst == inst) with
    | some r => calComplete r dac el bands s
    | none => s) s

/-- A write of CAL.ITEM[i].CFG (R434). -/
def calItemWrite (i : Nat) (w : Word) (s : State) : State :=
  if bitsOf w 0 2 = 3 then s.raise Fld.CAL_EVT_CFG_ERR else s.storeRw (Reg.CAL_ITEM_CFG i) w

/-! ## Monitors (R441 to R443) -/

/-- The MONITOR instance of a temperature monitor and of a voltage channel. -/
def tempInst (m : Nat) : Nat := m - 1
def voltInst (v : Nat) : Nat := v / 3

/-- Whether a die's monitors are powered. -/
def State.monOn (s : State) (inst : Nat) : Bool := s.powered && (inst == 0 || s.leafOn (inst - 1))

/-- Whether a temperature lies within its limits, in 1/256 °C. -/
def State.tempIn (s : State) (m : Nat) (t : Int) : Bool :=
  decide (256 * s.fldInt (Fld.CAL_MON_TEMP_LIM_LO m) ≤ t) && decide (t ≤ 256 * s.fldInt (Fld.CAL_MON_TEMP_LIM_HI m))

/-- Whether a voltage lies within its limits. -/
def State.voltIn (s : State) (v mv : Nat) : Bool :=
  let (hi, lo) := (s.fld (Fld.CAL_MON_VOLT_LIM_HI v), s.fld (Fld.CAL_MON_VOLT_LIM_LO v))
  decide (lo ≤ mv) && (hi == 0xFFFF || decide (mv ≤ hi))

/-- A temperature conversion: held while MONITOR runs on the die (R436, R441, R443); the Spine's XO-side reading is the
temperature of the DPLLs with TEMP_SRC 0 (R263).
(DESIGN CHOICE, log entry 138) -/
def tempConvert (m : Nat) (t : Int) (s : State) : State :=
  if calHas s.cal.runs 6 (tempInst m) then
    (if s.on (Fld.CAL_MON_TEMP_VALID m) then s.raise (Fld.CAL_MON_TEMP_STALE m) else s)
  else
    let before := !s.on (Fld.CAL_MON_TEMP_VALID m) || s.tempIn m (s.fldInt (Fld.CAL_MON_TEMP_VALUE m))
    let s := s.set (Reg.CAL_MON_TEMP m) (BitVec.ofNat 32 (2 ^ 31 + unsigned 16 t))
    let s := if before && !s.tempIn m t then s.setFldBit Fld.CAL_MON_TEMP_EVT_CROSS m true else s
    if m = 0 then s.forAll [0, 1, 2] (fun d s => if s.fld (Fld.DPLL_HO_CFG_TEMP_SRC d) = 0 then s.dpllTemp d t else s)
    else s.judgeTemp (if m = 1 then 8 else m - 2) t

/-- A voltage conversion.
(DESIGN CHOICE, log entry 138) -/
def voltConvert (v mv : Nat) (s : State) : State :=
  if calHas s.cal.runs 6 (voltInst v) then
    (if s.on (Fld.CAL_MON_VOLT_VALID v) then s.raise (Fld.CAL_MON_VOLT_STALE v) else s)
  else
    let before := !s.on (Fld.CAL_MON_VOLT_VALID v) || s.voltIn v (s.fld (Fld.CAL_MON_VOLT_MV v))
    let s := s.set (Reg.CAL_MON_VOLT v) (BitVec.ofNat 32 (2 ^ 31 + mv % 65536))
    if before && !s.voltIn v (mv % 65536) then s.setFldBit Fld.CAL_MON_VOLT_EVT_CROSS v true else s

/-- MONITOR_CONVERSION (R441, R442): monitor m reads a temperature in 1/256 °C, or channel m a voltage in mV. -/
def execMonitorConversion (dt : Nat) (volt : Bool) (m : Nat) (value : Int) (s : State) : Host.Outcome State Fault Refusal :=
  effect dt (fun s =>
    if volt then onlyIf (decide (m < 27) && s.monOn (voltInst m)) (voltConvert m value.toNat) s
    else onlyIf (decide (m < 10) && s.monOn (tempInst m)) (tempConvert m value) s) s

end Sys2Proof.Machine
end

