-- ==== Sys2Proof/Machine/Tel.lean ====
section
/-!
DEFINITION. Tel.lean: freezing and snapshots of the counters, and the sampler's registers (R445 to R458).
-/
namespace Sys2Proof.Machine

/-! ## Freeze (R450) -/

/-- The live view freezes or unfreezes. -/
def telFreeze (on : Bool) (s : State) : State :=
  let s := { s with frozen := if on then some (s.frozen.getD s.cnt) else none }
  (s.setBit Fld.TEL_CTRL_FREEZE on).setBit Fld.TEL_CTRL_FROZEN on

/-- FREEZE_WRITE (R450). -/
def execFreezeWrite (dt : Nat) (src : Src) (on : Bool) (s : State) : Host.Outcome State Fault Refusal :=
  effect dt (fun s => s.guarded src Reg.TEL_CTRL (telFreeze on)) s

/-! ## Snapshots (R446, R451, R452) -/

/-- A group mask with a bit set and no reserved bit set. -/
def groupsOk (mask : Nat) : Bool := mask != 0 && decide (mask < 64)

/-- The dies of a target that a snapshot takes: Leaves in service, and the Spine. -/
def State.snapDies (s : State) (target : Nat) : List Nat :=
  (List.range 9).filter (fun d => target / 2 ^ d % 2 == 1 && (d == 8 || s.inService d))

/-- Present Leaves of a target that are not in service (R46). -/
def State.snapSkips (s : State) (target : Nat) : List Nat :=
  s.allLeaves.filter (fun d => target / 2 ^ d % 2 == 1 && !s.inService d)

/-- Whether a request now starts a snapshot, or joins one of this tick (R452). -/
def State.snapOpen (s : State) : Bool := s.snap.all (fun x => x.tick == s.ticks)

/-- The counts made by now that do not lie before a time. -/
def State.countedFrom (s : State) (key t : Nat) : Nat :=
  ((s.lately.filter (fun e => e.1 == key && decide (t ≤ e.2.2))).map (fun e => e.2.1)).sum

/-- The counters a snapshot takes: the counts whose instants lie before its time (R451). -/
def State.snapCopy (s : State) (x : Snap) : KMap Nat :=
  (s.cnt.filter (fun e => x.takes (e.1 / 2 ^ 20) (e.1 % 2 ^ 20))).map (fun e =>
    (e.1, (e.2 + 2 ^ 64 - s.countedFrom e.1 x.time % 2 ^ 64) % 2 ^ 64))

/-- A snapshot of groups and dies with trigger time t starts; requests of one tick are one, with the earliest time (R451,
R452).
(DESIGN CHOICE, log entry 139) -/
def snapBegin (mask target t : Nat) (s : State) : State :=
  let dies := (s.snapDies target).foldl (fun a d => a + 2 ^ d) 0
  let s := s.forAll (s.snapSkips target) (fun n s => if s.leafOn n then s.raise (Fld.CNT_SNAP_SKIPPED n) else s)
  let x : Snap := match s.snap with
    | some x => { x with time := min x.time t, mask := x.mask ||| mask, target := x.target ||| dies }
    | none => { time := t, tick := s.ticks, mask := mask, target := dies, copy := [] }
  { s with snap := some { x with copy := s.snapCopy x } }.raise Fld.TEL_SNAP_BUSY

/-- The start of the present tick. -/
def snapNow (mask target : Nat) (s : State) : State := snapBegin mask target s.now s

/-- Whether a snapshot's target lies in the secure world: TEL for the Spine's groups, CNT for a Leaf's (R74, R365, R408).
(DEDUCED, log entry 35) -/
def State.snapSecure (s : State) (target : Nat) : Bool :=
  (target / 256 % 2 == 1 && s.secureAt Reg.TEL_SNAP_REQ) || (target % 256 != 0 && s.secureAt (Reg.CNT_SNAP 0))

/-- A write of SNAP_REQ (R452). -/
def snapReqWrite (w : Word) (s : State) : State :=
  if bitsOf w 31 1 = 0 then s.storeRw Reg.TEL_SNAP_REQ w
  else
    let mask := s.getWide Reg.TEL_SNAP_MASK0 2
    if !groupsOk mask || !s.snapOpen then s.raise Fld.TEL_EVT_SNAP_REFUSED
    else snapNow mask (bitsOf w 0 9) (s.storeRw Reg.TEL_SNAP_REQ w)

/-- SNAP_REQ (R452): a write with GO = 1. -/
def execSnapReq (dt : Nat) (src : Src) (target : Nat) (s : State) : Host.Outcome State Fault Refusal :=
  effect dt (fun s => s.guarded src Reg.TEL_SNAP_REQ (snapReqWrite (BitVec.ofNat 32 (2 ^ 31 + target % 512)))) s

/-- The banks swap (R451).
(DESIGN CHOICE, log entry 139) -/
def snapSwap (x : Snap) (s : State) : State :=
  let keep := s.shadow.filter (fun e => !x.takes (e.1 / 2 ^ 20) (e.1 % 2 ^ 20))
  let s := { s with snap := none, shadow := x.copy.foldl (fun m (e : Nat × Nat) => kput m e.1 e.2) keep }
  let s := (s.setFld Fld.TEL_SNAP_BUSY 0).wrapAdd Fld.TEL_SNAP_SEQ 1
  let s := (s.setWide Reg.TEL_SNAP_TIME0 3 (rawOfTime x.time)).raise Fld.TEL_EVT_SNAP_DONE
  s.forAll (s.allLeaves.filter (fun n => x.target / 2 ^ n % 2 == 1 && s.leafOn n)) (fun n s =>
    (s.setFld (Fld.CNT_SNAP_SEQ n) (s.fld Fld.TEL_SNAP_SEQ)).setFld (Fld.CNT_SNAP_SKIPPED n) 0)

/-- SNAPSHOT_SWAP (R451). -/
def execSnapshotSwap (dt : Nat) (s : State) : Host.Outcome State Fault Refusal :=
  effect dt (fun s => match s.snap with
    | some x => snapSwap x s
    | none => s) s

/-! ## The sampler's registers (R454, R457) -/

/-- The store is emptied. -/
def smpFlush (n : Nat) (s : State) : State :=
  (((s.modDie n (fun d => { d with recs := [] })).setFld (Fld.SMP_STAT_STOPPED n) 0).set (Reg.SMP_CNT_LOST n) 0#32).smpShow n

/-- A write of CTRL (R454): EN and FLUSH always act; the other fields change only while EN is 0 or becomes 0.
(DESIGN CHOICE, log entry 140) -/
def smpCtrlWrite (n : Nat) (w : Word) (s : State) : State :=
  let a := Reg.SMP_CTRL n
  let was := s.on (Fld.SMP_CTRL_EN n)
  let flush := bitsOf w 30 1 == 1
  let moved := decide ((s.get a).toNat % 2 ^ 30 ≠ w.toNat % 2 ^ 24 + w.toNat / 2 ^ 27 % 2 ^ 3 * 2 ^ 27)
  if bitsOf w 28 2 = 3 then s.raise (Fld.SMP_EVT_CFG_ERR n)
  else if was && bitsOf w 31 1 == 1 && moved then
    let s := s.raise (Fld.SMP_EVT_CFG_ERR n)
    if flush then smpFlush n s else s
  else
    let s := (s.storeRw a w).smpStop n
    let s := if !was && bitsOf w 31 1 == 1 then s.modDie n (fun d => { d with lfsr := s.get (Reg.SMP_SEED n) }) else s
    if flush then smpFlush n s else s

/-- A write of SEED, FILT or FILT_STREAM (R454).
(DESIGN CHOICE, log entry 140) -/
def smpCfgWrite (n e : Nat) (w : Word) (s : State) : State :=
  if s.on (Fld.SMP_CTRL_EN n) ∨ (e = 1 ∧ w = 0#32) then s.raise (Fld.SMP_EVT_CFG_ERR n)
  else s.storeRw (Reg.SMP_CTRL n + 4 * e) w
def smpWrite (n e : Nat) (w : Word) (s : State) : State := if e = 0 then smpCtrlWrite n w s else smpCfgWrite n e w s

/-- SAMPLER_CTRL_WRITE (R454): CTRL, SEED, FILT and FILT_STREAM are e = 0 to 3. -/
def execSamplerCtrlWrite (dt : Nat) (src : Src) (n e : Nat) (w : Word) (s : State) : Host.Outcome State Fault Refusal :=
  effect dt (onlyIf (decide (n < 8) && decide (e < 4)) (fun s => s.guarded src (Reg.SMP_CTRL n + 4 * e) (smpWrite n e w))) s

/-- SAMPLER_FLUSH (R457): CTRL is written with FLUSH = 1 and its other fields unchanged. -/
def execSamplerFlush (dt : Nat) (src : Src) (n : Nat) (s : State) : Host.Outcome State Fault Refusal :=
  effect dt (onlyIf (decide (n < 8)) (fun s => s.guarded src (Reg.SMP_CTRL n) (smpFlush n))) s

/-- The oldest record is removed and latched; an empty store reads 0 (R457). -/
def smpRead (src : Src) (n : Nat) (s : State) : State :=
  let recs := (s.die n).recs
  let r := recs.headD []
  let s := (s.modDie n (fun d => { d with recs := recs.drop 1 })).smpShow n
  let s := s.forAll (List.range 16) (fun i s => s.set (Reg.SMP_REC n i) ((r[i]?).getD 0#32))
  s.emit (.readData src [(r[0]?).getD 0#32])

/-- SAMPLER_READ (R457). -/
def execSamplerRead (dt : Nat) (src : Src) (n : Nat) (s : State) : Host.Outcome State Fault Refusal :=
  effect dt (onlyIf (decide (n < 8)) (fun s => s.guarded src (Reg.SMP_REC n 0) (smpRead src n))) s

end Sys2Proof.Machine
end

