-- ==== Sys2Proof/Machine/Act.lean ====
section
/-!
DEFINITION. Act.lean: steps of network time and of the DPLLs (R51, R52, R256, R257, R286), and the actions of the timed-action
entries that reach other blocks (R74).
-/
namespace Sys2Proof.Machine

/-! ## Steps (R51, R52) -/

/-- A load or step that waits for a second boundary waits for the next one of the count as stepped (R51, R256).
(DESIGN CHOICE, log entry 33) -/
def State.rearm (s : State) : State :=
  let sec := s.now / secU
  let again := fun (x : Option (Int × Nat)) => x.map (fun (e : Int × Nat) => (e.1, sec))
  { s with
    setLoad := s.setLoad.map (fun (e : Nat × Nat) => (e.1, sec))
    dplls := s.dplls.map (fun (e : Nat × DpllSt) => (e.1, { e.2 with pstep := again e.2.pstep, rstep := again e.2.rstep })) }

/-- Network time steps: its fine count becomes `fine`, and `new` is the new time of the step (R52). Pulses in progress end as programmed, entries are carried past
(R72), held frames meet their late rule (R210), samples and calibration runs across the step do not count (R223, R439).
(DESIGN CHOICE, log entry 33) -/
def timeStep (fine new : Nat) (s : State) : State :=
  let old := s.now
  let s := ({ s with fine := fine }.rearm).raise Fld.TIME_STATUS_STEPPED
  let v : Int := (s.now : Int) - old
  let s := s.forAll (List.range 8) (fun j s => pulseOnStep v new j s)
  let s := s.forAll (s.acts.map (fun (e : Nat × ActEntry) => e.1)) (fun e s => actOnStep v new e s)
  let s := s.ladleStep new
  let s := { s with ports := s.ports.map (fun (e : Nat × PortSt) => (e.1, { e.2 with staleAt := some s.ticks, holdTo := none })) }
  (s.gnssStep).calDisturb (fun _ _ => true) calDisturbed

/-- The DPLLs in FOLLOW_T take a step of DPLL-T (R260, R286). -/
def State.followStep (s : State) (v : Int) : State :=
  s.forAll [1, 2] (fun d s => if s.dstate d = 7 then s.dpllStep d v else s)

/-- DPLL d steps by v, in 2^-16 ns: a step of DPLL-T is a step of network time, taken inside this tick, so that its new time is
the count at the start of the next one (R52). -/
def State.stepLoop (s : State) (d : Nat) (v : Int) : State :=
  if d = 0 then
    let f := ((s.fine : Int) + v * 2 ^ 34).toNat
    let next := (f + if s.counting then tickFine s.steer else 0) / 2 ^ 34
    (timeStep f next { s with stepAt := some (s.ticks, s.tickStart) }).followStep v
  else ((s.modDpll d (fun x => { x with phase := x.phase + v })).dpllStep d v)

/-- A pending load's boundary has come. -/
def State.loadDue (s : State) : Option Nat :=
  match s.setLoad with
  | some (t, sec) => if sec < s.now / secU then some (t + (s.now - (sec + 1) * secU) / tickUnits * tickUnits) else none
  | none => none

/-- The load of TIME.SET at its second boundary (R50, R51).
(DESIGN CHOICE, log entry 28) -/
def timeSetLoad (s : State) : State :=
  match s.loadDue with
  | none => s
  | some t =>
    let v : Int := (t : Int) - s.now
    let s := (timeStep (t * 2 ^ 34) t { s with setLoad := none }).followStep v
    (s.setFld Fld.TIME_STATUS_SET_PENDING 0).raise Fld.TIME_STATUS_VALID

/-- TIME_SET_LOAD (R51). -/
def execTimeSetLoad (dt : Nat) (s : State) : Host.Outcome State Fault Refusal := effect dt timeSetLoad s

/-- The part of a step that waits for a second boundary, once that boundary has come. -/
def State.stepDue (s : State) (x : Option (Int × Nat)) : Option Int :=
  match x with
  | some (v, sec) => if sec < s.now / secU then some v else none
  | none => none

/-- A PHASE_STEP entry of DPLL d is due: a register step of the same tick joins it (R256). -/
def State.phaseActionDue (s : State) (d : Nat) : Bool :=
  s.acts.any (fun (e : Nat × ActEntry) => e.2.code == 0x09 && e.2.target == d && s.actDue e.1)

/-- The steps of DPLL d whose second boundary has come apply as one, with v from an action (R256, R257, R267). -/
def State.applySteps (s : State) (d : Nat) (v : Int) : State :=
  let x := s.dpll d
  let p := s.stepDue x.pstep
  let r := s.stepDue x.rstep
  let own := v + p.getD 0
  let s := s.modDpll d (fun y => { y with pstep := if p.isSome then none else y.pstep, rstep := if r.isSome then none else y.rstep })
  let s := if p.isSome then s.setFld (Fld.DPLL_PSTEP_CTRL_PENDING d) 0 else s
  let s := (s.addOffset d own).stepLoop d (own + r.getD 0)
  if r.isSome then s.acquire d else s

/-- PSTEP_APPLY (R256): at the second boundary. -/
def execPstepApply (dt d : Nat) (s : State) : Host.Outcome State Fault Refusal :=
  effect dt (fun s => onlyIf (decide (d < 3) && !s.phaseActionDue d &&
    ((s.stepDue (s.dpll d).pstep).isSome || (s.stepDue (s.dpll d).rstep).isSome)) (fun s => s.applySteps d 0) s) s

/-! ## Actions (R74) -/

/-- When an entry acts: its trigger, or the start of this tick when a step carried it past (R70, R72). -/
def State.actTime (s : State) (a : ActEntry) : Nat := if a.carried.isSome then s.now else a.trigger

/-- A non-secure entry whose target lies in the secure world (R35, R73).
(DEDUCED, log entry 35) -/
def State.worldBars (s : State) (e a : Nat) : Bool := s.actWorld e == 0 && s.secureAt a

/-- A SNAPSHOT action: refused while a swap of another tick is pending (R451, R452). -/
def snapshotAction (e : Nat) (a : ActEntry) (s : State) : FireResult × State :=
  if s.actWorld e == 0 && s.snapSecure a.target then (.skippedWorld, s)
  else if !s.snapOpen then (.refused, s)
  else (if s.snapSkips a.target = [] then .ok else .skippedPart, snapBegin a.arg a.target (s.actTime a) s)

/-- SNAPSHOT_ACTION (R451). -/
def execSnapshotAction (dt e : Nat) (s : State) : Host.Outcome State Fault Refusal :=
  effect dt (fireEntry e 0x02 (snapshotAction e)) s

/-- A swap of bank pair `pair` on the Leaves of the target (R46, R70, R157). -/
def bankAction (pair e : Nat) (a : ActEntry) (s : State) : FireResult × State :=
  let l := s.allLeaves.filter (fun n => a.target / 2 ^ n % 2 == 1)
  let on := l.filter (fun n => s.inService n)
  let at1 := s.actTime a
  if s.actWorld e = 0 ∧ l.any (fun n => s.bankSecure n pair) then (.skippedWorld, s)
  else (if on = l then .ok else .skippedPart, s.forAll on (fun n s => s.bankSwap n pair a.arg at1))

/-- SWAP_VLAN_BANK (R70). -/
def execSwapVlanBank (dt e : Nat) (s : State) : Host.Outcome State Fault Refusal := effect dt (fireEntry e 0x03 (bankAction 0 e)) s

/-- SWAP_GROUP_BANK (R70). -/
def execSwapGroupBank (dt e : Nat) (s : State) : Host.Outcome State Fault Refusal := effect dt (fireEntry e 0x04 (bankAction 1 e)) s

/-- SWAP_STREAM_BANK (R70). -/
def execSwapStreamBank (dt e : Nat) (s : State) : Host.Outcome State Fault Refusal := effect dt (fireEntry e 0x05 (bankAction 2 e)) s

/-- A target port on a Leaf not in service (R46). -/
def State.portSkipped (s : State) (p : Nat) : Bool := decide (p < 256) && !s.inService (p / 32)

/-- A swap of a port's gate control lists (R195). -/
def gclAction (e : Nat) (a : ActEntry) (s : State) : FireResult × State :=
  let p := a.target
  if s.worldBars e (Reg.EGR_PORT_GCL_CTRL p) then (.skippedWorld, s)
  else if s.portSkipped p then (.skippedPart, s)
  else
    let (refused, t) := s.gclSwap p a.arg (s.actTime a)
    (if refused then .refused else .ok, t)

/-- SWAP_GCL (R195). -/
def execSwapGcl (dt e : Nat) (s : State) : Host.Outcome State Fault Refusal := effect dt (fireEntry e 0x06 (gclAction e)) s

/-- The register that stands for a port in the world map: the Spine's fabric for ports without MAC registers.
(DESIGN CHOICE, log entry 36) -/
def portHome (p : Nat) : Nat := if p < 258 then Reg.PORT_MODE p else Reg.PORT_MODE 256

/-- PORT_ENABLE's and PORT_DISABLE's effect on a port at an instant: a disabled port keeps a frame already begun and the rest
of a preempted one; every other frame queued or held for it is discarded as PORT_DISABLED.
(DESIGN CHOICE, log entry 36) -/
def State.portAdmin (s : State) (p t : Nat) (up : Bool) : State :=
  if up then s.adminUp p t
  else
    let x := s.port p
    let s := (s.adminDown p t).flushPort p 0x2A
    s.modPort p (fun y => { y with cur := x.cur, part := x.part })

/-- The action on a port (R46, R74).
(DESIGN CHOICE, log entry 153) -/
def portAction (up : Bool) (e : Nat) (a : ActEntry) (s : State) : FireResult × State :=
  if s.worldBars e (portHome a.target) then (.skippedWorld, s)
  else if s.portSkipped a.target then (.skippedPart, s)
  else (.ok, s.portAdmin a.target (s.actTime a) up)

/-- PORT_ENABLE (R74). -/
def execPortEnable (dt e : Nat) (s : State) : Host.Outcome State Fault Refusal := effect dt (fireEntry e 0x07 (portAction true e)) s

/-- PORT_DISABLE (R74). -/
def execPortDisable (dt e : Nat) (s : State) : Host.Outcome State Fault Refusal := effect dt (fireEntry e 0x08 (portAction false e)) s

/-- A phase step of a DPLL, with a register step that falls in the same tick (R16, R256). -/
def phaseAction (e : Nat) (a : ActEntry) (s : State) : FireResult × State :=
  if s.worldBars e (Reg.DPLL_PSTEP_CTRL a.target) then (.skippedWorld, s)
  else (.ok, s.applySteps a.target (signed 64 a.arg))

/-- PHASE_STEP (R256). -/
def execPhaseStep (dt e : Nat) (s : State) : Host.Outcome State Fault Refusal := effect dt (fireEntry e 0x09 (phaseAction e)) s

/-- Staging set i, and the state with it written. -/
def State.pset (s : State) (i : Nat) : PSet := kget s.psets i {}
def State.setPset (s : State) (i : Nat) (x : PSet) : State := { s with psets := kput s.psets i x }

/-- A set is checked and committed, or commits nothing; it answers the first failing key (R418, R420). -/
def State.commitStaged (s : State) (i tag : Nat) (late : Bool) : Option Nat × State :=
  let x := s.pset i
  match s.commitFails x.entries with
  | some k => (some k, s.setPset i { x with lastTag := tag, lastResult := 2, failKey := k })
  | none => (none, (s.setPset i { x with entries := [], lastTag := tag, lastResult := if late then 3 else 1, failKey := 0 }).commitSet x.entries)

/-- Whether a set holds entries of the other world (R417). -/
def State.psetForeign (s : State) (i world : Nat) : Bool := !(s.pset i).entries.isEmpty && (s.pset i).world != world

/-- Whether the firmware was paused at a time: it resumed after it (R420). -/
def State.pausedAt (s : State) (t : Nat) : Bool :=
  match s.boot.resumedAt with
  | some r => decide (t + (s.ticks - r) * tickUnits < s.now)
  | none => false

/-- A PARAM_COMMIT action (R419).
(DESIGN CHOICE, log entry 34) -/
def commitAction (e : Nat) (a : ActEntry) (s : State) : FireResult × State :=
  if s.psetForeign a.target (s.actWorld e) then (.refused, s)
  else
    let (fail, t) := s.commitStaged a.target a.arg (a.carried.isNone && s.pausedAt a.trigger)
    (if fail.isSome then .refused else .ok, t)

/-- PARAM_COMMIT_ACTION (R419). -/
def execParamCommitAction (dt e : Nat) (s : State) : Host.Outcome State Fault Refusal := effect dt (fireEntry e 0x0A (commitAction e)) s

/-- A load of the staged dividers in the trigger tick (R284, R285). -/
def dividerAction (e : Nat) (a : ActEntry) (s : State) : FireResult × State :=
  if s.worldBars e Reg.SYN_UPDATE then (.skippedWorld, s) else (.ok, s.loadOuts a.target s.ticks)

/-- DIVIDER_SYNC (R285). -/
def execDividerSync (dt e : Nat) (s : State) : Host.Outcome State Fault Refusal := effect dt (fireEntry e 0x0B (dividerAction e)) s

/-- A fail-over rehearsal (R328). -/
def drillAction (e : Nat) (a : ActEntry) (s : State) : FireResult × State :=
  if s.worldBars e (Reg.CLM_DOM_CFG a.target) then (.skippedWorld, s)
  else
    let (refused, t) := clmDrill a.target a.arg s
    (if refused then .refused else .ok, t)

/-- CLAIM_DRILL (R328). -/
def execClaimDrill (dt e : Nat) (s : State) : Host.Outcome State Fault Refusal := effect dt (fireEntry e 0x0C (drillAction e)) s

end Sys2Proof.Machine
end

