-- ==== Sys2Proof/Machine/Link.lean ====
section
/-!
DEFINITION. Link.lean: a frame completes at a receive MAC: the MAC's own checks (R114), the timing capability exchange (R229)
and heartbeats (R319), which take their messages beside the trap to port 259.
-/
namespace Sys2Proof.Machine

/-- A message of the exchange; on a port its claim refuses, its phases change nothing (R322). -/
def State.tcxTake (s : State) (p : Nat) (full : List Byte) (bad : Bool) : State :=
  let a := Reg.TCX_PEER_GEN p
  let (tx, rx) := (s.get (a + 40), s.get (a + 44))
  let refused := s.portRefused p
  let s := s.tcxReceive p full bad
  if refused then (s.set (a + 40) tx).set (a + 44) rx else s

/-- A message of the exchange that arrives in EXCHANGE whole goes on to be trapped to port 259 (R137, R229). -/
def State.tcxTrap (s : State) (p : Nat) (full : List Byte) (i : RxInfo) (st fl at1 : Nat) : State :=
  if (s.macFlaw p full i).isSome then s
  else s.toHeader { bytes := full.take (full.length - 4), inPort := p, stamp := st, flags := fl } at1

/-- A frame, from DA to FCS, completes at port p. Exchange messages also pass in EXCHANGE, where the MAC accepts no frame
(R88, R92). Frames of a draining Leaf (R45) and of a disabled port (R74) reach nothing. -/
def State.receive (s : State) (p : Nat) (full : List Byte) (i : RxInfo) : State :=
  let st := s.rxStamp p i
  let at1 := s.rxPhys p i
  let fl := s.stampFlags p at1 false
  let bad := i.codeErr || (i.uncorrectable != 0 && s.fld (Fld.PORT_MODE_FEC p) != 0)
  let passes := !s.drainedAt p at1 && !s.stampedDown p st fl
  let tcx := isTcx full
  let t := if tcx && passes then s.tcxTake p full bad else if isHb full && passes then s.hbReceive p full bad else s
  if s.portState p < 4 then s.macReceive p full i st fl at1
  else if tcx && s.portState p == 4 then (if passes then t.tcxTrap p full i st fl at1 else t)
  else t.macReceive p full i st fl at1

/-- Whether a port's link passes frames or exchange messages. -/
def State.linkUp (s : State) (p : Nat) : Bool := s.namesPort p && decide (4 ≤ s.portState p)

/-- Whether a port's receive MAC works: its link is up, or it has power and counts what its port's leaving ACTIVE cut short
(R88, R114). -/
def State.macWorks (s : State) (p : Nat) : Bool := s.linkUp p || (s.namesPort p && (s.leafOn (p / 32) || decide (256 ≤ p)))

/-- FRAME_RECEIVE (R114). -/
def execFrameReceive (dt p : Nat) (full : List Byte) (i : RxInfo) (s : State) : Host.Outcome State Fault Refusal :=
  effect dt (fun s => onlyIf (s.macWorks p) (fun s => s.receive p full i) s) s

/-- TCX_RECEIVE (R229): the frame is an exchange message. -/
def execTcxReceive (dt p : Nat) (full : List Byte) (i : RxInfo) (s : State) : Host.Outcome State Fault Refusal :=
  effect dt (fun s => onlyIf (s.linkUp p && isTcx full) (fun s => s.receive p full i) s) s

/-- HEARTBEAT_RECEIVE (R319): the frame is a heartbeat. -/
def execHeartbeatReceive (dt p : Nat) (full : List Byte) (i : RxInfo) (s : State) : Host.Outcome State Fault Refusal :=
  effect dt (fun s => onlyIf (s.linkUp p && isHb full) (fun s => s.receive p full i) s) s

end Sys2Proof.Machine
end

