-- ==== Sys2Proof/Machine/Svc.lean ====
section
/-!
DEFINITION. Svc.lean: how the firmware's services take the frames trapped to port 259 and send frames of their own (R137, R319).
-/
namespace Sys2Proof.Machine

/-! ## Frames at port 259 -/

/-- Which service a frame is for: 1 PTP messages, 2 PTP management, 3 timed-action broadcasts, 4 LLDP, 5 snooping; 0 none. -/
def serviceOf (b : List Byte) : Nat :=
  let q := parseFrame true b
  let ptp := q.etype == 0x88F7 || q.udp == some 319 || q.udp == some 320
  if ptp then (match ptpOffset q with
    | some o => if byteAt b o % 16 = 0xD then 2 else 1
    | none => 0)
  else if q.etype = 0x88B7 ∧ beAt b q.body 3 = tcxCid ∧ beAt b (q.body + 3) 2 = 0x0103 then 3
  else if q.etype = 0x88CC then 4
  else if isSnooped b q then 5
  else 0

/-- The place of the first frame for a service in a list of copies. -/
def firstFor (svc : Nat) : List Copy → Option (Copy × List Copy)
  | [] => none
  | c :: l =>
    if serviceOf c.f.bytes = svc then some (c, l)
    else match firstFor svc l with
      | some (x, r) => some (x, c :: r)
      | none => none

/-- A copy leaves the Spine port buffer for port 258 or 259: its cells return, it counts, and its record is written.
(DESIGN CHOICE, log entry 60) -/
def State.takenAt (s : State) (p : Nat) (c : Copy) : State :=
  let len := frameLen (s.egressBytes c.f p)
  let s := s.freeCells p c.cls c.f
  let s := (s.countTx p 0 1 0 0).countTx p 1 len 0 0
  ((s.countQueue p c.cls 0 1 0 0).countQueue p c.cls 1 len 0 0).smpCopyEnd c.f p (.sent s.now 0)

/-- The flags of a frame that enters at port 258 or 259 (R129): COARSE and SYNTH. -/
def State.synthFlags (s : State) : Nat := (if s.on Fld.TIME_STATUS_TSU_LOCK then 1 else 0) + 2 + 8

/-- The firmware discards the frames at port 259 that are for no service, heartbeats among them (R319). -/
def State.dropUnserved (s : State) : State :=
  let junk := (s.queue 259 0).filter (fun c => serviceOf c.f.bytes == 0)
  let s := s.setQueue 259 0 ((s.queue 259 0).filter (fun c => serviceOf c.f.bytes != 0))
  junk.foldl (fun s c => s.takenAt 259 c) s

/-- A service's first frame at port 259, and the state with it taken. -/
def State.svcTake (s : State) (svc : Nat) : Option (Frame × State) :=
  match firstFor svc (s.queue 259 0) with
  | none => none
  | some (x, rest) => some (x.f, (s.setQueue 259 0 rest).takenAt 259 x)

/-- A frame the firmware sends from port 259 on a port, as it is. -/
def State.fwSend (s : State) (p cls : Nat) (mark : Option Mark) (b : List Byte) : State :=
  let f : Frame := { id := s.frames, bytes := padTo60 b, inPort := 259, stamp := s.now, flags := s.synthFlags, cls := cls, dest := [p], raw := true, mark := mark }
  { s with frames := s.frames + 1 }.forward 8 f

/-- The firmware's services act: the firmware runs (R217). -/
def State.svcRun (s : State) (svc : Nat) (f : Frame → State → State) : State :=
  if !s.fwRuns then s
  else
    let s := s.dropUnserved
    match s.svcTake svc with
    | some (x, t) => f x t
    | none => s

/-- A port on which services send: it is up, and its Leaf is in service (R46). -/
def State.svcPort (s : State) (p : Nat) : Bool := s.linkUp p && s.portState p == 5 && (decide (256 ≤ p) || s.inService (p / 32))

end Sys2Proof.Machine
end

