-- ==== Sys2Proof/Machine/Ptp.lean ====
section
/-!
DEFINITION. Ptp.lean: the firmware's PTP stack (R213 to R217, R224, R322, R426, R427). Message layouts, message classes and the
best master clock algorithm are those of IEEE 1588-2019, which R213 names (PRESUMED, log entries 66 and 67).
-/
namespace Sys2Proof.Machine

/-! ## Instances and ports -/

/-- The state with a function applied to what instance i holds for port p. -/
def State.modPtp (s : State) (i p : Nat) (f : PtpPort → PtpPort) : State :=
  { s with ptps := kput s.ptps (ptpKey i p) (f (s.ptp i p)) }

/-- Whether the stack runs instance i on port p now (R46, R217). -/
def State.ptpRuns (s : State) (i p : Nat) : Bool :=
  s.fwRuns && (kfind s.ptps (ptpKey i p)).isSome && s.svcPort p

/-- The clock identity the device announces, and the one a port's messages carry with its number (R219). -/
def State.clockId (s : State) : Nat := s.getWide (Reg.CLOCK_ID0 8) 2
def State.portIdentity (s : State) (p : Nat) : Nat :=
  s.getWide (Reg.CLOCK_ID0 (clockDie p)) 2 * 65536 + s.fld (Fld.RESP_PORT_CFG_PORT_NUMBER p)

/-- majorSdoId of a profile: 1 for IEEE 802.1AS. -/
def sdoOf (profile : Nat) : Nat := if profile = 2 then 1 else 0

/-- Port parameters as intervals in ticks. -/
def State.ptpTicks (s : State) (p item : Nat) : Nat := logTicks (s.ptpPortOf p item)

/-- An interval has passed since a tick, or nothing was sent yet. -/
def State.passed (s : State) (last : Option Nat) (d : Nat) : Bool := last.all (fun t => decide (t + d ≤ s.ticks))

/-! ## Messages -/

/-- The header of a message: type, length, flags, correction, sequence, controlField, logMessageInterval.
(DESIGN CHOICE, log entry 68) -/
def State.ptpHead (s : State) (i p type len flags : Nat) (corr : Int) (seq ctl : Nat) (log : Int) : List Byte :=
  beBytes (sdoOf (s.ptpProfile i) * 16 + type) 1 ++ beBytes 0x12 1 ++ beBytes len 2 ++ beBytes (s.ptpItemOf i 3) 1 ++
    beBytes 0 1 ++ beBytes flags 2 ++ beBytes (unsigned 64 corr) 8 ++ beBytes 0 4 ++ beBytes (s.portIdentity p) 10 ++
    beBytes seq 2 ++ beBytes ctl 1 ++ beBytes (unsigned 8 log) 1

/-- A time as a message carries it: seconds and nanoseconds. -/
def ptpTime (t : Nat) : List Byte := beBytes (t / secU % 2 ^ 48) 6 ++ beBytes (t % secU / nsU) 4
def timeAt (b : List Byte) (o : Nat) : Nat := beAt b o 6 * secU + beAt b (o + 6) 4 * nsU

/-- A message in its transport's frame (R213), to the transport's multicast address or to one station's two addresses.
(PRESUMED, log entry 66) -/
def State.ptpFrame (s : State) (i p : Nat) (event pdelay : Bool) (whom : Option (Nat × Nat)) (msg : List Byte) : List Byte :=
  let die := if p < 256 then p / 32 else 8
  let own := s.portMac p
  let port := if event then 319 else 320
  let dscp := s.fld (Fld.RESP_CFG_DSCP die)
  let ttl := s.fld (Fld.RESP_CFG_TTL die)
  match s.ptpItemOf i 4 with
  | 0 => ethFrame ((whom.map Prod.fst).getD (if pdelay || s.ptpProfile i == 2 then tcxDa else ptpMac)) own 0x88F7 msg
  | 1 =>
    let low := if pdelay then 0x6B else 0x181
    let (mac, dst) := whom.getD (0x01005E000000 + low, 0xE0000000 + low)
    ethFrame mac own 0x0800 (udpOver false dscp ttl (s.fld (Fld.RESP_PORT_IPV4_IPV4 p)) dst port port msg)
  | _ =>
    let low := if pdelay then 0x6B else 0x181
    let (mac, dst) := whom.getD (0x333300000000 + low, (if pdelay then 0xFF02 else 0xFF0E) * 2 ^ 112 + low)
    ethFrame mac own 0x86DD (udpOver true dscp ttl (s.portIpv6 p) dst port port msg)

/-- A message leaves on a port, in the responder's class; an event message is marked for its stamp (R125, R215).
(DESIGN CHOICE, log entry 68) -/
def State.ptpSend (s : State) (i p : Nat) (event pdelay : Bool) (mark : Option Mark) (msg : List Byte) : State :=
  s.fwSend p (s.fld (Fld.RESP_CFG_TC (if p < 256 then p / 32 else 8))) mark (s.ptpFrame i p event pdelay none msg)

/-- A Delay_Req leaves for one station, marked for its stamp (R213). -/
def State.ptpSendTo (s : State) (i p seq : Nat) (whom : Nat × Nat) (msg : List Byte) : State :=
  s.fwSend p (s.fld (Fld.RESP_CFG_TC (if p < 256 then p / 32 else 8))) (some (.firmware 1 i seq))
    (s.ptpFrame i p true false (some whom) msg)

/-! ## Best master clock -/

/-- The order of comparison vectors. -/
def vecLess : List Nat → List Nat → Bool
  | a :: l, b :: m => decide (a < b) || (a == b && vecLess l m)
  | _, _ => false

/-- The device's own vector for an instance.
(PRESUMED, log entry 67) -/
def State.ownVec (s : State) (i : Nat) : List Nat :=
  [s.ptpItemOf i 5, Config.ptpQuality, s.ptpItemOf i 6, s.clockId, 0, s.clockId, 0]

/-- The best of some vectors. -/
def bestVec (l : List (List Nat)) : Option (List Nat) :=
  l.foldl (fun (b : Option (List Nat)) v => match b with
    | none => some v
    | some w => if vecLess v w then some v else some w) none

/-- The best foreign master of a port: two Announces within four announce intervals qualify one. -/
def State.portBest (s : State) (i p : Nat) : Option (List Nat) :=
  let fresh := fun (f : PtpForeign) =>
    decide (2 ≤ (f.at_.filter (fun t => decide (s.ticks < t + 4 * s.ptpTicks p 3))).length)
  bestVec (((s.ptp i p).foreign.filter fresh).map (fun f => f.vec))

/-- Whether one vector is better than another by the path alone: the same grandmaster over as many steps, or by one step
less to a receiver whose identity is above the sender's. -/
def State.betterByPath (s : State) (a b : List Nat) : Bool :=
  let n := fun (l : List Nat) k => (l[k]?).getD 0
  n a 3 == n b 3 && (n a 4 == n b 4 || (n a 4 + 1 == n b 4 && decide (n b 5 < s.clockId)))

/-- The portState code the algorithm decides: 6 MASTER, 7 PASSIVE, 9 SLAVE. -/
def State.decideState (s : State) (i : Nat) (erbest ebest : Option (List Nat)) (here : Bool) : Nat :=
  let own := s.ownVec i
  let top := fun (e : Option (List Nat)) => e.all (fun v => vecLess own v)
  let cls := Config.ptpQuality / 2 ^ 24 % 256
  if 1 ≤ cls ∧ cls ≤ 127 then (if top erbest then 6 else 7)
  else if top ebest then 6
  else if here then 9
  else match erbest, ebest with
    | some r, some e => if s.betterByPath e r then 7 else 6
    | _, _ => 6

/-- A port takes up a state; a new SLAVE port starts its servo afresh. -/
def State.setPtpState (s : State) (i p st : Nat) : State :=
  if (s.ptp i p).state = st then s
  else
    let s := s.modPtp i p (fun x => { x with state := st, sync := none, down := none, mean := none, offset := 0, every := none, master := none })
    if st = 9 then s.ptpBind i p else s

/-- The instance reruns its BMCA over its ports; `expired` is a port whose announce receipt timeout has just run out.
(PRESUMED, log entry 66) -/
def State.bmca (s : State) (i : Nat) (expired : Option Nat) : State :=
  let ports := (s.portsOfInst i).filter (fun p => s.ptpRuns i p)
  let best := ports.map (fun p => (p, s.portBest i p))
  let ebest := bestVec (best.filterMap (fun (e : Nat × Option (List Nat)) => e.2))
  let home := (best.find? (fun (e : Nat × Option (List Nat)) => e.2.isSome && e.2 == ebest)).map (fun (e : Nat × Option (List Nat)) => e.1)
  if s.ptpItemOf i 8 = 1 then s
  else best.foldl (fun s (e : Nat × Option (List Nat)) =>
    if (s.ptp i e.1).state = 4 ∧ e.2.isNone ∧ expired ≠ some e.1 then s
    else s.setPtpState i e.1 (s.decideState i e.2 ebest (home == some e.1))) s

/-- The SLAVE port of an instance. -/
def State.slaveOf (s : State) (i : Nat) : Option Nat := (s.portsOfInst i).find? (fun p => s.ptpRuns i p && s.ptpState i p == 9)

/-- The vector of the instance's parent, if it has one. -/
def State.parentVec (s : State) (i : Nat) : Option (List Nat) := (s.slaveOf i).bind (fun p => s.portBest i p)

/-- The vector the instance announces. -/
def State.announced (s : State) (i : Nat) : List Nat :=
  match s.parentVec i with
  | some v => v.take 4 ++ [(v[4]?).getD 0 + 1]
  | none => s.ownVec i

/-! ## Sending -/

/-- A transmit stamp that waits for the stack, and the state with it used. -/
def State.fwStamp (s : State) (p kind i seq : Nat) : Option (FwStamp × State) :=
  (s.fwStamps.find? (fun x => x.port == p && x.kind == kind && x.inst == i && x.seq == seq)).map (fun x =>
    (x, { s with fwStamps := s.fwStamps.filter (fun y => y != x) }))

/-- The addition of R216 at a port. -/
def State.msgPoint (s : State) (p t : Nat) : Nat := t + eightBits (s.portMode p)

/-- The information a Follow_Up of IEEE 802.1AS carries after its timestamp. -/
def asFollowUp : List Byte := beBytes 3 2 ++ beBytes 28 2 ++ beBytes 0x0080C2 3 ++ beBytes 1 3 ++ zeros 22

/-- The Follow_Up of a Sync with a transmit stamp (R215). -/
def State.followUp (s : State) (i p seq ts : Nat) : State :=
  let t1 := s.msgPoint p ts
  let tail := if s.ptpProfile i = 2 then asFollowUp else []
  s.ptpSend i p false false none
    (s.ptpHead i p 8 (44 + tail.length) 0 (t1 % nsU : Nat) seq 2 (s.ptpPortOf p 2) ++ ptpTime t1 ++ tail)

/-- The Pdelay_Resp_Follow_Up of an answered Pdelay_Req. -/
def State.pdelayFollowUp (s : State) (i p seq who ts : Nat) (corr : Int) : State :=
  let t3 := s.msgPoint p ts
  s.ptpSend i p false true none (s.ptpHead i p 0xA 54 0 (corr + (t3 % nsU : Nat)) seq 5 0x7F ++ ptpTime t3 ++ beBytes who 10)

/-- A stamp that waits gives its Follow_Up or Pdelay_Resp_Follow_Up; else a Sync leaves when one is due. -/
def ptpSyncSend (i p : Nat) (s : State) : State :=
  let x := s.ptp i p
  let seq := (x.seqSync + 65535) % 65536
  match x.answer.bind (fun a => (s.fwStamp p 3 i a.1).map (fun r => (a, r))) with
  | some (a, st, t) => (t.modPtp i p (fun y => { y with answer := none })).pdelayFollowUp i p a.1 a.2.1 st.ts a.2.2
  | none =>
    if s.ptpState i p ≠ 6 then s
    else match s.fwStamp p 0 i seq with
      | some (st, t) => t.followUp i p seq st.ts
      | none =>
        if s.passed x.syncAt (s.ptpTicks p 2) then
          let t := s.modPtp i p (fun y => { y with seqSync := (x.seqSync + 1) % 65536, syncAt := some s.ticks })
          t.ptpSend i p true false (some (.firmware 0 i x.seqSync))
            (s.ptpHead i p 0 44 0x0200 0 x.seqSync 0 (s.ptpPortOf p 2) ++ zeros 10)
        else s

/-- PTP_SYNC_SEND (R214, R215). -/
def execPtpSyncSend (dt i p : Nat) (s : State) : Host.Outcome State Fault Refusal :=
  effect dt (fun s => onlyIf (s.ptpRuns i p) (ptpSyncSend i p) s) s

/-- The synchronisation metadata TLV of the SMPTE profile, from the instance's parameters (R213, R426).
(PRESUMED, log entry 67) -/
def State.smTlv (s : State) (i : Nat) : List Byte :=
  beBytes 3 2 ++ beBytes 48 2 ++ beBytes 0x6897E8 3 ++ beBytes 1 3 ++ beBytes (s.ptpItemOf i 0x10) 4 ++
    beBytes (s.ptpItemOf i 0x11) 4 ++ beBytes (s.ptpItemOf i 0x12) 1 ++ zeros 33

/-- An Announce leaves (R214). -/
def ptpAnnounceSend (i p : Nat) (s : State) : State :=
  let x := s.ptp i p
  let v := s.announced i
  let n := fun k => (v[k]?).getD 0
  let tail := if s.ptpProfile i = 2 then beBytes 8 2 ++ beBytes 8 2 ++ beBytes s.clockId 8
    else if s.ptpProfile i = 3 then s.smTlv i else []
  let t := s.modPtp i p (fun y => { y with seqAnn := (x.seqAnn + 1) % 65536, annAt := some s.ticks })
  t.ptpSend i p false false none (s.ptpHead i p 0xB (64 + tail.length) 8 0 x.seqAnn 5 (s.ptpPortOf p 3) ++ zeros 10 ++
    beBytes 0 2 ++ zeros 1 ++ beBytes (n 0) 1 ++ beBytes (n 1) 4 ++ beBytes (n 2) 1 ++ beBytes (n 3) 8 ++ beBytes (n 4) 2 ++
    beBytes 0xA0 1 ++ tail)

/-- PTP_ANNOUNCE_SEND (R214): in MASTER, every 2^LOG_ANNOUNCE seconds. -/
def execPtpAnnounceSend (dt i p : Nat) (s : State) : Host.Outcome State Fault Refusal :=
  effect dt (fun s => onlyIf (s.ptpRuns i p && s.ptpState i p == 6 && s.passed (s.ptp i p).annAt (s.ptpTicks p 3))
    (ptpAnnounceSend i p) s) s

/-- A Delay_Req leaves on the SLAVE port, multicast or to the parent alone (R213), or a Pdelay_Req in the peer profiles (R426). -/
def ptpDelayReqSend (i p : Nat) (s : State) : State :=
  let x := s.ptp i p
  let seq := x.seqDelay
  let peer := peerProfile (s.ptpProfile i)
  let s := { s with fwStamps := s.fwStamps.filter (fun y => !(y.port == p && y.inst == i && (y.kind == 1 || y.kind == 2))) }
  let t := s.modPtp i p (fun y => { y with seqDelay := (seq + 1) % 65536, delayAt := some s.ticks, asked := some seq, pdelay := none })
  if peer then
    t.ptpSend i p true true (some (.firmware 2 i seq)) (s.ptpHead i p 2 54 0 0 seq 5 (s.ptpPortOf p 4) ++ zeros 20)
  else match x.master.filter (fun _ => Config.delayReqUnicast i p) with
    | some whom => t.ptpSendTo i p seq whom (s.ptpHead i p 1 44 0x0400 0 seq 1 0x7F ++ zeros 10)
    | none => t.ptpSend i p true false (some (.firmware 1 i seq)) (s.ptpHead i p 1 44 0 0 seq 1 0x7F ++ zeros 10)

/-- PTP_DELAY_REQ_SEND (R426). -/
def execPtpDelayReqSend (dt i p : Nat) (s : State) : Host.Outcome State Fault Refusal :=
  effect dt (fun s => onlyIf (s.ptpRuns i p && s.passed (s.ptp i p).delayAt (s.ptpTicks p 4) &&
    (if peerProfile (s.ptpProfile i) then s.ptpState i p != 3 else s.ptpState i p == 9)) (ptpDelayReqSend i p) s) s

/-! ## Receiving -/

/-- The phase readings of both ends of a port's hop: the local RX_PHASE and TX_PHASE and the partner's, where both samples are
VALID and not STALE and the port is accepted (R223, R322). -/
def State.phases (s : State) (p : Nat) : Option (Int × Int × Int × Int) :=
  let l := (s.port p).lph
  if l.flags % 4 = 1 ∧ s.on (Fld.TCX_STAT_PEER_VALID p) ∧ s.fld (Fld.TCX_PEER_PH_FLAGS p) % 4 = 1 ∧ !s.portRefused p then
    some (l.rx, l.tx, s.fld (Fld.TCX_PEER_RX_PHASE_PHASE p), s.fld (Fld.TCX_PEER_TX_PHASE_PHASE p))
  else none

/-- The value nearest to a coarse one that agrees with a phase modulo n/d. -/
def nearPhase (n d : Nat) (coarse phase : Int) : Int :=
  let k := (2 * (coarse - phase) * d + n) / (2 * n)
  phase + k * n / d

/-- A coarse round trip, refined by the phases of both ends; the whole periods are resolved afresh each time (R223). -/
def State.refineTrip (s : State) (p : Nat) (coarse : Int) : Int :=
  match s.phases p with
  | some (rx, tx, prx, ptx) =>
    let (n, d) := phasePeriod (modeRate (s.portMode p))
    nearPhase n d coarse (rx - ptx + (prx - tx))
  | none => coarse

/-- A coarse offset, refined by the local RX_PHASE, the partner's TX_PHASE and the delay from the partner (R222, R223). -/
def State.refineOffset (s : State) (p : Nat) (coarse delay : Int) : Int :=
  match s.phases p with
  | some (rx, _, _, ptx) =>
    let (n, d) := phasePeriod (modeRate (s.portMode p))
    nearPhase n d coarse (rx - ptx - delay)
  | none => coarse

/-- delayAsymmetry from a round trip, where the peer's fixed delays are known (R224).
(DESIGN CHOICE, log entry 69) -/
def State.delayAsym (s : State) (p : Nat) (mean : Int) : Int :=
  if !s.on (Fld.TCX_STAT_PEER_VALID p) then 0
  else
    let t := (s.port p).tcx
    let txl : Int := t.txfix
    let rxl : Int := t.rxfix
    let txp : Int := s.fld (Fld.TCX_PEER_TXFIX_TXFIX p)
    let rxp : Int := s.fld (Fld.TCX_PEER_RXFIX_RXFIX p)
    let a := asymOf t.asym
    let df := 2 * mean - (txl + rxl + txp + rxp)
    (txp + rxl - txl - rxp - df * a / (2 ^ 49 + a)) / 2

/-- The servo gives its packet-time slot one output for a Sync (R214).
(DESIGN CHOICE, log entry 69) -/
def State.servoOutput (s : State) (i p : Nat) (down : Int) (log : Nat) : State :=
  let x := s.ptp i p
  let mean := match x.mean with
    | some m => m
    | none => 0
  let delay := mean + s.delayAsym p mean
  let every := logTicks (signed 8 log)
  let s := s.modPtp i p (fun y =>
    { y with sync := none, down := some down, offset := s.refineOffset p (down - delay) delay, every := some every })
  let slot := s.ptpItemOf i 7
  if slot = 0 then s
  else
    let s := { s with
      slotHeard := kput s.slotHeard slot s.ticks
      slotEvery := kput s.slotEvery slot every
      slotBound := kput s.slotBound slot p }
    s.showBws

/-- Whether a sender is the instance's parent: any, under external configuration. -/
def State.fromParent (s : State) (i p sender : Nat) : Bool :=
  s.ptpItemOf i 8 == 1 || (s.portBest i p).any (fun v => (v[5]?).getD 0 * 65536 + (v[6]?).getD 0 == sender)

/-- A Sync or its Follow_Up on the SLAVE port; `o` is where the message stands in the frame. -/
def State.takeSync (s : State) (i p : Nat) (f : Frame) (o : Nat) : State :=
  let b := f.bytes
  let master := (saOf b, ipSrc b (parseFrame true b))
  let corr := signed 64 (beAt b (o + 8) 8)
  let seq := beAt b (o + 30) 2
  let log := byteAt b (o + 33)
  let t2 := s.msgPoint p f.stamp
  if s.ptpState i p ≠ 9 ∨ !s.fromParent i p (beAt b (o + 20) 10) then s
  else if byteAt b o % 16 = 0 then
    let s := s.modPtp i p (fun x => { x with master := some master })
    if f.flags % 2 = 0 then s
    else if byteAt b (o + 6) / 2 % 2 = 1 then s.modPtp i p (fun x => { x with sync := some (seq, t2, corr, log) })
    else s.servoOutput i p ((t2 : Int) - timeAt b (o + 34) - corr) log
  else match (s.ptp i p).sync with
    | some (sq, at2, c2, lg) => if sq = seq then s.servoOutput i p ((at2 : Int) - timeAt b (o + 34) - c2 - corr) lg else s
    | none => s

/-- A Delay_Resp to the Delay_Req that is out gives the mean path delay. -/
def State.takeDelayResp (s : State) (i p : Nat) (b : List Byte) (o : Nat) : State :=
  let x := s.ptp i p
  let seq := beAt b (o + 30) 2
  if s.ptpState i p ≠ 9 ∨ x.asked ≠ some seq ∨ beAt b (o + 44) 10 ≠ s.portIdentity p then s
  else match s.fwStamp p 1 i seq with
    | none => s
    | some (st, t) =>
      let up : Int := (timeAt b (o + 34) : Int) - signed 64 (beAt b (o + 8) 8) - s.msgPoint p st.ts
      t.modPtp i p (fun y => { y with asked := none, mean := if st.flags % 2 = 1 then x.down.map (fun d => s.refineTrip p (d + up) / 2) else y.mean })

/-- A Pdelay_Req is answered in the peer profiles; its Follow_Up waits for the answer's stamp. -/
def State.takePdelayReq (s : State) (i p : Nat) (f : Frame) (o : Nat) : State :=
  if !peerProfile (s.ptpProfile i) ∨ f.flags % 2 = 0 then s
  else
    let b := f.bytes
    let seq := beAt b (o + 30) 2
    let t2 := s.msgPoint p f.stamp
    let frac : Int := (t2 % nsU : Nat)
    let corr := if s.ptpProfile i = 2 then frac else -frac
    let s := s.modPtp i p (fun y => { y with answer := some (seq, beAt b (o + 20) 10, signed 64 (beAt b (o + 8) 8)) })
    s.ptpSend i p true true (some (.firmware 3 i seq)) (s.ptpHead i p 3 54 0x0200 corr seq 5 0x7F ++ ptpTime t2 ++ beBytes (beAt b (o + 20) 10) 10)

/-- The link delay, from the four times of an exchange. -/
def State.pdelayDone (s : State) (i p seq : Nat) (t4 : Int) (turn corr : Int) : State :=
  match s.fwStamp p 2 i seq with
  | none => s
  | some (st, t) =>
    t.modPtp i p (fun y => { y with asked := none, pdelay := none, mean := some (s.refineTrip p (t4 - s.msgPoint p st.ts - turn - corr) / 2) })

/-- A Pdelay_Resp or its Follow_Up to the Pdelay_Req that is out. -/
def State.takePdelay (s : State) (i p : Nat) (f : Frame) (o : Nat) : State :=
  let b := f.bytes
  let x := s.ptp i p
  let seq := beAt b (o + 30) 2
  let c := signed 64 (beAt b (o + 8) 8)
  let corr := if s.ptpProfile i = 2 then -c else c
  if x.asked ≠ some seq ∨ beAt b (o + 44) 10 ≠ s.portIdentity p then s
  else if byteAt b o % 16 = 3 then
    let t4 := s.msgPoint p f.stamp
    if f.flags % 2 = 0 then s
    else if byteAt b (o + 6) / 2 % 2 = 1 then s.modPtp i p (fun y => { y with pdelay := some (seq, t4, timeAt b (o + 34), corr) })
    else s.pdelayDone i p seq t4 0 c
  else match x.pdelay with
    | some (sq, t4, t2, c2) => if sq = seq then s.pdelayDone i p seq t4 ((timeAt b (o + 34) : Int) - t2) (c + c2) else s
    | none => s

/-- The synchronisation metadata among the TLVs that start at `o` (R213); n bounds how many are looked at. -/
def smFind (b : List Byte) : Nat → Nat → Option (Nat × Nat × Nat)
  | 0, _ => none
  | n + 1, o =>
    if b.length < o + 4 then none
    else if beAt b o 2 = 3 ∧ beAt b (o + 4) 3 = 0x6897E8 ∧ beAt b (o + 7) 3 = 1 ∧ 19 + o ≤ b.length then
      some (beAt b (o + 10) 4, beAt b (o + 14) 4, byteAt b (o + 18))
    else smFind b n (o + 4 + beAt b (o + 2) 2)

/-- An instance of the SMPTE profile reports the metadata a message carries. -/
def State.takeSm (s : State) (i p : Nat) (b : List Byte) (o : Nat) : State :=
  if s.ptpProfile i ≠ 3 then s
  else match smFind b 8 o with
    | some m => s.modPtp i p (fun x => { x with sm := some m })
    | none => s

/-- An Announce updates the foreign masters of its port, and the BMCA runs. -/
def State.takeAnnounce (s : State) (i p : Nat) (b : List Byte) (o : Nat) : State :=
  let sender := beAt b (o + 20) 8
  let vec := [byteAt b (o + 47), beAt b (o + 48) 4, byteAt b (o + 52), beAt b (o + 53) 8, beAt b (o + 61) 2, sender, beAt b (o + 28) 2]
  if sender = s.clockId ∨ 255 ≤ beAt b (o + 61) 2 then s
  else
    let same := fun (f : PtpForeign) => f.vec.drop 5 == vec.drop 5
    let x := s.ptp i p
    let old := (x.foreign.find? same).map (fun f => f.at_)
    let new : PtpForeign := { vec := vec, at_ := (s.ticks :: old.getD []).take 2 }
    (s.modPtp i p (fun y => { y with heardAt := s.ticks, foreign := y.foreign.filter (fun f => !same f) ++ [new] })).bmca i none

/-- The instance a message is for: its domain, transport and majorSdoId. -/
def State.ptpInstFor (s : State) (p : Nat) (b : List Byte) (q : Parsed) (o : Nat) : Option Nat :=
  (s.instancesOf p).find? (fun i => s.ptpRuns i p && s.ptpItemOf i 3 == byteAt b (o + 4) &&
    s.ptpItemOf i 4 == (if q.etype = 0x88F7 then 0 else if q.ip = 4 then 1 else 2) &&
    byteAt b o / 16 == sdoOf (s.ptpProfile i) && byteAt b (o + 1) % 16 == 2)

/-- The message types a port that is not accepted refuses: Sync, Follow_Up, Delay_Resp and Announce (R322). -/
def refusable (type : Nat) : Bool := type == 0 || type == 8 || type == 9 || type == 0xB

/-- The stack takes a message. -/
def ptpTake (f : Frame) (s : State) : State :=
  let b := f.bytes
  let q := parseFrame true b
  let p := f.inPort
  match ptpOffset q with
  | none => s
  | some o =>
    let type := byteAt b o % 16
    if 258 ≤ p then s
    else if refusable type && s.portRefused p then s.bump (Fld.CLM_DOM_REFUSED_COUNT (s.claimDom p)) 1
    else match s.ptpInstFor p b q o with
      | none => s
      | some i =>
        match type with
        | 0 | 8 => s.takeSync i p f o
        | 9 => s.takeDelayResp i p b o
        | 2 => s.takePdelayReq i p f o
        | 3 | 0xA => s.takePdelay i p f o
        | 0xB => (s.takeSm i p b (o + 64)).takeAnnounce i p b o
        | _ => s

/-- PTP_MESSAGE (R214, R322): the first PTP message that waits at port 259. -/
def execPtpMessage (dt : Nat) (s : State) : Host.Outcome State Fault Refusal :=
  effect dt (fun s => s.svcRun 1 ptpTake) s

/-- No Announce for ANNOUNCE_TIMEOUT announce intervals (R426). -/
def announceTimeout (i p : Nat) (s : State) : State :=
  (s.modPtp i p (fun x => { x with foreign := [], heardAt := s.ticks })).bmca i (some p)

/-- ANNOUNCE_RECEIPT_TIMEOUT (R426): a port in LISTENING, SLAVE or PASSIVE. -/
def execAnnounceReceiptTimeout (dt i p : Nat) (s : State) : Host.Outcome State Fault Refusal :=
  effect dt (fun s => onlyIf (s.ptpRuns i p && s.ptpState i p != 3 &&
    decide ((s.ptp i p).heardAt + (s.ptpPortOf p 5).toNat * s.ptpTicks p 3 ≤ s.ticks)) (announceTimeout i p) s) s

/-! ## Management (R427) -/

/-- The data of a data set the stack answers with. -/
def State.dataSet (s : State) (i p id : Nat) : Option (List Byte) :=
  let v := s.announced i
  let n := fun k => (v[k]?).getD 0
  let x := s.ptp i p
  let slave := s.slaveOf i
  let y := match slave with
    | some k => s.ptp i k
    | none => {}
  match id with
  | 0x2000 => some (beBytes 1 1 ++ zeros 1 ++ beBytes (s.portsOfInst i).length 2 ++ beBytes (s.ptpItemOf i 5) 1 ++
      beBytes Config.ptpQuality 4 ++ beBytes (s.ptpItemOf i 6) 1 ++ beBytes s.clockId 8 ++ beBytes (s.ptpItemOf i 3) 1 ++ zeros 1)
  | 0x2001 => some (beBytes (n 4) 2 ++ beBytes (unsigned 64 y.offset) 8 ++ beBytes (unsigned 64 (y.mean.getD 0)) 8)
  | 0x2002 =>
    let parent := match s.parentVec i with
      | some w => beBytes ((w[5]?).getD 0) 8 ++ beBytes ((w[6]?).getD 0) 2
      | none => beBytes s.clockId 8 ++ beBytes 0 2
    some (parent ++ zeros 2 ++ beBytes 0xFFFF 2 ++ beBytes 0x7FFFFFFF 4 ++ beBytes (n 0) 1 ++ beBytes (n 1) 4 ++ beBytes (n 2) 1 ++
      beBytes (n 3) 8)
  | 0x2003 => some (beBytes 0 2 ++ beBytes 8 1 ++ beBytes 0xA0 1)
  | 0x2004 => some (beBytes (s.portIdentity p) 10 ++ beBytes (s.ptpState i p) 1 ++ beBytes (unsigned 8 (s.ptpPortOf p 4)) 1 ++
      beBytes (unsigned 64 (x.mean.getD 0)) 8 ++ beBytes (unsigned 8 (s.ptpPortOf p 3)) 1 ++ beBytes (s.ptpPortOf p 5).toNat 1 ++
      beBytes (unsigned 8 (s.ptpPortOf p 2)) 1 ++ beBytes (if peerProfile (s.ptpProfile i) then 2 else 1) 1 ++
      beBytes (unsigned 8 (s.ptpPortOf p 4)) 1 ++ beBytes 0x12 1)
  | _ => none

/-- The stack answers a management message: a GET of a data set with RESPONSE, another request with NOT_SUPPORTED. -/
def ptpManage (f : Frame) (s : State) : State :=
  let b := f.bytes
  let q := parseFrame true b
  let p := f.inPort
  match ptpOffset q with
  | none => s
  | some o =>
    let act := byteAt b (o + 46) % 16
    let id := beAt b (o + 52) 2
    match (if 258 ≤ p then none else s.ptpInstFor p b q o) with
    | none => s
    | some i =>
      let s := s.takeSm i p b (o + 48)
      if act ≠ 0 ∧ act ≠ 1 ∧ act ≠ 3 then s
      else
        let tlv := match (if act = 0 then s.dataSet i p id else none) with
          | some d => beBytes 1 2 ++ beBytes (2 + d.length) 2 ++ beBytes id 2 ++ d
          | none => beBytes 2 2 ++ beBytes 8 2 ++ beBytes 6 2 ++ beBytes id 2 ++ zeros 4
        let reply := if act = 3 then 4 else 2
        s.ptpSend i p false false none (s.ptpHead i p 0xD (48 + tlv.length) 0 0 (beAt b (o + 30) 2) 4 0x7F ++
          beBytes (beAt b (o + 20) 10) 10 ++ beBytes 0 2 ++ beBytes reply 1 ++ zeros 1 ++ tlv)

/-- PTP_MANAGEMENT (R427): the first management message that waits at port 259. -/
def execPtpManagement (dt : Nat) (s : State) : Host.Outcome State Fault Refusal :=
  effect dt (fun s => s.svcRun 2 ptpManage) s

end Sys2Proof.Machine
end

