-- ==== Sys2Proof/Machine/Hostif.lean ====
section
/-!
DEFINITION. Hostif.lean: the mailboxes' registers (R385 to R388), messages to the host (R391, R392), the DMA rings (R394 to
R404) and a function level reset (R379).
-/
namespace Sys2Proof.Machine

/-! ## The PCIe functions (R376) -/

/-- Vendor ID of both functions; Device ID and class code of function f, the Device ID by member. Subsystem IDs equal these. -/
def pcieVendor : Nat := 0x1F3B
def pcieDevice (m : Member) (f : Nat) : Nat :=
  (if f = 0 then 0xC0D0 else 0xC1D0) + (match m with
    | .d2 => 2
    | .d4 => 4
    | .d8 => 8)
def pcieClass (f : Nat) : Nat := if f = 0 then 0x020000 else 0x088000

/-- The bytes a memory request may carry, and ask for. -/
def pcieMaxPayload : Nat := 512
def pcieMaxRead : Nat := 4096

/-! ## Mailboxes (R387) -/

/-- The requests waiting once a mailbox is given GO (R388): in the order of GO; in one cycle, S0 to S3 before NS0 to NS3. -/
def State.goOrder (s : State) (m : Nat) : List Nat :=
  let rank := fun (x : Nat) => if 4 ≤ x then x - 4 else x + 4
  let ahead := fun (x : Nat) => decide (kget s.goAt x 0 < s.ticks) || decide (rank x < rank m)
  s.mbxQueue.takeWhile ahead ++ m :: s.mbxQueue.dropWhile ahead

/-- A write of DOORBELL. -/
def mbxSubmit (m : Nat) (w : Word) (s : State) : State :=
  if bitsOf w 31 1 = 0 then s
  else if s.on (Fld.MBX_STATUS_BUSY m) || s.on (Fld.MBX_STATUS_RESP_READY m) then s.raise (Fld.MBX_STATUS_OVERRUN m)
  else { s with mbxQueue := s.goOrder m, goAt := kput s.goAt m s.ticks }.raise (Fld.MBX_STATUS_BUSY m)

/-- MAILBOX_SUBMIT (R387): DOORBELL is written with GO = 1. -/
def execMailboxSubmit (dt : Nat) (src : Src) (m : Nat) (s : State) : Host.Outcome State Fault Refusal :=
  effect dt (onlyIf (decide (m < 8)) (fun s => s.guarded src (Reg.MBX_DOORBELL m) (mbxSubmit m 0x80000000#32))) s

/-- A write of STATUS clears the bits written 1; RESP_READY = 1 releases the mailbox. -/
def mbxStatusWrite (m : Nat) (w : Word) (s : State) : State :=
  let s := s.set (Reg.MBX_STATUS m) (s.get (Reg.MBX_STATUS m) &&& ~~~(w &&& 0xE#32))
  if bitsOf w 1 1 = 1 then { s with quiet := s.quiet.filter (fun x => x != m) } else s

/-- MAILBOX_RELEASE (R387). -/
def execMailboxRelease (dt : Nat) (src : Src) (m : Nat) (s : State) : Host.Outcome State Fault Refusal :=
  effect dt (onlyIf (decide (m < 8)) (fun s => s.guarded src (Reg.MBX_STATUS m) (mbxStatusWrite m 2#32))) s

/-- A write of the request buffer: discarded while BUSY. -/
def mbxReqWrite (m a : Nat) (w : Word) (s : State) : State :=
  if s.on (Fld.MBX_STATUS_BUSY m) then s.raise (Fld.MBX_STATUS_WR_LOCKED m) else s.set a w

/-! ## Messages (R391, R392) -/

/-- The configuration bits of a vector's function as the host has set them.
(PRESUMED, log entry 22) -/
def setFn (v : Nat) (f : PcieFn) (s : State) : State := if v < 24 then { s with fn0 := f } else { s with fn1 := f }

/-- MSIX_PENDING_SEND (R392): the function's configuration bits now; a held message leaves when they and the masks allow. -/
def execMsixPendingSend (dt v : Nat) (en busMaster masked : Bool) (s : State) : Host.Outcome State Fault Refusal :=
  effect dt (fun s => onlyIf (decide (v < 32) && s.domOn 4) (fun s =>
    let s := setFn v { msixEn := en, busMaster := busMaster, masked := masked } s
    if s.on (pbaBit v) then s.signalVector v else s) s) s

/-! ## Rings (R394, R395) -/

/-- A ring: q = 0 transmit, 1 receive; its record, its size, its world (1 secure). -/
def ringKey (q r : Nat) : Nat := 16 * q + r
def State.ring (s : State) (q r : Nat) : RingSt := kget s.rings (ringKey q r) {}
def State.modRing (s : State) (q r : Nat) (f : RingSt → RingSt) : State :=
  { s with rings := kput s.rings (ringKey q r) (f (s.ring q r)) }
def State.ringSize (s : State) (q r : Nat) : Nat := 2 ^ s.fld (Fld.RING_LOG2_LOG2 q r)
def State.ringWorld (s : State) (q r : Nat) : Nat :=
  if s.fldBit (if q = 0 then Fld.DMA_WORLD_TX else Fld.DMA_WORLD_RX) r then 1 else 0
def State.ringOn (s : State) (q r : Nat) : Bool := s.on (Fld.RING_CTRL_EN q r)
def State.ringHead (s : State) (q r : Nat) : Nat := s.fld (Fld.RING_HEAD_HEAD q r)
def State.ringTail (s : State) (q r : Nat) : Nat := s.fld (Fld.RING_TAIL_TAIL q r)
def State.ringErr (s : State) (q r : Nat) : State := s.raise (Fld.RING_STAT_CFG_ERR q r)

/-- The address of a slot's descriptor in host memory. -/
def State.slotAddr (s : State) (q r slot : Nat) : Nat := s.getWide (Reg.RING_BASE0 q r) 2 / 4096 * 4096 + 32 * slot

/-- The ring signals (R392, R404). -/
def State.ringSignal (s : State) (q r : Nat) : State :=
  let s := s.modRing q r (fun x => { x with unsignalled := 0 })
  if s.on (Fld.RING_CTRL_VEC_EN q r) then s.signalVector (s.fld (Fld.RING_CTRL_VEC q r))
  else s.setFldBit (if q = 0 then Fld.DMA_TX_EVT_RING else Fld.DMA_RX_EVT_RING) r true

/-- A slot is written back: the words in host memory, HEAD, then the signal when it is due (R402, R404). -/
def State.writeBack (s : State) (q r slot : Nat) (words : List Word) : State :=
  let s := s.emit (.hostWrite (s.ringWorld q r) (s.slotAddr q r slot) (bytesOf words))
  let s := s.setFld (Fld.RING_HEAD_HEAD q r) ((slot + 1) % s.ringSize q r)
  let x := s.ring q r
  let s := s.modRing q r (fun y => { y with unsignalled := x.unsignalled + 1, since := if x.unsignalled = 0 then s.ticks else x.since })
  if s.fld (Fld.RING_SIG_N q r) ≤ x.unsignalled + 1 then s.ringSignal q r else s

/-- RING_SIGNAL_TIMER (R404). -/
def execRingSignalTimer (dt q r : Nat) (s : State) : Host.Outcome State Fault Refusal :=
  effect dt (fun s => onlyIf (decide (q < 2) && decide (r < 16) && s.domOn 4 && s.fld (Fld.RING_SIG_T q r) != 0 &&
    decide (0 < (s.ring q r).unsignalled) && decide ((s.ring q r).since + s.fld (Fld.RING_SIG_T q r) * usT ≤ s.ticks))
    (fun s => s.ringSignal q r) s) s

/-- A transmit ring whose write-backs have caught up after a stop is idle (R403).
(DESIGN CHOICE, log entry 116) -/
def State.ringIdle (s : State) (r : Nat) : State :=
  if !s.ringOn 0 r && (s.ring 0 r).fetched.isEmpty then s.raise (Fld.RING_STAT_STOPPED 0 r) else s

/-- A ring stops (R403): every posted descriptor not yet fetched is to be written back ABORTED.
(DESIGN CHOICE, log entry 116) -/
def State.ringStop (s : State) (q r : Nat) : State :=
  let s := s.setFld (Fld.RING_CTRL_EN q r) 0
  if q = 1 then s.raise (Fld.RING_STAT_STOPPED 1 r)
  else
    let x := s.ring 0 r
    let size := s.ringSize 0 r
    let n := (s.ringTail 0 r + size - x.next) % size
    let aborted := (List.range n).map (fun k => ({ slot := (x.next + k) % size, res := some (5, 0, 0, 0, 0) } : Desc))
    (s.modRing 0 r (fun y => { y with fetched := y.fetched ++ aborted, next := s.ringTail 0 r })).ringIdle r

/-- The ring starts: it fetches from HEAD. -/
def State.ringStart (s : State) (q r : Nat) : State :=
  (s.setFld (Fld.RING_STAT_STOPPED q r) 0).modRing q r (fun x =>
    { x with next := if x.fetched.isEmpty then s.ringHead q r else x.next })

/-- A write of CTRL (R395, R403, R404).
(DESIGN CHOICE, log entry 115) -/
def ringCtrlWrite (q r : Nat) (w : Word) (s : State) : State :=
  let on := s.ringOn q r
  let size := bitsOf w 8 4
  let vec := bitsOf w 24 5
  let world := s.ringWorld q r
  let bad := (decide (24 ≤ vec) != (world == 1)) ||
    (q == 1 && ((on && size != s.fld (Fld.RING_CTRL_BUF_SIZE q r)) || size == 1)) || (q == 0 && bitsOf w 0 8 == 0)
  if bad then s.ringErr q r
  else
    let en := bitsOf w 31 1 == 1
    let s := (s.storeRw (Reg.RING_CTRL q r) w).setBit (Fld.RING_CTRL_EN q r) on
    if en && !on then (s.setFld (Fld.RING_CTRL_EN q r) 1).ringStart q r
    else if !en && on then s.ringStop q r
    else s

/-- A write of a ring's TAIL (R395). -/
def ringTailWrite (q r : Nat) (w : Word) (s : State) : State :=
  if s.ringSize q r ≤ bitsOf w 0 16 then s.ringErr q r else s.setFld (Fld.RING_TAIL_TAIL q r) (bitsOf w 0 16)

/-- TAIL_WRITE (R395). -/
def execTailWrite (dt : Nat) (src : Src) (q r : Nat) (w : Word) (s : State) : Host.Outcome State Fault Refusal :=
  effect dt (onlyIf (decide (q < 2) && decide (r < 16)) (fun s => s.guarded src (Reg.RING_TAIL q r) (ringTailWrite q r w))) s

/-- A write of another ring register: 0 and 1 BASE, 2 LOG2, 6 SIG.
(DESIGN CHOICE, log entry 115) -/
def ringWrite (q r i : Nat) (w : Word) (s : State) : State :=
  match i with
  | 0 =>
    let a := Reg.RING_BASE0 q r
    let v := s.wideValue a 2 w
    let s := s.dropHeld a 2
    if s.ringOn q r then s.ringErr q r else s.setWide a 2 v
  | 2 => if s.ringOn q r ∨ bitsOf w 0 5 < 6 ∨ 16 < bitsOf w 0 5 then s.ringErr q r else s.setFld (Fld.RING_LOG2_LOG2 q r) (bitsOf w 0 5)
  | 3 => ringTailWrite q r w s
  | 5 => ringCtrlWrite q r w s
  | 6 => if 1000 < bitsOf w 16 16 ∨ bitsOf w 0 8 = 0 then s.ringErr q r else s.storeRw (Reg.RING_SIG q r) w
  | _ => s

/-- RING_DISABLE (R403): CTRL is written with EN = 0 and its other fields unchanged. -/
def execRingDisable (dt : Nat) (src : Src) (q r : Nat) (s : State) : Host.Outcome State Fault Refusal :=
  effect dt (onlyIf (decide (q < 2) && decide (r < 16)) (fun s =>
    s.guarded src (Reg.RING_CTRL q r) (fun s => if s.ringOn q r then s.ringStop q r else s))) s

/-- A PCIe error stops a ring (R403). -/
def dmaError (q r : Nat) (s : State) : State :=
  let s := (s.ringStop q r).raise (Fld.RING_STAT_FETCH_ERR q r)
  s.setFldBit (if q = 0 then Fld.DMA_ERR_EVT_TX else Fld.DMA_ERR_EVT_RX) r true

/-- DMA_PCIE_ERROR (R403): on a ring that is not idle. -/
def execDmaPcieError (dt q r : Nat) (s : State) : Host.Outcome State Fault Refusal :=
  effect dt (fun s => onlyIf (decide (q < 2) && decide (r < 16) && s.domOn 4 && !s.on (Fld.RING_STAT_STOPPED q r)) (dmaError q r) s) s

/-- A write of DMA.WORLD (R394): it changes the world of no running ring. -/
def dmaWorldWrite (w : Word) (s : State) : State :=
  let old := (s.get Reg.DMA_WORLD).toNat
  let moved := fun (i : Nat) => decide (old / 2 ^ i % 2 ≠ w.toNat / 2 ^ i % 2)
  let hit := (List.range 32).filter (fun i => moved i && s.ringOn (i / 16) (i % 16))
  if hit = [] then s.set Reg.DMA_WORLD w else s.forAll hit (fun i s => s.ringErr (i / 16) (i % 16))

/-- A write of RX_MAP or RX_MAP2 (R400): a non-secure write of an entry that names a secure ring is discarded. -/
def rxMapWrite (src : Src) (second : Bool) (w : Word) (s : State) : State :=
  let a := if second then Reg.DMA_RX_MAP2 else Reg.DMA_RX_MAP
  (List.range (if second then 2 else 8)).foldl (fun s i =>
    let v := bitsOf w (4 * i) 4
    if s.ringWorld 1 v = 1 ∧ !secureSrc src then s.ringErr 1 v else s.setFld ⟨a, 4 * i, 4⟩ v)
    (if second then s.setFld ⟨a, 8, 2⟩ (bitsOf w 8 2) else s)

/-! ## Transmit (R396 to R399) -/

/-- A transmit ring is ready: it has a posted descriptor within 16 of HEAD. -/
def State.txReady (s : State) (r : Nat) : Bool :=
  let size := s.ringSize 0 r
  let next := (s.ring 0 r).next
  s.ringOn 0 r && next != s.ringTail 0 r && decide ((next + size - s.ringHead 0 r) % size < 16)

/-- The ring whose turn it is: the highest PRIO, in rotation within it (R399). -/
def State.txPick (s : State) : Option Nat :=
  let ready := (List.range 16).filter (fun r => s.txReady r)
  let prio := fun r => s.fld (Fld.RING_CTRL_PRIO 0 r)
  let top := ready.foldl (fun a r => max a (prio r)) 0
  let from1 := match kfind s.txTurn top with
    | some r => r + 1
    | none => 0
  ((List.range 16).map (fun k => (from1 + k) % 16)).find? (fun r => ready.contains r && prio r == top)

/-- Field bits of a descriptor's words. -/
def dw (d : List Word) (i lo len : Nat) : Nat := bitsOf ((d[i]?).getD 0#32) lo len

/-- The launch time of a descriptor. -/
def descLaunch (d : List Word) : Option Nat := timeOfRaw (dw d 4 0 32 + 2 ^ 32 * dw d 5 0 32 + 2 ^ 64 * dw d 6 0 32)

/-- Whether a descriptor is refused (R397). -/
def State.descBad (s : State) (d : List Word) : Bool :=
  let len := dw d 2 0 14
  let p := dw d 3 0 9
  let named := dw d 3 16 1 == 1
  decide (len < 14) || decide (9212 < len) || dw d 2 14 2 != 0 || dw d 3 9 3 != 0 || dw d 3 15 1 != 0 || dw d 3 21 11 != 0 ||
    dw d 7 0 31 != 0 || (named && !((s.namesPort p && decide (p < 256) && s.inService (p / 32)) || p == 256 || p == 257)) ||
    (dw d 3 18 1 == 1 && !named) || (dw d 3 19 1 == 1 && (descLaunch d).isNone)

/-- The frame a descriptor sends (R129, R396). -/
def State.descFrame (s : State) (r slot : Nat) (d : List Word) (bytes : List Byte) : Frame :=
  let len := dw d 2 0 14
  { id := s.frames, bytes := padTo60 ((bytes ++ zeros len).take len), inPort := 258, stamp := s.now, flags := s.synthFlags
    tc := if dw d 3 17 1 = 1 then some (dw d 3 12 3) else none
    launch := if dw d 3 19 1 = 1 then (descLaunch d).map (fun t => (t, dw d 3 20 1 == 1)) else none
    mark := if dw d 3 18 1 = 1 then some (.ring r slot (dw d 2 16 16)) else none }

/-- A frame with a named port takes its class and bypasses lookup (R27, R397). -/
def State.sendNamed (s : State) (f : Frame) (p : Nat) : State :=
  let f := match s.homeLeaf 2 with
    | some n => (s.classify n f).1
    | none => { f with cls := f.tc.getD 0 }
  { s with frames := s.frames + 1 }.forward 8 { f with dest := [p], raw := true }

/-- The engine takes the next descriptor of the ring whose turn it is, and sends its frame.
(DESIGN CHOICE, log entry 117) -/
def descriptorFetch (d : List Word) (bytes : List Byte) (s : State) : State :=
  match s.txPick with
  | none => s
  | some r =>
    let slot := (s.ring 0 r).next
    let bad := s.descBad d
    let ts := dw d 3 18 1 == 1
    let res := if bad then some (4, 0, 0, 0, 0) else if ts then none else some (0, 0, 0, 0, 0)
    let x : Desc := { slot := slot, tsReq := ts && !bad, tag := dw d 2 16 16, readAt := s.ticks, res := res }
    let s := s.modRing 0 r (fun y => { y with fetched := y.fetched ++ [x], next := (slot + 1) % s.ringSize 0 r })
    let s := { s with txTurn := kput s.txTurn (s.fld (Fld.RING_CTRL_PRIO 0 r)) r }
    if bad then s.bump (Fld.RING_DROPS_TOO_LONG 0 r) 1
    else
      let f := s.descFrame r slot d bytes
      if dw d 3 16 1 = 1 then s.sendNamed f (dw d 3 0 9) else s.toHeader f s.phys

/-- DESCRIPTOR_FETCH (R397, R399): the eight words of the descriptor and the bytes of its buffer, as host memory holds them. -/
def execDescriptorFetch (dt : Nat) (d : List Word) (bytes : List Byte) (s : State) : Host.Outcome State Fault Refusal :=
  effect dt (fun s => onlyIf (s.domOn 4) (descriptorFetch d bytes) s) s

/-- The words of a transmit write-back (R398). -/
def txWords (x : Desc) (res : Nat × Nat × Nat × Nat × Nat) : List Word :=
  let (st, ts, fl, drop, p) := res
  let stamp := if st = 1 then timeWords ts else [0#32, 0#32, 0#32]
  stamp ++ [BitVec.ofNat 32 (x.tag + 2 ^ 16 * (if st = 1 then fl % 16 else 0) + 2 ^ 20 * st + 2 ^ 24 * (if st = 2 then drop else 0)),
    BitVec.ofNat 32 (if st = 1 then p else 0), 0#32, 0#32, 0x80000000#32]

/-- The oldest fetched descriptor of a ring is written back once its outcome is known (R398). -/
def txWriteback (r : Nat) (s : State) : State :=
  match (s.ring 0 r).fetched with
  | [] => s
  | x :: rest =>
    match x.res with
    | none => s
    | some res => ((s.modRing 0 r (fun y => { y with fetched := rest })).writeBack 0 r x.slot (txWords x res)).ringIdle r

/-- TX_WRITEBACK (R398). -/
def execTxWriteback (dt r : Nat) (s : State) : Host.Outcome State Fault Refusal :=
  effect dt (fun s => onlyIf (decide (r < 16) && s.domOn 4) (txWriteback r) s) s

/-- Descriptors that wait longer than TS_TIMEOUT for a stamp wait no more (R398). -/
def tsTimeout (r : Nat) (s : State) : State :=
  let d := s.fld (Fld.RING_CTRL_TS_TIMEOUT 0 r) * msT
  let late := fun (x : Desc) => if x.res = none ∧ x.readAt + d ≤ s.ticks then { x with res := some (3, 0, 0, 0, 0) } else x
  s.modRing 0 r (fun y => { y with fetched := y.fetched.map late })

/-- TS_TIMEOUT (R398). -/
def execTsTimeout (dt r : Nat) (s : State) : Host.Outcome State Fault Refusal :=
  effect dt (fun s => onlyIf (decide (r < 16) && s.domOn 4) (tsTimeout r) s) s

/-! ## Receive (R400, R401) -/

/-- The ring a frame for port 258 goes to. -/
def State.rxRing (s : State) (f : Frame) : Nat :=
  if f.why = 4 ∧ s.on Fld.DMA_RX_MAP2_TRAP_OVR then s.fld Fld.DMA_RX_MAP2_TRAP_RING
  else if f.why = 5 ∧ s.on Fld.DMA_RX_MAP2_ORIGIN_OVR then s.fld Fld.DMA_RX_MAP2_ORIGIN_RING
  else s.fld ⟨Reg.DMA_RX_MAP, 4 * f.cls, 4⟩

/-- Bytes a receive buffer of a ring holds. -/
def State.bufBytes (s : State) (r : Nat) : Nat :=
  let k := s.fld (Fld.RING_CTRL_BUF_SIZE 1 r)
  (if k = 0 then 16 else k) * 1024

/-- The head frame of a class waits for a descriptor. -/
def State.rxWaits (s : State) (f : Frame) : Bool :=
  let r := s.rxRing f
  s.ringOn 1 r && decide ((s.egressBytes f 258).length ≤ s.bufBytes r) && s.ringHead 1 r == s.ringTail 1 r

/-- The class served next: the highest whose head frame does not wait. -/
def State.rxClass (s : State) : Option Nat :=
  [7, 6, 5, 4, 3, 2, 1, 0].find? (fun c => (s.queue 258 c).head?.any (fun x => !s.rxWaits x.f))

/-- The words of a receive write-back (R401). -/
def rxWords (f : Frame) (len : Nat) : List Word :=
  let w := fun (v : Nat) => BitVec.ofNat 32 v
  timeWords f.stamp ++ [w (len + 2 ^ 16 * (f.flags % 16) + 2 ^ 20 * f.why + 2 ^ 24 * (if f.why = 4 then f.row else 0) + 2 ^ 28 * f.cls),
    w (f.inPort + 2 ^ 16 * f.vid), w (f.stream.getD 0 + (if f.stream.isSome then 2 ^ 15 else 0)), 0#32, 0x80000000#32]

/-- The next frame for port 258 is delivered to a buffer, or discarded.
(DESIGN CHOICE, log entry 60; DESIGN CHOICE, log entry 117) -/
def rxDelivery (buf : Nat) (s : State) : State :=
  match s.rxClass with
  | none => s
  | some c =>
    match s.queue 258 c with
    | [] => s
    | x :: rest =>
      let r := s.rxRing x.f
      let b := s.egressBytes x.f 258
      let s := s.setQueue 258 c rest
      if !s.ringOn 1 r then (s.freeCells 258 c x.f).bump (Fld.RING_DROPS_RING_OFF 1 r) 1
      else if s.bufBytes r < b.length then (s.freeCells 258 c x.f).bump (Fld.RING_DROPS_TOO_LONG 1 r) 1
      else
        let s := (s.takenAt 258 x).emit (.hostWrite (s.ringWorld 1 r) buf b)
        s.writeBack 1 r (s.ringHead 1 r) (rxWords x.f b.length)

/-- RX_DELIVERY (R400): `buf` is the address the ring's next descriptor holds. -/
def execRxDelivery (dt buf : Nat) (s : State) : Host.Outcome State Fault Refusal :=
  effect dt (fun s => onlyIf (s.domOn 4) (rxDelivery buf) s) s

/-! ## Function level reset (R379) -/

/-- A mailbox is cleared: no request, no response, its registers and buffers at reset.
(PRESUMED, log entry 23) -/
def State.mbxClear (s : State) (m : Nat) : State :=
  let lo := Reg.MBX_DOORBELL m
  let paused := s.on (Fld.MBX_STATUS_PAUSED m)
  let s := { s with regs := s.regs.filter (fun (e : Nat × Word) => decide (e.1 < lo) || decide (lo + 0x3000 ≤ e.1))
                    mbxQueue := s.mbxQueue.filter (fun x => x != m), quiet := s.quiet.filter (fun x => x != m) }
  s.setBit (Fld.MBX_STATUS_PAUSED m) paused

/-- The function of world f is reset: its rings stop, its mailboxes are cleared, its vectors masked.
(PRESUMED, log entry 23) -/
def functionReset (f : Nat) (s : State) : State :=
  let s := s.forAll (List.range 32) (fun i s =>
    if s.ringWorld (i / 16) (i % 16) = f ∧ s.ringOn (i / 16) (i % 16) then s.ringStop (i / 16) (i % 16) else s)
  let s := s.forAll (List.range 4) (fun m s => s.mbxClear (4 * f + m))
  let s := s.forAll (List.range (if f = 0 then 24 else 8)) (fun v s => s.raise ⟨msixEntry (24 * f + v) 3, 0, 1⟩)
  if f = 0 then { s with fn0 := {} } else { s with fn1 := {} }

/-- FUNCTION_LEVEL_RESET (R379): of PF0 or PF1. -/
def execFunctionLevelReset (dt f : Nat) (s : State) : Host.Outcome State Fault Refusal :=
  effect dt (fun s => onlyIf (decide (f < 2) && s.domOn 4) (functionReset f) s) s

end Sys2Proof.Machine
end

