-- ==== Sys2Proof/Machine/Access.lean ====
section
/-!
DEFINITION. Access.lean: what a write to and a read of any register does (R8 to R11, R25, R33 to R41), the event
controller's registers (R464 to R466), SPI frames (R381 to R383) and I2C transactions (R384).
-/
namespace Sys2Proof.Machine

/-! ## Which register an address names -/

/-- The instance an address names among n registers with a stride. -/
def instAt (a base st n : Nat) : Option Nat :=
  if base ≤ a ∧ (a - base) % st = 0 ∧ (a - base) / st < n then some ((a - base) / st) else none

/-- The lane or port g and the offset inside its instance of a block: `off` is the block's offset in a Leaf window, `spine` its
base for ports 256 and 257 (R29, R467). -/
def unitAt (a off st spine : Nat) : Option (Nat × Nat) :=
  if 0x1000000 ≤ a ∧ a < 0x3000000 then
    let n := (a - 0x1000000) / 0x400000
    let o := (a - 0x1000000) % 0x400000
    if off ≤ o ∧ o < off + 32 * st then some (32 * n + (o - off) / st, (o - off) % st) else none
  else if spine ≤ a ∧ a < spine + 2 * st then some (256 + (a - spine) / st, (a - spine) % st)
  else none

/-- The Leaf of an address and its offset in the Leaf's window. -/
def leafWin (a : Nat) : Option (Nat × Nat) :=
  if 0x1000000 ≤ a ∧ a < 0x3000000 then some ((a - 0x1000000) / 0x400000, (a - 0x1000000) % 0x400000) else none

/-- What a write does, where a rule of its block says more than the access types do. -/
abbrev Write := Option (State → State)

def forReg (a b : Nat) (f : State → State) : Write := if a = b then some f else none
def forEach (a base st n : Nat) (f : Nat → State → State) : Write := (instAt a base st n).map f

/-- The first rule that concerns the address. -/
def firstRule (l : List Write) : Write := l.findSome? id

/-- A write that a rule discards with an error bit, else one by the access types.
(DESIGN CHOICE, log entry 25) -/
def orError (bad : Bool) (f : FRef) (go : State → State) (s : State) : State := if bad then s.raise f else go s

/-! ## Writes by access type (R9 to R11) -/

/-- A write of a register by the access types of its fields. An upper word of a wide value is held; the lowest word
commits the whole value. -/
def plainWrite (a : Nat) (w : Word) (s : State) : State :=
  let m := fun l => BitVec.ofNat 32 (accMask l a)
  match rowOf a with
  | none => s
  | some r =>
    if r.wide.2 ≤ 1 then
      let v := ((s.get a &&& ~~~(m [.rw, .wo])) ||| (w &&& m [.rw])) &&& ~~~(w &&& m [.wc])
      s.set a (v ||| (w &&& m [.ws]))
    else if m [.rw] = 0#32 then s
    else if r.wide.1 = 0 then
      let v := s.wideValue a r.wide.2 (w &&& m [.rw])
      (s.dropHeld a r.wide.2).setWide a r.wide.2 v
    else { s with held := kput s.held a (w &&& m [.rw]) }

/-! ## The event controller (R464 to R466) -/

/-- Whether a source of events is shown to a requester: one routed secure shows to the secure core only (R466).
(DEDUCED, log entry 20) -/
def State.evtVisible (s : State) (src : Src) (i : Nat) : Bool := secureSrc src || !s.on (Fld.EVT_ROUTE_WORLD i)

/-- The bits of word k that a requester sees. -/
def State.evtMask (s : State) (src : Src) (k : Nat) : Nat :=
  (List.range 32).foldl (fun m b => if s.evtVisible src (32 * k + b) then m + 2 ^ b else m) 0

/-- A write of RAW clears the latched sources 0 and 18 (R460). -/
def evtRawWrite (src : Src) (k : Nat) (w : Word) (s : State) : State :=
  let m := if k = 0 then BitVec.ofNat 32 (s.evtMask src 0 &&& (2 ^ 0 + 2 ^ 18)) else 0#32
  s.set (Reg.EVT_RAW k) (s.get (Reg.EVT_RAW k) &&& ~~~(w &&& m))

/-- Bits of word k whose sources assert (R460). -/
def evtExists (k : Nat) : Nat := (List.range 32).foldl (fun m b => if srcExists (32 * k + b) then m + 2 ^ b else m) 0

/-- A write of ENABLE (R464, R466). -/
def evtEnableWrite (src : Src) (k : Nat) (w : Word) (s : State) : State :=
  let m := BitVec.ofNat 32 (s.evtMask src k &&& evtExists k)
  s.set (Reg.EVT_ENABLE k) ((s.get (Reg.EVT_ENABLE k) &&& ~~~m) ||| (w &&& m))

/-- Whether a source's world cannot be changed (R460). -/
def evtFixed (i : Nat) : Bool := i == 1 || i == 2 || (decide (72 ≤ i) && decide (i ≤ 79))

/-- Whether a secure route of a source may set MSIX (R465). -/
def evtSecureMsix (i : Nat) : Bool :=
  i == 1 || i == 2 || (decide (68 ≤ i) && decide (i ≤ 71)) || (decide (76 ≤ i) && decide (i ≤ 79))

/-- Whether a write of ROUTE[i] is accepted (R465). -/
def State.routeOk (s : State) (src : Src) (i : Nat) (w : Word) : Bool :=
  let world := bitsOf w 31 1
  let vec := bitsOf w 0 5
  (world == s.fld (Fld.EVT_ROUTE_WORLD i) || (src == .core && !evtFixed i)) &&
    (bitsOf w 16 1 == 0 || (if world = 1 then decide (24 ≤ vec) && evtSecureMsix i else decide (vec < 24))) &&
    (world == 0 || bitsOf w 17 1 == 0)

/-- A write of ROUTE[i]. -/
def routeWrite (src : Src) (i : Nat) (w : Word) (s : State) : State :=
  if !s.evtVisible src i then s
  else if s.routeOk src i w then s.set (Reg.EVT_ROUTE i) (w &&& 0x8007001F#32)
  else s.raise Fld.EVT_STAT_CFG_ERR

/-- EVT_ROUTE_WRITE (R465). -/
def execEvtRouteWrite (dt : Nat) (src : Src) (i : Nat) (w : Word) (s : State) : Host.Outcome State Fault Refusal :=
  effect dt (onlyIf (decide (i < 96)) (fun s => s.guarded src (Reg.EVT_ROUTE i) (routeWrite src i w))) s

/-- EVT_ENABLE_WRITE (R464). -/
def execEvtEnableWrite (dt : Nat) (src : Src) (k : Nat) (w : Word) (s : State) : Host.Outcome State Fault Refusal :=
  effect dt (onlyIf (decide (k < 3)) (fun s => s.guarded src (Reg.EVT_ENABLE k) (evtEnableWrite src k w))) s

/-! ## Writes that a block's rules govern -/

/-- Writes of SYS, MBX, EVT and PWR. -/
def spineWrite (src : Src) (a : Nat) (w : Word) : Write := firstRule [
  forEach a (Reg.MBX_DOORBELL 0) 0x3000 4 (fun m => mbxSubmit m w),
  forEach a (Reg.MBX_STATUS 0) 0x3000 4 (fun m => mbxStatusWrite m w),
  (if 0x10000 ≤ a ∧ a < 0x1C000 ∧ (a - 0x10000) % 0x3000 / 0x1000 = 1 then some (mbxReqWrite ((a - 0x10000) / 0x3000) a w) else none),
  forEach a (Reg.EVT_RAW 0) 4 3 (fun k => evtRawWrite src k w),
  forEach a (Reg.EVT_ENABLE 0) 4 3 (fun k => evtEnableWrite src k w),
  forEach a (Reg.EVT_ROUTE 0) 4 96 (fun i => routeWrite src i w),
  forReg a Reg.PWR_REQ (pwrReqWrite w),
  forReg a Reg.PWR_WAKE (wakeWrite w),
  forReg a Reg.PWR_WAKE_AT0 (wakeAtWrite w),
  forReg a Reg.PWR_BUDGET (budgetWrite w),
  forReg a Reg.PWR_ARB_CFG (arbCfgWrite w),
  forReg a Reg.PWR_THERM (thermWrite w),
  forEach a (Reg.PWR_REG_CFG 0) 4 64 (fun k => regWrite (k / 4) (k % 4) w)]

/-- A write of ACT[k].CMD (R67). -/
def actCmdWrite (k : Nat) (w : Word) (took : Nat) (s : State) : State :=
  if s.waiting .actBusy k then s.raise (Fld.TIME_ACT_STAT_OVERRUN k)
  else if bitsOf w 31 1 = 1 then actCmd k (bitsOf w 8 3) (bitsOf w 0 8) took s
  else s.storeRw (Reg.TIME_ACT_CMD k) w

/-- Writes of TIME. -/
def timeWrite (a : Nat) (w : Word) (took : Nat) : Write := firstRule [
  forReg a Reg.TIME_CTRL (fun s => if bitsOf w 0 1 = 1 then setCancel s else s),
  forReg a Reg.TIME_SET0 (timeSetWrite w),
  forReg a Reg.TIME_ACT_PART (actPartWrite w),
  forEach a (Reg.TIME_CAP_CTRL 0) 0x20 6 (fun i s => (if bitsOf w 3 1 = 1 then captureFlush i s else s).storeRw a w),
  forEach a (Reg.TIME_PULSE_CTRL 0) 0x40 8 (fun j => pulseCtrlWrite j w),
  forEach a (Reg.TIME_PULSE_START0 0) 0x40 8 (fun j => pulseParamWrite j .start w),
  forEach a (Reg.TIME_PULSE_PERIOD0 0) 0x40 8 (fun j => pulseParamWrite j .period w),
  forEach a (Reg.TIME_PULSE_WIDTH0 0) 0x40 8 (fun j => pulseParamWrite j .width w),
  forEach a (Reg.TIME_ACT_CMD 0) 0x800 2 (fun k => actCmdWrite k w took)]

/-- Writes of SLOT[i] (R236 to R241): CFG, NOMINAL, LIMITS, TIMERS. -/
def slotWrite (i e : Nat) (w : Word) (fault : Bool) (s : State) : State :=
  let a := Reg.REF_SLOT_CFG i + 4 * e
  match e with
  | 0 => slotCfgWrite i w fault s
  | 1 => orError (s.on (Fld.REF_SLOT_CFG_EN i) || decide (w.toNat < 8000) || decide (800000000 < w.toNat)) Fld.REF_EVT_CFG_ERR
      (fun s => s.storeRw a w) s
  | 2 =>
    let (rej, acc) := (bitsOf w 16 16, bitsOf w 0 16)
    orError (acc == 0 || decide (rej ≤ acc) || decide (50000 < rej)) Fld.REF_EVT_CFG_ERR (fun s => s.storeRw a w) s
  | 3 => orError (bitsOf w 0 4 == 0) Fld.REF_EVT_CFG_ERR (fun s => s.storeRw a w) s
  | _ => s

/-- A write of PSTEP_CTRL (R256). -/
def pstepCtrlWrite (d : Nat) (w : Word) (s : State) : State :=
  if bitsOf w 31 1 = 0 then s.storeRw (Reg.DPLL_PSTEP_CTRL d) w
  else if bitsOf w 0 1 = 0 then pstepAtSecond d s else pstepSlew d s

/-- A write of TEMP_SW refreshes the temperature where it is the input (R263). -/
def tempSwWrite (d : Nat) (w : Word) (s : State) : State :=
  let s := s.storeRw (Reg.DPLL_TEMP_SW d) w
  if s.fld (Fld.DPLL_HO_CFG_TEMP_SRC d) = 1 then s.dpllTemp d (signed 16 (bitsOf w 0 16)) else s

/-- A write of SLEW_MAX (R249): the slew done so far keeps its old rate. -/
def slewMaxWrite (d : Nat) (w : Word) (s : State) : State :=
  let left := s.slewLeft d
  (s.storeRw (Reg.DPLL_SLEW_MAX d) w).setSlew d left

/-- Writes of DPLL[d] at an offset. -/
def dpllWrite (d off : Nat) (w : Word) (s : State) : State :=
  let a := Reg.DPLL_CTRL d + off
  let err := Fld.DPLL_EVT_CFG_ERR d
  let put := fun (s : State) => s.storeRw a w
  match off with
  | 0x00 => dpllCtrlWrite d w s
  | 0x0C => orError (bitsOf w 0 17 == 0 || decide (100000 < bitsOf w 0 17)) err (slewMaxWrite d w) s
  | 0x10 => orError (decide (1000000 < w.toNat)) err put s
  | 0x14 => orError (bitsOf w 0 24 == 0) err put s
  | 0x18 => orError (bitsOf w 0 9 == 0 || decide (500 < bitsOf w 0 9)) err put s
  | 0x20 => freqSwWrite d w s
  | 0x38 => pstepCtrlWrite d w s
  | 0x60 => dpllReturn d (bitsOf w 0 2) s
  | 0x64 => orError (decide (bitsOf w 16 16 < 10) || decide (10000 < bitsOf w 16 16) || decide (1 < bitsOf w 1 2)) err put s
  | 0x74 => tempSwWrite d w s
  | _ => plainWrite a w s

/-- Writes of REF, DPLL and SYN.
(DESIGN CHOICE, log entry 25) -/
def clockWrite (a : Nat) (w : Word) (fault : Bool) : Write := firstRule [
  (if 0x60000 ≤ a ∧ a < 0x60400 ∧ (a - 0x60000) % 0x40 < 0x10 then
    some (slotWrite ((a - 0x60000) / 0x40) ((a - 0x60000) % 0x40 / 4) w fault) else none),
  forReg a Reg.REF_CFG (fun s => orError (bitsOf w 0 10 == 0 || decide (1000 < bitsOf w 0 10)) Fld.REF_EVT_CFG_ERR
    (fun s => s.storeRw a w) s),
  (if 0x70000 ≤ a ∧ a < 0x70300 then some (dpllWrite ((a - 0x70000) / 0x100) ((a - 0x70000) % 0x100) w) else none),
  forEach a (Reg.APLL_CTRL 0) 0x100 3 (fun p => apllCtrlWrite p w),
  forEach a (Reg.APLL_FVCO0 0) 0x100 3 (fun p => fvcoWrite p w),
  (if 0x81000 ≤ a ∧ a < 0x81C00 then some (bandWrite ((a - 0x81000) / 0x400) ((a - 0x81000) % 0x400 / 4) w) else none),
  forEach a (Reg.OUT_CFG 0) 0x40 12 (fun j => outCfgWrite j w),
  forEach a (Reg.OUT_DIV_NEXT0 0) 0x40 12 (fun j => divNextWrite j w),
  forReg a Reg.SYN_UPDATE (divUpdate w),
  forReg a Reg.SYN_SYNCIN (syncinWrite w)]

/-- Writes of CH[c] at an offset, which the owner of the channels makes (R299 to R301). -/
def chanWrite (src : Src) (c off : Nat) (w : Word) (s : State) : State :=
  let a := Reg.GNSS_CH_CTRL c + off
  s.owned src (match off with
    | 0x00 => chanCtrlWrite c w
    | 0x0C => chanLoopWrite c w
    | 0x10 => chanTapsWrite c w
    | _ => plainWrite a w)

/-- Writes of GNSS. -/
def gnssWrite (src : Src) (a : Nat) (w : Word) : Write := firstRule [
  forReg a Reg.GNSS_CTRL (ownerChange w),
  forEach a (Reg.GNSS_PORT_CFG 0) 0x10 2 (fun x => gnssCfgWrite x w),
  forEach a (Reg.GNSS_PORT_LO 0) 0x10 2 (fun x => gnssLoWrite x w),
  forReg a Reg.GNSS_ACQ_REQ0 (fun s => s.owned src (acqRequest w)),
  forReg a Reg.GNSS_ACQ_REQ1 (fun s => s.owned src (acqReq1Write w)),
  forReg a Reg.GNSS_ACQ_REQ2 (fun s => s.owned src (plainWrite a w)),
  forReg a Reg.KETTLE_CTRL (fun s => s.owned src (kettleCtrlWrite w)),
  forReg a Reg.GNSS_NAV_STAT (navFlush w),
  (if 0xA1000 ≤ a ∧ a < 0xA2000 then some (chanWrite src ((a - 0xA1000) / 0x40) ((a - 0xA1000) % 0x40) w) else none)]

/-- Writes of CAL, TEL and CLM. -/
def upperWrite (a : Nat) (w : Word) : Write := firstRule [
  forEach a (Reg.CAL_REQ 0) 0x10 2 (fun k => calReqWrite k w),
  forEach a (Reg.CAL_ITEM_CFG 0) 0x10 8 (fun i => calItemWrite i w),
  forReg a Reg.TEL_CTRL (fun s => telFreeze (bitsOf w 0 1 == 1) s),
  forReg a Reg.TEL_SNAP_REQ (snapReqWrite w),
  forReg a Reg.CLM_CTRL (clmCtrlWrite w),
  forReg a Reg.CLM_ID (clmIdWrite w),
  forReg a Reg.CLM_WTR (clmWtrWrite w),
  forReg a Reg.CLM_CMD (clmCmd w),
  forEach a (Reg.CLM_DOM_CFG 0) 0x20 16 (fun d => clmCfgWrite d w),
  forEach a (Reg.CLM_DOM_PEERS 0) 0x20 16 (fun d => clmPeersWrite d w)]

/-- Writes of DMA; DMA.WORLD is written through the mirror alone (R394). -/
def dmaWrite (src : Src) (a : Nat) (w : Word) : Write := firstRule [
  forReg a (pf1 + 0x110004) (dmaWorldWrite w),
  forReg a Reg.DMA_WORLD id,
  forReg (unmirror a) Reg.DMA_RX_MAP (rxMapWrite src false w),
  forReg (unmirror a) Reg.DMA_RX_MAP2 (rxMapWrite src true w),
  (let b := unmirror a
   let i := (b - 0xF1000) % 0x40 / 4
   if 0xF1000 ≤ b ∧ b < 0xF3000 ∧ (b - 0xF1000) % 0x1000 < 0x400 ∧ i ≠ 1 ∧ i ≠ 4 ∧ i < 7 then
     some (ringWrite ((b - 0xF1000) / 0x1000) ((b - 0xF1000) % 0x1000 / 0x40) i w) else none)]

/-- Writes of SEC, MBX_S and IMG in PF1. -/
def secureWrite (src : Src) (a : Nat) (w : Word) (took : Nat) : Write := firstRule [
  forReg a Reg.SEC_DBG_CTRL (dbgCtrlWrite w took),
  forEach a (Reg.SEC_DBG_RESP 0) 4 48 (fun i s => s.set (Reg.SEC_DBG_RESP i) w),
  (if pf1 + 0x200000 ≤ a ∧ a < pf1 + 0x400000 then some (imgWrite src a w) else none),
  forEach a (Reg.MBX_DOORBELL 4) 0x3000 4 (fun m => mbxSubmit (4 + m) w),
  forEach a (Reg.MBX_STATUS 4) 0x3000 4 (fun m => mbxStatusWrite (4 + m) w),
  (let o := a - (pf1 + 0x100000)
   if pf1 + 0x100000 ≤ a ∧ o < 0xC000 ∧ o % 0x3000 / 0x1000 = 1 then some (mbxReqWrite (4 + o / 0x3000) a w) else none)]

/-- Writes of a LANE instance at an offset. -/
def laneWrite (g off : Nat) (w : Word) (s : State) : State :=
  match off with
  | 0x00 => laneCtrlWrite g w s
  | 0x10 => laneTimersWrite g false w s
  | 0x14 => laneTimersWrite g true w s
  | 0x24 => if bitsOf w 31 1 = 1 then ffeApply g w s else s.storeRw (Reg.LANE_FFE_P2 g) w
  | 0x30 => equaliserWrite g true w s
  | 0x34 => equaliserWrite g false w s
  | 0x40 => laneAdaptWrite g w s
  | 0x80 =>
    let s := if bitsOf w 30 1 = 1 then s.escanEnd g 6 else s
    if bitsOf w 31 1 = 1 then escanStart g w s else s.storeRw (Reg.LANE_ESCAN_CTRL g) w
  | _ => plainWrite (laneBase g + off) w s

/-- Writes of a PORT instance at an offset (R25, R114). -/
def portWrite (p off : Nat) (w : Word) (s : State) : State :=
  if off = 0 then portModeWrite p w s
  else if !s.namesPort p then s
  else match off with
    | 0x04 => orError (decide (bitsOf w 0 14 < 1518) || decide (9216 < bitsOf w 0 14)) (Fld.PORT_EVT_CFG_ERR p)
        (fun s => s.storeRw (Reg.PORT_MAC p) w) s
    | 0x0C => mmCtrlWrite p w s
    | _ => plainWrite (portBase p + off) w s

/-- Writes of TCX CTRL (R228, R231, R232). -/
def tcxCtrlWrite (p : Nat) (w : Word) (s : State) : State :=
  if bitsOf w 20 8 = 0 ∨ bitsOf w 4 10 = 0 ∨ 1000 < bitsOf w 4 10 then s
  else
    let s := s.storeRw (Reg.TCX_CTRL p) w
    if bitsOf w 31 1 = 1 then tcxCommit p s else s

/-- A write to a register of a number that names no port is discarded (R25). -/
def onPort (p : Nat) (f : State → State) (s : State) : State := if s.namesPort p then f s else s

/-- Writes of LANE, PORT and TSU instances. -/
def lineWrite (a : Nat) (w : Word) : Write := firstRule [
  (unitAt a 0x40000 0x1000 0x170000).map (fun u => laneWrite u.1 u.2 w),
  (unitAt a 0x80000 0x1000 0x180000).map (fun u => portWrite u.1 u.2 w),
  (unitAt a 0xC0000 0x400 0x1C0000).map (fun u => onPort u.1 (fun s =>
    plainWrite a w (if u.2 = 0x10 ∧ bitsOf w 7 1 = 1 then txStampFlush u.1 s else s))),
  (unitAt a 0xC8000 0x40 0x1C8000).map (fun u => onPort u.1 (fun s =>
    orError (u.2 == 0 && (bitsOf w 0 10 == 0 || decide (1000 < bitsOf w 0 10))) (Fld.TCX_STAT_CFG_ERR u.1) (fun s => (plainWrite a w s).showBws) s)),
  (unitAt a 0xC9000 0x80 0x1C9000).map (fun u => onPort u.1 (if u.2 = 0 then tcxCtrlWrite u.1 w else plainWrite a w)),
  (unitAt a 0xCA100 0x20 0x1CA100).map (fun u => onPort u.1 (plainWrite a w))]

/-- Whether a hashed table of Leaf n holds a VALID entry. -/
def State.hashedUsed (s : State) (n : Nat) : Bool :=
  [0, 5, 6, 7].any (fun t => (kget (s.die n).tables t []).any (fun e => e.2.valid (tableKind t)))

/-- A write of CMD[k].CTRL (R154). -/
def fwdCmdWrite (n k : Nat) (w : Word) (took : Nat) (s : State) : State :=
  if s.waiting .fwdBusy (fwdBusy n k) then s.raise (Fld.FWD_CMD_STAT_OVERRUN n k)
  else if bitsOf w 31 1 = 1 then tableCmd n k (bitsOf w 24 4) (bitsOf w 16 4) (bitsOf w 0 1 == 1) took s
  else s.storeRw (Reg.FWD_CMD_CTRL n k) w

/-- Writes of FWD at an offset in the window of Leaf n. -/
def fwdWrite (src : Src) (n off : Nat) (w : Word) (took : Nat) (s : State) : State :=
  let a := leafBase n + off
  let err := Fld.FWD_EVT_CFG_ERR n
  let put := fun (s : State) => plainWrite a w s
  if off = 0x100000 ∨ off = 0x100100 then fwdCmdWrite n ((off - 0x100000) / 0x100) w took s
  else if off = 0x100200 then bankSwapWrite src n w s
  else if off = 0x100204 then (if s.on Fld.SEC_WORLD_LOCKED then s else put s)
  else if off = 0x100210 then orError (bitsOf w 0 4 == 0) err put s
  else if off = 0x100214 then orError (s.hashedUsed n) err put s
  else if 0x101000 ≤ off ∧ off % 0x10 = 0 then
    orError (bitsOf w 16 2 == 3 || bitsOf w 20 2 == 3 || bitsOf w 0 12 == 0 || bitsOf w 0 12 == 4095) err put s
  else put s

/-- A write of XQ_CFG of a die: the deadline lies from 1,000 to 1,000,000 ns (R177). -/
def xqCfgWrite (d a : Nat) (w : Word) (s : State) : State :=
  if bitsOf w 0 20 < 1000 ∨ 1000000 < bitsOf w 0 20 then (if d < 8 then s.raise (Fld.BUF_EVT_CFG_ERR d) else s)
  else s.storeRw a w

/-- Idle slopes of a port's shaped classes with class c at v, in kb/s (R189). -/
def State.slopeSum (s : State) (p c v : Nat) : Nat :=
  ((List.range 8).filter (fun k => s.fldBit (Fld.EGR_PORT_CTRL_CBS_EN p) k)).foldl
    (fun a k => a + (if k = c then v else s.fld (Fld.EGR_PORT_IDLE_SLOPE_KBPS p k))) 0

/-- Writes of a list's BASE, CYCLE and LEN (R190, R195). -/
def listWrite (p l off : Nat) (w : Word) (s : State) : State :=
  let a := Reg.EGR_PORT_GCL_BASE0 p l + off
  if s.gclRefuses p l then s.raise (Fld.EGR_PORT_EVT_GCL_BUSY p)
  else match off with
    | 0x00 =>
      let v := s.wideValue a 3 w
      orError (timeOfRaw v).isNone (Fld.EGR_PORT_EVT_CFG_ERR p) (fun s => s.setWide a 3 v) (s.dropHeld a 3)
    | 0x14 => orError (bitsOf w 0 11 == 0 || decide (1024 < bitsOf w 0 11)) (Fld.EGR_PORT_EVT_CFG_ERR p) (fun s => s.storeRw a w) s
    | _ => plainWrite a w s

/-- Writes of an EGR.PORT instance at an offset. -/
def egrWrite (p off : Nat) (w : Word) (s : State) : State :=
  let a := egrBase p + off
  let err := Fld.EGR_PORT_EVT_CFG_ERR p
  let put := fun (s : State) => ((s.creditTo p).storeRw a w).egrShow p
  if off = 0 then put s
  else if 0x10 ≤ off ∧ off < 0x30 then orError (decide (bitsOf w 0 16 < 64)) err put s
  else if 0x30 ≤ off ∧ off < 0x50 then
    orError (decide (modeGbps (s.portMode p) * 1000000 < s.slopeSum p ((off - 0x30) / 4) w.toNat)) err put s
  else if off = 0x50 then (if bitsOf w 31 1 = 1 then gclSwapWrite p s else s)
  else if off = 0x94 then orError (decide (16384 < bitsOf w 0 15)) err put s
  else if 0xC0 ≤ off ∧ off < 0x100 then listWrite p ((off - 0xC0) / 0x20) ((off - 0xC0) % 0x20) w s
  else plainWrite a w s

/-- A write of an entry of a gate list. -/
def gclWrite (p off a : Nat) (w : Word) (s : State) : State :=
  if s.gclRefuses p (off / 0x2000) then s.raise (Fld.EGR_PORT_EVT_GCL_BUSY p)
  else orError (off % 8 == 4 && w == 0#32) (Fld.EGR_PORT_EVT_CFG_ERR p) (fun s => s.storeRw a w) s

/-- A write of a residence profile (R200). -/
def profileWrite (n a : Nat) (w : Word) (s : State) : State :=
  orError (decide (bitsOf w 0 20 < 1500) || decide (1000000 < bitsOf w 0 20)) (Fld.EGR_PROF_EVT_CFG_ERR n)
    (fun s => s.storeRw a w) s

/-- Writes of FWD, BUF, EGR and SMP of a Leaf, and of XBAR and SPB. -/
def pathWrite (src : Src) (a : Nat) (w : Word) (took : Nat) : Write := firstRule [
  (if Reg.XBAR_CAL 0 0 ≤ a ∧ a < Reg.XBAR_CAL 9 0 then
    some (xbarCalWrite ((a - Reg.XBAR_CAL 0 0) / 0x100) ((a - Reg.XBAR_CAL 0 0) % 0x100 / 4) w) else none),
  forEach a 0x120000 4 32 (fun i => bufLimitWrite (256 + i / 8) (some (i % 8)) w),
  forEach a 0x120080 4 4 (fun i => bufLimitWrite (256 + i) none w),
  forReg a Reg.SPB_XQ_CFG (xqCfgWrite 8 a w),
  (unitAt a 0x200000 0x400 0x1D0000).map (fun u => egrWrite u.1 u.2 w),
  (unitAt a 0x280000 0x4000 0x1E0000).map (fun u => gclWrite u.1 u.2 a w),
  (leafWin a).bind (fun (u : Nat × Nat) =>
    let (n, off) := u
    if 0x100000 ≤ off ∧ off < 0x180000 then some (fwdWrite src n off w took)
    else if 0x180000 ≤ off ∧ off < 0x180400 then
      some (bufLimitWrite (32 * n + (off - 0x180000) / 0x20) (some (off % 0x20 / 4)) w)
    else if 0x180400 ≤ off ∧ off < 0x180480 then some (bufLimitWrite (32 * n + (off - 0x180400) / 4) none w)
    else if off = 0x180504 then some (xqCfgWrite n a w)
    else if 0x210000 ≤ off ∧ off < 0x210100 then some (profileWrite n a w)
    else if 0x380000 ≤ off ∧ off < 0x380010 then some (smpWrite n ((off - 0x380000) / 4) w)
    else none)]

/-- The rule that governs a write of an address, if its block has one. -/
def ruleOf (src : Src) (a : Nat) (w : Word) (took : Nat) (fault : Bool) : Write :=
  if pf1 ≤ a ∧ !(unmirror a < pf1) then secureWrite src a w took
  else if pf1 ≤ a ∨ a / 0x10000 = 0xF then dmaWrite src a w
  else if 0x1000000 ≤ a then firstRule [lineWrite a w, pathWrite src a w took]
  else match a / 0x10000 with
    | 0x00 | 0x01 | 0x02 | 0x03 => spineWrite src a w
    | 0x04 | 0x05 => timeWrite a w took
    | 0x06 | 0x07 | 0x08 | 0x09 => clockWrite a w fault
    | 0x0A | 0x0B => gnssWrite src a w
    | 0x0C | 0x0D | 0x0E => upperWrite a w
    | _ => firstRule [lineWrite a w, pathWrite src a w took]

/-- A core writes a word of the system address space: memory holds it, host memory is written over PCIe, the Boot ROM is not
written (R470).
(DEDUCED, log entry 161) -/
def sysWrite (x : Nat) (w : Word) (s : State) : State :=
  if sysRam.any (inSpan x) then
    let k := x / 4
    { s with sysMem := if w = 0#32 then kdel s.sysMem k else kput s.sysMem k w }
  else if inSpan x sysHost && s.domOn 4 then s.emit (.hostWrite 1 (x - sysHost.1) (wordBytes w))
  else s

/-- A core reads a word of the system address space; what the Boot ROM and host memory hold is not the part's.
(DEDUCED, log entry 161) -/
def sysRead (src : Src) (x : Nat) (s : State) : State :=
  if sysRam.any (inSpan x) then s.emit (.readData src [kget s.sysMem (x / 4) 0#32])
  else
    let (w, s) := s.draw
    s.emit (.readData src [w])

/-- Whether SPI wrote an address in this tick. -/
def State.spiWrote (s : State) (a : Nat) : Bool := s.spiNow.1 == s.ticks && s.spiNow.2.contains a

/-- What a write of an address leaves, from the state before it: of writes to one register in one cycle PCIe's applies first, so
that SPI's stands (R358, R383). -/
def State.spiStands (s t : State) (src : Src) (a : Nat) (plain : Bool) : State :=
  match src with
  | .spi | .spiSec => { t with spiNow := (s.ticks, a :: (if s.spiNow.1 = s.ticks then s.spiNow.2 else [])) }
  | .pf0 | .pf1 =>
    if !s.spiWrote a then t
    else if pf1 + 0x300000 ≤ a ∧ a < bar2 then s
    else if plain then
      let m := BitVec.ofNat 32 (accMask [.rw] a)
      if (rowOf a).any (fun r => decide (1 < r.wide.2)) then s else t.set a ((t.get a &&& ~~~m) ||| (s.get a &&& m))
    else t
  | _ => t

/-- A write of a word to an address by a source: the checks of R380, then the block's rule, else the access types. The
telemetry window takes no write (R377).
(DEDUCED, log entry 17) -/
def State.writeAt (s : State) (src : Src) (a : Nat) (w : Word) (took : Nat) (fault : Bool) : State :=
  match s.access src a with
  | .void => s
  | .err k => s.accessError src k a
  | .ok =>
    if sysBase ≤ a then sysWrite (a - sysBase) w s
    else if bar2 ≤ a then s.accessError src 3 a
    else match ruleOf src a w took fault with
      | some f => s.spiStands (f s) src a (a == Reg.IMG_CTRL && bitsOf w 31 1 == 0)
      | none => s.spiStands (plainWrite (unmirror a) w s) src (unmirror a) true

/-- REGISTER_WRITE (R8, R9, R470): `be` says whether every byte enable is set. -/
def execRegisterWrite (dt : Nat) (src : Src) (a : Nat) (w : Word) (be : Bool) (took : Nat) (fault : Bool) (s : State) :
    Host.Outcome State Fault Refusal :=
  effect dt (fun s =>
    let a := viewAddr src a
    if be || s.access src a == .void then s.writeAt src a w took fault else s.accessError src 0 a) s

/-! ## Reads -/

/-- The bits of a register that read as they stand: all but write-only fields (R9). -/
def readMask (a : Nat) : Word := BitVec.ofNat 32 (accMask [.rw, .ro, .wc, .ws, .rc] a)

/-- A view word: the live count, the frozen one, or the shadow (R450, R451). -/
def State.viewCount (s : State) (v : View) : Nat :=
  kget (if v.live then s.frozen.getD s.cnt else s.shadow) (v.die * 2 ^ 20 + v.off / 8 * 8) 0

/-- What the telemetry window shows at an offset: the value there and the number of its words (R453). -/
def State.windowAt (s : State) (off : Nat) : Nat × Nat :=
  let word := fun (a : Nat) => (s.get a).toNat
  if off = 0xFF000 then (word Reg.TEL_SNAP, 1)
  else if off = 0xFF004 then (s.getWide Reg.TEL_SNAP_TIME0 3, 3)
  else if off = 0xFF008 then (word Reg.TEL_SNAP_TIME1, 1)
  else if off = 0xFF00C then (word Reg.TEL_SNAP_TIME2, 1)
  else
    let die := if off < 0x80000 then off / 0x10000 else 8
    let o := if off < 0x80000 then off % 0x10000 else off - 0x80000
    let shown := counterAt die o && decide (o < 0xC000) && s.fldBit Fld.TEL_USER_MASK_GROUPS (groupAt die o) &&
      (die == 8 || decide (die < s.leaves))
    let v := s.viewCount ⟨false, die, o⟩
    if !shown then (0, 1) else if o % 8 = 0 then (v, 2) else (v / 2 ^ 32, 1)

/-- Sub-cause bits of Leaf n that its sources count, by their place in LCTL.SUM (R460, R463). -/
def State.sumOf (s : State) (n : Nat) : Nat :=
  let evt := fun (e en m : Nat) => decide ((s.get (leafBase n + e)).toNat &&& (s.get (leafBase n + en)).toNat &&& m ≠ 0)
  let any := fun (f : Nat → Bool) => (List.range 32).any (fun k => f (32 * n + k))
  let bit := fun (b : Bool) (i : Nat) => if b then 2 ^ i else 0
  bit (any (fun g => decide ((s.get (Reg.LANE_EVT g)).toNat &&& (s.get (Reg.LANE_EVT_EN g)).toNat ≠ 0))) 0 +
  bit (any (fun g => decide ((s.get (Reg.PORT_EVT g)).toNat &&& (s.get (Reg.PORT_EVT_EN g)).toNat ≠ 0))) 1 +
  bit (any (fun g => decide (bitsOf (s.get (Reg.TCX_STAT g)) 5 3 ≠ 0) ||
    (s.on (Fld.PORT_EVT_TDC g) && s.fldBit (Fld.PORT_EVT_EN_EN g) (Fld.PORT_EVT_TDC g).lo))) 2 +
  bit (evt 0x100240 0x100244 0xF) 3 + bit (evt 0x180508 0x18050C 0xF) 4 +
  bit (any (fun g => decide ((s.get (Reg.EGR_PORT_EVT g)).toNat &&& (s.get (Reg.EGR_PORT_EVT_EN g)).toNat ≠ 0)) ||
    evt 0x210104 0x210108 1) 5 + bit (evt 0x380020 0x380024 7) 6

/-- LANE_SUM and PORT_SUM of Leaf n. -/
def State.laneSum (s : State) (n : Nat) : Nat :=
  (List.range 32).foldl (fun m k => if (s.get (Reg.LANE_EVT (32 * n + k))) &&& (s.get (Reg.LANE_EVT_EN (32 * n + k))) = 0#32 then m
    else m + 2 ^ k) 0
def State.portSum (s : State) (n : Nat) : Nat :=
  (List.range 32).foldl (fun m k =>
    let g := 32 * n + k
    if s.get (Reg.PORT_EVT g) &&& s.get (Reg.PORT_EVT_EN g) = 0#32 ∧ bitsOf (s.get (Reg.TCX_STAT g)) 5 3 = 0 ∧
      s.get (Reg.EGR_PORT_EVT g) &&& s.get (Reg.EGR_PORT_EVT_EN g) = 0#32 then m else m + 2 ^ k) 0

/-- Whole seconds left of a slot's HOLDOFF or RESTORING (R241). -/
def State.slotRemain (s : State) (i : Nat) : Nat :=
  let left := fun k => ((s.timer k i).map (fun t => (t - s.ticks + secT - 1) / secT)).getD 0
  sat 16 (if s.slotState i = 2 then left .slotHold else if s.slotState i = 4 then left .slotRestore else 0)

/-- The state with the fields that the device computes brought up to this instant, before the register at an address is
read. -/
def State.refresh (s : State) (a : Nat) : State :=
  let f := firstRule [
    if 0x120000 ≤ a ∧ a < 0x130000 then some (fun s => s.freeSent 8) else none,
    forReg a Reg.TIME_NOW0 (fun s => s.setWide a 3 (rawOfTime s.now)),
    forEach a (Reg.TIME_PULSE_CTRL 0) 0x40 8 (fun j s => s.pulseShow j),
    forEach a (Reg.TIME_PULSE_STAT 0) 0x40 8 (fun j s => s.pulseShow j),
    forEach a (Reg.TIME_ACT_STAT 0) 0x800 2 (fun k s => s.setBit (Fld.TIME_ACT_STAT_BUSY k) (s.waiting .actBusy k)),
    forEach a (Reg.TIME_ACT_FREE 0) 0x800 2 (fun k s => s.setFld (Fld.TIME_ACT_FREE_COUNT k) (s.actFree k)),
    forEach a (Reg.REF_SLOT_STAT 0) 0x40 16 (fun i s => s.setFld (Fld.REF_SLOT_STAT_REMAIN i) (s.slotRemain i)),
    forEach a (Reg.DPLL_STAT 0) 0x100 3 (fun d s => if s.dstate d = 3 ∨ s.dstate d = 4 ∨ s.dstate d = 5 then s
      else s.setBit (Fld.DPLL_STAT_HO_READY d) (s.wordMean d).isSome),
    forEach a (Reg.OUT_STAT 0) 0x40 12 (fun j s => s.outShow j),
    forEach a (Reg.CLM_DOM_REMAIN 0) 0x20 16 (fun d s => s.setFld (Fld.CLM_DOM_REMAIN_MS d) (s.drillLeft d)),
    forReg a Reg.SEC_DBG_STAT (fun s => s.setBit Fld.SEC_DBG_STAT_BUSY (s.waiting .dbgBusy 0)),
    (unitAt a 0x200000 0x400 0x1D0000).bind (fun u => if u.2 = 0x90 then some (fun s => s.egrShow u.1) else none),
    (leafWin a).bind (fun (u : Nat × Nat) =>
      let (n, off) := u
      if off = 0 then some (fun s => s.set a (BitVec.ofNat 32 (s.sumOf n)))
      else if off = 4 then some (fun s => s.set a (BitVec.ofNat 32 (s.laneSum n)))
      else if off = 8 then some (fun s => s.set a (BitVec.ofNat 32 (s.portSum n)))
      else if 0x180000 ≤ off ∧ off < 0x182000 then some (fun s => s.freeSent n)
      else if off = 0x100004 ∨ off = 0x100104 then
        let k := (off - 0x100004) / 0x100
        some (fun s => s.setBit (Fld.FWD_CMD_STAT_BUSY n k) (s.waiting .fwdBusy (fwdBusy n k)))
      else none)]
  (f.getD id) s

/-- Reads with an effect of their own: the oldest entry of a queue is removed and latched, or an event clears. -/
def readRule (src : Src) (a : Nat) : Write := firstRule [
  forEach a (Reg.TIME_CAP_TS0 0) 0x20 6 (fun i => captureRead src i),
  forReg a Reg.GNSS_ACQ_RES0 (acqRead src),
  forReg a (Reg.GNSS_NAV_REC 0) (navRead src),
  forReg a Reg.SEC_DBG_STAT (dbgStatRead src),
  (unitAt a 0xC0000 0x400 0x1C0000).bind (fun u => if u.2 = 0x14 then some (txStampRead src u.1) else none),
  (unitAt a 0xC8000 0x40 0x1C8000).bind (fun u => if u.2 = 0x08 then some (linkPhaseRead src u.1) else none),
  (unitAt a 0xC9000 0x80 0x1C9000).bind (fun u => if u.2 = 0x20 then some (peerRead src u.1) else none),
  (leafWin a).bind (fun u => if u.2 = 0x380040 then some (smpRead src u.1) else none)]

/-- Whether an address is a PORT or TSU register of a number that names no port, other than MODE of an unused lane (R25).
(DEDUCED, log entry 21) -/
def State.noPortAt (s : State) (a : Nat) : Bool :=
  let none? := fun (u : Nat × Nat) (mode : Bool) => !s.namesPort u.1 && !(mode && u.2 == 0 && (s.portOfLane u.1).isNone)
  ((unitAt a 0x80000 0x1000 0x180000).any (fun u => none? u true)) ||
    [(unitAt a 0xC0000 0x400 0x1C0000), (unitAt a 0xC8000 0x40 0x1C8000), (unitAt a 0xC9000 0x80 0x1C9000),
     (unitAt a 0xCA100 0x20 0x1CA100)].any (fun o => o.any (fun u => none? u false))

/-- A read of a value of n words whose lowest word stands at an address: the upper words are latched (R11). -/
def State.readValue (s : State) (src : Src) (a n v : Nat) : State :=
  (s.latchWide a n v).emit (.readData src [BitVec.ofNat 32 v])

/-- A read of a register word by its access types (R9 to R11). -/
def plainRead (src : Src) (a : Nat) (s : State) : State :=
  match viewOf a with
  | some v => if v.off % 8 = 0 then s.readValue src a 2 (s.viewCount v)
    else s.emit (.readData src [kget s.latched a (BitVec.ofNat 32 (s.viewCount v / 2 ^ 32))])
  | none =>
    let s := s.refresh a
    match rowOf a with
    | none => s.emit (.readData src [0#32])
    | some r =>
      if 1 < r.wide.2 ∧ r.wide.1 = 0 then s.readValue src a r.wide.2 (s.getWide a r.wide.2)
      else
        let w := kget s.latched a (s.get a) &&& readMask a
        let rc := BitVec.ofNat 32 (accMask [.rc] a)
        let s := if rc = 0#32 then s else s.set a (s.get a &&& ~~~rc)
        s.emit (.readData src [w])

/-- A read of an event register: the bits and routes of sources that the requester does not see read 0 (R466). -/
def evtRead (src : Src) (a : Nat) (s : State) : State :=
  let w := s.get a
  let v := match instAt a (Reg.EVT_ROUTE 0) 4 96 with
    | some i => if s.evtVisible src i then w else 0#32
    | none => if a < Reg.EVT_STAT then w &&& BitVec.ofNat 32 (s.evtMask src (a % 0x10 / 4)) else w
  s.emit (.readData src [v])

/-- A bit of FWD.BANK shows to the world of its tables (R157). -/
def bankRead (src : Src) (n : Nat) (s : State) : State :=
  let hidden := (List.range 3).foldl (fun m p =>
    if secureSrc src || !s.bankSecure n p then m else m + 2 ^ p + 2 ^ (16 + p)) 0
  s.emit (.readData src [s.get (Reg.FWD_BANK n) &&& readMask (Reg.FWD_BANK n) &&& ~~~(BitVec.ofNat 32 hidden)])

/-- A read that passed its checks. -/
def readOk (src : Src) (a : Nat) (s : State) : State :=
  if sysBase ≤ a then sysRead src (a - sysBase) s
  else if bar2 ≤ a then
    let (v, n) := s.windowAt (a - bar2)
    if kfind s.latched a ≠ none then s.emit (.readData src [kget s.latched a 0#32]) else s.readValue src a n v
  else if a / 0x10000 = 0x02 then evtRead src a s
  else if pf1 + 0x200000 ≤ a then s.emit (.readData src [s.imgRead a])
  else if s.noPortAt a then s.emit (.readData src [0#32])
  else match (leafWin a).bind (fun u => if u.2 = 0x100200 then some u.1 else none) with
    | some n => bankRead src n s
    | none => ((readRule src a).getD (plainRead src (unmirror a))) s

/-- A read of the word at an address by a source; a refused one returns 0 (R33, R35, R41).
(DEDUCED, log entry 21) -/
def State.readAt (s : State) (src : Src) (a : Nat) : State :=
  match s.access src a with
  | .ok => readOk src a s
  | .void => s.emit (.readData src [0#32])
  | .err k => (s.accessError src k a).emit (.readData src [0#32])

/-- WIDE_VALUE_READ (R11, R470): a read of the word at an address. -/
def execWideValueRead (dt : Nat) (src : Src) (a : Nat) (s : State) : Host.Outcome State Fault Refusal :=
  effect dt (fun s => onlyIf (s.reaches src && inSpace src a) (fun s => s.readAt src (viewAddr src a)) s) s

/-- READ_CLEAR (R9, R470): a read of the word at an address, whose RC fields clear. -/
def execReadClear (dt : Nat) (src : Src) (a : Nat) (s : State) : Host.Outcome State Fault Refusal :=
  effect dt (fun s => onlyIf (s.reaches src && inSpace src a) (fun s => s.readAt src (viewAddr src a)) s) s

/-! ## SPI frames (R381 to R383) -/

/-- A frame as received: operation, secure, address, words, data and CRC as they stand; its bytes, and whether they all
came. -/
structure SpiFrame where
  op : Nat
  secure : Bool
  addr : Nat
  words : Nat
  bytes : List Byte
  format : Bool
  deriving DecidableEq, Repr

/-- The frame that some bytes hold, if they hold all of it.
(DESIGN CHOICE, log entry 26) -/
def spiFrame (b : List Byte) : Option SpiFrame :=
  let op := byteAt b 0 / 2 ^ 6
  let n := byteAt b 5 + 1
  let ok := (op == 1 || op == 2) && byteAt b 0 % 2 ^ 5 == 0 && byteAt b 4 % 4 == 0 && decide (n ≤ 64)
  let need := if op = 2 ∧ n ≤ 64 then 8 + 4 * n else 8
  if b.length < need then none
  else some { op := op, secure := byteAt b 0 / 2 ^ 5 % 2 == 1, addr := beAt b 1 4, words := n, bytes := b.take need, format := ok }

/-- The source a frame's accesses come from, and the address of its i-th word in the model's one space. -/
def SpiFrame.src (f : SpiFrame) : Src := if f.secure then .spiSec else .spi
def SpiFrame.at_ (f : SpiFrame) (i : Nat) : Nat := (if f.secure then pf1 else 0) + f.addr + 4 * i

/-- STATUS before any word is reached: 1 CRC, 2 FORMAT, 3 ACCESS for a secure frame that is not enabled, else 0.
(DESIGN CHOICE, log entry 26) -/
def State.spiStatus (s : State) (f : SpiFrame) : Nat :=
  let n := f.bytes.length
  if crc16 (f.bytes.take (n - 2)) ≠ beAt f.bytes (n - 2) 2 then 1
  else if !f.format then 2
  else if f.secure && s.on Fld.SEC_WORLD_LOCKED && !s.on Fld.SEC_WORLD_SPI_SECURE then 3
  else 0

/-- Whether a word of a frame meets an access error. -/
def State.spiErr (s : State) (f : SpiFrame) : Bool :=
  (List.range f.words).any (fun i => match s.access f.src (f.at_ i) with
    | .err _ => true
    | _ => false)

/-- A frame that does nothing is answered by its STATUS; a secure one that is not enabled is a world error (R36). -/
def State.spiRefuse (s : State) (f : SpiFrame) (st : Nat) : State :=
  (if st = 3 then s.accessError f.src 2 (f.at_ 0) else s).emit (.spi st [])

/-- The words that reads have emitted are taken out of the outputs after the first n. -/
def State.takeReads (s : State) (n : Nat) : List Word × State :=
  ((s.out.drop n).flatMap (fun o => match o with
    | .readData _ l => l
    | _ => []), { s with out := s.out.take n ++ (s.out.drop n).filter (fun o => match o with
    | .readData _ _ => false
    | _ => true) })

/-- A READ frame: the first `sent` words are read and returned, most significant byte first. -/
def spiRead (f : SpiFrame) (sent : Nat) (s : State) : State :=
  let st := s.spiStatus f
  if st ≠ 0 then s.spiRefuse f st
  else
    let st := if s.spiErr f then 3 else 0
    let n := s.out.length
    let s := s.forAll (List.range (min sent f.words)) (fun i s => s.readAt f.src (f.at_ i))
    let (l, s) := s.takeReads n
    s.emit (.spi st (l.flatMap (fun w => beBytes w.toNat 4)))

/-- SPI_READ (R382, R383): the frame's bytes, and how many words were sent before SPIS_CSn rose. -/
def execSpiRead (dt : Nat) (b : List Byte) (sent : Nat) (s : State) : Host.Outcome State Fault Refusal :=
  effect dt (fun s => match spiFrame b with
    | some f => onlyIf (s.powered && f.op != 2) (spiRead f sent) s
    | none => s) s

/-- A WRITE frame: every word applies in order. -/
def spiWrite (f : SpiFrame) (took : Nat) (fault : Bool) (s : State) : State :=
  let st := s.spiStatus f
  if st ≠ 0 then s.spiRefuse f st
  else
    let st := if s.spiErr f then 3 else 0
    let s := s.forAll (List.range f.words) (fun i s =>
      s.writeAt f.src (f.at_ i) (BitVec.ofNat 32 (beAt f.bytes (6 + 4 * i) 4)) took fault)
    s.emit (.spi st [])

/-- SPI_WRITE (R383): the frame's bytes; `took` and `fault` are those of REGISTER_WRITE. -/
def execSpiWrite (dt : Nat) (b : List Byte) (took : Nat) (fault : Bool) (s : State) : Host.Outcome State Fault Refusal :=
  effect dt (fun s => match spiFrame b with
    | some f => onlyIf (s.powered && f.op == 2) (spiWrite f took fault) s
    | none => s) s

/-! ## I2C (R384) -/

/-- A junction temperature as I2C shows it: monitor 1 is the Spine, 2 + n Leaf n.
(DESIGN CHOICE, log entry 27) -/
def State.i2cTemp (s : State) (m : Nat) : Word :=
  if s.on (Fld.CAL_MON_TEMP_VALID m) && !s.on (Fld.CAL_MON_TEMP_STALE m) then
    BitVec.ofNat 32 (unsigned 32 (s.fldInt (Fld.CAL_MON_TEMP_VALUE m)))
  else 0x80000000#32

/-- The word at an I2C pointer.
(DESIGN CHOICE, log entry 27) -/
def State.i2cWord (s : State) (ptr : Nat) : Word :=
  match ptr with
  | 0x00 => s.get Reg.SYS_ID0
  | 0x04 => s.get Reg.SYS_ID1
  | 0x08 => s.get Reg.SYS_ID2
  | 0x0C => s.get Reg.SYS_BOOT_STATUS
  | 0x10 => s.get Reg.PWR_STATE
  | 0x14 => s.get Reg.SYS_RESET_CAUSE
  | 0x18 => s.i2cTemp 1
  | 0x44 => if s.i2cLost then 1#32 else 0#32
  | _ =>
    if 0x20 ≤ ptr ∧ ptr < 0x40 ∧ ptr % 4 = 0 then
      let n := (ptr - 0x20) / 4
      if s.leaf n ≤ 1 then 0x80000000#32 else s.i2cTemp (2 + n)
    else 0#32

/-- A write of PWR_REQ over I2C (R331, R384). -/
def i2cPower (w : Word) (s : State) : State :=
  let bad := bitsOf w 31 1 == 1 && bitsOf w 0 2 != 1 && bitsOf w 0 2 != 2
  pwrReqWrite w { s with i2cLost := bad }

/-- I2C_TRANSACTION (R384): a pointer, then four bytes written or n bytes read. -/
def execI2cTransaction (dt ptr : Nat) (wr : Option Word) (n : Nat) (s : State) : Host.Outcome State Fault Refusal :=
  effect dt (fun s => onlyIf (s.powered && decide (ptr < 256)) (fun s =>
    match wr with
    | some w => if ptr = 0x40 then i2cPower w s else s
    | none => s.emit (.i2c (((List.range ((n + 3) / 4)).flatMap (fun i => wordBytes (s.i2cWord ((ptr + 4 * i) % 256)))).take n))) s) s

end Sys2Proof.Machine
end

