-- ==== Sys2Proof/Machine/Fw.lean ====
section
/-!
DEFINITION. Fw.lean: the firmware's commands (R406 to R422): how a request is checked and answered, and the commands of the SYS,
PARAM, TABLE, PORT, TIME and ACT families.
-/
namespace Sys2Proof.Machine

/-! ## Requests (R388, R390, R406 to R408) -/

/-- STATUS codes (R408). -/
def stInvalid : Nat := 1
def stAbsent : Nat := 2
def stNotPowered : Nat := 3
def stWorld : Nat := 4
def stBusy : Nat := 5
def stLate : Nat := 6
def stState : Nat := 7
def stNotFound : Nat := 8
def stFull : Nat := 9
def stUnknownKey : Nat := 10
def stReserved : Nat := 11
def stHwError : Nat := 12
def stImageBad : Nat := 13

/-- Commands of each family (R409). -/
def familySize (fam : Nat) : Nat :=
  match fam with
  | 0x01 | 0x0D => 5
  | 0x02 | 0x04 => 6
  | 0x03 | 0x0F => 3
  | 0x05 | 0x08 | 0x09 | 0x0A | 0x0B | 0x0C | 0x0E | 0x10 => 2
  | 0x06 => 4
  | 0x07 => 1
  | _ => 0

/-- Whether an opcode is one of R409. -/
def opcodeKnown (op : Nat) : Bool := decide (1 ≤ op % 256) && decide (op % 256 ≤ familySize (op / 256))

/-- The transport code of a request; 0 when it is well formed (R390). -/
def State.transportError (s : State) (m : Nat) : Nat :=
  let op := s.reqOpcode m
  if 4080 < s.reqLength m then 0xFF01
  else if s.reqWord m 2 ≠ 0 ∨ s.reqWord m 3 ≠ 0 ∨ 1 < s.reqFlags m then 0xFF02
  else if !opcodeKnown op then 0xFF03
  else if m < 4 ∧ (op / 256 = 0x0D ∨ op / 256 = 0x0E) then 0xFF04
  else 0

/-- The world a mailbox acts for: 0 non-secure, 1 secure (R385). -/
def worldOf (m : Nat) : Nat := if m < 4 then 0 else 1

/-- A mailbox's request may not act on the register at an address (R35, R408). -/
def State.barred (s : State) (m a : Nat) : Bool := worldOf m == 0 && s.secureAt a

/-- A calibration run a mailbox's request waits for. -/
def State.calAwaited (s : State) (m : Nat) : Bool :=
  (s.cal.queue ++ s.cal.runs).any (fun r => r.who == 3 + m)

/-- The firmware is at a mailbox's request: it runs, and the request is the oldest accepted one (R388). -/
def State.fwTakes (s : State) (m : Nat) : Bool := s.fwRuns && s.mbxQueue.head? == some m && !s.calAwaited m

/-- The first status whose condition holds; 0 when none does (R408). -/
def firstStatus : List (Bool × Nat) → Nat
  | [] => 0
  | (c, st) :: l => if c then st else firstStatus l

/-- A payload of words. -/
def payload (l : List Nat) : List Byte := l.flatMap (fun v => leBytes v 4)

/-- A response with STATUS OK. -/
def State.answer (s : State) (m : Nat) (l : List Nat) : State := s.reply m 0 0 (payload l)

/-- A response with another STATUS: its payload is empty. -/
def State.deny (s : State) (m st : Nat) : State := s.reply m st 0 []

/-- The firmware serves a request of a command: its length (R407), the checks in order (R408), then its effect.
(DESIGN CHOICE, log entry 119) -/
def serve (m op : Nat) (lenOk : Nat → Bool) (checks : State → List (Bool × Nat)) (act : State → State) (s : State) : State :=
  if !(s.fwTakes m && s.reqOpcode m == op && s.transportError m == 0) then s
  else if !lenOk (s.reqLength m) then s.deny m stInvalid
  else
    let st := firstStatus (checks s)
    if st = 0 then act s else s.deny m st

/-- A request of a fixed length.
(DESIGN CHOICE, log entry 119) -/
def served (dt m op len : Nat) (checks : State → List (Bool × Nat)) (act : State → State) (s : State) :
    Host.Outcome State Fault Refusal := effect dt (serve m op (fun n => n == len) checks act) s

/-- MAILBOX_TRANSPORT_ERROR (R390). -/
def execMailboxTransportError (dt m : Nat) (s : State) : Host.Outcome State Fault Refusal :=
  effect dt (fun s => onlyIf (s.fwTakes m && s.transportError m != 0) (fun s => s.reply m (s.transportError m) 0 []) s) s

/-- Words of the register file from an address. -/
def State.wordsAt (s : State) (a n : Nat) : List Nat := (List.range n).map (fun i => (s.get (a + 4 * i)).toNat)

/-! ## SYS (R409, R411, R412) -/

/-- SYS_INFO. -/
def execSysInfo (dt m : Nat) (s : State) : Host.Outcome State Fault Refusal :=
  served dt m 0x0101 0 (fun s => [(s.barred m Reg.SYS_ID0, stWorld)])
    (fun s => s.answer m (s.wordsAt Reg.SYS_ID0 3 ++ s.wordsAt Reg.SYS_FW_VER 1 ++ s.wordsAt Reg.SYS_BOOT_GEN 1 ++
      s.wordsAt Reg.SYS_BOOT_STATUS 1)) s

/-- The Leaf states, as SYS.LEAF_STATE shows them.
(DESIGN CHOICE, log entry 120) -/
def State.leafWord (s : State) : Nat := (s.get Reg.SYS_LEAF_STATE).toNat

/-- World and presence of a Leaf a request names.
(DESIGN CHOICE, log entry 120) -/
def State.leafChecks (s : State) (m n : Nat) : List (Bool × Nat) :=
  [(s.barred m Reg.SYS_LEAF_STATE, stWorld), (decide (s.leaves ≤ n) && decide (n < 8), stAbsent), (decide (8 ≤ n), stInvalid)]

/-- LEAF_DRAIN: answered at entry to DRAINING. -/
def execLeafDrain (dt m : Nat) (s : State) : Host.Outcome State Fault Refusal :=
  served dt m 0x0102 12
    (fun s =>
      let (n, lim) := (s.arg m 0, s.arg m 1)
      s.leafChecks m n ++ [(decide (lim < 1000) || decide (1000000 < lim) || decide (1 < s.arg m 2), stInvalid),
        (s.leaf n != 4 && s.leaf n != 6, stState)])
    (fun s =>
      let (n, lim) := (s.arg m 0, s.arg m 1)
      let s := { s with drainLimit := kput s.drainLimit n (lim * usT) }.leafDrain n (lim * usT) (s.arg m 2 == 1)
      s.answer m [s.leafWord]) s

/-- LEAF_START: answered when the power request is made (R339). -/
def execLeafStart (dt m : Nat) (s : State) : Host.Outcome State Fault Refusal :=
  served dt m 0x0103 4
    (fun s => s.leafChecks m (s.arg m 0) ++ [(s.on Fld.PWR_STATE_BUSY, stBusy), (s.leaf (s.arg m 0) != 1, stState)])
    (fun s =>
      let s := s.leafStart (s.arg m 0)
      s.answer m [s.leafWord]) s

/-- LEAF_STOP: a Leaf in FAULT goes to OFF. -/
def execLeafStop (dt m : Nat) (s : State) : Host.Outcome State Fault Refusal :=
  served dt m 0x0104 4
    (fun s => s.leafChecks m (s.arg m 0) ++ [(s.leaf (s.arg m 0) != 6, stState)])
    (fun s =>
      let n := s.arg m 0
      let s := { s with restarts := s.restarts.filter (fun x => x != n) }.leafOff n
      s.answer m [s.leafWord]) s

/-- Whether an offset of a Leaf window lies in the blocks LEAF_WRITE reaches: LCTL, LANE, PORT, FWD.PORT, BUF and EGR. -/
def leafWriteBlock (off : Nat) : Bool :=
  decide (off < 0xC0000) || (decide (0x101000 ≤ off) && decide (off < 0x101240)) ||
    (decide (0x180000 ≤ off) && decide (off < 0x300000))

/-- Whether a pair of LEAF_WRITE names an RW register it reaches.
(DESIGN CHOICE, log entry 121) -/
def leafWritable (a : Nat) : Bool :=
  match leafWin a with
  | some (_, off) => leafWriteBlock off && accMask [.rw] a != 0
  | none => false

/-- A register of a second or later lane of a port (R25). -/
def State.laterLane (s : State) (a : Nat) : Bool :=
  (unitAt a 0x80000 0x1000 0x180000).any (fun (u : Nat × Nat) => (s.portOfLane u.1).any (fun p => p != u.1))

/-- The pairs of a LEAF_WRITE. -/
def State.leafPairs (s : State) (m : Nat) : List (Nat × Word) :=
  (List.range (s.arg m 0)).map (fun i => (s.arg m (1 + 2 * i), BitVec.ofNat 32 (s.arg m (2 + 2 * i))))

/-- A Leaf register written by the firmware and recorded in the shadow copy (R411): MODE as it then stands.
(DESIGN CHOICE, log entry 121) -/
def State.leafPut (s : State) (a : Nat) (w : Word) : State :=
  let s := s.writeAt .core a w 0 false
  let mode := (unitAt a 0x80000 0x1000 0x180000).any (fun (u : Nat × Nat) => u.2 == 0)
  s.shadowReg a (if mode then s.get a else w)

/-- LEAF_WRITE. -/
def execLeafWrite (dt m : Nat) (s : State) : Host.Outcome State Fault Refusal :=
  effect dt (fun s => serve m 0x0105
    (fun len => decide (1 ≤ s.arg m 0) && decide (s.arg m 0 ≤ 255) && len == 4 + 8 * s.arg m 0)
    (fun s =>
      let l := (s.leafPairs m).map (fun (e : Nat × Word) => e.1)
      [(l.any (fun a => s.barred m a), stWorld), (l.any (fun a => s.absentAt a || s.laterLane a), stAbsent),
       (l.any (fun a => leafWritable a && !s.domainAt a), stNotPowered), (!l.all leafWritable, stInvalid)])
    (fun s =>
      let n := s.arg m 0
      ((s.leafPairs m).foldl (fun s (e : Nat × Word) => s.leafPut e.1 e.2) s).answer m [n]) s) s

/-! ## PARAM (R415 to R422) -/

/-- Whether a class has the secure world: the world of its block (R415). -/
def State.keySecure (s : State) (k : Nat) : Bool :=
  match keyClass k with
  | 0x07 => s.secureAt (Reg.DPLL_CTRL 0)
  | 0x0A => s.secureAt Reg.GNSS_CTRL
  | 0x24 => s.secureAt (Reg.TCX_TXFIX (keyInst k))
  | 0x28 => s.secureAt (Reg.EGR_PROFILE 0 0)
  | _ => false

/-- A value in 64 bits as two words, and as PARAM_GET returns it (R416). -/
def twoWords (v : Int) : List Nat := [unsigned 64 v % 2 ^ 32, unsigned 64 v / 2 ^ 32]

/-- PARAM_GET. -/
def execParamGet (dt m : Nat) (s : State) : Host.Outcome State Fault Refusal :=
  served dt m 0x0201 4
    (fun s =>
      let k := s.arg m 0
      [(worldOf m == 0 && s.keySecure k, stWorld), (s.keyAbsent k, stAbsent), ((paramSpec k).isNone, stUnknownKey)])
    (fun s =>
      let k := s.arg m 0
      s.answer m (k :: twoWords (s.param k))) s

/-- Whether a set is locked: a PENDING or ARMED PARAM_COMMIT entry names it (R419).
(DESIGN CHOICE, log entry 124) -/
def State.setLocked (s : State) (i : Nat) : Bool :=
  s.acts.any (fun (e : Nat × ActEntry) => e.2.state != .free && e.2.code == 0x0A && e.2.target == i)

/-- PARAM_STAGE. -/
def execParamStage (dt m : Nat) (s : State) : Host.Outcome State Fault Refusal :=
  served dt m 0x0202 16
    (fun s =>
      let (i, k) := (s.arg m 0, s.arg m 1)
      let held := (s.pset i).entries
      [((worldOf m == 0 && s.keySecure k) || s.psetForeign i (worldOf m), stWorld), (s.keyAbsent k, stAbsent),
       ((paramSpec k).isNone, stUnknownKey),
       (decide (16 ≤ i) || !(paramSpec k).any (fun p => p.inRange (paramValue p (s.arg m 2) (s.arg m 3))), stInvalid),
       (s.setLocked i, stBusy), (decide (512 ≤ held.length) && (kfind held k).isNone, stFull)])
    (fun s =>
      let (i, k) := (s.arg m 0, s.arg m 1)
      let x := s.pset i
      let v := ((paramSpec k).map (fun p => paramValue p (s.arg m 2) (s.arg m 3))).getD 0
      let e := kput x.entries k v
      (s.setPset i { x with world := worldOf m, entries := e }).answer m [i, e.length]) s

/-- PARAM_DISCARD. -/
def execParamDiscard (dt m : Nat) (s : State) : Host.Outcome State Fault Refusal :=
  served dt m 0x0204 4
    (fun s =>
      let i := s.arg m 0
      [(s.psetForeign i (worldOf m), stWorld), (decide (16 ≤ i), stInvalid), (s.setLocked i, stBusy)])
    (fun s =>
      let i := s.arg m 0
      (s.setPset i { s.pset i with entries := [] }).answer m [i]) s

/-- The instances of a class that are listed, and its items in order (R422). -/
def State.classInsts (s : State) (c : Nat) : List Nat :=
  match c with
  | 0x07 => [0, 1, 2]
  | 0x0A | 0x22 | 0x29 => [0]
  | 0x20 => List.range 4
  | 0x21 | 0x24 => List.range s.nPorts ++ [256, 257]
  | 0x23 => List.range s.nPorts ++ [256, 257, 0xFFF]
  | 0x25 => s.allLeaves
  | 0x28 => List.range 16
  | _ => []
def State.classKeys (s : State) (c : Nat) : List Nat :=
  (s.classInsts c).flatMap (fun i =>
    ((List.range 64).map (fun j => pkey c i (j + 1))).filter (fun k => (paramSpec k).isSome && !s.keyAbsent k))

/-- A descriptor of PARAM_LIST. -/
def State.describe (s : State) (k : Nat) : List Nat :=
  match paramSpec k with
  | some p => [k, (if p.wide then 1 else 0) + (if p.signed then 2 else 0)] ++ twoWords p.lo ++ twoWords p.hi ++
      twoWords (s.paramDefault k)
  | none => []

/-- PARAM_LIST: at most 127 descriptors fit. -/
def execParamList (dt m : Nat) (s : State) : Host.Outcome State Fault Refusal :=
  served dt m 0x0205 8
    (fun s =>
      let c := s.arg m 0
      let l := s.classKeys c
      [(worldOf m == 0 && l != [] && l.all (fun k => s.keySecure k), stWorld), (decide (256 ≤ c), stInvalid)])
    (fun s =>
      let open1 := fun k => worldOf m == 1 || !s.keySecure k
      let l := (s.classKeys (s.arg m 0)).filter (fun k => open1 k && decide (s.arg m 1 ≤ k))
      let shown := l.take 127
      let next := ((l.drop 127).head?).getD 0xFFFFFFFF
      s.answer m ([next, shown.length] ++ shown.flatMap (fun k => s.describe k))) s

/-- STATE of a set: 0 EMPTY, 1 STAGING, 2 LOCKED (R420).
(DESIGN CHOICE, log entry 124) -/
def State.psetState (s : State) (i : Nat) : Nat :=
  if s.setLocked i then 2 else if (s.pset i).entries.isEmpty then 0 else 1

/-- PARAM_STATUS. -/
def execParamStatus (dt m : Nat) (s : State) : Host.Outcome State Fault Refusal :=
  served dt m 0x0206 4
    (fun s => [(s.psetForeign (s.arg m 0) (worldOf m), stWorld), (decide (16 ≤ s.arg m 0), stInvalid)])
    (fun s =>
      let i := s.arg m 0
      let x := s.pset i
      s.answer m [s.psetState i, x.entries.length, x.lastTag % 2 ^ 32, x.lastTag / 2 ^ 32, x.lastResult, x.failKey]) s

/-! ## Timed-action entries through the firmware (R409, R419, R424, R425) -/

/-- The lowest FREE entry of a world. -/
def State.lowestFree (s : State) (w : Nat) : Option Nat :=
  (List.range 256).find? (fun e => s.actWorld e == w && (s.act e).state == .free)

/-- An entry's contents would be INVALID: as the engine judges them (R66), or a PARAM_COMMIT of the other world's set (R419). -/
def State.actForeign (s : State) (w : Nat) (a : ActEntry) : Bool := a.code == 0x0A && s.psetForeign a.target w
def State.actBad (s : State) (w : Nat) (a : ActEntry) : Bool :=
  (timeOfRaw a.raw).isNone || !s.actValid a.code a.target a.arg || !a.periodOk || s.actForeign w a

/-- An entry of a command that names a port the device does not have, or a number that names no port (R7, R25). -/
def State.actAbsent (s : State) (a : ActEntry) : Bool :=
  (a.code == 0x06 || a.code == 0x07 || a.code == 0x08) && decide (a.target < 512) && !s.isPort a.target

/-- The STATUS for a RESULT of TIME.ACT.STAT. -/
def statusOfResult (r : Nat) : Nat :=
  if r = resOk then 0 else if r = resInUse then stState else if r = resWorld then stWorld
  else if r = resLate then stLate else stInvalid

/-- The firmware writes an entry through its world's interface; it answers RESULT. -/
def State.actPut (s : State) (w e : Nat) (words : List Word) : Nat × State :=
  let s := s.forAll (List.range 8) (fun i s => s.storeRw (Reg.TIME_ACT_ENTRY w i) ((words[i]?).getD 0#32))
  let s := actCmd w 1 e 0 s
  (s.fld (Fld.TIME_ACT_STAT_RESULT w), s)

/-- An ACT_WRITE of the firmware: STATUS, RESULT, the index written, the state (R408 orders the statuses).
(DESIGN CHOICE, log entry 122) -/
def State.actRequest (s : State) (w : Nat) (index : Option Nat) (words : List Word) : Nat × Nat × Nat × State :=
  let a : ActEntry := { words := words }
  let bad := s.actBad w a
  let e := index.getD ((s.lowestFree w).getD 256)
  if e < 256 ∧ s.actWorld e ≠ w then (stWorld, resWorld, e, s)
  else if s.actForeign w a then (stInvalid, resInvalid, e, s)
  else if 256 ≤ e then
    (if bad then (stInvalid, resInvalid, e, s)
     else if a.trigger < s.now + 20 * usU then (stLate, resLate, e, s) else (stFull, resInUse, e, s))
  else
    let (r, s) := s.actPut w e words
    (if bad then stInvalid else statusOfResult r, r, e, s)

/-- An ACT_WRITE or ACT_BROADCAST command: after the world come an absent port and a reserved bit that is set (R408).
(DESIGN CHOICE, log entry 159) -/
def State.actCommand (s : State) (w : Nat) (index : Option Nat) (words : List Word) : Nat × Nat × Nat × State :=
  let a : ActEntry := { words := words }
  let r := s.actRequest w index words
  if r.1 = stWorld then r
  else if s.actAbsent a then (stAbsent, resInvalid, r.2.2.1, s)
  else if a.reservedSet then (stInvalid, resInvalid, r.2.2.1, s)
  else r

/-- Eight words of a payload from word i. -/
def State.entryArgs (s : State) (m i : Nat) : List Word := (List.range 8).map (fun j => BitVec.ofNat 32 (s.arg m (i + j)))

/-- The entry a scheduled commit writes (R419). -/
def State.commitEntry (s : State) (m : Nat) : List Word :=
  [s.arg m 2, s.arg m 3, s.arg m 4, s.arg m 0 * 65536 + 0x0A, s.arg m 5, s.arg m 6, 0, 0].map (fun v => BitVec.ofNat 32 v)

/-- PARAM_COMMIT (R418, R419). -/
def execParamCommit (dt m : Nat) (s : State) : Host.Outcome State Fault Refusal :=
  effect dt (fun s => onlyIf (!s.waiting .actBusy (worldOf m)) (serve m 0x0203 (fun n => n == 28)
    (fun s =>
      let (i, fl) := (s.arg m 0, s.arg m 1)
      [(s.psetForeign i (worldOf m), stWorld),
       (decide (16 ≤ i) || decide (1 < fl) || (fl == 1 && (timeOfRaw (s.arg96 m 2)).isNone), stInvalid)])
    (fun s =>
      let i := s.arg m 0
      if s.arg m 1 = 0 then
        let (fail, t) := s.commitStaged i (s.arg64 m 5) false
        if fail.isSome then t.deny m stInvalid else t.answer m [i, 0xFFFFFFFF]
      else
        let (st, _, e, t) := s.actRequest (worldOf m) none (s.commitEntry m)
        if st = 0 then t.answer m [i, e] else t.deny m st)) s) s

/-! ## TABLE (R410) -/

/-- The present Leaves of a mask. -/
def State.maskLeaves (s : State) (mask : Nat) : List Nat := s.allLeaves.filter (fun n => mask / 2 ^ n % 2 == 1)

/-- A table's entry in the shadow copy follows a command on it: dynamic MAC entries and deleted ones are not held (R411). -/
def State.shadowEntry (s : State) (n t i : Nat) : State :=
  let k := tableKind t
  let e := s.entry n t i
  let held := if k = 0 then e.valid 0 && e.f 2 17 1 == 1 else !isHashed t || e.valid k
  { s with shadows := kmod s.shadows n {} (fun (x : Shadow) =>
      let tab := kget x.tables t []
      { x with tables := kput x.tables t (if held then kput tab i e else kdel tab i) }) }

/-- A table command of the firmware on one Leaf, through its world's interface: what that Leaf answers. -/
def State.fwTable (s : State) (w n : Nat) (ctrl idx : Nat) (e : TEntry) : List Nat × State :=
  let (op, t, byIdx) := (ctrl / 2 ^ 24 % 16, ctrl / 2 ^ 16 % 16, ctrl % 2 == 1)
  let s := s.stageEntry n w e
  let s := s.setFld (Fld.FWD_CMD_INDEX_INDEX n w) idx
  let s := tableCmd n w op t byIdx 0 s
  let ok := s.fld (Fld.FWD_CMD_STAT_RESULT n w) == tOk
  let s := if ok && opWrites op && op != 6 then s.shadowEntry n t (s.fld (Fld.FWD_CMD_STAT_FOUND_IDX n w)) else s
  ([n, (s.get (Reg.FWD_CMD_STAT n w)).toNat, (s.get (Reg.FWD_CMD_XDATA n w)).toNat] ++ s.wordsAt (Reg.FWD_CMD_DATA n w 0) 8, s)

/-- A group index the snooping service holds (R428).
(DEDUCED, log entry 123) -/
def State.groupHeld (s : State) (i : Nat) : Bool :=
  let base := s.paramNat (pkey 0x22 0 6)
  decide (base ≤ i) && decide (i < base + s.paramNat (pkey 0x22 0 7))

/-- The checks of a Leaf mask: world of its tables, power, presence. -/
def State.maskChecks (s : State) (m : Nat) (l : List Nat) (tables : List Nat) (bad : Bool) : List (Bool × Nat) :=
  [(worldOf m == 0 && l.any (fun n => tables.any (fun t => s.fwdSecure n t)), stWorld),
   (l.any (fun n => !s.leafOn n), stNotPowered), (l == [] || bad, stInvalid)]

/-- The bits of CTRL a request may set: OPCODE, TABLE and MODE. -/
def ctrlOk (c : Nat) : Bool := decide (c < 2 ^ 28) && c / 2 ^ 20 % 16 == 0 && c / 2 % 2 ^ 15 == 0

/-- No interface of world w of some Leaves is BUSY. -/
def State.tablesIdle (s : State) (w : Nat) : Bool := s.allLeaves.all (fun n => !s.waiting .fwdBusy (fwdBusy n w))

/-- TABLE_OP. -/
def execTableOp (dt m : Nat) (s : State) : Host.Outcome State Fault Refusal :=
  effect dt (fun s => onlyIf (s.tablesIdle (worldOf m)) (serve m 0x0301 (fun n => n == 48)
    (fun s =>
      let (mask, ctrl) := (s.arg m 0, s.arg m 1)
      let (op, t) := (ctrl / 2 ^ 24 % 16, ctrl / 2 ^ 16 % 16)
      let l := s.maskLeaves mask
      s.maskChecks m l [t] (decide (256 ≤ mask) || !ctrlOk ctrl || ((op == 1 || op == 5) && decide (1 < l.length))) ++
        [((t == 3 || t == 4) && (op == 2 || op == 4) && s.groupHeld (s.arg m 2), stReserved)])
    (fun s =>
      let e : TEntry := { data := (s.entryArgs m 4).map (fun w => w.toNat), xdata := s.arg m 3 }
      let (ctrl, idx) := (s.arg m 1, s.arg m 2)
      let (out, t) := (s.maskLeaves (s.arg m 0)).foldl (fun (r : List Nat × State) n =>
        let (o, t) := r.2.fwTable (worldOf m) n ctrl idx e
        (r.1 ++ o, t)) ([], s)
      t.answer m out)) s) s

/-- The MAC entries of a Leaf whose DEST is a port; STATIC ones only when asked for. -/
def State.macOfPort (s : State) (n p : Nat) (static : Bool) : List Nat :=
  ((s.tbl n 0).filter (fun (x : Nat × TEntry) =>
    x.2.valid 0 && x.2.f 2 14 1 == 0 && x.2.f 2 0 14 == p && (static || x.2.f 2 17 1 == 0))).map (fun (x : Nat × TEntry) => x.1)

/-- Entries of a table are deleted, in the Leaf and in the shadow copy. -/
def State.dropEntries (s : State) (n t : Nat) (l : List Nat) : State :=
  s.forAll l (fun i s => (s.setEntry n t i ((s.entry n t i).setValid (tableKind t) false)).shadowEntry n t i)

/-- TABLE_FLUSH_PORT. -/
def execTableFlushPort (dt m : Nat) (s : State) : Host.Outcome State Fault Refusal :=
  served dt m 0x0302 12
    (fun s =>
      let (mask, p, fl) := (s.arg m 0, s.arg m 1, s.arg m 2)
      let l := s.maskLeaves mask
      [(worldOf m == 0 && l.any (fun n => s.fwdSecure n 0), stWorld), (!s.isPort p, stAbsent)] ++
        s.maskChecks m l [0] (decide (256 ≤ mask) || decide (1 < fl)) ++ [(l.any (fun n => s.tableRefuses n 0), stBusy)])
    (fun s =>
      let (p, static) := (s.arg m 1, s.arg m 2 == 1)
      let l := s.maskLeaves (s.arg m 0)
      let counts := (List.range 8).map (fun n => if l.contains n then (s.macOfPort n p static).length else 0)
      (s.forAll l (fun n s => s.dropEntries n 0 (s.macOfPort n p static))).answer m counts) s

/-- The tables a BANK_COPY names. -/
def copyPairs (v : Nat) : List Nat := [0, 1, 2].filter (fun i => v / 2 ^ i % 2 == 1)

/-- The active bank of a pair is copied into the inactive one. -/
def State.bankCopy (s : State) (n pair : Nat) : State :=
  let bit := s.bankBit n pair
  s.modDie n (fun d => { d with tables := kput d.tables (bankTable pair (1 - bit)) (s.tbl n (bankTable pair bit)) })

/-- BANK_COPY. -/
def execBankCopy (dt m : Nat) (s : State) : Host.Outcome State Fault Refusal :=
  served dt m 0x0303 8
    (fun s =>
      let (mask, v) := (s.arg m 0, s.arg m 1)
      let l := s.maskLeaves mask
      s.maskChecks m l ((copyPairs v).flatMap (fun i => [bankTable i 0, bankTable i 1])) (decide (256 ≤ mask) || decide (8 ≤ v)) ++
        [(l.any (fun n => (copyPairs v).any (fun i => s.tableRefuses n (bankTable i (1 - s.bankBit n i)))), stBusy)])
    (fun s => (s.forAll (s.maskLeaves (s.arg m 0)) (fun n s =>
      s.forAll (copyPairs (s.arg m 1)) (fun i s => s.bankCopy n i))).answer m []) s

/-! ## PORT (R409, R412, R413) -/

/-- The state with EN of a port's first lane cleared, as R111 asks before MODE changes.
(DESIGN CHOICE, log entry 125) -/
def State.laneOff (s : State) (p : Nat) : State :=
  s.writeAt .core (Reg.LANE_CTRL p) (withBits (s.get (Reg.LANE_CTRL p)) (Fld.LANE_CTRL_EN p).lo 1 0) 0 false

/-- Whether R111 or R112 would refuse a mode once EN is clear.
(DESIGN CHOICE, log entry 125) -/
def State.modeRefused (s : State) (p mode fec : Nat) : Bool :=
  let t := s.laneOff p
  decide (64 ≤ mode) || decide (8 ≤ fec) || !t.modeOk p mode || (t.fecAfter p mode fec).isNone

/-- PORT_MODE: the sequence of R111; MODE enters the shadow copy. -/
def execPortMode (dt m : Nat) (s : State) : Host.Outcome State Fault Refusal :=
  served dt m 0x0401 12
    (fun s =>
      let p := s.arg m 0
      let noLanes := p == 258 || p == 259
      [(s.barred m (portHome p) || (!noLanes && s.barred m (Reg.LANE_CTRL p)), stWorld),
       (!noLanes && (!s.laneExists p || (s.portOfLane p).any (fun q => q != p)), stAbsent), (!s.dieOn p, stNotPowered),
       (noLanes || s.modeRefused p (s.arg m 1) (s.arg m 2), stInvalid)])
    (fun s =>
      let p := s.arg m 0
      let ctrl := s.get (Reg.LANE_CTRL p)
      let s := (s.laneOff p).leafPut (Reg.PORT_MODE p) (BitVec.ofNat 32 (s.arg m 1 + 2 ^ 8 * s.arg m 2))
      (s.writeAt .core (Reg.LANE_CTRL p) ctrl 0 false).answer m []) s

/-- The checks of a port a request names: world, presence, power. -/
def State.portChecks (s : State) (m p : Nat) : List (Bool × Nat) :=
  [(s.barred m (portHome p), stWorld), (!s.isPort p, stAbsent), (!s.dieOn p, stNotPowered)]

/-- PORT_ADMIN: as PORT_ENABLE and PORT_DISABLE act, now; the setting enters the shadow copy. -/
def execPortAdmin (dt m : Nat) (s : State) : Host.Outcome State Fault Refusal :=
  served dt m 0x0402 8
    (fun s => s.portChecks m (s.arg m 0) ++ [(decide (1 < s.arg m 1), stInvalid)])
    (fun s =>
      let (p, up) := (s.arg m 0, s.arg m 1 == 1)
      let s := s.portAdmin p s.now up
      let s := if p < 256 then
          { s with shadows := kmod s.shadows (p / 32) {} (fun (x : Shadow) => { x with admin := kput x.admin p up }) }
        else s
      s.answer m []) s

/-- A front-panel or service port with lanes. -/
def State.lanedChecks (s : State) (m p : Nat) : List (Bool × Nat) :=
  [(s.barred m (Reg.PORT_MODE p), stWorld), (!s.isPort p, stAbsent), (!s.dieOn p, stNotPowered), (decide (258 ≤ p), stInvalid)]

/-- PORT_STATUS; `present` is the presence input of the port's cage. -/
def execPortStatus (dt m : Nat) (present : Bool) (s : State) : Host.Outcome State Fault Refusal :=
  served dt m 0x0403 4
    (fun s => s.lanedChecks m (s.arg m 0))
    (fun s =>
      let p := s.arg m 0
      let lanes := s.lanesOf p
      let ready := present && (s.port p).modReady
      s.answer m ((List.range 4).map (fun i => ((lanes[i]?).map (fun g => (s.get (Reg.LANE_STATE g)).toNat)).getD 0) ++
        [(s.get (Reg.PORT_STATUS p)).toNat, (if present then 1 else 0) + (if ready then 2 else 0)])) s

/-- The checks of a module access: BANK, PAGE, OFFSET and LEN in range (an SFF-8636 module has BANK 0), a module present, and
the transaction done.
(DESIGN CHOICE, log entry 126) -/
def State.moduleChecks (s : State) (m : Nat) (present sff ok : Bool) : List (Bool × Nat) :=
  let (p, bank, page, off, len) := (s.arg m 0, s.arg m 1, s.arg m 2, s.arg m 3, s.arg m 4)
  s.lanedChecks m p ++ [(decide (256 ≤ p) || decide (256 ≤ bank) || decide (256 ≤ page) || decide (256 < off + len) ||
    decide (len < 1) || decide (128 < len) || (present && sff && bank != 0), stInvalid), (!present, stState), (!ok, stHwError)]

/-- MODULE_READ: the module's bytes, or none where its transaction fails. -/
def execModuleRead (dt m : Nat) (present sff : Bool) (data : Option (List Byte)) (s : State) :
    Host.Outcome State Fault Refusal :=
  served dt m 0x0404 20 (fun s => s.moduleChecks m present sff data.isSome)
    (fun s =>
      let n := s.arg m 4
      s.reply m 0 0 ((data.getD [] ++ zeros n).take n)) s

/-- MODULE_WRITE. -/
def execModuleWrite (dt m : Nat) (present sff ok : Bool) (s : State) : Host.Outcome State Fault Refusal :=
  effect dt (fun s => serve m 0x0405 (fun n => n == 20 + s.arg m 4) (fun s => s.moduleChecks m present sff ok)
    (fun s => (s.emit (.module (s.arg m 0) (s.arg m 1) (s.arg m 2) (s.arg m 3) (s.argBytes m 20 (s.arg m 4)))).answer m []) s) s

/-- MODULE_READY (R81, R413): module management finds a port's module ready. -/
def execModuleReady (dt p : Nat) (s : State) : Host.Outcome State Fault Refusal :=
  effect dt (fun s => onlyIf (s.fwRuns && decide (p < 256) && s.namesPort p && s.dieOn p)
    (fun s => s.modPort p (fun x => { x with modReady := true })) s) s

/-- LLDP_NEIGHBOUR (R429). -/
def execLldpNeighbour (dt m : Nat) (s : State) : Host.Outcome State Fault Refusal :=
  served dt m 0x0406 4
    (fun s => [(!s.namesPort (s.arg m 0), stAbsent), ((kfind s.neighbours (s.arg m 0)).isNone, stNotFound)])
    (fun s => match kfind s.neighbours (s.arg m 0) with
      | some x =>
        let tlv := fun (b : List Byte) => (b ++ zeros 256).take 256
        s.reply m 0 0 (payload [(s.ticks - x.at_) / secT] ++ tlv x.chassis ++ tlv x.portId ++ tlv x.sysName)
      | none => s) s

/-! ## TIME and ACT (R409, R424) -/

/-- TIME_GET. -/
def execTimeGet (dt m : Nat) (s : State) : Host.Outcome State Fault Refusal :=
  served dt m 0x0501 0 (fun _ => [])
    (fun s => s.answer m ((timeWords s.now).map (fun w => w.toNat) ++ s.wordsAt Reg.TIME_STATUS 1)) s

/-- TIME_SET: a load is armed (R51). -/
def execTimeSet (dt m : Nat) (s : State) : Host.Outcome State Fault Refusal :=
  served dt m 0x0502 12 (fun s => [((timeOfRaw (s.arg96 m 0)).isNone, stInvalid)])
    (fun s =>
      let v := s.arg96 m 0
      let s := (s.dropHeld Reg.TIME_SET0 3).setWide Reg.TIME_SET0 3 v
      ({ s with setLoad := some ((timeOfRaw v).getD 0, s.now / secU) }.raise Fld.TIME_STATUS_SET_PENDING).answer m []) s

/-- A request of the ACT family: the interface of its world is not BUSY.
(DESIGN CHOICE, log entry 122) -/
def actServed (dt m op len : Nat) (checks : State → List (Bool × Nat)) (act : State → State) (s : State) :
    Host.Outcome State Fault Refusal :=
  effect dt (fun s => onlyIf (!s.waiting .actBusy (worldOf m)) (serve m op (fun n => n == len) checks act) s) s

/-- ACT_WRITE. -/
def execActWrite (dt m : Nat) (s : State) : Host.Outcome State Fault Refusal :=
  actServed dt m 0x0601 36
    (fun s => [(decide (256 ≤ s.arg m 0) && s.arg m 0 != 0xFFFFFFFF, stInvalid)])
    (fun s =>
      let i := s.arg m 0
      let (st, r, e, t) := s.actCommand (worldOf m) (if i = 0xFFFFFFFF then none else some i) (s.entryArgs m 1)
      if st = 0 then t.answer m [e] else t.reply m st r []) s

/-- The checks of an entry a request names. -/
def State.entryChecks (s : State) (m : Nat) : List (Bool × Nat) :=
  let e := s.arg m 0
  [(decide (e < 256) && s.actWorld e != worldOf m, stWorld), (decide (256 ≤ e), stInvalid)]

/-- ACT_READ. -/
def execActRead (dt m : Nat) (s : State) : Host.Outcome State Fault Refusal :=
  actServed dt m 0x0602 4 (fun s => s.entryChecks m)
    (fun s =>
      let w := worldOf m
      let s := actCmd w 2 (s.arg m 0) 0 s
      s.answer m (s.wordsAt (Reg.TIME_ACT_ENTRY w 0) 8 ++ s.wordsAt (Reg.TIME_ACT_STAT w) 1)) s

/-- ACT_CANCEL. -/
def execActCancel (dt m : Nat) (s : State) : Host.Outcome State Fault Refusal :=
  actServed dt m 0x0603 4 (fun s => s.entryChecks m)
    (fun s =>
      let w := worldOf m
      let s := actCmd w 3 (s.arg m 0) 0 s
      let st := statusOfResult (s.fld (Fld.TIME_ACT_STAT_RESULT w))
      if st = 0 then s.answer m [] else s.deny m st) s

end Sys2Proof.Machine
end

