-- ==== Sys2Proof/Machine/Cmd.lean ====
section
/-!
DEFINITION. Cmd.lean: the firmware's commands of the REF, DPLL, SYN, GNSS, CLAIM, POWER, IMAGE, SEC, TELEM and CAL families
(R409, R414, R437).
-/
namespace Sys2Proof.Machine

/-- Words of the register file from an address, as they read now. -/
def State.shownAt (s : State) (l : List Nat) : List Nat := l.map (fun a => ((s.refresh a).get a).toNat)

/-! ## REF, DPLL, SYN, GNSS -/

/-- REF_STATUS: STAT and FOFF of slots 0 to 15. -/
def execRefStatus (dt m : Nat) (s : State) : Host.Outcome State Fault Refusal :=
  served dt m 0x0701 0 (fun s => [(s.barred m (Reg.REF_SLOT_STAT 0), stWorld)])
    (fun s => s.answer m (s.shownAt ((List.range 16).flatMap (fun i => [Reg.REF_SLOT_STAT i, Reg.REF_SLOT_FOFF i])))) s

/-- World and number of a DPLL a request names. -/
def State.dpllChecks (s : State) (m d : Nat) : List (Bool × Nat) :=
  [(s.barred m (Reg.DPLL_CTRL 0), stWorld), (decide (3 ≤ d), stInvalid)]

/-- DPLL_STATUS. -/
def execDpllStatus (dt m : Nat) (s : State) : Host.Outcome State Fault Refusal :=
  served dt m 0x0801 4 (fun s => s.dpllChecks m (s.arg m 0))
    (fun s =>
      let d := s.arg m 0
      s.answer m (s.shownAt [Reg.DPLL_STAT d] ++ s.wordsAt (Reg.DPLL_FREQ_NOW0 d) 2 ++ s.wordsAt (Reg.DPLL_OFFSET0 d) 2 ++
        s.wordsAt (Reg.DPLL_HO_BOUND d) 1)) s

/-- DPLL_RETURN: as RETURN.CMD (R267). -/
def execDpllReturn (dt m : Nat) (s : State) : Host.Outcome State Fault Refusal :=
  served dt m 0x0802 8
    (fun s =>
      let (d, c) := (s.arg m 0, s.arg m 1)
      s.dpllChecks m d ++ [(decide (c < 1) || decide (3 < c), stInvalid), (!s.on (Fld.DPLL_STAT_RETURN_PENDING d), stState)])
    (fun s => (dpllReturn (s.arg m 0) (s.arg m 1) s).answer m []) s

/-- SYN_STATUS. -/
def execSynStatus (dt m : Nat) (s : State) : Host.Outcome State Fault Refusal :=
  served dt m 0x0901 0 (fun s => [(s.barred m (Reg.APLL_STAT 0), stWorld)])
    (fun s => s.answer m (s.shownAt ((List.range 3).map Reg.APLL_STAT ++ (List.range 12).map Reg.OUT_STAT))) s

/-- GNSS_STATUS. -/
def execGnssStatus (dt m : Nat) (s : State) : Host.Outcome State Fault Refusal :=
  served dt m 0x0A01 0 (fun s => [(s.barred m Reg.GNSS_CTRL, stWorld)])
    (fun s => s.answer m (s.wordsAt Reg.GNSS_SOL_STAT 1 ++ s.wordsAt Reg.GNSS_SOL_OFFSET0 2 ++ s.wordsAt Reg.GNSS_FW_EVT 1 ++
      [(allChans.filter (fun c => s.chanState c == 2)).length])) s

/-- GNSS_SURVEY: the survey starts again. -/
def execGnssSurvey (dt m : Nat) (s : State) : Host.Outcome State Fault Refusal :=
  served dt m 0x0A02 0 (fun s => [(s.barred m Reg.GNSS_CTRL, stWorld)])
    (fun s => (s.modGnss (fun g => { g with position := none, surveyAt := s.ticks })).answer m []) s

/-! ## CLAIM and POWER -/

/-- CLAIM_STATUS: the domain's words. -/
def execClaimStatus (dt m : Nat) (s : State) : Host.Outcome State Fault Refusal :=
  served dt m 0x0B01 4 (fun s => [(s.barred m (Reg.CLM_DOM_CFG 0), stWorld), (decide (16 ≤ s.arg m 0), stInvalid)])
    (fun s => s.answer m (s.shownAt ((List.range 8).map (fun i => Reg.CLM_DOM_CFG (s.arg m 0) + 4 * i)))) s

/-- CLAIM_NOTICE: as CLM.CMD (R325).
(DESIGN CHOICE, log entry 131) -/
def execClaimNotice (dt m : Nat) (s : State) : Host.Outcome State Fault Refusal :=
  served dt m 0x0B02 12
    (fun s =>
      let (d, op, x) := (s.arg m 0, s.arg m 1, s.arg m 2)
      [(s.barred m Reg.CLM_CMD, stWorld),
       (decide (16 ≤ d) || (op != 1 && op != 2) || (x != s.peer d 0 && x != s.peer d 1), stInvalid),
       (decide (s.role d < 2), stState)])
    (fun s =>
      let (d, op, x) := (s.arg m 0, s.arg m 1, s.arg m 2)
      let s := clmCmd (clmCmdWord op d x) s
      s.answer m [s.fld (Fld.CLM_DOM_NOTICE_GEN d)]) s

/-- POWER_STATUS. -/
def execPowerStatus (dt m : Nat) (s : State) : Host.Outcome State Fault Refusal :=
  served dt m 0x0C01 0 (fun s => [(s.barred m Reg.PWR_STATE, stWorld)])
    (fun s => s.answer m (s.shownAt ([Reg.PWR_STATE, Reg.PWR_GRANT, Reg.PWR_THROTTLE] ++ allRegs.map Reg.PWR_REG_STAT))) s

/-- PMBUS_XFER: the bytes read, or none where the transaction fails (R346).
(DESIGN CHOICE, log entry 131) -/
def execPmbusXfer (dt m : Nat) (data : Option (List Byte)) (s : State) : Host.Outcome State Fault Refusal :=
  effect dt (fun s => serve m 0x0C02 (fun n => n == 20 + s.arg m 3)
    (fun s =>
      let (a, page, cmd, wl, rl) := (s.arg m 0, s.arg m 1, s.arg m 2, s.arg m 3, s.arg m 4)
      [(s.barred m Reg.PWR_STATE, stWorld), (decide (128 ≤ a) || decide (256 ≤ page) || decide (256 ≤ cmd) ||
        decide (32 < wl) || decide (32 < rl), stInvalid), (data.isNone, stHwError)])
    (fun s =>
      let rl := s.arg m 4
      let s := s.emit (.pmbus (s.arg m 0) (s.arg m 1) (s.arg m 2) (s.argBytes m 20 (s.arg m 3)))
      s.reply m 0 0 ((data.getD [] ++ zeros rl).take rl)) s) s

/-! ## IMAGE (R414, R372) -/

/-- A flash erase or write that touches the slot the running firmware was started from. -/
def State.slotRuns (s : State) (slot : Nat) : Bool := s.boot.image == some slot

/-- FLASH_ERASE; `ok` says whether the erase verifies.
(DESIGN CHOICE, log entry 128) -/
def execFlashErase (dt m : Nat) (ok : Bool) (s : State) : Host.Outcome State Fault Refusal :=
  served dt m 0x0D01 12
    (fun s =>
      let (slot, off, len) := (s.arg m 0, s.arg m 1, s.arg m 2)
      [(decide (2 ≤ slot) || off % 4096 != 0 || len % 4096 != 0 || decide (slotBytes < off + len), stInvalid),
       (s.slotRuns slot, stState), (!ok, stHwError)])
    (fun s =>
      let (slot, off, len) := (s.arg m 0, s.arg m 1, s.arg m 2)
      ({ s with flash := flashErase s.flash (slot * slotBytes + off) len }).answer m []) s

/-- FLASH_WRITE.
(DESIGN CHOICE, log entry 128) -/
def execFlashWrite (dt m : Nat) (ok : Bool) (s : State) : Host.Outcome State Fault Refusal :=
  effect dt (serve m 0x0D02 (fun n => decide (12 ≤ n) && decide (n ≤ 4072) && n % 4 == 0)
    (fun s =>
      let (slot, off, len) := (s.arg m 0, s.arg m 1, s.reqLength m - 8)
      [(decide (2 ≤ slot) || decide (slotBytes < off + len), stInvalid), (s.slotRuns slot, stState), (!ok, stHwError)])
    (fun s =>
      let (slot, off, len) := (s.arg m 0, s.arg m 1, s.reqLength m - 8)
      ({ s with flash := flashPut s.flash (slot * slotBytes + off) (s.argBytes m 8 len) }).answer m [])) s

/-- FLASH_READ. -/
def execFlashRead (dt m : Nat) (ok : Bool) (s : State) : Host.Outcome State Fault Refusal :=
  served dt m 0x0D03 12
    (fun s =>
      let (slot, off, len) := (s.arg m 0, s.arg m 1, s.arg m 2)
      [(decide (2 ≤ slot) || decide (len < 4) || decide (4072 < len) || decide (slotBytes < off + len), stInvalid),
       (!ok, stHwError)])
    (fun s => s.reply m 0 0 (s.imgBytes (s.arg m 0) (s.arg m 1) (s.arg m 2))) s

/-- IMAGE_CHECK: VERSION, SVN and GEN of a valid slot, or its REASON. -/
def execImageCheck (dt m : Nat) (readable : Bool) (s : State) : Host.Outcome State Fault Refusal :=
  served dt m 0x0D04 4 (fun s => [(decide (2 ≤ s.arg m 0), stInvalid)])
    (fun s =>
      let slot := s.arg m 0
      let r := s.validateSlot slot readable
      let h := s.imgBytes slot 0 320
      if r = 0 then s.answer m [leAt h 8 4, leAt h 12 4, s.genOf slot] else s.reply m stImageBad r []) s

/-- Whether a slot's WORLD_MAP section is the locked map (R372).
(DESIGN CHOICE, log entry 127) -/
def State.sameWorld (s : State) (slot : Nat) : Bool :=
  let w := s.sectionBytes slot 3
  leAt w 4 4 == s.fld Fld.SEC_WORLD_SPINE_SECURE && leAt w 8 4 == s.fld Fld.SEC_WORLD_LEAF_SECURE &&
    leAt w 12 4 % 2 == s.fld Fld.SEC_WORLD_SPI_SECURE && leAt w 16 4 % 512 == s.boot.fwdSecure && regionsOf w == s.boot.regions

/-- IMAGE_ACTIVATE: the cores restart on the slot once every accepted request has its response (R372, R373, R389). The spec
names no REASON for a map that differs.
(DESIGN CHOICE, log entry 127) -/
def execImageActivate (dt m : Nat) (readable : Bool) (s : State) : Host.Outcome State Fault Refusal :=
  served dt m 0x0D05 4
    (fun s => [(decide (2 ≤ s.arg m 0), stInvalid), (s.boot.activate.isSome || s.bootState == bootUpdating, stState)])
    (fun s =>
      let slot := s.arg m 0
      let r := s.validateSlot slot readable
      if r ≠ 0 then s.reply m stImageBad r []
      else if !s.sameWorld slot then
        let (x, s) := s.draw
        s.reply m stImageBad (x.toNat % 16) []
      else (s.modBoot (fun b => { b with activate := some slot })).answer m []) s

/-! ## SEC and TELEM -/

/-- SEC_STATUS: reading DBG_STAT clears source 2 (R460). -/
def execSecStatus (dt m : Nat) (s : State) : Host.Outcome State Fault Refusal :=
  served dt m 0x0E01 0 (fun _ => [])
    (fun s => (s.setFldBit (Fld.EVT_RAW_RAW 0) 2 false).answer m (s.shownAt [Reg.SEC_FUSE, Reg.SEC_WORLD, Reg.SEC_DBG_STAT])) s

/-- WARM_RESET: answered, and 10 ms later the device resets as by WARMn (R352).
(DESIGN CHOICE, log entry 129) -/
def execWarmReset (dt m : Nat) (s : State) : Host.Outcome State Fault Refusal :=
  effect dt (fun s =>
    if s.due .warmCmd 0 then warmReset Fld.SYS_RESET_CAUSE_WARM_CMD (s.fld Fld.SYS_BOOT_STATUS_BOOTSEL) s
    else serve m 0x0E02 (fun n => n == 0) (fun _ => [])
      (fun s => (if s.running .warmCmd 0 then s else s.startTimer .warmCmd 0 (10 * msT)).answer m []) s) s

/-- SNAPSHOT (R74, R451, R452). -/
def execSnapshot (dt m : Nat) (s : State) : Host.Outcome State Fault Refusal :=
  served dt m 0x0F01 12
    (fun s => [(worldOf m == 0 && s.snapSecure (s.arg m 0), stWorld), (!s.actValid 0x02 (s.arg m 0) (s.arg64 m 1), stInvalid), (!s.snapOpen, stBusy)])
    (fun s => (snapNow (s.arg64 m 1) (s.arg m 0) s).answer m []) s

/-- FREEZE (R450). -/
def execFreeze (dt m : Nat) (s : State) : Host.Outcome State Fault Refusal :=
  served dt m 0x0F02 4 (fun s => [(s.barred m Reg.TEL_CTRL, stWorld), (decide (1 < s.arg m 0), stInvalid)])
    (fun s => (telFreeze (s.arg m 0 == 1) s).answer m []) s

/-- USER_WINDOW (R453): the secure mailboxes only. -/
def execUserWindow (dt m : Nat) (s : State) : Host.Outcome State Fault Refusal :=
  served dt m 0x0F03 8 (fun s => [(worldOf m == 0, stWorld), (decide (32 ≤ s.arg64 m 0), stInvalid)])
    (fun s => (s.setFld Fld.TEL_USER_MASK_GROUPS (s.arg m 0)).answer m []) s

/-! ## CAL (R437, R440) -/

/-- An instance that names an absent Leaf, or a number that names no port. -/
def State.calAbsent (s : State) (item inst : Nat) : Bool :=
  ((item == 1 || item == 4) && !s.namesPort inst) || (item == 6 && decide (s.leaves < inst) && decide (inst ≤ 8))

/-- Whether a known instance of an item lies in a power domain that is off (R33). -/
def State.calUnpowered (s : State) (item inst : Nat) : Bool :=
  s.calKnown item inst && (match item with
    | 1 | 4 => !s.dieOn inst
    | 2 => !s.dieOn inst || !s.octetOn inst
    | 3 => !s.domOn inst
    | 5 => !s.domOn (s.outSrc inst)
    | 6 => inst != 0 && !s.leafOn (inst - 1)
    | _ => false)

/-- CAL_RUN: the request joins the queue; it is answered when the run ends (`calReport`).
(DESIGN CHOICE, log entry 130) -/
def execCalRun (dt m : Nat) (s : State) : Host.Outcome State Fault Refusal :=
  served dt m 0x1001 8
    (fun s => [(s.barred m (Reg.CAL_REQ 0), stWorld), (s.calAbsent (s.arg m 0) (s.arg m 1), stAbsent),
      (s.calUnpowered (s.arg m 0) (s.arg m 1), stNotPowered)])
    (fun s =>
      let (item, inst) := (s.arg m 0, s.arg m 1)
      let r := s.calRefusal item inst
      if r = 0 then s.calQueue item inst (3 + m)
      else s.reply m (if r = calInvalid then stInvalid else stBusy) r []) s

/-- BAND_CAL: item 3 on an APLL that is OFF or NO_BAND. -/
def execBandCal (dt m : Nat) (s : State) : Host.Outcome State Fault Refusal :=
  served dt m 0x0902 4
    (fun s =>
      let a := s.arg m 0
      [(s.barred m (Reg.APLL_STAT 0), stWorld), (decide (a < 3) && !s.domOn a, stNotPowered), (decide (3 ≤ a), stInvalid),
       (decide (2 ≤ s.apllState a) && s.calRefusal 3 a == 0, stState)])
    (fun s =>
      let a := s.arg m 0
      let r := s.calRefusal 3 a
      if r = 0 then s.calQueue 3 a (3 + m) else s.reply m stBusy r []) s

/-- CAL_STATUS: the last result and its age; of an instance that never ran the spec gives no age. -/
def execCalStatus (dt m : Nat) (s : State) : Host.Outcome State Fault Refusal :=
  served dt m 0x1002 8
    (fun s =>
      let (item, inst) := (s.arg m 0, s.arg m 1)
      [(s.barred m (Reg.CAL_REQ 0), stWorld), (s.calAbsent item inst, stAbsent), (!s.calKnown item inst, stInvalid)])
    (fun s =>
      let (item, inst) := (s.arg m 0, s.arg m 1)
      let w := (s.get (Reg.CAL_RES (item - 1) inst)).toNat
      match kfind s.cal.resAt (calKey item inst) with
      | some t => s.answer m [w, (s.ticks - t) / secT]
      | none =>
        let (x, s) := s.draw
        s.answer m [w, x.toNat]) s

end Sys2Proof.Machine
end

