-- ==== Sys2Proof/Machine/Lldp.lean ====
section
/-!
DEFINITION. Lldp.lean: the firmware's services beside PTP: timed-action broadcasts (R423 to R425), IGMP and MLD snooping (R428),
LLDP (R429) and MAC ageing (R158, R430).
-/
namespace Sys2Proof.Machine

/-- The class services send in. -/
def svcClass : Nat := 7

/-! ## Timed-action broadcasts (R423 to R425) -/

/-- The Protocol of a broadcast. -/
def bcastProto : Nat := 0x0103

/-- A broadcast without its FCS, as a port sends it (R423). -/
def State.bcastFrame (s : State) (p origin seq d hops : Nat) (words : List Word) : List Byte :=
  ethFrame tcxDa (s.portMac p) 0x88B7 (beBytes tcxCid 3 ++ beBytes bcastProto 2 ++ beBytes 1 1 ++ beBytes 3 1 ++ beBytes 48 2 ++
    beBytes origin 2 ++ beBytes seq 2 ++ beBytes d 1 ++ beBytes hops 1 ++
    beBytes (s.claimIn d (s.clmState d)) 2 ++ zeros 4 ++ words.flatMap (fun w => beBytes w.toNat 4))

/-- The ports a broadcast of domain d goes out on (R424). -/
def State.bcastPorts (s : State) (d : Nat) : List Nat :=
  (List.range 258).filter (fun p => s.svcPort p && s.claimDom p == d && s.fldBit (Fld.TCX_PEER_CAP_CAP p) 4)

/-- A broadcast leaves on some ports.
(DESIGN CHOICE, log entry 132) -/
def State.bcastSend (s : State) (ports : List Nat) (origin seq d hops : Nat) (words : List Word) : State :=
  s.forAll ports (fun p s => s.fwSend p svcClass none (s.bcastFrame p origin seq d hops words))

/-- ACT_BROADCAST (R424). -/
def execActBroadcast (dt m : Nat) (s : State) : Host.Outcome State Fault Refusal :=
  actServed dt m 0x0604 40
    (fun s => [(decide (16 ≤ s.arg m 0) || decide (s.arg m 1 < 1) || decide (15 < s.arg m 1), stInvalid)])
    (fun s =>
      let (d, hops) := (s.arg m 0, s.arg m 1)
      let words := s.entryArgs m 2
      let (st, _, _, t) := s.actCommand (worldOf m) none words
      if st ≠ 0 then t.deny m st
      else
        let seq := (t.bseq + 1) % 65536
        let ports := t.bcastPorts d
        let t := ({ t with bseq := seq }).bcastSend ports (t.fld Fld.CLM_ID_SERIAL) seq d hops words
        t.answer m [seq, ports.length]) s

/-- The key of what was last accepted from an origin in a domain. -/
def bcastKey (d origin : Nat) : Nat := d * 4096 + origin

/-- A broadcast received on a port is acted on in the order of R425.
(DESIGN CHOICE, log entry 132) -/
def bcastTake (f : Frame) (s : State) : State :=
  let b := f.bytes
  let p := f.inPort
  let (origin, seq, d, hops) := (beAt b 23 2 % 4096, beAt b 25 2, byteAt b 27 % 16, byteAt b 28 % 16)
  let words := (List.range 8).map (fun i => BitVec.ofNat 32 (beAt b (35 + 4 * i) 4))
  let a : ActEntry := { words := words }
  let formOk := s.fldBit (Fld.TCX_CAP_CAP p) 4 && byteAt b 19 == 1 && byteAt b 20 == 3 && beAt b 21 2 == 48
  let ahead := (seq + 65536 - kget s.bseen (bcastKey d origin) seq) % 65536
  let fresh := (kfind s.bseen (bcastKey d origin)).isNone || (decide (1 ≤ ahead) && decide (ahead ≤ 32767))
  if !formOk then s
  else if s.portRefused p then s.bump (Fld.CLM_DOM_REFUSED_COUNT (s.claimDom p)) 1
  else if !fresh then s
  else
    if s.paramNat (pkey 0x29 0 1) / 2 ^ a.code % 2 = 0 ∨ 32 ≤ a.code then s
    else
      let (st, r, _, s) := { s with bseen := kput s.bseen (bcastKey d origin) seq }.actRequest 0 none words
      let s := if st = 0 then s
        else ({ s with bcount := kmod s.bcount r 0 (fun n => n + 1) }).setFldBit Fld.TIME_ACT_EVT_USER 15 true
      if hops < 2 then s
      else s.bcastSend ((s.bcastPorts d).filter (fun q => q != p)) origin seq d (hops - 1) words

/-- BROADCAST_RECEIVE (R425): the first broadcast that waits at port 259. -/
def execBroadcastReceive (dt : Nat) (s : State) : Host.Outcome State Fault Refusal :=
  effect dt (fun s => onlyIf (!s.waiting .actBusy 0) (fun s => s.svcRun 3 bcastTake) s) s

/-! ## LLDP (R429) -/

/-- A TLV: seven bits of type, nine of length. -/
def lldpTlv (type : Nat) (v : List Byte) : List Byte := beBytes (type * 512 + v.length % 512) 2 ++ v

/-- TX_INTERVAL in seconds, and the time to live sent. -/
def State.lldpEvery (s : State) : Nat := s.paramNat (pkey 0x23 0xFFF 1)
def State.lldpTtl (s : State) : Nat := min 65535 (s.lldpEvery * s.paramNat (pkey 0x23 0xFFF 2) + 1)

/-- ADMIN of a port: bit 0 transmit, bit 1 receive. -/
def State.lldpAdmin (s : State) (p : Nat) : Nat := s.paramNat (pkey 0x23 p 1)

/-- The LLDP frame of a port. -/
def State.lldpFrame (s : State) (p : Nat) : List Byte :=
  ethFrame tcxDa (s.portMac p) 0x88CC (lldpTlv 1 (beBytes 4 1 ++ beBytes (s.ownMac 0) 6) ++
    lldpTlv 2 (beBytes 7 1 ++ decimalBytes p) ++ lldpTlv 3 (beBytes s.lldpTtl 2) ++ zeros 2)

/-- LLDP_TRANSMIT. -/
def execLldpTransmit (dt p : Nat) (s : State) : Host.Outcome State Fault Refusal :=
  effect dt (fun s => onlyIf (s.fwRuns && s.svcPort p && s.lldpAdmin p % 2 == 1 &&
      s.passed (kfind s.lldpAt p) (s.lldpEvery * secT))
    (fun s => { s with lldpAt := kput s.lldpAt p s.ticks }.fwSend p svcClass none (s.lldpFrame p)) s) s

/-- The TLVs of an LLDP frame: type and whole bytes.
(PRESUMED, log entry 133) -/
def lldpTlvs : List Byte → Nat → List (Nat × List Byte)
  | _, 0 => []
  | b, n + 1 =>
    let h := beAt b 0 2
    if b.length < 2 ∨ h / 512 = 0 ∨ b.length < 2 + h % 512 then []
    else (h / 512, b.take (2 + h % 512)) :: lldpTlvs (b.drop (2 + h % 512)) n

/-- A neighbour from a frame whose first three TLVs are chassis ID, port ID and time to live.
(PRESUMED, log entry 133) -/
def lldpParse (b : List Byte) (now : Nat) : Option Neighbour :=
  match lldpTlvs b 64 with
  | (1, c) :: (2, p) :: (3, t) :: l =>
    some { at_ := now, ttl := beAt t 2 2, chassis := c, portId := p
           sysName := ((l.find? (fun (e : Nat × List Byte) => e.1 == 5)).map (fun (e : Nat × List Byte) => e.2)).getD [] }
  | _ => none

/-- An LLDP frame updates its port's neighbour; a time to live of 0 removes it. -/
def lldpTake (f : Frame) (s : State) : State :=
  let p := f.inPort
  let q := parseFrame true f.bytes
  match lldpParse (f.bytes.drop q.body) s.ticks with
  | some x =>
    if s.lldpAdmin p < 2 then s
    else { s with neighbours := if x.ttl = 0 then kdel s.neighbours p else kput s.neighbours p x }
  | none => s

/-- LLDP_RECEIVE: the first LLDP frame that waits at port 259. -/
def execLldpReceive (dt : Nat) (s : State) : Host.Outcome State Fault Refusal := effect dt (fun s => s.svcRun 4 lldpTake) s

/-- LLDP_TTL_EXPIRY. -/
def execLldpTtlExpiry (dt p : Nat) (s : State) : Host.Outcome State Fault Refusal :=
  effect dt (fun s => onlyIf (s.fwRuns && (kfind s.neighbours p).any (fun x => decide (x.at_ + x.ttl * secT ≤ s.ticks)))
    (fun s => { s with neighbours := kdel s.neighbours p }) s) s

/-! ## Snooping (R428) -/

/-- An item of the snooping service. -/
def State.snoopItem (s : State) (i : Nat) : Nat := s.paramNat (pkey 0x22 0 i)

/-- A VLAN's entry on a Leaf, in its active bank, and on the first Leaf that is on. -/
def State.vlanOn (s : State) (n vid : Nat) : TEntry := s.entry n (bankTable 0 (s.bankBit n 0)) vid
def State.vlanAny (s : State) (vid : Nat) : TEntry := s.vlanOn ((s.allLeaves.find? (fun n => s.leafOn n)).getD 0) vid

/-- Whether the service acts in a VLAN: SNOOP_EN and IPMC_EN are 1. -/
def TEntry.snoops (e : TEntry) : Bool := e.valid 1 && e.f 8 19 1 == 1 && e.f 8 18 1 == 1

/-- What a message says of a group: version 6, group, sources, and 0 leave, 1 member of the group, 2 member for the sources,
3 no longer for the sources. -/
abbrev SnoopNote := Bool × Nat × List Nat × Nat

/-- The notes of a group record of an IGMPv3 or MLDv2 report. -/
def recordNotes (v6 : Bool) (type group : Nat) (srcs : List Nat) : List SnoopNote :=
  match type with
  | 1 => if srcs = [] then [] else [(v6, group, srcs, 2)]
  | 3 => (v6, group, [], 0) :: (if srcs = [] then [] else [(v6, group, srcs, 2)])
  | 2 | 4 => [(v6, group, [], 1)]
  | 5 => [(v6, group, srcs, 2)]
  | 6 => [(v6, group, srcs, 3)]
  | _ => []

/-- The records from a place on.
(PRESUMED, log entry 134) -/
def snoopRecords (v6 : Bool) (b : List Byte) (o : Nat) : Nat → List SnoopNote
  | 0 => []
  | n + 1 =>
    let len := if v6 then 16 else 4
    let k := beAt b (o + 2) 2
    let srcs := (List.range k).map (fun i => beAt b (o + 4 + len + len * i) len)
    if b.length < o + 4 + len + len * k then []
    else recordNotes v6 (byteAt b o) (beAt b (o + 4) len) srcs ++
      snoopRecords v6 b (o + 4 + len + len * k + 4 * byteAt b (o + 1)) n

/-- Whether a snooped message is a query, and what it says otherwise.
(PRESUMED, log entry 134) -/
def snoopQuery (b : List Byte) (q : Parsed) : Bool := byteAt b q.ipEnd == (if q.ip = 4 then 0x11 else 130)
def snoopNotes (b : List Byte) (q : Parsed) : List SnoopNote :=
  let o := q.ipEnd
  let recs := beAt b (o + 6) 2
  if q.ip = 4 then
    let g := beAt b (o + 4) 4
    match byteAt b o with
    | 0x16 => [(false, g, [], 1)]
    | 0x17 => [(false, g, [], 0)]
    | 0x22 => snoopRecords false b (o + 8) recs
    | _ => []
  else
    let g := beAt b (o + 8) 16
    match byteAt b o with
    | 131 => [(true, g, [], 1)]
    | 132 => [(true, g, [], 0)]
    | 143 => snoopRecords true b (o + 8) recs
    | _ => []

/-- The state with a function applied to the snooping service's record. -/
def State.modSnoop (s : State) (f : Snoop → Snoop) : State := { s with snoop := f s.snoop }

/-- Whether a membership is of a VLAN, a group, a source and a port. -/
def SnoopMember.same (x : SnoopMember) (vid : Nat) (v6 : Bool) (g : Nat) (src : Option Nat) (p : Nat) : Bool :=
  x.vid == vid && x.v6 == v6 && x.group == g && x.source == src && x.port == p

/-- A membership is heard now, or is given up. -/
def State.snoopJoin (s : State) (vid : Nat) (v6 : Bool) (g : Nat) (src : Option Nat) (p : Nat) : State :=
  s.modSnoop (fun x => { x with members := ⟨vid, v6, g, src, p, s.ticks⟩ :: x.members.filter (fun y => !y.same vid v6 g src p) })
def State.snoopLeave (s : State) (vid : Nat) (v6 : Bool) (g : Nat) (src : Option Nat) (p : Nat) : State :=
  if s.snoopItem 5 = 1 then s.modSnoop (fun x => { x with members := x.members.filter (fun y => !y.same vid v6 g src p) }) else s

/-- A note acts on a port's memberships. -/
def State.snoopNote (s : State) (vid p : Nat) (n : SnoopNote) : State :=
  let (v6, g, srcs, what) := n
  match what with
  | 0 => s.snoopLeave vid v6 g none p
  | 1 => s.snoopJoin vid v6 g none p
  | 2 => srcs.foldl (fun s x => s.snoopJoin vid v6 g (some x) p) s
  | _ => srcs.foldl (fun s x => s.snoopLeave vid v6 g (some x) p) s

/-- What an entry stands for: FID, version 6, group, source. -/
abbrev SnoopKey := Nat × Bool × Nat × Option Nat

/-- The keys some membership asks for. -/
def State.snoopWanted (s : State) : List SnoopKey :=
  (s.snoop.members.map (fun x => ((s.vlanAny x.vid).f 8 4 12, x.v6, x.group, x.source))).eraseDups

/-- The member ports of a key: those of the group's (*, G) too. -/
def State.snoopPorts (s : State) (k : SnoopKey) : List Nat :=
  (s.snoop.members.filter (fun x => (s.vlanAny x.vid).f 8 4 12 == k.1 && x.v6 == k.2.1 && x.group == k.2.2.1 &&
    (x.source == k.2.2.2 || x.source.isNone))).map (fun x => x.port)

/-- The lowest free group index of the service's range. -/
def freeIndex (used : List Nat) (base count : Nat) : Option Nat :=
  ((List.range (used.length + 1)).map (fun i => base + i)).find? (fun i => decide (i < base + count) && !used.contains i)

/-- Keys keep their index while they are wanted; new ones take free indices.
(DEDUCED, log entry 123) -/
def State.snoopIndices (s : State) : List (SnoopKey × Nat) :=
  let (base, count) := (s.snoopItem 6, s.snoopItem 7)
  let inRange := fun (i : Nat) => decide (base ≤ i) && decide (i < base + count)
  let want := s.snoopWanted
  let kept := s.snoop.entries.filter (fun (e : SnoopKey × Nat) => want.contains e.1 && inRange e.2)
  want.foldl (fun l k =>
    if l.any (fun (e : SnoopKey × Nat) => e.1 == k) then l
    else match freeIndex (l.map (fun (e : SnoopKey × Nat) => e.2)) base count with
      | some i => l ++ [(k, i)]
      | none => l) kept

/-- A group entry with some members, and the IP multicast entry of a key. -/
def groupEntry (ports : List Nat) : TEntry :=
  { data := (List.range 8).map (fun j => (List.range 32).foldl (fun a i => if ports.contains (32 * j + i) then a + 2 ^ i else a) 0)
    xdata := 2 ^ 16 + (List.range 4).foldl (fun a i => if ports.contains (256 + i) then a + 2 ^ i else a) 0 }
def ipmcEntry (k : SnoopKey) (i : Nat) : TEntry :=
  let key := ipmcKey k.1 k.2.1 k.2.2.2.isNone k.2.2.1 (k.2.2.2.getD 0)
  { data := key.take 8, xdata := (key[8]?).getD 0 + i * 2 ^ 16 + 2 ^ 31 }

/-- One key's entries are written on a die's tables: both group banks, and the IP multicast entry where there is room.
(DESIGN CHOICE, log entry 135) -/
def State.snoopPut (s : State) (n : Nat) (k : SnoopKey) (i : Nat) : State :=
  let g := groupEntry (s.snoopPorts k)
  let s := (s.setEntry n 3 i g).setEntry n 4 i g
  let e := ipmcEntry k i
  match s.findKey n 5 (e.key 3) with
  | some j => s.setEntry n 5 j (e.setHit 3 ((s.entry n 5 j).hit 3))
  | none => match s.freePlace n 5 e with
    | some j => s.setEntry n 5 j e
    | none => s

/-- One key's entries are removed. -/
def State.snoopDrop (s : State) (n : Nat) (k : SnoopKey) (i : Nat) : State :=
  let s := (s.setEntry n 3 i {}).setEntry n 4 i {}
  match s.findKey n 5 ((ipmcEntry k i).key 3) with
  | some j => s.setEntry n 5 j ((s.entry n 5 j).setValid 3 false)
  | none => s

/-- The tables of a Leaf follow the service from some entries to others. -/
def State.snoopLeaf (s : State) (n : Nat) (old new : List (SnoopKey × Nat)) : State :=
  let gone := old.filter (fun e => !new.contains e)
  let s := gone.foldl (fun s (e : SnoopKey × Nat) => s.snoopDrop n e.1 e.2) s
  new.foldl (fun s (e : SnoopKey × Nat) => s.snoopPut n e.1 e.2) s

/-- The same in a Leaf's shadow copy (R411). -/
def State.snoopShadow (s : State) (n : Nat) (old new : List (SnoopKey × Nat)) : State :=
  let copy := s.modDie n (fun d => { d with tables := (kget s.shadows n {}).tables })
  let t := (copy.snoopLeaf n old new).die n
  { s with shadows := kmod s.shadows n {} (fun (x : Shadow) => { x with tables := t.tables }) }

/-- Tables and shadow copies of every present Leaf follow the memberships. A Leaf that restores is left to its copy.
(DESIGN CHOICE, log entry 135) -/
def State.snoopFollow (s : State) : State :=
  let old := s.snoop.entries
  let new := s.snoopIndices
  let s := s.forAll s.allLeaves (fun n s =>
    let s := s.snoopShadow n old new
    if s.leafOn n && s.leaf n != 2 then s.snoopLeaf n old new else s)
  s.modSnoop (fun x => { x with entries := new })

/-- The router ports of a VLAN. -/
def State.routerPorts (s : State) (vid : Nat) : List Nat :=
  (s.snoop.routers.filter (fun (e : Nat × Nat) => e.1 / 512 == vid)).map (fun (e : Nat × Nat) => e.1 % 512)

/-- A message trapped by row 4 of R137: a query makes its port a router port; a report changes memberships and goes on to the
router ports. -/
def snoopTake (f : Frame) (s : State) : State :=
  let q := parseFrame true f.bytes
  let n := (s.lookupAt f.inPort).map (fun (e : Nat × Nat) => e.1)
  if s.snoopItem 1 = 0 ∨ !(s.vlanOn (n.getD 0) f.vid).snoops then s
  else if snoopQuery f.bytes q then
    s.modSnoop (fun x => { x with routers := kput x.routers (f.vid * 512 + f.inPort) s.ticks })
  else
    let s := (snoopNotes f.bytes q).foldl (fun s x => s.snoopNote f.vid f.inPort x) s
    let out := (s.routerPorts f.vid).filter (fun p => p != f.inPort && s.svcPort p)
    let s := { s with frames := s.frames + 1 }.forward 8 { f with id := s.frames, inPort := 259, dest := out, stamp := s.now, flags := s.synthFlags }
    s.snoopFollow

/-- SNOOP_REPORT (R428): the first IGMP or MLD message that waits at port 259. -/
def execSnoopReport (dt : Nat) (s : State) : Host.Outcome State Fault Refusal := effect dt (fun s => s.svcRun 5 snoopTake) s

/-- The code of a query interval in seconds: values from 128 as mantissa and exponent. -/
def qqic (v : Nat) : Nat :=
  if v < 128 then v
  else
    let e := (List.range 8).find? (fun e => decide (v / 2 ^ (e + 3) < 32))
    128 + 16 * e.getD 7 + (v / 2 ^ (e.getD 7 + 3)) % 16

/-- A general query: IGMPv3, or MLDv2, with its IP header and router alert. -/
def State.queryFrame (s : State) (v6 : Bool) : List Byte :=
  let every := beBytes 2 1 ++ beBytes (qqic (s.snoopItem 3)) 1 ++ zeros 2
  let src := s.ownMac 0
  if v6 then
    let from1 := 0xFE80 * 2 ^ 112 + src
    let to1 := 0xFF02 * 2 ^ 112 + 1
    let msg := fun c => beBytes 130 1 ++ zeros 1 ++ beBytes c 2 ++ beBytes 10000 2 ++ zeros 18 ++ every
    let sum := onesSum (beBytes from1 16 ++ beBytes to1 16 ++ beBytes 28 4 ++ beBytes 58 4 ++ msg 0)
    ethFrame 0x333300000001 src 0x86DD (beBytes (6 * 2 ^ 28) 4 ++ beBytes 36 2 ++ beBytes 0 1 ++ beBytes 1 1 ++ beBytes from1 16 ++
      beBytes to1 16 ++ beBytes 0x3A00050200000100 8 ++ msg (65535 - sum))
  else
    let msg := fun c => beBytes 0x11 1 ++ beBytes 100 1 ++ beBytes c 2 ++ zeros 4 ++ every
    let head := fun c => beBytes 0x46C0 2 ++ beBytes 36 2 ++ zeros 4 ++ beBytes 1 1 ++ beBytes 2 1 ++ beBytes c 2 ++ zeros 4 ++
      beBytes 0xE0000001 4 ++ beBytes 0x94040000 4
    ethFrame 0x01005E000001 src 0x0800 (head (65535 - onesSum (head 0)) ++ msg (65535 - onesSum (msg 0)))

/-- SNOOP_QUERY (R428): in a VLAN, for IP version 4 or 6, on its member ports. -/
def execSnoopQuery (dt vid : Nat) (v6 : Bool) (s : State) : Host.Outcome State Fault Refusal :=
  effect dt (fun s =>
    let e := s.vlanAny vid
    let k := vid * 2 + (if v6 then 1 else 0)
    onlyIf (s.fwRuns && s.snoopItem 1 == 1 && s.snoopItem 2 == 1 && decide (vid < 4096) && e.snoops &&
      s.passed (kfind s.snoop.queryAt k) (s.snoopItem 3 * secT)) (fun s =>
        let s := s.modSnoop (fun x => { x with queryAt := kput x.queryAt k s.ticks })
        let f : Frame := { id := s.frames, bytes := padTo60 (s.queryFrame v6), inPort := 259, stamp := s.now, flags := s.synthFlags,
                           vid := vid, cls := svcClass, dest := (membersOf e).filter (fun p => s.svcPort p) }
        { s with frames := s.frames + 1 }.forward 8 f) s) s

/-- SNOOP_MEMBER_TIMEOUT (R428): memberships not heard for MEMBER_TIMEOUT go. -/
def execSnoopMemberTimeout (dt : Nat) (s : State) : Host.Outcome State Fault Refusal :=
  effect dt (fun s =>
    let live := fun (x : SnoopMember) => decide (s.ticks < x.heard + s.snoopItem 4 * secT)
    onlyIf (s.fwRuns && s.snoop.members.any (fun x => !live x))
      (fun s => (s.modSnoop (fun x => { x with members := x.members.filter live })).snoopFollow) s) s

/-! ## MAC ageing (R158, R430) -/

/-- The interface of the MAC table's world. -/
def State.ageWorld (s : State) (n : Nat) : Nat := if s.fwdSecure n 0 then 1 else 0

/-- One sweep of a Leaf's MAC table through an interface, by the pseudocode of R158: each VALID entry is found by SEARCH, staged,
and met by TEST_AND_DELETE by key; a last SEARCH finds none up to the table's end. -/
def State.ageSweep (s : State) (n w : Nat) : State :=
  let size := tableSize 0
  let found := ((s.tbl n 0).filter (fun (x : Nat × TEntry) => x.2.valid 0)).map (fun x => x.1)
  let s := found.foldl (fun s i =>
    let s := (s.setFld (Fld.FWD_CMD_INDEX_INDEX n w) i).tableRun n w 5 0 true
    (s.setFld (Fld.FWD_CMD_INDEX_INDEX n w) 0).tableRun n w 7 0 false) s
  let next := (found.getLast?.map (fun i => i + 1)).getD 0
  if size ≤ next then s
  else (s.setFld (Fld.FWD_CMD_INDEX_INDEX n w) (next + (size - next - 1) / 4096 * 4096)).tableRun n w 5 0 true

/-- AGEING_SWEEP (R158). -/
def execAgeingSweep (dt n : Nat) (s : State) : Host.Outcome State Fault Refusal :=
  effect dt (fun s => onlyIf (s.fwRuns && decide (n < s.leaves) && s.inService n && s.paramNat (pkey 0x25 n 1) == 1 &&
      !s.waiting .fwdBusy (fwdBusy n (s.ageWorld n)) &&
      decide (max (kget s.sweptAt n 0) (kget s.leafAt n 0) + s.paramNat (pkey 0x25 n 2) * secT ≤ s.ticks))
    (fun s => ({ s with sweptAt := kput s.sweptAt n s.ticks }).ageSweep n (s.ageWorld n)) s) s

end Sys2Proof.Machine
end

