-- ==== Sys2Proof/Machine/Dispatch.lean ====
section
/-!
DEFINITION. Dispatch.lean: which meaning each command has, one arm per constructor.
-/
namespace Sys2Proof.Machine

def exec (i : Instr) (s : State) : Host.Outcome State Fault Refusal :=
  match i with
  | .registerWrite dt src a w be took fault => Sys2Proof.Machine.execRegisterWrite dt src a w be took fault s
  | .wideValueRead dt src a => Sys2Proof.Machine.execWideValueRead dt src a s
  | .readClear dt src a => Sys2Proof.Machine.execReadClear dt src a s
  | .stitchModuleRemoval dt l q => Sys2Proof.Machine.execStitchModuleRemoval dt l q s
  | .drainComplete dt n => Sys2Proof.Machine.execDrainComplete dt n s
  | .drainLimitExpiry dt n => Sys2Proof.Machine.execDrainLimitExpiry dt n s
  | .restoreComplete dt n => Sys2Proof.Machine.execRestoreComplete dt n s
  | .leafAligned dt n => Sys2Proof.Machine.execLeafAligned dt n s
  | .alignTimeout dt n => Sys2Proof.Machine.execAlignTimeout dt n s
  | .timeSetWrite dt src w => Sys2Proof.Machine.execTimeSetWrite dt src w s
  | .setCancel dt src => Sys2Proof.Machine.execSetCancel dt src s
  | .timeSetLoad dt => Sys2Proof.Machine.execTimeSetLoad dt s
  | .leafAlignExchange dt n resid => Sys2Proof.Machine.execLeafAlignExchange dt n resid s
  | .leafResidWarn dt n => Sys2Proof.Machine.execLeafResidWarn dt n s
  | .captureEdge dt k rising sub => Sys2Proof.Machine.execCaptureEdge dt k rising sub s
  | .captureRead dt src k => Sys2Proof.Machine.execCaptureRead dt src k s
  | .captureFlush dt src k => Sys2Proof.Machine.execCaptureFlush dt src k s
  | .pulseCtrlWrite dt src j w => Sys2Proof.Machine.execPulseCtrlWrite dt src j w s
  | .pulseParamWrite dt src j p w => Sys2Proof.Machine.execPulseParamWrite dt src j p w s
  | .pulseEdge dt j => Sys2Proof.Machine.execPulseEdge dt j s
  | .actPartWrite dt src w => Sys2Proof.Machine.execActPartWrite dt src w s
  | .actCmdWrite dt src w index took => Sys2Proof.Machine.execActCmdWrite dt src w index took s
  | .actCmdRead dt src w index took => Sys2Proof.Machine.execActCmdRead dt src w index took s
  | .actCmdCancel dt src w index took => Sys2Proof.Machine.execActCmdCancel dt src w index took s
  | .actArm dt e => Sys2Proof.Machine.execActArm dt e s
  | .pulseAction dt e => Sys2Proof.Machine.execPulseAction dt e s
  | .snapshotAction dt e => Sys2Proof.Machine.execSnapshotAction dt e s
  | .swapVlanBank dt e => Sys2Proof.Machine.execSwapVlanBank dt e s
  | .swapGroupBank dt e => Sys2Proof.Machine.execSwapGroupBank dt e s
  | .swapStreamBank dt e => Sys2Proof.Machine.execSwapStreamBank dt e s
  | .swapGcl dt e => Sys2Proof.Machine.execSwapGcl dt e s
  | .portEnable dt e => Sys2Proof.Machine.execPortEnable dt e s
  | .portDisable dt e => Sys2Proof.Machine.execPortDisable dt e s
  | .phaseStep dt e => Sys2Proof.Machine.execPhaseStep dt e s
  | .paramCommitAction dt e => Sys2Proof.Machine.execParamCommitAction dt e s
  | .dividerSync dt e => Sys2Proof.Machine.execDividerSync dt e s
  | .claimDrill dt e => Sys2Proof.Machine.execClaimDrill dt e s
  | .raiseEvent dt e => Sys2Proof.Machine.execRaiseEvent dt e s
  | .laneCtrlWrite dt src g w => Sys2Proof.Machine.execLaneCtrlWrite dt src g w s
  | .laneRestart dt src g => Sys2Proof.Machine.execLaneRestart dt src g s
  | .partnerDetected dt p signal => Sys2Proof.Machine.execPartnerDetected dt p signal s
  | .terminationProbe dt p found => Sys2Proof.Machine.execTerminationProbe dt p found s
  | .anPageExchange dt p page => Sys2Proof.Machine.execAnPageExchange dt p page s
  | .anTimeout dt p signal => Sys2Proof.Machine.execAnTimeout dt p signal s
  | .trainComplete dt p reqs => Sys2Proof.Machine.execTrainComplete dt p reqs s
  | .trainFail dt p lanes => Sys2Proof.Machine.execTrainFail dt p lanes s
  | .trainTimeout dt p => Sys2Proof.Machine.execTrainTimeout dt p s
  | .blockLock dt h skew => Sys2Proof.Machine.execBlockLock dt h skew s
  | .lockTimeout dt p => Sys2Proof.Machine.execLockTimeout dt p s
  | .clause37Negotiation dt p ok => Sys2Proof.Machine.execClause37Negotiation dt p ok s
  | .exchWaitExpiry dt p => Sys2Proof.Machine.execExchWaitExpiry dt p s
  | .lockLoss dt h => Sys2Proof.Machine.execLockLoss dt h s
  | .signalLost dt p lanes => Sys2Proof.Machine.execSignalLost dt p lanes s
  | .modulePresenceLost dt p => Sys2Proof.Machine.execModulePresenceLost dt p s
  | .backoffEnd dt p => Sys2Proof.Machine.execBackoffEnd dt p s
  | .laneTimersWrite dt src g retry w => Sys2Proof.Machine.execLaneTimersWrite dt src g retry w s
  | .laneAdaptWrite dt src g w => Sys2Proof.Machine.execLaneAdaptWrite dt src g w s
  | .ffeApply dt src g w => Sys2Proof.Machine.execFfeApply dt src g w s
  | .equaliserWrite dt src g ctle w => Sys2Proof.Machine.execEqualiserWrite dt src g ctle w s
  | .adaptationStep dt g tap up => Sys2Proof.Machine.execAdaptationStep dt g tap up s
  | .adaptWindowEnd dt p units => Sys2Proof.Machine.execAdaptWindowEnd dt p units s
  | .escanStart dt src g w => Sys2Proof.Machine.execEscanStart dt src g w s
  | .escanAbort dt src g => Sys2Proof.Machine.execEscanAbort dt src g s
  | .escanPointComplete dt g errs => Sys2Proof.Machine.execEscanPointComplete dt g errs s
  | .portModeWrite dt src p w => Sys2Proof.Machine.execPortModeWrite dt src p w s
  | .frameReceive dt p full k => Sys2Proof.Machine.execFrameReceive dt p full k s
  | .pauseFrame dt p quanta => Sys2Proof.Machine.execPauseFrame dt p quanta s
  | .pfcFrame dt p vec quanta => Sys2Proof.Machine.execPfcFrame dt p vec quanta s
  | .pauseExpiry dt p => Sys2Proof.Machine.execPauseExpiry dt p s
  | .mmCtrlWrite dt src p w => Sys2Proof.Machine.execMmCtrlWrite dt src p w s
  | .verifySend dt p => Sys2Proof.Machine.execVerifySend dt p s
  | .verifyResponse dt p => Sys2Proof.Machine.execVerifyResponse dt p s
  | .fragmentReceive dt p start count final b k => Sys2Proof.Machine.execFragmentReceive dt p start count final b k s
  | .txStampRead dt src p => Sys2Proof.Machine.execTxStampRead dt src p s
  | .txStampFlush dt src p => Sys2Proof.Machine.execTxStampFlush dt src p s
  | .tdcServingChange dt p => Sys2Proof.Machine.execTdcServingChange dt p s
  | .tdcSelfCheckFail dt p took => Sys2Proof.Machine.execTdcSelfCheckFail dt p took s
  | .frameLookup dt n m => Sys2Proof.Machine.execFrameLookup dt n m s
  | .learnEngine dt n => Sys2Proof.Machine.execLearnEngine dt n s
  | .movesReset dt => Sys2Proof.Machine.execMovesReset dt s
  | .tableRead dt src n w t idx took => Sys2Proof.Machine.execTableRead dt src n w t idx took s
  | .tableWrite dt src n w t idx took => Sys2Proof.Machine.execTableWrite dt src n w t idx took s
  | .tableInsert dt src n w t idx took => Sys2Proof.Machine.execTableInsert dt src n w t idx took s
  | .tableDelete dt src n w t idx took => Sys2Proof.Machine.execTableDelete dt src n w t idx took s
  | .tableSearch dt src n w t idx took => Sys2Proof.Machine.execTableSearch dt src n w t idx took s
  | .tableReadClearHit dt src n w t idx took => Sys2Proof.Machine.execTableReadClearHit dt src n w t idx took s
  | .tableTestAndDelete dt src n w t idx took => Sys2Proof.Machine.execTableTestAndDelete dt src n w t idx took s
  | .bankSwapWrite dt src n w => Sys2Proof.Machine.execBankSwapWrite dt src n w s
  | .bankRetentionEnd dt n pair => Sys2Proof.Machine.execBankRetentionEnd dt n pair s
  | .ageingSweep dt n => Sys2Proof.Machine.execAgeingSweep dt n s
  | .bufLimitWrite dt src p c w => Sys2Proof.Machine.execBufLimitWrite dt src p c w s
  | .crossbarSlot dt => Sys2Proof.Machine.execCrossbarSlot dt s
  | .cellArrival dt d crcOk => Sys2Proof.Machine.execCellArrival dt d crcOk s
  | .crossDeadlineExpiry dt l j => Sys2Proof.Machine.execCrossDeadlineExpiry dt l j s
  | .replicationSkip dt l d sched => Sys2Proof.Machine.execReplicationSkip dt l d sched s
  | .xbarCalWrite dt src l k w => Sys2Proof.Machine.execXbarCalWrite dt src l k w s
  | .frameTransmit dt p want pos => Sys2Proof.Machine.execFrameTransmit dt p want pos s
  | .gateChange dt p => Sys2Proof.Machine.execGateChange dt p s
  | .gateNoFit dt p c => Sys2Proof.Machine.execGateNoFit dt p c s
  | .gclSwapWrite dt src p => Sys2Proof.Machine.execGclSwapWrite dt src p s
  | .gclRetentionEnd dt p => Sys2Proof.Machine.execGclRetentionEnd dt p s
  | .holdPoint dt p => Sys2Proof.Machine.execHoldPoint dt p s
  | .ladleDeparture dt p want pos => Sys2Proof.Machine.execLadleDeparture dt p want pos s
  | .delayReq dt n m => Sys2Proof.Machine.execDelayReq dt n m s
  | .delayResp dt d => Sys2Proof.Machine.execDelayResp dt d s
  | .linkPhaseSample dt p rx tx => Sys2Proof.Machine.execLinkPhaseSample dt p rx tx s
  | .linkPhaseRead dt src p => Sys2Proof.Machine.execLinkPhaseRead dt src p s
  | .tcxSend dt p pos => Sys2Proof.Machine.execTcxSend dt p pos s
  | .tcxReceive dt p full k => Sys2Proof.Machine.execTcxReceive dt p full k s
  | .tcxPeerTimeout dt p => Sys2Proof.Machine.execTcxPeerTimeout dt p s
  | .tcxCommit dt src p => Sys2Proof.Machine.execTcxCommit dt src p s
  | .peerRead dt src p => Sys2Proof.Machine.execPeerRead dt src p s
  | .ptpSyncSend dt k p => Sys2Proof.Machine.execPtpSyncSend dt k p s
  | .ptpAnnounceSend dt k p => Sys2Proof.Machine.execPtpAnnounceSend dt k p s
  | .ptpMessage dt => Sys2Proof.Machine.execPtpMessage dt s
  | .ptpManagement dt => Sys2Proof.Machine.execPtpManagement dt s
  | .refSlotCfgWrite dt src k w fault => Sys2Proof.Machine.execRefSlotCfgWrite dt src k w fault s
  | .forceQual dt src k => Sys2Proof.Machine.execForceQual dt src k s
  | .activityFault dt e => Sys2Proof.Machine.execActivityFault dt e s
  | .activityFaultClear dt e => Sys2Proof.Machine.execActivityFaultClear dt e s
  | .frequencyReading dt foffs => Sys2Proof.Machine.execFrequencyReading dt foffs s
  | .holdoffExpiry dt k => Sys2Proof.Machine.execHoldoffExpiry dt k s
  | .restoreExpiry dt k => Sys2Proof.Machine.execRestoreExpiry dt k s
  | .dpllReevaluation dt d => Sys2Proof.Machine.execDpllReevaluation dt d s
  | .switchEnd dt d offset => Sys2Proof.Machine.execSwitchEnd dt d offset s
  | .slewEnd dt d => Sys2Proof.Machine.execSlewEnd dt d s
  | .dpllLock dt d => Sys2Proof.Machine.execDpllLock dt d s
  | .dpllLockLoss dt d => Sys2Proof.Machine.execDpllLockLoss dt d s
  | .bandwidthStep dt d => Sys2Proof.Machine.execBandwidthStep dt d s
  | .dpllModeWrite dt src d w => Sys2Proof.Machine.execDpllModeWrite dt src d w s
  | .pstepAtSecond dt src d => Sys2Proof.Machine.execPstepAtSecond dt src d s
  | .pstepSlew dt src d => Sys2Proof.Machine.execPstepSlew dt src d s
  | .pstepApply dt d => Sys2Proof.Machine.execPstepApply dt d s
  | .freqSwWrite dt src d w => Sys2Proof.Machine.execFreqSwWrite dt src d w s
  | .pdComparison dt d err valid stale word => Sys2Proof.Machine.execPdComparison dt d err valid stale word s
  | .holdoverRecompute dt d => Sys2Proof.Machine.execHoldoverRecompute dt d s
  | .tempStale dt d => Sys2Proof.Machine.execTempStale dt d s
  | .ageFit dt up1 up2 => Sys2Proof.Machine.execAgeFit dt up1 up2 s
  | .returnStep dt src d => Sys2Proof.Machine.execReturnStep dt src d s
  | .returnSlew dt src d => Sys2Proof.Machine.execReturnSlew dt src d s
  | .returnHold dt src d => Sys2Proof.Machine.execReturnHold dt src d s
  | .apllCtrlWrite dt src a w => Sys2Proof.Machine.execApllCtrlWrite dt src a w s
  | .bandWrite dt src a b w => Sys2Proof.Machine.execBandWrite dt src a b w s
  | .apllLock dt a => Sys2Proof.Machine.execApllLock dt a s
  | .apllLockFail dt a => Sys2Proof.Machine.execApllLockFail dt a s
  | .apllRetry dt a => Sys2Proof.Machine.execApllRetry dt a s
  | .apllLoss dt a => Sys2Proof.Machine.execApllLoss dt a s
  | .apllMoveEnd dt a => Sys2Proof.Machine.execApllMoveEnd dt a s
  | .outCfgWrite dt src j w => Sys2Proof.Machine.execOutCfgWrite dt src j w s
  | .outputAlign dt j => Sys2Proof.Machine.execOutputAlign dt j s
  | .syncinEdge dt falling sub settled => Sys2Proof.Machine.execSyncinEdge dt falling sub settled s
  | .syncinArm dt src w => Sys2Proof.Machine.execSyncinArm dt src w s
  | .divNextWrite dt src j w => Sys2Proof.Machine.execDivNextWrite dt src j w s
  | .dividerUpdate dt src w => Sys2Proof.Machine.execDividerUpdate dt src w s
  | .dividerLoad dt => Sys2Proof.Machine.execDividerLoad dt s
  | .leafPllLoss dt n mem => Sys2Proof.Machine.execLeafPllLoss dt n mem s
  | .leafPllRelockAttempt dt n mem => Sys2Proof.Machine.execLeafPllRelockAttempt dt n mem s
  | .relockAttemptTimeout dt n mem => Sys2Proof.Machine.execRelockAttemptTimeout dt n mem s
  | .leafPllRelocked dt n mem => Sys2Proof.Machine.execLeafPllRelocked dt n mem s
  | .tsuPllLoss dt => Sys2Proof.Machine.execTsuPllLoss dt s
  | .tsuPllRetry dt => Sys2Proof.Machine.execTsuPllRetry dt s
  | .tsuPllRelock dt => Sys2Proof.Machine.execTsuPllRelock dt s
  | .sampleClockLoss dt x => Sys2Proof.Machine.execSampleClockLoss dt x s
  | .sampleClockRestore dt x => Sys2Proof.Machine.execSampleClockRestore dt x s
  | .gnssFmeas dt x ppb => Sys2Proof.Machine.execGnssFmeas dt x ppb s
  | .acqRequest dt src w => Sys2Proof.Machine.execAcqRequest dt src w s
  | .acqCaptureStart dt => Sys2Proof.Machine.execAcqCaptureStart dt s
  | .acqComplete dt code doppler cn0 => Sys2Proof.Machine.execAcqComplete dt code doppler cn0 s
  | .acqResultRead dt src => Sys2Proof.Machine.execAcqResultRead dt src s
  | .channelStart dt src c w => Sys2Proof.Machine.execChannelStart dt src c w s
  | .channelStop dt src c w => Sys2Proof.Machine.execChannelStop dt src c w s
  | .pullInDone dt c => Sys2Proof.Machine.execPullInDone dt c s
  | .integrationDump dt c a b sync half slip => Sys2Proof.Machine.execIntegrationDump dt c a b sync half slip s
  | .channelLoss dt c => Sys2Proof.Machine.execChannelLoss dt c s
  | .gnssOwnerChange dt src w => Sys2Proof.Machine.execGnssOwnerChange dt src w s
  | .kettlePowerRequest dt => Sys2Proof.Machine.execKettlePowerRequest dt s
  | .burstStart dt => Sys2Proof.Machine.execBurstStart dt s
  | .wakingReacquired dt c cn0 found => Sys2Proof.Machine.execWakingReacquired dt c cn0 found s
  | .burstMiss dt c => Sys2Proof.Machine.execBurstMiss dt c s
  | .burstSkip dt => Sys2Proof.Machine.execBurstSkip dt s
  | .burstEnd dt => Sys2Proof.Machine.execBurstEnd dt s
  | .measurementEpoch dt ms => Sys2Proof.Machine.execMeasurementEpoch dt ms s
  | .epochComplete dt => Sys2Proof.Machine.execEpochComplete dt s
  | .navRecord dt c t inverted u => Sys2Proof.Machine.execNavRecord dt c t inverted u s
  | .navRead dt src => Sys2Proof.Machine.execNavRead dt src s
  | .navFlush dt src w => Sys2Proof.Machine.execNavFlush dt src w s
  | .timeSolution dt sats up => Sys2Proof.Machine.execTimeSolution dt sats up s
  | .jumpConfirm dt => Sys2Proof.Machine.execJumpConfirm dt s
  | .surveyDone dt x y z => Sys2Proof.Machine.execSurveyDone dt x y z s
  | .ephemerisRenewal dt c done life => Sys2Proof.Machine.execEphemerisRenewal dt c done life s
  | .heartbeatSend dt p pos => Sys2Proof.Machine.execHeartbeatSend dt p pos s
  | .heartbeatReceive dt p full k => Sys2Proof.Machine.execHeartbeatReceive dt p full k s
  | .heardClaimLapse dt p => Sys2Proof.Machine.execHeardClaimLapse dt p s
  | .acceptedClaimUpdate dt d => Sys2Proof.Machine.execAcceptedClaimUpdate dt d s
  | .candGating dt => Sys2Proof.Machine.execCandGating dt s
  | .witnessAdmit dt d k => Sys2Proof.Machine.execWitnessAdmit dt d k s
  | .aloneExpiry dt d witness => Sys2Proof.Machine.execAloneExpiry dt d witness s
  | .clmDepose dt src d m => Sys2Proof.Machine.execClmDepose dt src d m s
  | .clmAdmit dt src d m => Sys2Proof.Machine.execClmAdmit dt src d m s
  | .drillEnd dt d => Sys2Proof.Machine.execDrillEnd dt d s
  | .powerRequestKeep dt src => Sys2Proof.Machine.execPowerRequestKeep dt src s
  | .powerRequestReady dt src => Sys2Proof.Machine.execPowerRequestReady dt src s
  | .wakeAt dt => Sys2Proof.Machine.execWakeAt dt s
  | .readyEntry dt => Sys2Proof.Machine.execReadyEntry dt s
  | .arbiterRound dt => Sys2Proof.Machine.execArbiterRound dt s
  | .domainPowerUp dt r => Sys2Proof.Machine.execDomainPowerUp dt r s
  | .regulatorFail dt k tx => Sys2Proof.Machine.execRegulatorFail dt k tx s
  | .pipelineRelease dt o => Sys2Proof.Machine.execPipelineRelease dt o s
  | .budgetWrite dt src w => Sys2Proof.Machine.execBudgetWrite dt src w s
  | .throttleRise dt n => Sys2Proof.Machine.execThrottleRise dt n s
  | .throttleFall dt n => Sys2Proof.Machine.execThrottleFall dt n s
  | .leafTcrit dt n => Sys2Proof.Machine.execLeafTcrit dt n s
  | .spineTcrit dt => Sys2Proof.Machine.execSpineTcrit dt s
  | .regulatorPoll dt reads => Sys2Proof.Machine.execRegulatorPoll dt reads s
  | .pmbAlert dt reads => Sys2Proof.Machine.execPmbAlert dt reads s
  | .porRelease dt bootsel fuses => Sys2Proof.Machine.execPorRelease dt bootsel fuses s
  | .pornAssert dt => Sys2Proof.Machine.execPornAssert dt s
  | .warmResetPin dt bootsel => Sys2Proof.Machine.execWarmResetPin dt bootsel s
  | .supplyFault dt => Sys2Proof.Machine.execSupplyFault dt s
  | .aonClockSelect dt crystal => Sys2Proof.Machine.execAonClockSelect dt crystal s
  | .slotValidation dt slot readable => Sys2Proof.Machine.execSlotValidation dt slot readable s
  | .imgGo dt src page => Sys2Proof.Machine.execImgGo dt src page s
  | .imageStart dt => Sys2Proof.Machine.execImageStart dt s
  | .firmwareRunning dt => Sys2Proof.Machine.execFirmwareRunning dt s
  | .firmwareStartTimeout dt => Sys2Proof.Machine.execFirmwareStartTimeout dt s
  | .updateTimeout dt => Sys2Proof.Machine.execUpdateTimeout dt s
  | .challengeResponseAttempt dt src scope took => Sys2Proof.Machine.execChallengeResponseAttempt dt src scope took s
  | .passwordAttempt dt src scope took => Sys2Proof.Machine.execPasswordAttempt dt src scope took s
  | .jtagDebugUnlock dt password scope resp took => Sys2Proof.Machine.execJtagDebugUnlock dt password scope resp took s
  | .dbgStatRead dt src => Sys2Proof.Machine.execDbgStatRead dt src s
  | .functionLevelReset dt f => Sys2Proof.Machine.execFunctionLevelReset dt f s
  | .spiRead dt b sent => Sys2Proof.Machine.execSpiRead dt b sent s
  | .spiWrite dt b took fault => Sys2Proof.Machine.execSpiWrite dt b took fault s
  | .i2cTransaction dt ptr wr n => Sys2Proof.Machine.execI2cTransaction dt ptr wr n s
  | .mailboxSubmit dt src m => Sys2Proof.Machine.execMailboxSubmit dt src m s
  | .mailboxRelease dt src m => Sys2Proof.Machine.execMailboxRelease dt src m s
  | .mailboxTransportError dt m => Sys2Proof.Machine.execMailboxTransportError dt m s
  | .msixPendingSend dt v en busMaster masked => Sys2Proof.Machine.execMsixPendingSend dt v en busMaster masked s
  | .tailWrite dt src q r w => Sys2Proof.Machine.execTailWrite dt src q r w s
  | .descriptorFetch dt d bytes => Sys2Proof.Machine.execDescriptorFetch dt d bytes s
  | .txWriteback dt r => Sys2Proof.Machine.execTxWriteback dt r s
  | .tsTimeout dt r => Sys2Proof.Machine.execTsTimeout dt r s
  | .ringDisable dt src q r => Sys2Proof.Machine.execRingDisable dt src q r s
  | .dmaPcieError dt q r => Sys2Proof.Machine.execDmaPcieError dt q r s
  | .rxDelivery dt buf => Sys2Proof.Machine.execRxDelivery dt buf s
  | .ringSignalTimer dt q r => Sys2Proof.Machine.execRingSignalTimer dt q r s
  | .sysInfo dt m => Sys2Proof.Machine.execSysInfo dt m s
  | .leafDrain dt m => Sys2Proof.Machine.execLeafDrain dt m s
  | .leafStart dt m => Sys2Proof.Machine.execLeafStart dt m s
  | .leafStop dt m => Sys2Proof.Machine.execLeafStop dt m s
  | .leafWrite dt m => Sys2Proof.Machine.execLeafWrite dt m s
  | .paramGet dt m => Sys2Proof.Machine.execParamGet dt m s
  | .paramStage dt m => Sys2Proof.Machine.execParamStage dt m s
  | .paramCommit dt m => Sys2Proof.Machine.execParamCommit dt m s
  | .paramDiscard dt m => Sys2Proof.Machine.execParamDiscard dt m s
  | .paramList dt m => Sys2Proof.Machine.execParamList dt m s
  | .paramStatus dt m => Sys2Proof.Machine.execParamStatus dt m s
  | .tableOp dt m => Sys2Proof.Machine.execTableOp dt m s
  | .tableFlushPort dt m => Sys2Proof.Machine.execTableFlushPort dt m s
  | .bankCopy dt m => Sys2Proof.Machine.execBankCopy dt m s
  | .portMode dt m => Sys2Proof.Machine.execPortMode dt m s
  | .portAdmin dt m => Sys2Proof.Machine.execPortAdmin dt m s
  | .portStatus dt m present => Sys2Proof.Machine.execPortStatus dt m present s
  | .moduleRead dt m present sff data => Sys2Proof.Machine.execModuleRead dt m present sff data s
  | .moduleWrite dt m present sff ok => Sys2Proof.Machine.execModuleWrite dt m present sff ok s
  | .moduleReady dt p => Sys2Proof.Machine.execModuleReady dt p s
  | .lldpNeighbour dt m => Sys2Proof.Machine.execLldpNeighbour dt m s
  | .timeGet dt m => Sys2Proof.Machine.execTimeGet dt m s
  | .timeSet dt m => Sys2Proof.Machine.execTimeSet dt m s
  | .actWrite dt m => Sys2Proof.Machine.execActWrite dt m s
  | .actRead dt m => Sys2Proof.Machine.execActRead dt m s
  | .actCancel dt m => Sys2Proof.Machine.execActCancel dt m s
  | .actBroadcast dt m => Sys2Proof.Machine.execActBroadcast dt m s
  | .refStatus dt m => Sys2Proof.Machine.execRefStatus dt m s
  | .dpllStatus dt m => Sys2Proof.Machine.execDpllStatus dt m s
  | .dpllReturn dt m => Sys2Proof.Machine.execDpllReturn dt m s
  | .synStatus dt m => Sys2Proof.Machine.execSynStatus dt m s
  | .bandCal dt m => Sys2Proof.Machine.execBandCal dt m s
  | .gnssStatus dt m => Sys2Proof.Machine.execGnssStatus dt m s
  | .gnssSurvey dt m => Sys2Proof.Machine.execGnssSurvey dt m s
  | .claimStatus dt m => Sys2Proof.Machine.execClaimStatus dt m s
  | .claimNotice dt m => Sys2Proof.Machine.execClaimNotice dt m s
  | .powerStatus dt m => Sys2Proof.Machine.execPowerStatus dt m s
  | .pmbusXfer dt m data => Sys2Proof.Machine.execPmbusXfer dt m data s
  | .flashErase dt m ok => Sys2Proof.Machine.execFlashErase dt m ok s
  | .flashWrite dt m ok => Sys2Proof.Machine.execFlashWrite dt m ok s
  | .flashRead dt m ok => Sys2Proof.Machine.execFlashRead dt m ok s
  | .imageCheck dt m readable => Sys2Proof.Machine.execImageCheck dt m readable s
  | .imageActivate dt m readable => Sys2Proof.Machine.execImageActivate dt m readable s
  | .secStatus dt m => Sys2Proof.Machine.execSecStatus dt m s
  | .warmReset dt m => Sys2Proof.Machine.execWarmReset dt m s
  | .snapshot dt m => Sys2Proof.Machine.execSnapshot dt m s
  | .freeze dt m => Sys2Proof.Machine.execFreeze dt m s
  | .userWindow dt m => Sys2Proof.Machine.execUserWindow dt m s
  | .calRun dt m => Sys2Proof.Machine.execCalRun dt m s
  | .calStatus dt m => Sys2Proof.Machine.execCalStatus dt m s
  | .broadcastReceive dt => Sys2Proof.Machine.execBroadcastReceive dt s
  | .lldpTransmit dt p => Sys2Proof.Machine.execLldpTransmit dt p s
  | .lldpReceive dt => Sys2Proof.Machine.execLldpReceive dt s
  | .snoopReport dt => Sys2Proof.Machine.execSnoopReport dt s
  | .snoopQuery dt vid v6 => Sys2Proof.Machine.execSnoopQuery dt vid v6 s
  | .snoopMemberTimeout dt => Sys2Proof.Machine.execSnoopMemberTimeout dt s
  | .calRequest dt src w item inst => Sys2Proof.Machine.execCalRequest dt src w item inst s
  | .calSchedule dt item inst => Sys2Proof.Machine.execCalSchedule dt item inst s
  | .calRunStart dt => Sys2Proof.Machine.execCalRunStart dt s
  | .calRunComplete dt item inst dac el bands => Sys2Proof.Machine.execCalRunComplete dt item inst dac el bands s
  | .monitorConversion dt volt m value => Sys2Proof.Machine.execMonitorConversion dt volt m value s
  | .freezeWrite dt src on => Sys2Proof.Machine.execFreezeWrite dt src on s
  | .snapReq dt src target => Sys2Proof.Machine.execSnapReq dt src target s
  | .snapshotSwap dt => Sys2Proof.Machine.execSnapshotSwap dt s
  | .samplerCtrlWrite dt src n e w => Sys2Proof.Machine.execSamplerCtrlWrite dt src n e w s
  | .samplerFlush dt src n => Sys2Proof.Machine.execSamplerFlush dt src n s
  | .samplerRead dt src n => Sys2Proof.Machine.execSamplerRead dt src n s
  | .evtRouteWrite dt src k w => Sys2Proof.Machine.execEvtRouteWrite dt src k w s
  | .evtEnableWrite dt src k w => Sys2Proof.Machine.execEvtEnableWrite dt src k w s
  | .ptpDelayReqSend dt k p => Sys2Proof.Machine.execPtpDelayReqSend dt k p s
  | .announceReceiptTimeout dt k p => Sys2Proof.Machine.execAnnounceReceiptTimeout dt k p s
  | .lldpTtlExpiry dt p => Sys2Proof.Machine.execLldpTtlExpiry dt p s
  | .feLeadPwrenHigh dt => Sys2Proof.Machine.execFeLeadPwrenHigh dt s

end Sys2Proof.Machine
end

