-- ==== Sys2Proof/Machine/Step.lean ====
section
/-!
DEFINITION. Step.lean: one step of the block takes the command at the front of the queue. On an empty queue one tick of the TSU
clock passes (R49; log entry 1).
-/
namespace Sys2Proof.Machine

/-- One step.
(DESIGN CHOICE, log entry 1; DESIGN CHOICE, log entry 6) -/
def step (s : State) : Host.Outcome State Fault Refusal :=
  match s.pending with
  | c :: rest => exec c { s with pending := rest }
  | [] => effect 1 id s

/-- The state with the command that a word spells put at the front of its queue. -/
def State.withFetchWord (s : State) (nbits w : Nat) : State :=
  match decodeTableWord nbits w with
  | some c => { s with pending := c :: s.pending }
  | none => s

end Sys2Proof.Machine
end

