-- ==== Sys2Proof/Safety.lean ====
section
/-!
DEFINITION. Safety.lean: the terms statements are made in: what it is for a command to complete, what the event controller
promises of every state a step leaves, the canonical forms of the stored tables, and which register a command accesses.
-/
namespace Sys2Proof.Machine

/-- A command completes: from every state that it finds the block in after its dt ticks and that meets H, its step answers
exactly the state that the effect f and the event controller leave. -/
def Completes (c : Nat → Instr) (H : State → Prop) (f : State → State) : Prop :=
  ∀ dt s, H (s.later dt) → exec (c dt) s = .next (s.after dt f)

/-- The firmware is at a request of mailbox m (R388): well formed (R390), of command op, with n bytes of payload. -/
abbrev AtRequest (m op n : Nat) (s : State) : Prop :=
  s.fwTakes m = true ∧ s.reqOpcode m = op ∧ s.transportError m = 0 ∧ s.reqLength m = n

/-- The pending sources, as the register file holds them. -/
def State.pend (s : State) : Nat := s.getWide (Reg.EVT_PEND 0) 3

/-- The event controller is at rest: PEND is RAW and ENABLE (R459), IRQn follows PEND (R393), and every vector's memory
holds the pending sources routed to it (R464). -/
structure EventsFollow (s : State) : Prop where
  pend : s.pend = s.getWide (Reg.EVT_RAW 0) 3 &&& s.enables
  irq : s.irqLow = s.irqWanted s.pend
  vectors : ∀ v, v < 32 → kget s.vecMem v 0 = s.vecSources s.pend v

/-- The register file is in its one form: addresses strictly rise, and every listed word differs from its reset value. -/
def RegsCanonical (s : State) : Prop := krising s.regs = true ∧ ∀ e ∈ s.regs, e.2 ≠ resetWord s.member e.1

/-- The flash is in its one form: addresses strictly rise, and an erased byte is not listed. -/
def FlashCanonical (m : KMap Byte) : Prop := krising m = true ∧ ∀ e ∈ m, e.2 ≠ 0xFF#8

/-- Entry e holds a code, is due, and no entry of a lower index is (R69). -/
abbrev Fires (e code : Nat) (s : State) : Prop :=
  (s.act e).code = code ∧ s.actDue e = true ∧ s.actFirst e = true

/-- What a firing of entry e leaves, once its action has made t of s and has taken its targets as r says (R65, R71, R73). -/
def fired (e : Nat) (r : FireResult) (s t : State) : State :=
  let c := fireCode r (s.act e).carried.isSome
  let t := t.setAct e ((s.act e).afterFire c)
  if c = 1 then t else t.latchEvent 18

end Sys2Proof.Machine
end

