-- ==== Sys2Proof/Certificates/Slice0/Obligations.lean ====
section
/-!
DEFINITION. Obligations.lean: the statements about the block. Those named …Complete say, row by row, the next state of a
command that has its effect: under hypotheses on the state it finds (after its dt ticks) and its operands alone.
-/
section
open Sys2Proof Sys2Proof.Machine

/-! ## Network time -/

/-- The commands of TIME.SET and of the Leaf timebases complete. A write of the lowest word of a valid time arms the load
(R51), CANCEL drops it (R51), the load at the second boundary steps network time and makes it valid (R50, R51); an alignment
exchange, 1,024 ticks or more after the last one and over the Leaf's lowest-numbered module in service, shows the residual,
marks the Leaf aligned or not, and starts or ends the 1 ms of R54 (R53, R54). -/
def Obligations.TimeSetAndLeafTimebaseComplete : Prop :=
  (∀ src w x, Completes (fun dt => .timeSetWrite dt src w)
    (fun s => s.access src Reg.TIME_SET0 = .ok ∧ timeOfRaw (s.wideValue Reg.TIME_SET0 3 w) = some x)
    (fun s =>
      let t := (s.dropHeld Reg.TIME_SET0 3).setWide Reg.TIME_SET0 3 (s.wideValue Reg.TIME_SET0 3 w)
      { t with setLoad := some (x, t.now / secU) }.raise Fld.TIME_STATUS_SET_PENDING)) ∧
  (∀ src, Completes (fun dt => .setCancel dt src) (fun s => s.access src Reg.TIME_CTRL = .ok)
    (fun s => { s with setLoad := none }.setFld Fld.TIME_STATUS_SET_PENDING 0)) ∧
  (∀ v sec, Completes (fun dt => .timeSetLoad dt) (fun s => s.setLoad = some (v, sec) ∧ sec < s.now / secU)
    (fun s =>
      let t := v + (s.now - (sec + 1) * secU) / tickUnits * tickUnits
      let u := (timeStep (t * 2 ^ 34) t { s with setLoad := none }).followStep ((t : Int) - s.now)
      (u.setFld Fld.TIME_STATUS_SET_PENDING 0).raise Fld.TIME_STATUS_VALID)) ∧
  (∀ n q resid, n < 8 → residAligned resid = true → Completes (fun dt => .leafAlignExchange dt n resid)
    (fun s => (s.leaf n = 3 ∨ s.leaf n = 4) ∧ s.alignModule n = some q ∧
      ∀ x, kfind s.aligns n = some x → x.at_ + 1024 ≤ s.ticks)
    (fun s =>
      let t := { s with aligns := kput s.aligns n ⟨q, s.ticks⟩ }
      ((((((t.setFld (Fld.TIME_LEAF_RESID_RESID n) (unsigned 16 resid)).setFldBit Fld.TIME_STATUS_LEAF_ALIGNED n true).setFldBit
        Fld.TIME_STATUS_LEAF_STAMP_INVALID n false).stopTimer .residOut n).setFld (Fld.TIME_LEAF_RESID_WARN n) 0)).tsuFollow)) ∧
  (∀ n q resid, n < 8 → residAligned resid = false → Completes (fun dt => .leafAlignExchange dt n resid)
    (fun s => (s.leaf n = 3 ∨ s.leaf n = 4) ∧ s.alignModule n = some q ∧
      ∀ x, kfind s.aligns n = some x → x.at_ + 1024 ≤ s.ticks)
    (fun s =>
      let t := { s with aligns := kput s.aligns n ⟨q, s.ticks⟩ }
      let t := (t.setFld (Fld.TIME_LEAF_RESID_RESID n) (unsigned 16 resid)).setFldBit Fld.TIME_STATUS_LEAF_ALIGNED n false
      let t := if residStampOk resid then t else t.setFldBit Fld.TIME_STATUS_LEAF_STAMP_INVALID n true
      (if t.running .residOut n ∨ t.inService n = false then t else t.startTimer .residOut n (msT + 1)).tsuFollow)) ∧
  (∀ n, n < 8 → Completes (fun dt => .leafResidWarn dt n) (fun s => s.inService n = true ∧ s.due .residOut n = true)
    (fun s => s.raise (Fld.TIME_LEAF_RESID_WARN n)))

/-- The commands of the capture inputs complete: a chosen edge of an enabled channel with room, 100 ns or more after the last
one, queues a stamp (R56, R57); a read takes the oldest stamp out and latches it, or reads 0 with none (R58); a flush
empties the queue and LOST (R57). -/
def Obligations.CaptureComplete : Prop :=
  (∀ i rising sub, i < 6 → sub < tickUnits → Completes (fun dt => .captureEdge dt i rising sub)
    (fun s => s.powered = true ∧ s.on (Fld.TIME_CAP_CTRL_EN i) = true ∧
      s.fldBit (Fld.TIME_CAP_CTRL_EDGE i) (if rising then 0 else 1) = true ∧ (s.cap i).fifo.length < 16 ∧
      ∀ l, (s.cap i).last = some l → l + 100 * nsU ≤ s.ticks * tickUnits + sub)
    (fun s => s.setCap i
      { fifo := (s.cap i).fifo ++ [⟨s.now + sub, rising, s.on Fld.TIME_STATUS_TSU_LOCK⟩],
        last := some (s.ticks * tickUnits + sub) })) ∧
  (∀ src i st rest, i < 6 → Completes (fun dt => .captureRead dt src i)
    (fun s => s.access src (Reg.TIME_CAP_TS0 i) = .ok ∧ (s.cap i).fifo = st :: rest)
    (fun s =>
      let t := (s.setCap i { s.cap i with fifo := rest }).setWide (Reg.TIME_CAP_TS0 i) 3 (rawOfTime st.ts)
      let t := (t.setBit (Fld.TIME_CAP_TSX_VALID i) st.valid).setBit (Fld.TIME_CAP_TSX_RISING i) st.rising
      t.emit (.readData src [t.get (Reg.TIME_CAP_TS0 i)]))) ∧
  (∀ src i, i < 6 → Completes (fun dt => .captureRead dt src i)
    (fun s => s.access src (Reg.TIME_CAP_TS0 i) = .ok ∧ (s.cap i).fifo = [])
    (fun s => ((s.setWide (Reg.TIME_CAP_TS0 i) 3 0).set (Reg.TIME_CAP_TSX i) 0#32).emit (.readData src [0#32]))) ∧
  (∀ src i, i < 6 → Completes (fun dt => .captureFlush dt src i) (fun s => s.access src (Reg.TIME_CAP_CTRL i) = .ok)
    (fun s => (s.setCap i { s.cap i with fifo := [] }).setFld (Fld.TIME_CAP_STAT_LOST i) 0))

/-- The commands of the pulse outputs complete: a write of CTRL keeps a running schedule whose mode it repeats, and else
starts ONCE and PERIODIC within their limits, or leaves the channel OFF or ARMED (R59 to R61); a value written is staged for
a running PERIODIC channel (R62); at a leading edge that is reached the pulse is given, and ONCE has no further edge or PERIODIC
goes on from the values then in use (R60, R62); a PULSE action gives one at its trigger (R74). A ONCE channel reads OFF once its
pulse is over (R59). -/
def Obligations.PulseComplete : Prop :=
  (∀ src j w, j < 8 → Completes (fun dt => .pulseCtrlWrite dt src j w)
    (fun s => s.access src (Reg.TIME_PULSE_CTRL j) = .ok ∧ s.onceOver j = false ∧ s.pulseMode j = bitsOf w 0 2 ∧
      s.on (Fld.TIME_PULSE_STAT_RUNNING j) = true)
    (fun s => (s.setFld (Fld.TIME_PULSE_CTRL_POL j) (bitsOf w 2 1)).setFld (Fld.TIME_PULSE_CTRL_MUTE_HIZ j) (bitsOf w 3 1))) ∧
  (∀ src j w, j < 8 → Completes (fun dt => .pulseCtrlWrite dt src j w)
    (fun s =>
      let t := ((s.pulseShow j).setFld (Fld.TIME_PULSE_CTRL_POL j) (bitsOf w 2 1)).setFld (Fld.TIME_PULSE_CTRL_MUTE_HIZ j)
        (bitsOf w 3 1)
      s.access src (Reg.TIME_PULSE_CTRL j) = .ok ∧
      ((s.pulseShow j).pulseMode j ≠ bitsOf w 0 2 ∨ (s.pulseShow j).on (Fld.TIME_PULSE_STAT_RUNNING j) = false) ∧
      (bitsOf w 0 2 = 1 → onceOk (t.pulseWidth j) = true ∧ t.now + usU ≤ t.pulseStart j) ∧
      (bitsOf w 0 2 = 2 → periodicOk (t.pulsePeriod j) (t.pulseWidth j) = true))
    (fun s =>
      let t := ((s.pulseShow j).setFld (Fld.TIME_PULSE_CTRL_POL j) (bitsOf w 2 1)).setFld (Fld.TIME_PULSE_CTRL_MUTE_HIZ j)
        (bitsOf w 3 1)
      match bitsOf w 0 2 with
      | 0 => t.pulseOff j
      | 1 => t.pulseRun j 1 (t.pulseStart j)
      | 2 => t.pulseRun j 2 (scheduleAtOrAfter (t.pulseStart j) (t.pulsePeriod j) (t.now + usU))
      | _ => ((t.pulseOff j).setFld (Fld.TIME_PULSE_CTRL_MODE j) 3).pulseMute j)) ∧
  (∀ src j w x, j < 8 → Completes (fun dt => .pulseParamWrite dt src j .start w)
    (fun s => s.access src (Reg.TIME_PULSE_START0 j) = .ok ∧ timeOfRaw (s.wideValue (Reg.TIME_PULSE_START0 j) 3 w) = some x)
    (fun s => pulseAttempt j ((s.dropHeld (Reg.TIME_PULSE_START0 j) 3).setWide (Reg.TIME_PULSE_START0 j) 3
      (s.wideValue (Reg.TIME_PULSE_START0 j) 3 w)))) ∧
  (∀ src j w, j < 8 → Completes (fun dt => .pulseParamWrite dt src j .period w)
    (fun s => s.access src (Reg.TIME_PULSE_PERIOD0 j) = .ok)
    (fun s => pulseAttempt j ((s.dropHeld (Reg.TIME_PULSE_PERIOD0 j) 2).setWide (Reg.TIME_PULSE_PERIOD0 j) 2
      (s.wideValue (Reg.TIME_PULSE_PERIOD0 j) 2 (w &&& 0xFFFF#32))))) ∧
  (∀ src j w, j < 8 → Completes (fun dt => .pulseParamWrite dt src j .width w)
    (fun s => s.access src (Reg.TIME_PULSE_WIDTH0 j) = .ok)
    (fun s => pulseAttempt j ((s.dropHeld (Reg.TIME_PULSE_WIDTH0 j) 2).setWide (Reg.TIME_PULSE_WIDTH0 j) 2
      (s.wideValue (Reg.TIME_PULSE_WIDTH0 j) 2 (w &&& 0xFFFF#32))))) ∧
  (∀ j t, j < 8 → Completes (fun dt => .pulseEdge dt j)
    (fun s => s.powered = true ∧ (s.pulse j).next = some t ∧ t < s.now + tickUnits ∧ s.pulseMode j = 1)
    (fun s =>
      let u := s.givePulse j t (s.pulse j).width
      u.setPulse j { u.pulse j with next := none })) ∧
  (∀ s : State, ∀ j t, s.fld (Fld.TIME_PULSE_CTRL_MODE j) = 1 → (s.pulse j).next = none → (s.pulse j).busyTo = some t →
    s.pulseMode j = if t ≤ s.now then 0 else 1) ∧
  (∀ j t, j < 8 → Completes (fun dt => .pulseEdge dt j)
    (fun s => s.powered = true ∧ (s.pulse j).next = some t ∧ t < s.now + tickUnits ∧ s.pulseMode j = 2 ∧
      ∀ at1, (s.pulse j).attempt = some at1 → t < at1)
    (fun s =>
      let p := s.pulse j
      let u := s.givePulse j t p.width
      u.setPulse j { u.pulse j with next := some (scheduleAtOrAfter p.start p.period (t + 1)) })) ∧
  (∀ j t at1, j < 8 → Completes (fun dt => .pulseEdge dt j)
    (fun s => s.powered = true ∧ (s.pulse j).next = some t ∧ t < s.now + tickUnits ∧ s.pulseMode j = 2 ∧
      (s.pulse j).attempt = some at1 ∧ at1 ≤ t)
    (fun s =>
      let u := s.applyStaged j t
      let p := u.pulse j
      let v := u.givePulse j t p.width
      v.setPulse j { v.pulse j with next := some (scheduleAtOrAfter p.start p.period (t + p.width + pulseMin)) })) ∧
  (∀ e, Completes (fun dt => .pulseAction dt e) (fun s => Fires e 0x01 s ∧ s.pulseMode (s.act e).target = 3)
    (fun s =>
      let a := s.act e
      fired e .ok s (s.givePulse a.target (if a.carried.isSome then s.now else a.trigger) a.arg)))

/-- The commands of the timed-action table complete. The boundary moves when every entry it moves is FREE (R64). A command of
an interface that is not BUSY, on an entry of its own world, writes a valid entry onto a FREE one, reads one into the staging
words, or frees a PENDING one, and reports OK, in the cycle in which it completes and not before (R66 to R68). A PENDING entry is ARMED from 10 µs before its trigger (R65), and
a RAISE_EVENT entry that fires sets its user event (R74). -/
def Obligations.ActionTableComplete : Prop :=
  (∀ src w, Completes (fun dt => .actPartWrite dt src w)
    (fun s => s.access src Reg.TIME_ACT_PART = .ok ∧ bitsOf w 0 9 ≤ 256 ∧
      ∀ e, e < 256 → (e < s.secureEntries ↔ ¬ e < bitsOf w 0 9) → (s.act e).state = .free)
    (fun s => s.setFld Fld.TIME_ACT_PART_SECURE_ENTRIES (bitsOf w 0 9))) ∧
  (∀ src w e took, w < 2 → e < 256 → took ≠ 0 → Completes (fun dt => .actCmdWrite dt src w e took)
    (fun s => s.access src (Reg.TIME_ACT_CMD w) = .ok ∧ s.waiting .actBusy w = false)
    (fun s =>
      let u := ((s.setFld (Fld.TIME_ACT_CMD_OP w) 1).setFld (Fld.TIME_ACT_CMD_INDEX w) e).startTimer .actBusy w (min took 160)
      { u with actCmds := kput s.actCmds w ⟨1, e, s.ticks + min took 160⟩ })) ∧
  (∀ src w e, w < 2 → e < 256 → Completes (fun dt => .actCmdWrite dt src w e 0)
    (fun s =>
      let u := ((s.setFld (Fld.TIME_ACT_CMD_OP w) 1).setFld (Fld.TIME_ACT_CMD_INDEX w) e).startTimer .actBusy w 0
      s.access src (Reg.TIME_ACT_CMD w) = .ok ∧ s.waiting .actBusy w = false ∧ u.actWorld e = w ∧
      u.actWriteResult e s.now { words := u.actStaged w } = resOk)
    (fun s =>
      let u := ((s.setFld (Fld.TIME_ACT_CMD_OP w) 1).setFld (Fld.TIME_ACT_CMD_INDEX w) e).startTimer .actBusy w 0
      let u := { u with actCmds := kdel s.actCmds w }
      (u.setAct e { words := u.actStaged w, state := .pending }).actShow w e resOk)) ∧
  (∀ src w e took, w < 2 → e < 256 → took ≠ 0 → Completes (fun dt => .actCmdRead dt src w e took)
    (fun s => s.access src (Reg.TIME_ACT_CMD w) = .ok ∧ s.waiting .actBusy w = false)
    (fun s =>
      let u := ((s.setFld (Fld.TIME_ACT_CMD_OP w) 2).setFld (Fld.TIME_ACT_CMD_INDEX w) e).startTimer .actBusy w (min took 160)
      { u with actCmds := kput s.actCmds w ⟨2, e, s.ticks + min took 160⟩ })) ∧
  (∀ src w e, w < 2 → e < 256 → Completes (fun dt => .actCmdRead dt src w e 0)
    (fun s =>
      let u := ((s.setFld (Fld.TIME_ACT_CMD_OP w) 2).setFld (Fld.TIME_ACT_CMD_INDEX w) e).startTimer .actBusy w 0
      s.access src (Reg.TIME_ACT_CMD w) = .ok ∧ s.waiting .actBusy w = false ∧ u.actWorld e = w)
    (fun s =>
      let u := ((s.setFld (Fld.TIME_ACT_CMD_OP w) 2).setFld (Fld.TIME_ACT_CMD_INDEX w) e).startTimer .actBusy w 0
      let u := { u with actCmds := kdel s.actCmds w }
      (actRead w e u).actShow w e resOk)) ∧
  (∀ src w e took, w < 2 → e < 256 → took ≠ 0 → Completes (fun dt => .actCmdCancel dt src w e took)
    (fun s => s.access src (Reg.TIME_ACT_CMD w) = .ok ∧ s.waiting .actBusy w = false)
    (fun s =>
      let u := ((s.setFld (Fld.TIME_ACT_CMD_OP w) 3).setFld (Fld.TIME_ACT_CMD_INDEX w) e).startTimer .actBusy w (min took 160)
      { u with actCmds := kput s.actCmds w ⟨3, e, s.ticks + min took 160⟩ })) ∧
  (∀ src w e, w < 2 → e < 256 → Completes (fun dt => .actCmdCancel dt src w e 0)
    (fun s =>
      let u := ((s.setFld (Fld.TIME_ACT_CMD_OP w) 3).setFld (Fld.TIME_ACT_CMD_INDEX w) e).startTimer .actBusy w 0
      s.access src (Reg.TIME_ACT_CMD w) = .ok ∧ s.waiting .actBusy w = false ∧ u.actWorld e = w ∧
      (s.act e).state = .pending)
    (fun s =>
      let u := ((s.setFld (Fld.TIME_ACT_CMD_OP w) 3).setFld (Fld.TIME_ACT_CMD_INDEX w) e).startTimer .actBusy w 0
      let u := { u with actCmds := kdel s.actCmds w }
      (u.setAct e { u.act e with state := .free, carried := none }).actShow w e resOk)) ∧
  (∀ s : State, ∀ w e d, kfind s.actCmds w = some ⟨1, e, d⟩ → d ≤ s.ticks → s.actWorld e = w →
    s.actWriteResult e (s.nowBefore (s.ticks - d)) { words := s.actStaged w } = resOk →
    actComplete w s =
      ({ s with actCmds := kdel s.actCmds w }.setAct e { words := s.actStaged w, state := .pending }).actShow w e resOk) ∧
  (∀ s : State, ∀ w e d, kfind s.actCmds w = some ⟨2, e, d⟩ → d ≤ s.ticks → s.actWorld e = w →
    actComplete w s = (actRead w e { s with actCmds := kdel s.actCmds w }).actShow w e resOk) ∧
  (∀ s : State, ∀ w e d, kfind s.actCmds w = some ⟨3, e, d⟩ → d ≤ s.ticks → s.actWorld e = w → (s.act e).state = .pending →
    actComplete w s = ({ s with actCmds := kdel s.actCmds w }.setAct e
      { s.act e with state := .free, carried := none }).actShow w e resOk) ∧
  (∀ s : State, ∀ w c, kfind s.actCmds w = some c → s.ticks < c.due → actComplete w s = s) ∧
  (∀ e, e < 256 → Completes (fun dt => .actArm dt e)
    (fun s => (s.act e).state = .pending ∧ (s.act e).trigger ≤ s.now + 10 * usU)
    (fun s => s.setAct e { s.act e with state := .armed })) ∧
  (∀ e, Completes (fun dt => .raiseEvent dt e) (Fires e 0x0D)
    (fun s => fired e .ok s (s.setFldBit Fld.TIME_ACT_EVT_USER (s.act e).target true)))

/-! ## Timed actions on other blocks -/

/-- An entry that fires and takes all its targets completes: a snapshot begins, a bank pair swaps at the trigger on every Leaf
of the mask, a port's gate lists swap, a port is enabled or disabled (R46, R70, R73, R74, R195, R451). -/
def Obligations.DataPathActionsComplete : Prop :=
  (∀ e, Completes (fun dt => .snapshotAction dt e)
    (fun s => Fires e 0x02 s ∧ (s.actWorld e == 0 && s.snapSecure (s.act e).target) = false ∧ s.snapOpen = true ∧ s.snapSkips (s.act e).target = [])
    (fun s => fired e .ok s (snapBegin (s.act e).arg (s.act e).target (s.actTime (s.act e)) s))) ∧
  (∀ e, Completes (fun dt => .swapVlanBank dt e)
    (fun s =>
      let l := s.allLeaves.filter (fun n => (s.act e).target / 2 ^ n % 2 == 1)
      Fires e 0x03 s ∧ (∀ n ∈ l, s.inService n = true) ∧ (s.actWorld e = 0 → ∀ n ∈ l, s.bankSecure n 0 = false))
    (fun s =>
      let a := s.act e
      let at1 := s.actTime a
      fired e .ok s (s.forAll (s.allLeaves.filter (fun n => a.target / 2 ^ n % 2 == 1))
        (fun n s => s.bankSwap n 0 a.arg at1)))) ∧
  (∀ e, Completes (fun dt => .swapGroupBank dt e)
    (fun s =>
      let l := s.allLeaves.filter (fun n => (s.act e).target / 2 ^ n % 2 == 1)
      Fires e 0x04 s ∧ (∀ n ∈ l, s.inService n = true) ∧ (s.actWorld e = 0 → ∀ n ∈ l, s.bankSecure n 1 = false))
    (fun s =>
      let a := s.act e
      let at1 := s.actTime a
      fired e .ok s (s.forAll (s.allLeaves.filter (fun n => a.target / 2 ^ n % 2 == 1))
        (fun n s => s.bankSwap n 1 a.arg at1)))) ∧
  (∀ e, Completes (fun dt => .swapStreamBank dt e)
    (fun s =>
      let l := s.allLeaves.filter (fun n => (s.act e).target / 2 ^ n % 2 == 1)
      Fires e 0x05 s ∧ (∀ n ∈ l, s.inService n = true) ∧ (s.actWorld e = 0 → ∀ n ∈ l, s.bankSecure n 2 = false))
    (fun s =>
      let a := s.act e
      let at1 := s.actTime a
      fired e .ok s (s.forAll (s.allLeaves.filter (fun n => a.target / 2 ^ n % 2 == 1))
        (fun n s => s.bankSwap n 2 a.arg at1)))) ∧
  (∀ e, Completes (fun dt => .swapGcl dt e)
    (fun s =>
      let p := (s.act e).target
      Fires e 0x06 s ∧ s.worldBars e (Reg.EGR_PORT_GCL_CTRL p) = false ∧ s.portSkipped p = false ∧
      (s.gclSwap p (s.act e).arg (s.actTime (s.act e))).1 = false)
    (fun s => fired e .ok s (s.gclSwap (s.act e).target (s.act e).arg (s.actTime (s.act e))).2)) ∧
  (∀ e, Completes (fun dt => .portEnable dt e)
    (fun s => Fires e 0x07 s ∧ s.worldBars e (portHome (s.act e).target) = false ∧ s.portSkipped (s.act e).target = false)
    (fun s => fired e .ok s (s.adminUp (s.act e).target (s.actTime (s.act e))))) ∧
  (∀ e, Completes (fun dt => .portDisable dt e)
    (fun s => Fires e 0x08 s ∧ s.worldBars e (portHome (s.act e).target) = false ∧ s.portSkipped (s.act e).target = false)
    (fun s =>
      let p := (s.act e).target
      let t := (s.adminDown p (s.actTime (s.act e))).flushPort p 0x2A
      fired e .ok s (t.modPort p (fun y => { y with cur := (s.port p).cur, part := (s.port p).part }))))

/-- An entry that fires on the clocks, a parameter set or a claim domain completes, and so does a step whose second boundary
has come: a phase step applies with the register step of its tick, a staging set that passes its checks commits whole, staged
dividers load in the trigger tick, a drill begins (R256, R284, R285, R328, R418, R419). -/
def Obligations.ClockActionsComplete : Prop :=
  (∀ d, d < 3 → Completes (fun dt => .pstepApply dt d)
    (fun s => s.phaseActionDue d = false ∧ ((s.stepDue (s.dpll d).pstep).isSome ∨ (s.stepDue (s.dpll d).rstep).isSome))
    (fun s => s.applySteps d 0)) ∧
  (∀ e, Completes (fun dt => .phaseStep dt e)
    (fun s => Fires e 0x09 s ∧ s.worldBars e (Reg.DPLL_PSTEP_CTRL (s.act e).target) = false)
    (fun s => fired e .ok s (s.applySteps (s.act e).target (signed 64 (s.act e).arg)))) ∧
  (∀ e, Completes (fun dt => .paramCommitAction dt e)
    (fun s => Fires e 0x0A s ∧ s.psetForeign (s.act e).target (s.actWorld e) = false ∧
      s.commitFails (s.pset (s.act e).target).entries = none)
    (fun s =>
      let a := s.act e
      let x := s.pset a.target
      let late := a.carried.isNone && s.pausedAt a.trigger
      fired e .ok s ((s.setPset a.target
        { x with entries := [], lastTag := a.arg, lastResult := if late then 3 else 1, failKey := 0 }).commitSet x.entries))) ∧
  (∀ e, Completes (fun dt => .dividerSync dt e)
    (fun s => Fires e 0x0B s ∧ s.worldBars e Reg.SYN_UPDATE = false)
    (fun s => fired e .ok s (s.loadOuts (s.act e).target s.ticks))) ∧
  (∀ e, Completes (fun dt => .claimDrill dt e)
    (fun s => Fires e 0x0C s ∧ s.worldBars e (Reg.CLM_DOM_CFG (s.act e).target) = false ∧
      (clmDrill (s.act e).target (s.act e).arg s).1 = false)
    (fun s => fired e .ok s (clmDrill (s.act e).target (s.act e).arg s).2))

/-! ## Lanes -/

/-- The writes of a lane's settings complete: CTRL without a reserved field, and what follows EN, power and RESTART (R83,
R84), with the preset back in use where software gives up the coefficients (R96) and the written values where adaptation is
turned off (R100); RESTART alone; TIMERS and RETRY within their ranges (R92); ADAPT with RESUME_MIN above FREEZE_MIN (R103);
coefficients that keep R95, applied where software owns them (R96); start points of the equaliser, applied in OFF mode (R99,
R100). -/
def Obligations.LaneSettingsComplete : Prop :=
  (∀ src g w, bitsOf w 4 2 ≠ 3 → bitsOf w 10 2 ≠ 3 → Completes (fun dt => .laneCtrlWrite dt src g w)
    (fun s => s.laneExists g = true ∧ s.access src (Reg.LANE_CTRL g) = .ok)
    (fun s =>
      let rise := bitsOf w 0 1 == 1 && !s.on (Fld.LANE_CTRL_EN g)
      let t := s.set (Reg.LANE_CTRL g) (w &&& 0xF31#32)
      let t := if s.on (Fld.LANE_CTRL_FFE_SRC g) then t.presetLane g else t
      let t := if s.fld (Fld.LANE_CTRL_ADAPT_MODE g) ≠ 0 ∧ bitsOf w 10 2 = 0 then (t.asWritten g).eqStep g else t
      match t.portOfLane g with
      | none => if g < 256 then t.followOctet (g / 8) else t
      | some p =>
        if p = g then
          let u := (if rise then t.laneFlds p Fld.LANE_STATE_LAST_EXIT 0 else t).followLanes p
          if bitsOf w 1 1 = 1 ∧ t.portState p ≠ 0 then u.restart p 6 else u
        else t)) ∧
  (∀ src g, Completes (fun dt => .laneRestart dt src g)
    (fun s => s.laneExists g = true ∧ s.access src (Reg.LANE_CTRL g) = .ok ∧ s.portOfLane g = some g ∧ s.portState g ≠ 0)
    (fun s => (s.enterDetect g (fun _ => 6)).clearFails g)) ∧
  (∀ src g w, 100 ≤ bitsOf w 20 12 → bitsOf w 20 12 ≤ 3000 → 10 ≤ bitsOf w 10 10 → bitsOf w 10 10 ≤ 1000 → 10 ≤ bitsOf w 0 10 →
    bitsOf w 0 10 ≤ 1000 → Completes (fun dt => .laneTimersWrite dt src g false w)
    (fun s => s.laneExists g = true ∧ s.access src (Reg.LANE_TIMERS g) = .ok) (fun s => s.set (Reg.LANE_TIMERS g) w)) ∧
  (∀ src g w, 1 ≤ bitsOf w 8 8 → bitsOf w 4 4 ≤ 10 → 1 ≤ bitsOf w 24 8 → 1 ≤ bitsOf w 16 8 →
    Completes (fun dt => .laneTimersWrite dt src g true w)
    (fun s => s.laneExists g = true ∧ s.access src (Reg.LANE_RETRY g) = .ok)
    (fun s => s.set (Reg.LANE_RETRY g) (w &&& 0xFFFFFFF0#32))) ∧
  (∀ src g w, bitsOf w 0 16 < bitsOf w 16 16 → Completes (fun dt => .laneAdaptWrite dt src g w)
    (fun s => s.laneExists g = true ∧ s.access src (Reg.LANE_ADAPT g) = .ok) (fun s => s.set (Reg.LANE_ADAPT g) w)) ∧
  (∀ src g w, Completes (fun dt => .ffeApply dt src g w)
    (fun s =>
      let t := s.set (Reg.LANE_FFE_P2 g) (w &&& 0xFF#32)
      s.laneExists g = true ∧ s.access src (Reg.LANE_FFE_P2 g) = .ok ∧ t.on (Fld.LANE_CTRL_FFE_SRC g) = true ∧
      ffeOk (t.get (Reg.LANE_FFE g)) w = true)
    (fun s =>
      let t := s.set (Reg.LANE_FFE_P2 g) (w &&& 0xFF#32)
      let u := (t.set (Reg.LANE_FFE_NOW g) (t.get (Reg.LANE_FFE g))).set (Reg.LANE_FFE_NOW_P2 g) (w &&& 0xFF#32)
      if t.get (Reg.LANE_FFE_NOW g) = t.get (Reg.LANE_FFE g) ∧ t.get (Reg.LANE_FFE_NOW_P2 g) = w &&& 0xFF#32 then t
      else u.modPort ((u.portOfLane g).getD g) (fun x => { x with ffeAt := some u.ticks }))) ∧
  (∀ src g w, Completes (fun dt => .equaliserWrite dt src g true w)
    (fun s => s.laneExists g = true ∧ s.access src (Reg.LANE_CTLE g) = .ok)
    (fun s =>
      let t := s.setFld (Fld.LANE_CTLE_PEAK g) (bitsOf w 0 5)
      if s.fld (Fld.LANE_CTRL_ADAPT_MODE g) = 0 then (t.setFld (Fld.LANE_CTLE_PEAK_NOW g) (bitsOf w 0 5)).eqStep g else t)) ∧
  (∀ src g w, Completes (fun dt => .equaliserWrite dt src g false w)
    (fun s => s.laneExists g = true ∧ s.access src (Reg.LANE_DFE g) = .ok)
    (fun s =>
      let t := s.set (Reg.LANE_DFE g) (w &&& 0xFFFFFF#32)
      if s.fld (Fld.LANE_CTRL_ADAPT_MODE g) = 0 ∧ 3 ≤ t.fld (Fld.LANE_STATE_RATE g) then
        (t.set (Reg.LANE_DFE_NOW g) (dfeUsed w)).eqStep g
      else t))

/-- The commands that take a port from DETECT to LOCK complete (R81, R84, R87, R89 to R91): a partner found under the media's
rule, the find of the second probe that counts, pages exchanged or failed, training's requests answered, as at their limits where
software owns the coefficients (R96), the time-outs and failures, which send the port to DETECT with their reason, and a lane's
lock after the hunt, which leads to EXCHANGE when it is the last and the port is deskewed. -/
def Obligations.BringUpComplete : Prop :=
  (∀ p signal, Completes (fun dt => .partnerDetected dt p signal)
    (fun s => s.detecting p = true ∧ s.partnerFound p signal = true)
    (fun s => if s.trains p then s.enterTrain p else s.enterLock p)) ∧
  (∀ p found, Completes (fun dt => .terminationProbe dt p found)
    (fun s => s.detecting p = true ∧ s.media p = 1 ∧ s.negotiates p = false ∧
      ∀ t, (s.port p).probeAt = some t → t + 10 * msT ≤ s.ticks)
    (fun s => s.setPort p
      { s.port p with probeAt := some s.ticks, probeHits := if found then (s.port p).probeHits + 1 else 0 })) ∧
  (∀ p techs fecs, Completes (fun dt => .anPageExchange dt p ⟨techs, fecs⟩)
    (fun s => s.detecting p = true ∧ s.negotiates p = true ∧ s.portMode p ∈ techs ∧
      (s.fld (Fld.PORT_MODE_FEC p) = 0 ∨ s.fld (Fld.PORT_MODE_FEC p) ∈ fecs))
    (fun s => s.modPort p (fun x => { x with anOk := true }))) ∧
  (∀ p techs fecs, Completes (fun dt => .anPageExchange dt p ⟨techs, fecs⟩)
    (fun s => s.detecting p = true ∧ s.negotiates p = true ∧ (s.portMode p ∉ techs ∨
      (s.fld (Fld.PORT_MODE_FEC p) ≠ 0 ∧ s.fld (Fld.PORT_MODE_FEC p) ∉ fecs)))
    (fun s => s.failPort p (fun _ => 4))) ∧
  (∀ p signal, Completes (fun dt => .anTimeout dt p signal)
    (fun s => s.detecting p = true ∧ s.negotiates p = true ∧ (s.port p).anOk = false ∧
      secT ≤ min signal (s.ticks - (s.port p).detectAt))
    (fun s => s.failPort p (fun _ => 4))) ∧
  (∀ p reqs, Completes (fun dt => .trainComplete dt p reqs) (fun s => s.namesPort p = true ∧ s.portState p = 2)
    (fun s => (s.trainLanes (reqs.take (modeLanes (s.portMode p))) p).enterLock p)) ∧
  (∀ s : State, ∀ g reqs, s.on (Fld.LANE_CTRL_FFE_SRC g) = true →
    ∃ l, s.trainLane g reqs = s.emit (.train g l) ∧ l.length = reqs.length ∧ .updated ∉ l) ∧
  (∀ p lanes, Completes (fun dt => .trainFail dt p lanes)
    (fun s => s.namesPort p = true ∧ s.portState p = 2 ∧ ∃ g, g ∈ lanes ∧ g ∈ s.lanesOf p)
    (fun s => s.failPort p (fun g => if g ∈ lanes then 2 else 7))) ∧
  (∀ p, Completes (fun dt => .trainTimeout dt p) (fun s => s.portState p = 2 ∧ s.due .train p = true)
    (fun s => s.failPort p (fun _ => 1))) ∧
  (∀ g seen skew p, Completes (fun dt => .blockLock dt ⟨g, seen⟩ skew)
    (fun s => s.portOfLane g = some p ∧ s.portState p = 3 ∧ s.locks p seen = true)
    (fun s =>
      let t := s.modPort p (fun x =>
        { x with locked := if x.locked.contains g then x.locked else x.locked ++ [g], slip := x.slip || g == p })
      if skew ≤ maxSkew ∧ ∀ l ∈ t.lanesOf p, l ∈ (t.port p).locked then t.enterExchange p else t)) ∧
  (∀ p, Completes (fun dt => .lockTimeout dt p) (fun s => s.portState p = 3 ∧ s.due .lock p = true)
    (fun s => s.failPort p (fun _ => 3)))

/-- The commands of a port in EXCHANGE and ACTIVE, and of back-off, complete (R84, R87, R89, R93, R230): Clause 37 done or
failed, the exchange wait over, lock lost (back to LOCK, or to the hunt in LOCK), signal or module lost (to DETECT with the reason), a back-off over. -/
def Obligations.LinkLossComplete : Prop :=
  (∀ p, Completes (fun dt => .clause37Negotiation dt p true)
    (fun s => s.portState p = 4 ∧ s.portMode p = 1 ∧ s.on (Fld.LANE_CTRL_AN_EN p) = true)
    (fun s => (s.modPort p (fun x => { x with cl37 := true })).tryActive p)) ∧
  (∀ p, Completes (fun dt => .clause37Negotiation dt p false)
    (fun s => s.portState p = 4 ∧ s.portMode p = 1 ∧ s.on (Fld.LANE_CTRL_AN_EN p) = true)
    (fun s => s.failPort p (fun _ => 4))) ∧
  (∀ p, Completes (fun dt => .exchWaitExpiry dt p) (fun s => s.portState p = 4 ∧ s.due .exch p = true)
    (fun s => (s.modPort p (fun x => { x with exchOver := true })).tryActive p)) ∧
  (∀ g seen p, Completes (fun dt => .lockLoss dt ⟨g, seen⟩)
    (fun s => s.portOfLane g = some p ∧ (s.portState p = 4 ∨ s.portState p = 5) ∧ s.unlocks p seen = true)
    (fun s => (((s.bump (Fld.LANE_LOCK_LOSS_COUNT g) 1).raise (Fld.LANE_EVT_LOCK_LOSS g)).enterLock p).modPort p
      (fun x => { x with slip := x.slip || g == p, locked := (s.lanesOf p).filter (fun l => l != g) }))) ∧
  (∀ g seen p, Completes (fun dt => .lockLoss dt ⟨g, seen⟩)
    (fun s => s.portOfLane g = some p ∧ s.portState p = 3 ∧ s.unlocks p seen = true)
    (fun s => s.modPort p
      (fun x => { x with slip := x.slip || g == p, locked := (s.port p).locked.filter (fun l => l != g) }))) ∧
  (∀ p lanes, Completes (fun dt => .signalLost dt p lanes)
    (fun s => s.namesPort p = true ∧ 3 ≤ s.portState p ∧ ∃ g, g ∈ lanes ∧ g ∈ s.lanesOf p)
    (fun s => s.enterDetect p (fun g => if g ∈ lanes then 5 else 7))) ∧
  (∀ p, Completes (fun dt => .modulePresenceLost dt p) (fun s => s.namesPort p = true)
    (fun s =>
      let t := s.modPort p (fun x => { x with modReady := false })
      if t.media p = 0 ∧ t.portState p ≠ 0 then (t.enterDetect p (fun _ => 5)).clearFails p else t)) ∧
  (∀ p, Completes (fun dt => .backoffEnd dt p) (fun s => s.portState p = 1 ∧ s.due .backoff p = true)
    (fun s => ((s.stopTimer .backoff p).laneFlds p Fld.LANE_STATE_BACKOFF 0).modPort p
      (fun x => { x with detectAt := s.ticks, probeHits := 0, probeAt := none, anOk := false })))

/-- The commands of adaptation and of the eye scan complete (R101, R102, R106 to R108): a code step whose wait is over, the one
step between two points of a scan, the
freezing and resuming at a window's end, a point that starts, ends early with ABORTED, or completes with its counts. -/
def Obligations.AdaptationAndEyeScanComplete : Prop :=
  (∀ g up, Completes (fun dt => .adaptationStep dt g 0 up)
    (fun s => s.laneExists g = true ∧ s.adapting g = true ∧ s.scanStepped g = false ∧
      ∀ t, kfind (s.port ((s.portOfLane g).getD g)).stepAt (4 * (g % 32)) = some t → t + msT ≤ s.ticks)
    (fun s =>
      let t := { s with scanEnd := s.scanEnd.map (fun (e : Nat × Nat × Bool) => if e.1 = g then (g, e.2.1, true) else e) }
      let t := t.modPort ((s.portOfLane g).getD g) (fun x => { x with stepAt := kput x.stepAt (4 * (g % 32)) s.ticks })
      let v := t.fld (Fld.LANE_CTLE_PEAK_NOW g)
      (t.setFld (Fld.LANE_CTLE_PEAK_NOW g) (if up then min (v + 1) 31 else v - 1)).eqStep g)) ∧
  (∀ g tap up, 1 ≤ tap → tap ≤ 3 → Completes (fun dt => .adaptationStep dt g tap up)
    (fun s => s.laneExists g = true ∧ s.adapting g = true ∧ s.scanStepped g = false ∧ 3 ≤ s.fld (Fld.LANE_STATE_RATE g) ∧
      ∀ t, kfind (s.port ((s.portOfLane g).getD g)).stepAt (4 * (g % 32) + tap) = some t → t + 100 * usT ≤ s.ticks)
    (fun s =>
      let t := { s with scanEnd := s.scanEnd.map (fun (e : Nat × Nat × Bool) => if e.1 = g then (g, e.2.1, true) else e) }
      let t := t.modPort ((s.portOfLane g).getD g) (fun x => { x with stepAt := kput x.stepAt (4 * (g % 32) + tap) s.ticks })
      let f : FRef := ⟨Reg.LANE_DFE_NOW g, 8 * (tap - 1), 8⟩
      (t.setFld f (tapStep (t.fld f) up)).eqStep g)) ∧
  (∀ p units, Completes (fun dt => .adaptWindowEnd dt p units)
    (fun s => s.namesPort p = true ∧ (s.portState p = 4 ∨ s.portState p = 5) ∧
      (s.port p).winAt + windowTicks (s.portMode p) ≤ s.ticks)
    (fun s =>
      let t := s.modPort p (fun x => { x with winAt := s.ticks })
      if units < t.fld (Fld.LANE_ADAPT_FREEZE_MIN p) then
        if t.on (Fld.LANE_STATE_FROZEN p) then t
        else (t.laneFlds p Fld.LANE_STATE_FROZEN 1).laneFlds p Fld.LANE_EVT_FREEZE 1
      else if t.fld (Fld.LANE_ADAPT_RESUME_MIN p) ≤ units then t.laneFlds p Fld.LANE_STATE_FROZEN 0
      else t)) ∧
  (∀ src g w, Completes (fun dt => .escanStart dt src g w)
    (fun s => s.laneExists g = true ∧ s.access src (Reg.LANE_ESCAN_CTRL g) = .ok ∧ s.escanRefusal g w = 0)
    (fun s =>
      let t := s.set (Reg.LANE_ESCAN_CTRL g) (w &&& 0x3F30FF3F#32)
      let t := { t with escans := kput t.escans g ⟨bitsOf w 24 6, t.ticks⟩ }.raise (Fld.LANE_ESCAN_STAT_BUSY g)
      t.startTimer .escan g (escanTicks (bitsOf w 24 6) (t.fld (Fld.LANE_STATE_RATE g))))) ∧
  (∀ src g x, Completes (fun dt => .escanAbort dt src g)
    (fun s => s.laneExists g = true ∧ s.access src (Reg.LANE_ESCAN_CTRL g) = .ok ∧ kfind s.escans g = some x)
    (fun s =>
      let bits := min (2 ^ x.dwell) ((s.ticks - x.since) * rateKbd (s.fld (Fld.LANE_STATE_RATE g)) / 800000)
      let t := { s with fresh := s.fresh + 1 }
      let t := (t.setWide (Reg.LANE_ESCAN_BITS0 g) 2 bits).setWide (Reg.LANE_ESCAN_ERR0 g) 2
        ((Config.freeWord s.fresh).toNat % (bits + 1))
      let t := { t with escans := kdel t.escans g, scanEnd := kput t.scanEnd g (t.ticks, false) }.setFld
        (Fld.LANE_ESCAN_STAT_BUSY g) 0
      (t.raise (Fld.LANE_ESCAN_STAT_ABORTED g)).setFld (Fld.LANE_ESCAN_STAT_REASON g) 6)) ∧
  (∀ g errs x, Completes (fun dt => .escanPointComplete dt g errs)
    (fun s => s.due .escan g = true ∧ kfind s.escans g = some x)
    (fun s =>
      let t := ((s.stopTimer .escan g).setWide (Reg.LANE_ESCAN_BITS0 g) 2 (2 ^ x.dwell)).setWide (Reg.LANE_ESCAN_ERR0 g) 2
        (min errs (2 ^ x.dwell))
      ({ t with escans := kdel t.escans g, scanEnd := kput t.scanEnd g (t.ticks, false) }.setFld
        (Fld.LANE_ESCAN_STAT_BUSY g) 0).raise (Fld.LANE_ESCAN_STAT_DONE g)))

/-! ## Ports -/

/-- The commands of the port registers and of the receive MAC complete: a mode that may stand where it is set (R111), a frame
or fragment received on an ACTIVE port, whose fragment count goes on or ends the reassembly (R113, R114, R120), pauses honoured and over (R116), MM_CTRL within its range, verify
frames sent while fewer than three have been, and their response (R121). -/
def Obligations.PortComplete : Prop :=
  (∀ src p w fec, Completes (fun dt => .portModeWrite dt src p w)
    (fun s => s.laneExists p = true ∧ s.access src (Reg.PORT_MODE p) = .ok ∧ (s.portOfLane p).getD p = p ∧
      s.modeOk p (bitsOf w 0 6) = true ∧ s.fecAfter p (bitsOf w 0 6) (bitsOf w 8 3) = some fec)
    (fun s =>
      let m := bitsOf w 0 6
      let t := s.forAll (footprint p (s.portMode p)) (fun g s => s.setFld (Fld.LANE_STATE_RATE g) 0)
      let t := (t.set (Reg.PORT_MODE p) (BitVec.ofNat 32 (m + 2 ^ 8 * fec))).laneFlds p Fld.LANE_STATE_RATE (modeRate m)
      let t := t.forAll (footprint p m) (fun g s => if s.fld (Fld.LANE_CTRL_ADAPT_MODE g) = 0 then s.asWritten g else s)
      let t := if fec = 0 then (t.set (Reg.PORT_FEC_CW_CORR p) 0#32).set (Reg.PORT_FEC_CW_UNCORR p) 0#32 else t
      let t := t.setFld (Fld.PORT_STATUS_STATE p) (t.portState p)
      if p < 256 then t.poolShow (p / 32) else t)) ∧
  (∀ p full i, Completes (fun dt => .frameReceive dt p full i)
    (fun s =>
      let u := s.fecCount p i
      s.linkUp p = true ∧ isTcx full = false ∧ isHb full = false ∧ u.drainedAt p (s.rxPhys p i) = false ∧
      u.macReason p full i (s.rxPhys p i) = none ∧ beAt (full.take (full.length - 4)) 12 2 ≠ 0x8808)
    (fun s =>
      let at1 := s.rxPhys p i
      let st := s.rxStamp p i
      let fl := s.stampFlags p at1 false
      let t := ((s.fecCount p i).countRx p 0 1 st fl).countRx p 1 full.length st fl
      if fl % 2 = 1 ∧ t.stampedDown p st fl then t.stage p at1 t.frames full.length false
      else t.toHeader { bytes := full.take (full.length - 4), inPort := p, stamp := st, flags := fl } at1)) ∧
  (∀ p quanta, Completes (fun dt => .pauseFrame dt p quanta)
    (fun s => s.namesPort p = true ∧ s.portState p = 5)
    (fun s =>
      let t := s.countRx p 3 1 0 0
      if t.on (Fld.PORT_FC_RX_PAUSE_EN p) then
        t.holdClasses p (255 - t.fld (Fld.PORT_FC_EXPRESS_IGNORE p)) (quanta % 2 ^ 16)
      else t)) ∧
  (∀ p vec quanta, Completes (fun dt => .pfcFrame dt p vec quanta) (fun s => s.namesPort p = true ∧ s.portState p = 5)
    (fun s => (s.countRx p 3 1 0 0).forAll (List.range 8) (fun c t =>
      if vec / 2 ^ c % 2 = 1 ∧ t.fldBit (Fld.PORT_FC_RX_PFC_MASK p) c then
        t.holdClasses p (2 ^ c) (((quanta.map (fun q => q % 2 ^ 16))[c]?).getD 0)
      else t))) ∧
  (∀ p, Completes (fun dt => .pauseExpiry dt p) (fun s => s.namesPort p = true)
    (fun s =>
      let t := s.ladlePause p
      (t.modPort p (fun x => { x with pause := x.pause.filter (fun e => decide (t.ticks < e.2)) })).pauseShow p)) ∧
  (∀ src p w, bitsOf w 8 8 ≠ 0 → bitsOf w 8 8 ≤ 128 → Completes (fun dt => .mmCtrlWrite dt src p w)
    (fun s => s.namesPort p = true ∧ s.access src (Reg.PORT_MM_CTRL p) = .ok)
    (fun s => (s.set (Reg.PORT_MM_CTRL p) (w &&& 0xFF33#32)).verifyStart p)) ∧
  (∀ p, Completes (fun dt => .verifySend dt p)
    (fun s => s.namesPort p = true ∧ s.portState p = 5 ∧
      (s.fld (Fld.PORT_MM_STAT_VERIFY p) = 1 ∨ s.fld (Fld.PORT_MM_STAT_VERIFY p) = 2) ∧ (s.port p).verifyTries < 3 ∧
      ∀ t, (s.port p).verifyAt = some t → t + s.fld (Fld.PORT_MM_CTRL_VERIFY_TIME p) * msT ≤ s.ticks)
    (fun s => ((s.setPort p { s.port p with verifyTries := (s.port p).verifyTries + 1, verifyAt := some s.ticks }).setFld
      (Fld.PORT_MM_STAT_VERIFY p) 2).emit (.verify p))) ∧
  (∀ p, Completes (fun dt => .verifyResponse dt p)
    (fun s => s.namesPort p = true ∧ s.portState p = 5 ∧ s.fld (Fld.PORT_MM_STAT_VERIFY p) = 2)
    (fun s => (s.setFld (Fld.PORT_MM_STAT_VERIFY p) 3).raise (Fld.PORT_MM_STAT_TX_ACTIVE p))) ∧
  (∀ p count final b i, Completes (fun dt => .fragmentReceive dt p true count final b i)
    (fun s => s.namesPort p = true ∧ s.portState p = 5 ∧ s.on (Fld.PORT_MM_CTRL_EN p) = true ∧
      ((s.fecCount p i).port p).reasm = none)
    (fun s =>
      let t := s.fecCount p i
      let at1 := t.rxPhys p i
      let fl := t.stampFlags p at1 true
      let r : Reasm := { bytes := b, want := 0, stamp := t.rxStamp p i, flags := fl, at_ := at1, codeErr := i.codeErr,
                         bad := i.uncorrectable }
      if final then t.macTake p b i r.stamp fl at1 else t.modPort p (fun x => { x with reasm := some r }))) ∧
  (∀ p final b i r, Completes (fun dt => .fragmentReceive dt p false r.want final b i)
    (fun s => s.namesPort p = true ∧ s.portState p = 5 ∧ s.on (Fld.PORT_MM_CTRL_EN p) = true ∧
      ((s.fecCount p i).port p).reasm = some r)
    (fun s =>
      let t := s.fecCount p i
      let g := r.grow b i
      if final then (t.modPort p (fun x => { x with reasm := none })).macTake p (r.bytes ++ b)
        { i with codeErr := r.codeErr || i.codeErr, uncorrectable := r.bad + i.uncorrectable } r.stamp r.flags r.at_
      else t.modPort p (fun x => { x with reasm := some g }))) ∧
  (∀ p count final b i r, count ≠ r.want → Completes (fun dt => .fragmentReceive dt p false count final b i)
    (fun s => s.namesPort p = true ∧ s.portState p = 5 ∧ s.on (Fld.PORT_MM_CTRL_EN p) = true ∧
      ((s.fecCount p i).port p).reasm = some r)
    (fun s => (s.fecCount p i).mergeErr p))

/-- The commands of transmit stamps and of the twin TDCs complete: a read takes the oldest stamp out of the queue and latches
it with its tag, a flush empties queue and LOST (R126), the twin begins to serve (R130), and a failed TDC hands over to a
healthy twin or leaves every stamp COARSE (R131). -/
def Obligations.TransmitStampComplete : Prop :=
  (∀ src p x rest, Completes (fun dt => .txStampRead dt src p)
    (fun s => s.namesPort p = true ∧ s.laneExists p = true ∧ s.access src (Reg.TSU_TXQ_TS0 p) = .ok ∧
      (s.port p).stamps = x :: rest)
    (fun s =>
      let t := ((s.modPort p (fun r => { r with stamps := rest })).stampShow p).setWide (Reg.TSU_TXQ_TS0 p) 3 (rawOfTime x.ts)
      let t := (t.setFld (Fld.TSU_TXQ_TAG_FLAGS p) x.flags).setFld (Fld.TSU_TXQ_TAG_TAG p) x.tag
      t.emit (.readData src [t.get (Reg.TSU_TXQ_TS0 p)]))) ∧
  (∀ src p, Completes (fun dt => .txStampRead dt src p)
    (fun s => s.namesPort p = true ∧ s.laneExists p = true ∧ s.access src (Reg.TSU_TXQ_TS0 p) = .ok ∧ (s.port p).stamps = [])
    (fun s => ((s.setWide (Reg.TSU_TXQ_TS0 p) 3 0).set (Reg.TSU_TXQ_TAG p) 0#32).emit (.readData src [0#32]))) ∧
  (∀ src p, Completes (fun dt => .txStampFlush dt src p)
    (fun s => s.namesPort p = true ∧ s.access src (Reg.TSU_TXQ_STAT p) = .ok)
    (fun s => ((s.modPort p (fun r => { r with stamps := [] })).stampShow p).setFld (Fld.TSU_TXQ_STAT_LOST p) 0)) ∧
  (∀ p, Completes (fun dt => .tdcServingChange dt p) (fun s => s.namesPort p = true ∧ (s.port p).twinReady = true)
    (fun s => (s.setFld (Fld.TSU_TDC_SERVING p) (1 - s.fld (Fld.TSU_TDC_SERVING p))).modPort p
      (fun x => { x with twinReady := false }))) ∧
  (∀ p took, Completes (fun dt => .tdcSelfCheckFail dt p took) (fun s => s.namesPort p = true)
    (fun s =>
      let t := s.fld (Fld.TSU_TDC_SERVING p)
      let u := ((s.setFld (tdcOk p t) 0).raise (Fld.PORT_EVT_TDC p)).modPort p (fun x =>
        { x with tdcBad := t :: x.tdcBad.filter (fun v => v != t) })
      let u := (u.setBit (Fld.TSU_TDC_BOTH_FAIL p) (!u.tdcHealthy p 0 && !u.tdcHealthy p 1)).calDisturb
        (fun item inst => item == 1 && inst == p) calDisturbed
      let u := u.modPort p (fun x => { x with twinReady := false, coarse := (u.phys, u.phys + min took usT * tickUnits) })
      if u.tdcHealthy p (1 - t) then u.setFld (Fld.TSU_TDC_SERVING p) (1 - t) else u))

/-! ## Forwarding -/

/-- The commands of the pipelines complete: the head frame of a header queue is looked up (R133 to R143), a Delay_Req that the
responder accepts is answered or dropped by it (R218, R220), a queued response goes to its port (R219, R220), the oldest
learn is handled (R150), the MOVES counts restart at a second (R151). -/
def Obligations.PipelineComplete : Prop :=
  (∀ n m f rest, m < 4 → Completes (fun dt => .frameLookup dt n m)
    (fun s => s.pipesRun n = true ∧ s.turnOf n m = true ∧ s.hdr n m = f :: rest)
    (fun s => (((s.setHdr n m rest).unstage n m f.id).modDie n (fun d => { d with admitAt := some (s.ticks, m) })).beforeWrites n
      (fun s => s.lookup n f))) ∧
  (∀ s : State, ∀ n F, (∀ c, (s.die n).cyc = some c → c.tick ≠ s.ticks) → s.beforeWrites n F = F s) ∧
  (∀ n m f rest t, m < 4 → Completes (fun dt => .delayReq dt n m)
    (fun s =>
      let u := ((s.setHdr n m rest).unstage n m f.id).modDie n (fun d => { d with admitAt := some (s.ticks, m) })
      let g := (u.classify n f).1
      let v := u.entry n (u.bankFor n 0 g.stamp g.flags) g.vid
      s.pipesRun n = true ∧ s.turnOf n m = true ∧ s.headIsDelayReq n m = true ∧ s.hdr n m = f :: rest ∧
      (∀ c, (u.die n).cyc = some c → c.tick ≠ u.ticks) ∧ ¬ (f.flags % 2 = 0 ∧ f.inPort < 258 ∧ u.portDisabled f.inPort) ∧
      isDelayReq g.bytes (u.classify n f).2 = true ∧ u.responder n { g with fid := v.f 8 4 12 } (u.classify n f).2 = some t)
    (fun _ => t)) ∧
  (∀ d r rest, d ≤ 8 → Completes (fun dt => .delayResp dt d)
    (fun s => s.waiting .respGap d = false ∧ (s.die d).resp = r :: rest)
    (fun s =>
      let t := (s.modDie d (fun x => { x with resp := rest })).respShow d
      let t := (t.startTimer .respGap d 400).bump (Fld.RESP_CNT_ANSWERED_COUNT d) 1
      { t with frames := t.frames + 1 }.deliver { r with id := t.frames } (r.dest.headD 0))) ∧
  (∀ n x rest, n < 8 → Completes (fun dt => .learnEngine dt n)
    (fun s => s.leafOn n = true ∧ (s.die n).learns = x :: rest ∧ x.tick < s.ticks)
    (fun s => ((s.modDie n (fun d => { d with learns := rest })).learnShow n).learn n x)) ∧
  Completes (fun dt => .movesReset dt) (fun s => s.now / secU ≠ s.movesSec) movesReset

/-- A table command through an interface that is not BUSY and whose answer is OK completes: CTRL and BUSY show it, the staging
words take an entry that it stages, RESULT and FOUND_IDX its answer (R154, R155). Any other answer's RESULT is said by
TableCommandRefusals. -/
def Obligations.TableCommandComplete : Prop :=
  let enter := fun (n w op t : Nat) (idx : Bool) (took : Nat) (s : State) =>
    (s.startTimer .fwdBusy (2 * n + w) (min took (if op = 5 then 12 * usT else usT))).set (Reg.FWD_CMD_CTRL n w)
      (BitVec.ofNat 32 (op * 2 ^ 24 + t * 2 ^ 16 + (if idx then 1 else 0)))
  let run := fun (n w op t : Nat) (idx : Bool) (took : Nat) (s : State) =>
    let u := enter n w op t idx took s
    u.tableOp n w op t idx (u.fld (Fld.FWD_CMD_INDEX_INDEX n w)) (u.staged n w)
  let ready := fun (src : Src) (n w op t : Nat) (idx : Bool) (took : Nat) (s : State) =>
    s.access src (Reg.FWD_CMD_CTRL n w) = .ok ∧ s.waiting .fwdBusy (2 * n + w) = false ∧ (run n w op t idx took s).1.code = tOk
  let answer := fun (n w op t : Nat) (idx : Bool) (took : Nat) (s : State) =>
    let r := run n w op t idx took s
    let u := match r.1.staged with
      | some e => r.2.stageEntry n w (r.2.showEntry n t r.1.idx e)
      | none => r.2
    (u.setFld (Fld.FWD_CMD_STAT_RESULT n w) tOk).setFld (Fld.FWD_CMD_STAT_FOUND_IDX n w) r.1.idx
  ∀ src n w t idx took, n < 8 → w < 2 → t < 16 →
    Completes (fun dt => .tableRead dt src n w t idx took) (ready src n w 1 t idx took) (answer n w 1 t idx took) ∧
    Completes (fun dt => .tableWrite dt src n w t idx took) (ready src n w 2 t idx took) (answer n w 2 t idx took) ∧
    Completes (fun dt => .tableInsert dt src n w t idx took) (ready src n w 3 t idx took) (answer n w 3 t idx took) ∧
    Completes (fun dt => .tableDelete dt src n w t idx took) (ready src n w 4 t idx took) (answer n w 4 t idx took) ∧
    Completes (fun dt => .tableSearch dt src n w t idx took) (ready src n w 5 t idx took) (answer n w 5 t idx took) ∧
    Completes (fun dt => .tableReadClearHit dt src n w t idx took) (ready src n w 6 t idx took) (answer n w 6 t idx took) ∧
    Completes (fun dt => .tableTestAndDelete dt src n w t idx took) (ready src n w 7 t idx took) (answer n w 7 t idx took)

/-- The commands of the table banks and of the ageing service complete: SWAP bits swap the banks their writer may swap (R157,
R160), a bank is released 100 µs after its swap (R70), a due sweep of a Leaf in service runs through the interface of its world while that is not
BUSY (R158, R431). -/
def Obligations.BankAndAgeingComplete : Prop :=
  (∀ src n w, n < 8 → Completes (fun dt => .bankSwapWrite dt src n w) (fun s => s.access src (Reg.FWD_BANK n) = .ok)
    (fun s => s.forAll [0, 1, 2] (fun pair s =>
      if bitsOf w (8 + pair) 1 = 1 ∧ (secureSrc src = true ∨ s.bankSecure n pair = false) then s.bankSwap n pair 0 s.now
      else s))) ∧
  (∀ n pair x, n < 8 → Completes (fun dt => .bankRetentionEnd dt n pair)
    (fun s => x ∈ s.oldBanks n pair ∧ x.2.2 + 100 * usT ≤ s.ticks)
    (fun s => s.setOldBanks n pair ((s.oldBanks n pair).filter (fun y => decide (s.ticks < y.2.2 + 100 * usT))))) ∧
  (∀ n, Completes (fun dt => .ageingSweep dt n)
    (fun s => s.fwRuns = true ∧ n < s.leaves ∧ s.inService n = true ∧ s.paramNat (pkey 0x25 n 1) = 1 ∧
      s.waiting .fwdBusy (2 * n + s.ageWorld n) = false ∧
      max (kget s.sweptAt n 0) (kget s.leafAt n 0) + s.paramNat (pkey 0x25 n 2) * secT ≤ s.ticks)
    (fun s => ({ s with sweptAt := kput s.sweptAt n s.ticks }).ageSweep n (s.ageWorld n)))

/-- The commands of the buffers and of the crossbar complete: a limit the buffer can hold (R169), a calendar mask no other
link's overlaps (R176), one slot of the crossbar (R175, R176), a cell that arrives with its CRC right (R174, R178), frames
whose crossing deadline has come (R177), a destination that starves a replicated head (R180), a stitch module removed with its
reservations moved (R179). -/
def Obligations.CrossbarComplete : Prop :=
  (∀ src p w, p < 260 → Completes (fun dt => .bufLimitWrite dt src p none w)
    (fun s => s.access src (plimF p).addr = .ok ∧ bitsOf w 0 (if dieOf p < 8 then 17 else 15) ≤ poolCells (dieOf p))
    (fun s => ({ s with limWas := kput s.limWas (plimF p).addr (s.ticks, s.limit (plimF p)) }.setFld (plimF p)
      (bitsOf w 0 (if dieOf p < 8 then 17 else 15))).poolShow (dieOf p))) ∧
  (∀ src p c w, p < 260 → c < 8 → Completes (fun dt => .bufLimitWrite dt src p (some c) w)
    (fun s => s.access src (qlimF p c).addr = .ok ∧ bitsOf w 0 (if dieOf p < 8 then 17 else 15) ≤ poolCells (dieOf p))
    (fun s => ({ s with limWas := kput s.limWas (qlimF p c).addr (s.ticks, s.limit (qlimF p c)) }.setFld (qlimF p c)
      (bitsOf w 0 (if dieOf p < 8 then 17 else 15))).poolShow (dieOf p))) ∧
  (∀ src l i w, l < 9 → i < 64 → Completes (fun dt => .xbarCalWrite dt src l i w)
    (fun s => s.access src (Reg.XBAR_CAL l i) = .ok ∧ ∀ k, k < 9 → k ≠ l → s.calMask k i &&& bitsOf w 0 9 = 0)
    (fun s => { s with calNext := kput s.calNext (64 * l + i) (bitsOf w 0 9) })) ∧
  Completes (fun dt => .crossbarSlot dt) (fun s => s.domOn 5 = true)
    (fun s =>
      let i := s.slot
      let r := (List.range 9).foldl (reservedCells i) (if i = 0 then s.newRound else s, [], [])
      let q := ((List.range 9).map (fun k => (i % 9 + k) % 9)).foldl (matchedCells i r.2.2) (r.1, r.2.1)
      { q.1 with slot := (i + 1) % 64 }) ∧
  (∀ d c, Completes (fun dt => .cellArrival dt d true)
    (fun s =>
      let t := { s with flight := s.flight.eraseP (fun c => c.dst == d) }.returnCredit c.src d
      s.flight.find? (fun c => c.dst == d) = some c ∧ c.credit = true ∧ c.cut = false ∧ t.linkReceives d = true ∧ c.num = 0 ∧
      (t.die d).arriving.any (sameFrame c) = false)
    (fun s =>
      let t := { s with flight := s.flight.eraseP (fun c => c.dst == d) }.returnCredit c.src d
      let r := t.admitAll c.f (t.arrivalPorts d c.f)
      let t := r.2.modDie d (fun x => { x with arriving := x.arriving ++ [⟨c.src, c.f, r.1, false⟩], admitAt := some (r.2.ticks, 4) })
      if cellsOf c.f.bytes ≤ 1 then t.frameArrived d c else t)) ∧
  (∀ d c, Completes (fun dt => .cellArrival dt d true)
    (fun s => s.flight.find? (fun c => c.dst == d) = some c ∧ c.credit = true ∧ c.cut = false ∧
      ({ s with flight := s.flight.eraseP (fun c => c.dst == d) }.returnCredit c.src d).linkReceives d = true ∧ c.num ≠ 0)
    (fun s =>
      let t := { s with flight := s.flight.eraseP (fun c => c.dst == d) }.returnCredit c.src d
      if cellsOf c.f.bytes ≤ c.num + 1 then t.frameArrived d c else t)) ∧
  (∀ l j, l < 9 → j < 10 → Completes (fun dt => .crossDeadlineExpiry dt l j)
    (fun s => ∃ x, x ∈ (s.xq l j).sched ++ (s.xq l j).bulk ∧ s.crossLate l x = true)
    (fun s =>
      let q := s.xq l j
      let keep := fun (x : XFrame) => !s.crossLate l x
      let t := s.setXq l j { sched := headFollow s.ticks q.sched (q.sched.filter keep)
                             bulk := headFollow s.ticks q.bulk (q.bulk.filter keep) }
      let t := ((q.sched ++ q.bulk).filter (s.crossLate l)).foldl (fun t x => t.dropLinks x.f x.links 0x24) t
      if l < 8 then t.raise (Fld.BUF_EVT_CROSS_EXPIRED l) else t)) ∧
  (∀ l d x, l < 9 → Completes (fun dt => .replicationSkip dt l d true)
    (fun s => s.xqHead l 9 true = some x ∧ d ∈ x.links ∧ s.credits l d = 0 ∧
      max x.headAt (kget (s.die l).gaveAt d 0) + skipTicks ≤ s.ticks)
    (fun s => ((s.setXq l 9 { s.xq l 9 with sched := skipHead s.ticks d (s.xq l 9).sched }).abandon l d x.f).dropLinks x.f [d] 0x25)) ∧
  (∀ l d x, l < 9 → Completes (fun dt => .replicationSkip dt l d false)
    (fun s => s.xqHead l 9 false = some x ∧ d ∈ x.links ∧ s.credits l d = 0 ∧
      max x.headAt (kget (s.die l).gaveAt d 0) + skipTicks ≤ s.ticks)
    (fun s => ((s.setXq l 9 { s.xq l 9 with bulk := skipHead s.ticks d (s.xq l 9).bulk }).abandon l d x.f).dropLinks x.f [d] 0x25)) ∧
  (∀ l q, l < 8 → q < 4 → Completes (fun dt => .stitchModuleRemoval dt l q) (fun s => s.moduleUp l q = true)
    (fun s =>
      let t := s.setFldBit (Fld.XBAR_LINK_STAT_MODULES_UP l) q false
      let t := (t.raise Fld.XBAR_EVT_MODULE_LOST).raise (Fld.LCTL_FAULT_STITCH l)
      t.forAll ((List.range 16).map (fun i => 16 * q + i)) (fun i t => t.moveReservation l i)))

/-! ## Egress -/

/-- The commands of a port's egress complete: a frame the choice of R185 to R188 names is sent, or a preempted one resumes, on a
free medium; a fragment gives way to what may preempt it (R197); the shown gates follow the list (R191); a head frame that
fits no window goes (R194); the lists swap to one that may become active and the old one is released (R195, R196); a hold point
is met (R199); a held frame departs at its release time (R202, R206). -/
def Obligations.EgressComplete : Prop :=
  (∀ p want pos c drr deficit h rest, Completes (fun dt => .frameTransmit dt p want pos)
    (fun s =>
      let t := (s.creditTo p).ladlePause p
      s.sends p = true ∧ s.inTick pos = true ∧ t.inFragment p = none ∧ t.ladleDue p pos = false ∧
      t.mediumFree p pos = true ∧ t.chooseClass p pos (t.port p).part.isSome = some (c, drr, deficit) ∧ t.queue p c = h :: rest)
    (fun s =>
      let t := (s.creditTo p).ladlePause p
      ((t.modPort p (fun r => { r with drr := drr, deficit := deficit, headAt := kput r.headAt c t.ticks })).setQueue p c
        rest).startFrame p h pos false)) ∧
  (∀ p want pos x, Completes (fun dt => .frameTransmit dt p want pos)
    (fun s =>
      let t := (s.creditTo p).ladlePause p
      s.sends p = true ∧ s.inTick pos = true ∧ t.inFragment p = none ∧ t.ladleDue p pos = false ∧
      t.mediumFree p pos = true ∧ (t.port p).part = some x ∧ t.chooseClass p pos true = none ∧
      t.mayStart p x.c true (x.len - x.sent) pos = true)
    (fun s => ((s.creditTo p).ladlePause p).resumeFrame p x pos)) ∧
  (∀ p want pos x, Completes (fun dt => .frameTransmit dt p want pos)
    (fun s =>
      let t := (s.creditTo p).ladlePause p
      s.sends p = true ∧ s.inTick pos = true ∧ t.inFragment p = some x ∧
      (t.ladleDue p pos = true ∨ (t.chooseClass p pos true).isSome = true))
    (fun s => ((s.creditTo p).ladlePause p).cutFragment p x)) ∧
  (∀ p want pos, Completes (fun dt => .frameTransmit dt p want pos)
    (fun s =>
      let t := (s.creditTo p).ladlePause p
      s.sends p = true ∧ s.inTick pos = true ∧ t.inFragment p = none ∧ t.ladleDue p pos = true)
    (fun s => ((s.creditTo p).ladlePause p).ladleSend p want pos)) ∧
  (∀ p, Completes (fun dt => .gateChange dt p) (fun s => s.namesPort p = true) (fun s => (s.creditTo p).egrShow p)) ∧
  (∀ p c h rest, c < 8 → Completes (fun dt => .gateNoFit dt p c)
    (fun s => s.namesPort p = true ∧ s.noFit p c = true ∧ s.queue p c = h :: rest)
    (fun s => (((s.setQueue p c rest).modPort p (fun r => { r with headAt := kput r.headAt c s.ticks })).discardHeld
      h.f p h.cls 0x2B).raise (Fld.EGR_PORT_EVT_GATE_NO_FIT p))) ∧
  (∀ src p, p < 258 → Completes (fun dt => .gclSwapWrite dt src p)
    (fun s => s.access src (Reg.EGR_PORT_GCL_CTRL p) = .ok ∧ 1 - s.gclActive p ≠ s.gclActive p ∧
      s.listOk p (1 - s.gclActive p) s.now = true)
    (fun s =>
      let t := (s.creditTo p).setFld (Fld.EGR_PORT_GCL_CTRL_ACTIVE p) (1 - s.gclActive p)
      let t := t.raise (Fld.EGR_PORT_GCL_CTRL_RETAIN p)
      (t.modPort p (fun r => { r with oldList := some (s.gclActive p, s.now, t.ticks) })).egrShow p)) ∧
  (∀ p, Completes (fun dt => .gclRetentionEnd dt p) (fun s => s.namesPort p = true ∧ s.retentionOver p = true)
    (fun s => (s.modPort p (fun r => { r with oldList := none })).setFld (Fld.EGR_PORT_GCL_CTRL_RETAIN p) 0)) ∧
  (∀ p t, Completes (fun dt => .holdPoint dt p)
    (fun s => s.sends p = true ∧ s.on (Fld.PORT_MM_STAT_TX_ACTIVE p) = true ∧
      (s.protects p).find? (fun t => decide (s.now < t) && decide (t ≤ s.now + s.holdAdvance p)) = some t)
    (fun s =>
      let u := s.modPort p (fun r => { r with holdTo := some t })
      match u.inFragment p with
      | some x => ((u.creditTo p).cutFragment p x).egrShow p
      | none => u.egrShow p)) ∧
  (∀ p pos h, Completes (fun dt => .ladleDeparture dt p pos pos)
    (fun s =>
      let t := (s.creditTo p).ladlePause p
      s.sends p = true ∧ s.inTick pos = true ∧ s.inFragment p = none ∧ t.ladleHead p = some h ∧ h.earliest ≤ pos ∧
      (pos < h.earliest + t.gapU p ∨ h.c.late = true) ∧ t.paused p h.c.cls = false ∧ t.mediumFree p pos = true)
    (fun s => ((((s.creditTo p).ladlePause p).ladleRemove h).modPort p (fun r => { r with holdTo := none })).startFrame p h.c pos
      true)) ∧
  (∀ p want pos h, Completes (fun dt => .ladleDeparture dt p want pos)
    (fun s =>
      let t := (s.creditTo p).ladlePause p
      s.sends p = true ∧ s.inTick pos = true ∧ s.inFragment p = none ∧ t.ladleHead p = some h ∧ h.earliest ≤ want ∧ want < pos ∧
      (want < h.earliest + t.gapU p ∨ h.c.late = true) ∧ t.paused p h.c.cls = false ∧ t.mediumFree p want = false ∧
      t.mediumFree p pos = true)
    (fun s =>
      let t := (s.creditTo p).ladlePause p
      let fl := t.stampFlags p (t.physOf pos) false
      let ps := ((pos - want) * 1000 + 32768) / 65536
      let t := ((t.ladleRemove h).countQueue p h.c.cls 3 1 pos fl).raise (Fld.EGR_PORT_EVT_DEFERRED p)
      let t := if t.fld (Fld.EGR_PORT_MAX_DEFER_PS p) < ps then t.setFld (Fld.EGR_PORT_MAX_DEFER_PS p) (sat 32 ps) else t
      (t.modPort p (fun r => { r with holdTo := none })).startFrame p h.c pos true))

/-! ## Link phase and the timing capability exchange -/

/-- The commands of the link phase detector and of the exchange complete: a sample at the end of an interval and its read
(R222, R223), an exchange message sent on a free medium (R203, R228), one accepted in EXCHANGE (R229, R230), the time-out
(R231), COMMIT with a coefficient in range (R225, R232), the read of the PEER set (R229). -/
def Obligations.LinkPhaseAndExchangeComplete : Prop :=
  (∀ p rx tx, Completes (fun dt => .linkPhaseSample dt p rx tx)
    (fun s => s.namesPort p = true ∧ s.dieOn p = true ∧ s.on (Fld.LPH_CTRL_EN p) = true ∧ s.phaseOk p rx = true ∧
      s.phaseOk p tx = true ∧ (s.port p).lph.at_ + s.lphTicks p ≤ s.ticks)
    (fun s =>
      let x := s.port p
      let fl := s.lphFlags p
      let rx := if s.calHolds p then x.lph.rx else rx
      let tx := if s.calHolds p then x.lph.tx else tx
      let l : Lph := { rx := rx, tx := tx, flags := fl, seq := (x.lph.seq + 1) % 2 ^ 16, at_ := s.ticks,
                       validAt := if fl % 2 = 1 then s.ticks else x.lph.validAt,
                       freshAt := if fl / 2 % 2 = 0 then s.ticks else x.lph.freshAt }
      ((s.setPort p { x with lph := l, slip := false, tcx := { x.tcx with sampled := true } }).set (Reg.LPH_RX_PHASE p)
        (BitVec.ofNat 32 rx)).raise (Fld.LPH_STAT_NEW p))) ∧
  (∀ src p, Completes (fun dt => .linkPhaseRead dt src p)
    (fun s => s.laneExists p = true ∧ s.access src (Reg.LPH_RX_PHASE p) = .ok ∧ s.namesPort p = true)
    (fun s =>
      let l := (s.port p).lph
      let t := (s.set (Reg.LPH_TX_PHASE p) (BitVec.ofNat 32 l.tx)).setFld (Fld.LPH_STAT_SEQ p) l.seq
      let t := (t.setFld (Fld.LPH_STAT_SLIP p) (l.flags / 4)).setFld (Fld.LPH_STAT_STALE p) (l.flags / 2)
      (t.setFld (Fld.LPH_STAT_VALID p) l.flags).emit (.readData src [BitVec.ofNat 32 l.rx]))) ∧
  (∀ p pos, Completes (fun dt => .tcxSend dt p pos)
    (fun s =>
      let t := s.creditTo p
      s.namesPort p = true ∧ 4 ≤ s.portState p ∧ s.on (Fld.TCX_CTRL_EN p) = true ∧ s.inTick pos = true ∧ s.tcxDue p = true ∧
      t.inFragment p = none ∧ t.mediumFree p pos = true ∧
      ∀ h ∈ t.known p, pos + bytesU (t.portMode p) (1 + 87 + 12 + 8) ≤ h.release)
    (fun s => (s.creditTo p).tcxTransmit p pos)) ∧
  (∀ p pos x, Completes (fun dt => .tcxSend dt p pos)
    (fun s =>
      let t := s.creditTo p
      s.namesPort p = true ∧ 4 ≤ s.portState p ∧ s.on (Fld.TCX_CTRL_EN p) = true ∧ s.inTick pos = true ∧ s.tcxDue p = true ∧
      t.inFragment p = some x ∧ ∀ h ∈ t.known p, pos + bytesU (t.portMode p) (1 + 87 + 12 + 8) ≤ h.release)
    (fun s => (s.creditTo p).cutFragment p x)) ∧
  (∀ p full i, Completes (fun dt => .tcxReceive dt p full i)
    (fun s =>
      let b := full.take (full.length - 4)
      s.linkUp p = true ∧ s.portState p = 4 ∧ isTcx full = true ∧ s.drainedAt p (s.rxPhys p i) = false ∧
      s.stampedDown p (s.rxStamp p i) (s.stampFlags p (s.rxPhys p i) false) = false ∧ s.portRefused p = false ∧
      s.on (Fld.TCX_CTRL_EN p) = true ∧ i.codeErr = false ∧ (i.uncorrectable = 0 ∨ s.fld (Fld.PORT_MODE_FEC p) = 0) ∧
      crc32 b = leAt full (full.length - 4) 4 ∧ daOf b = tcxDa ∧ byteAt b 19 = 1 ∧ byteAt b 20 = 1 ∧ 64 ≤ beAt b 21 2 ∧
      83 ≤ b.length)
    (fun s => (s.tcxAccept p (full.take (full.length - 4))).tcxTrap p full i (s.rxStamp p i)
      (s.stampFlags p (s.rxPhys p i) false) (s.rxPhys p i))) ∧
  (∀ p, Completes (fun dt => .tcxPeerTimeout dt p)
    (fun s => s.namesPort p = true ∧ 3 ≤ s.portState p ∧
      (s.on (Fld.TCX_STAT_PEER_VALID p) = true ∨ s.fld (Fld.TCX_STAT_XSTATE p) = 2 ∨
        4 ≤ s.portState p ∧ s.on (Fld.TCX_CTRL_EN p) = true) ∧
      max (s.port p).tcx.acceptedAt (s.port p).exchAt + s.fld (Fld.TCX_CTRL_TIMEOUT p) * 100 * msT ≤ s.ticks)
    (fun s => (s.setFld (Fld.TCX_STAT_XSTATE p) 3).setFld (Fld.TCX_STAT_PEER_VALID p) 0)) ∧
  (∀ src p, Completes (fun dt => .tcxCommit dt src p)
    (fun s => s.namesPort p = true ∧ s.access src (Reg.TCX_CTRL p) = .ok ∧ asymOk (s.getWide (Reg.TCX_ASYM0 p) 2) = true)
    (fun s =>
      let t := s.modTcx p (fun t => { t with
        cap := s.fld (Fld.TCX_CAP_CAP p), txfix := s.fld (Fld.TCX_TXFIX_TXFIX p), rxfix := s.fld (Fld.TCX_RXFIX_RXFIX p),
        asym := s.getWide (Reg.TCX_ASYM0 p) 2, extra := true })
      let t := t.wrapAdd (Fld.TCX_GEN_GEN p) 1
      (if t.fld (Fld.TCX_STAT_XSTATE p) = 2 then t.setFld (Fld.TCX_STAT_XSTATE p) 1 else t).checkAsym p)) ∧
  (∀ src p, Completes (fun dt => .peerRead dt src p)
    (fun s => s.laneExists p = true ∧ s.access src (Reg.TCX_PEER_GEN p) = .ok ∧ s.namesPort p = true)
    (fun s =>
      let a := Reg.TCX_PEER_GEN p
      let l := s.peerSet p
      { s with latched := (List.range 12).foldl (fun m i => kput m (a + 4 + 4 * i) ((l[i + 1]?).getD 0#32)) s.latched }.emit
        (.readData src [l.headD 0#32])))

/-! ## PTP -/

/-- The commands of the PTP stack complete: a master's Sync, Follow_Up and Announce and a slave's or a peer's delay request
when due, a message taken from port 259 for an instance of its port, an Announce time-out, a management answer (R213, R214,
R322, R426, R427). -/
def Obligations.PtpComplete : Prop :=
  (∀ i p, Completes (fun dt => .ptpSyncSend dt i p)
    (fun s => s.ptpRuns i p = true ∧ (s.ptp i p).answer = none ∧ s.ptpState i p = 6 ∧
      s.fwStamp p 0 i (((s.ptp i p).seqSync + 65535) % 65536) = none ∧ s.passed (s.ptp i p).syncAt (s.ptpTicks p 2) = true)
    (fun s =>
      let x := s.ptp i p
      (s.modPtp i p (fun y => { y with seqSync := (x.seqSync + 1) % 65536, syncAt := some s.ticks })).ptpSend i p true false
        (some (.firmware 0 i x.seqSync)) (s.ptpHead i p 0 44 0x0200 0 x.seqSync 0 (s.ptpPortOf p 2) ++ zeros 10))) ∧
  (∀ i p st t, Completes (fun dt => .ptpSyncSend dt i p)
    (fun s => s.ptpRuns i p = true ∧ (s.ptp i p).answer = none ∧ s.ptpState i p = 6 ∧
      s.fwStamp p 0 i (((s.ptp i p).seqSync + 65535) % 65536) = some (st, t))
    (fun s => t.followUp i p (((s.ptp i p).seqSync + 65535) % 65536) st.ts)) ∧
  (∀ i p, Completes (fun dt => .ptpAnnounceSend dt i p)
    (fun s => s.ptpRuns i p = true ∧ s.ptpState i p = 6 ∧ s.passed (s.ptp i p).annAt (s.ptpTicks p 3) = true)
    (ptpAnnounceSend i p)) ∧
  (∀ i p, Completes (fun dt => .ptpDelayReqSend dt i p)
    (fun s => s.ptpRuns i p = true ∧ s.passed (s.ptp i p).delayAt (s.ptpTicks p 4) = true ∧
      (if peerProfile (s.ptpProfile i) then s.ptpState i p ≠ 3 else s.ptpState i p = 9))
    (ptpDelayReqSend i p)) ∧
  (∀ f t o i, Completes (fun dt => .ptpMessage dt)
    (fun s => s.fwRuns = true ∧ s.dropUnserved.svcTake 1 = some (f, t) ∧ f.inPort < 258 ∧
      ptpOffset (parseFrame true f.bytes) = some o ∧ (refusable (byteAt f.bytes o % 16) && t.portRefused f.inPort) = false ∧
      t.ptpInstFor f.inPort f.bytes (parseFrame true f.bytes) o = some i)
    (fun _ => match byteAt f.bytes o % 16 with
      | 0 | 8 => t.takeSync i f.inPort f o
      | 9 => t.takeDelayResp i f.inPort f.bytes o
      | 2 => t.takePdelayReq i f.inPort f o
      | 3 | 0xA => t.takePdelay i f.inPort f o
      | 0xB => (t.takeSm i f.inPort f.bytes (o + 64)).takeAnnounce i f.inPort f.bytes o
      | _ => t)) ∧
  (∀ i p, Completes (fun dt => .announceReceiptTimeout dt i p)
    (fun s => s.ptpRuns i p = true ∧ s.ptpState i p ≠ 3 ∧
      (s.ptp i p).heardAt + (s.ptpPortOf p 5).toNat * s.ptpTicks p 3 ≤ s.ticks)
    (fun s => (s.modPtp i p (fun x => { x with foreign := [], heardAt := s.ticks })).bmca i (some p))) ∧
  (∀ f t o i, Completes (fun dt => .ptpManagement dt)
    (fun s => s.fwRuns = true ∧ s.dropUnserved.svcTake 2 = some (f, t) ∧ f.inPort < 258 ∧
      ptpOffset (parseFrame true f.bytes) = some o ∧ t.ptpInstFor f.inPort f.bytes (parseFrame true f.bytes) o = some i ∧
      (byteAt f.bytes (o + 46) % 16 = 0 ∨ byteAt f.bytes (o + 46) % 16 = 1 ∨ byteAt f.bytes (o + 46) % 16 = 3))
    (fun _ => ptpManage f t))


/-! ## Reference slots -/

/-- The commands of the reference slots complete: a write of CFG that may stand is stored, and a slot it enables is judged and
enters RESTORING, FAILED or QUALIFIED while one it disables is DISABLED (R237, R241); FORCE_QUAL and the restore timer qualify a
RESTORING slot, the hold-off timer fails a HOLDOFF one (R241); an activity fault or its end moves the slot by the table (R238,
R241); a second's readings set FOFF and the frequency fault, pairs and majority (R240, R242, R243). -/
def Obligations.ReferenceSlotsComplete : Prop :=
  (∀ src i w fault, i < 15 → bitsOf w 31 1 = 1 → bitsOf w 30 1 = 0 → Completes (fun dt => .refSlotCfgWrite dt src i w fault)
    (fun s => s.access src (Reg.REF_SLOT_CFG i) = .ok ∧ s.slotCfgBad i w = false ∧ s.on (Fld.REF_SLOT_CFG_EN i) = false)
    (fun s =>
      let t := s.set (Reg.REF_SLOT_CFG i) (w &&& 0x8F0111FF#32)
      let t := (t.freshEdges i fault).setBit (Fld.REF_SLOT_STAT_ACT_FAULT i) (if i < 4 then fault else t.actFault i)
      let t := t.setBit (Fld.REF_SLOT_STAT_FORCED_OUT i) (t.slotForced i)
      t.setSlot i (if t.slotFault i || t.on (Fld.REF_SLOT_STAT_FORCED_OUT i) then 3 else 4))) ∧
  (∀ src i w fault, i < 16 → bitsOf w 31 1 = 0 → bitsOf w 30 1 = 0 → Completes (fun dt => .refSlotCfgWrite dt src i w fault)
    (fun s => s.access src (Reg.REF_SLOT_CFG i) = .ok ∧ s.slotCfgBad i w = false ∧ s.on (Fld.REF_SLOT_CFG_EN i) = true)
    (fun s =>
      let t := (((s.set (Reg.REF_SLOT_CFG i) (w &&& 0x8F0111FF#32)).setFld (Fld.REF_SLOT_STAT_ACT_FAULT i) 0).setFld
        (Fld.REF_SLOT_STAT_FREQ_FAULT i) 0).setFld (Fld.REF_SLOT_STAT_FOFF_VALID i) 0
      (t.setFld (Fld.REF_SLOT_STAT_FORCED_OUT i) 0).setSlot i 0)) ∧
  (∀ src i, i < 16 → Completes (fun dt => .forceQual dt src i)
    (fun s => s.access src (Reg.REF_SLOT_CFG i) = .ok ∧ s.slotState i = 4) (fun s => s.setSlot i 1)) ∧
  (∀ i runs, i < 15 → Completes (fun dt => .activityFault dt ⟨i, runs⟩)
    (fun s => s.on (Fld.REF_SLOT_CFG_EN i) = true ∧ (s.takeEdges i runs).actFault i = true)
    (fun s => (((s.takeEdges i runs).raise (Fld.REF_SLOT_STAT_ACT_FAULT i)).setFld (Fld.REF_SLOT_STAT_FOFF_VALID i) 0).slotFollow
      i)) ∧
  (∀ i runs, i < 15 → Completes (fun dt => .activityFaultClear dt ⟨i, runs⟩)
    (fun s => s.on (Fld.REF_SLOT_CFG_EN i) = true ∧ (s.takeEdges i runs).actOver i = true)
    (fun s => ((s.takeEdges i runs).setFld (Fld.REF_SLOT_STAT_ACT_FAULT i) 0).slotFollow i)) ∧
  (∀ i runs, i < 4 → Completes (fun dt => .activityFaultClear dt ⟨i, runs⟩)
    (fun s => s.on (Fld.REF_SLOT_CFG_EN i) = true ∧ (s.takeEdges i runs).actOver i = false) (fun s => s.takeEdges i runs)) ∧
  (∀ i, i < 16 → Completes (fun dt => .holdoffExpiry dt i)
    (fun s => s.slotState i = 2 ∧ s.due .slotHold i = true) (fun s => s.setSlot i 3)) ∧
  (∀ i, i < 16 → Completes (fun dt => .restoreExpiry dt i)
    (fun s => s.slotState i = 4 ∧ s.due .slotRestore i = true) (fun s => s.setSlot i 1)) ∧
  (∀ foffs, Completes (fun dt => .frequencyReading dt foffs)
    (fun s => s.powered = true ∧ s.refAt + secT ≤ s.ticks)
    (frequencyReading foffs))

/-! ## DPLLs -/

/-- The commands of a DPLL's tracking complete: a re-evaluation in AUTO (R244, R245), the end of a slew (R249), the end of a
switch to a reference near enough for a slew (R248), lock after ten over the bandwidth and its loss after one second (R252), a
bandwidth step down by eight codes (R253), a comparison that is reported, and for a usable one in ACQUIRING or LOCKED the loop's
next word (R258). -/
def Obligations.DpllTrackingComplete : Prop :=
  (∀ d, d < 3 → Completes (fun dt => .dpllReevaluation dt d) (fun s => s.powered = true) (dpllReevaluation d)) ∧
  (∀ d, d < 3 → Completes (fun dt => .slewEnd dt d)
    (fun s => s.on (Fld.DPLL_STAT_SLEWING d) = true ∧ s.slewLeft d = 0) (fun s => s.setSlew d 0)) ∧
  (∀ d offset i, d < 3 → Completes (fun dt => .switchEnd dt d offset)
    (fun s => s.dstate d = 4 ∧ s.selected d = some i ∧ (d = 0 → s.on Fld.TIME_STATUS_VALID = true) ∧
      s.on (Fld.DPLL_CTRL_ALIGN d) = true ∧
      (s.reduceOffset i offset).natAbs ≤ s.fld (Fld.DPLL_SLEW_THRESH_NS d) * nsU)
    (fun s => ((s.setOffset d 0).acquire d).setSlew d (-(s.reduceOffset i offset)))) ∧
  (∀ d offset i, d < 3 → Completes (fun dt => .switchEnd dt d offset)
    (fun s => s.dstate d = 4 ∧ s.selected d = some i ∧ (d = 0 → s.on Fld.TIME_STATUS_VALID = true) ∧
      s.on (Fld.DPLL_CTRL_ALIGN d) = false)
    (fun s => (s.setOffset d (s.reduceOffset i offset)).acquire d)) ∧
  (∀ d t, d < 3 → Completes (fun dt => .dpllLock dt d)
    (fun s => s.dstate d = 1 ∧
      ((s.dpll d).profile = s.fld (Fld.DPLL_CTRL_BW d) ∨ s.on (Fld.DPLL_STAT_BW_LIMITED d) = true) ∧
      s.on (Fld.DPLL_STAT_SLEWING d) = false ∧ (s.dpll d).inSince = some t ∧
      t + dwellTicks (s.fld (Fld.DPLL_STAT_BW_NOW d)) ≤ s.ticks)
    (fun s => s.setDstate d 2)) ∧
  (∀ d t, d < 3 → Completes (fun dt => .dpllLockLoss dt d)
    (fun s => s.dstate d = 2 ∧ (s.dpll d).outSince = some t ∧ t + secT ≤ s.ticks)
    (fun s => (s.setDstate d 1).modDpll d (fun x => { x with dwellAt := s.ticks, inSince := none, outSince := none }))) ∧
  (∀ d t, d < 3 → Completes (fun dt => .bandwidthStep dt d)
    (fun s => (s.dstate d = 1 ∨ s.dstate d = 2) ∧ s.fld (Fld.DPLL_CTRL_BW d) < (s.dpll d).profile ∧ (s.dpll d).inSince = some t ∧
      max t (s.dpll d).dwellAt + dwellTicks (s.fld (Fld.DPLL_STAT_BW_NOW d)) ≤ s.ticks)
    (fun s => (s.modDpll d (fun x => { x with
      profile := max ((s.dpll d).profile - 8) (s.fld (Fld.DPLL_CTRL_BW d)), dwellAt := s.ticks })).showBw d)) ∧
  (∀ d err valid stale word i, d < 3 → Completes (fun dt => .pdComparison dt d err valid stale word)
    (fun s => s.compared d = some i ∧ (s.dpll d).pdAt + (s.slotTicks i).getD 0 ≤ s.ticks)
    (fun s =>
      let f := s.sampleFlags i valid stale
      let t := s.modDpll d (fun x => { x with pdAt := s.ticks })
      let t := (t.setWide (Reg.DPLL_PD0 d) 2 (unsigned 64 err)).wrapAdd (Fld.DPLL_PDX_PD_SEQ d) 1
      let t := (t.setBit (Fld.DPLL_PDX_PD_STALE d) f.2).setBit (Fld.DPLL_PDX_PD_VALID d) f.1
      if f.1 = true ∧ f.2 = false ∧ t.slotState i = 1 then
        if t.dstate d = 1 ∨ t.dstate d = 2 then (t.applyWord d word).judgeError d err
        else if t.on (Fld.DPLL_STAT_RETURN_PENDING d) then t.setPend d (t.reduceOffset i err)
        else t
      else t))

/-- The commands of a DPLL's modes, steps and holdover complete: a legal write of CTRL (R250, R253), GO of PSTEP at the next
second or as a slew (R256, R257), a word of FREQ_SW within ±500 ppm, applied at once in OPEN (R258), a second of holdover (R262,
R266), TEMP_STALE (R263), a day's ageing fit (R264), and the three answers to a pending return (R267). -/
def Obligations.DpllControlComplete : Prop :=
  (∀ src d w, d < 3 → bitsOf w 0 3 ≠ 7 → (d = 0 → bitsOf w 0 3 ≠ 6) → Completes (fun dt => .dpllModeWrite dt src d w)
    (fun s => s.access src (Reg.DPLL_CTRL d) = .ok ∧ s.bwOk (bitsOf w 24 8) = true)
    (fun s =>
      let t := (s.set (Reg.DPLL_CTRL d) (w &&& 0xFFFF1C07#32)).modDpll d (fun x => { x with
        avoid := none, profile := max x.profile (bitsOf w 24 8) })
      (if s.dmode d = bitsOf w 0 3 then t else t.enterMode d (s.dmode d) (bitsOf w 0 3)).showBw d)) ∧
  (∀ src d, d < 3 → Completes (fun dt => .pstepAtSecond dt src d)
    (fun s => s.access src (Reg.DPLL_PSTEP_CTRL d) = .ok)
    (fun s =>
      let t := (s.setFld (Fld.DPLL_PSTEP_CTRL_WHEN d) 0).raise (Fld.DPLL_PSTEP_CTRL_PENDING d)
      t.modDpll d (fun x => { x with pstep := some (t.pstepValue d, t.now / secU) }))) ∧
  (∀ src d, d < 3 → Completes (fun dt => .pstepSlew dt src d)
    (fun s => s.access src (Reg.DPLL_PSTEP_CTRL d) = .ok)
    (fun s => ((s.raise (Fld.DPLL_PSTEP_CTRL_WHEN d)).addOffset d (s.pstepValue d)).setSlew d
      (s.slewLeft d + s.pstepValue d))) ∧
  (∀ src d w, d < 3 → Completes (fun dt => .freqSwWrite dt src d w)
    (fun s => s.access src (Reg.DPLL_FREQ_SW0 d) = .ok ∧
      (signed 64 (s.wideValue (Reg.DPLL_FREQ_SW0 d) 2 w)).natAbs ≤ wordLimit)
    (fun s =>
      let v := s.wideValue (Reg.DPLL_FREQ_SW0 d) 2 w
      let t := (s.dropHeld (Reg.DPLL_FREQ_SW0 d) 2).setWide (Reg.DPLL_FREQ_SW0 d) 2 v
      if t.dstate d = 6 then t.applyWord d (signed 64 v) else t)) ∧
  (∀ d t0, d < 3 → Completes (fun dt => .holdoverRecompute dt d)
    (fun s => (s.dpll d).hoAt = some t0 ∧ t0 + ((s.dpll d).hoDone + 1) * secT ≤ s.ticks)
    (fun s =>
      let u := if (s.dstate d = 3 ∨ s.dstate d = 4 ∨ s.dstate d = 5) ∧ s.on (Fld.DPLL_STAT_HO_READY d) = true then
        s.applyWord d (s.holdWord d) else s
      let b := u.boundScaled d ((u.ticks - t0) / secT)
      let v := (u.setFld (Fld.DPLL_HO_TIME_S d) (sat 32 ((u.ticks - t0) / secT))).setFld (Fld.DPLL_HO_BOUND_NS d)
        (sat 32 (b / 2 ^ 49))
      let v := v.modDpll d (fun x => { x with hoDone := (u.ticks - t0) / secT })
      if v.fld (Fld.DPLL_HO_LIMIT_NS d) * 2 ^ 49 < b ∧ (v.dpll d).hoOver = false then
        (v.modDpll d (fun x => { x with hoOver := true })).raise (Fld.DPLL_EVT_HO_LIMIT d)
      else v)) ∧
  (∀ d, d < 3 → Completes (fun dt => .tempStale dt d)
    (fun s => s.powered = true ∧ ((s.dpll d).temps.head?).elim 0 (fun (e : Nat × Int) => e.1) + 10 * secT ≤ s.ticks ∧
      s.on (Fld.DPLL_STAT_TEMP_STALE d) = false)
    (fun s => (s.raise (Fld.DPLL_STAT_TEMP_STALE d)).raise (Fld.DPLL_EVT_TEMP_STALE d))) ∧
  (∀ up1 up2, Completes (fun dt => .ageFit dt up1 up2)
    (fun s => s.powered = true ∧ s.age.at_ + 86400 * secT ≤ s.ticks ∧ s.ageNote.age.span ≠ 0 ∧ s.param (pkey 7 0 0x14) = 1 ∧
      2 ≤ s.age.means.length)
    (fun s =>
      let a := s.ageNote.age
      let l := s.age.means ++ [((s.now / secU : Nat) - (43200 : Int), a.sum / a.span)]
      let t := { s.ageNote with age := { noted := s.ticks, at_ := s.ticks, means := l } }
      match lsFit up1 up2 (s.paramNat (pkey 7 0 0x13)) (s.param (pkey 7 0 0x10)) l with
      | some (a1, a2) => { t with
          params := kput (kput s.params (pkey 7 0 0x11) (max (-2 ^ 62) (min (2 ^ 62) a1))) (pkey 7 0 0x12)
            (max (-2 ^ 62) (min (2 ^ 62) a2)) }
      | none => t)) ∧
  (∀ up1 up2, Completes (fun dt => .ageFit dt up1 up2)
    (fun s => s.powered = true ∧ s.age.at_ + 86400 * secT ≤ s.ticks ∧ s.ageNote.age.span = 0 ∧ s.param (pkey 7 0 0x14) = 0)
    (fun s => { s.ageNote with age := { noted := s.ticks, at_ := s.ticks, means := s.age.means } })) ∧
  (∀ src d, d < 3 → Completes (fun dt => .returnStep dt src d)
    (fun s => s.access src (Reg.DPLL_RETURN d) = .ok ∧ s.on (Fld.DPLL_STAT_RETURN_PENDING d) = true)
    (fun s => (s.setFld (Fld.DPLL_STAT_RETURN_PENDING d) 0).returnStep d (s.pendOffset d))) ∧
  (∀ src d, d < 3 → Completes (fun dt => .returnSlew dt src d)
    (fun s => s.access src (Reg.DPLL_RETURN d) = .ok ∧ s.on (Fld.DPLL_STAT_RETURN_PENDING d) = true)
    (fun s => (((s.setFld (Fld.DPLL_STAT_RETURN_PENDING d) 0).setOffset d 0).acquire d).setSlew d (-(s.pendOffset d)))) ∧
  (∀ src d, d < 3 → Completes (fun dt => .returnHold dt src d)
    (fun s => s.access src (Reg.DPLL_RETURN d) = .ok ∧ s.on (Fld.DPLL_STAT_RETURN_PENDING d) = true)
    (fun s => (s.modDpll d (fun x => { x with avoid := s.selected d })).enterHoldover d))

/-! ## Analogue PLLs, clock outputs and the device's own PLLs -/

/-- The commands of an APLL complete: a write of CTRL with no change of SRC while enabled (R271, R272), a legal band entry in OFF
or NO_BAND (R273), lock within an attempt's 5 ms, its failure and the retry, loss of lock (R275, R276), the end of a move
(R286). -/
def Obligations.ApllComplete : Prop :=
  (∀ src a w, a < 3 → Completes (fun dt => .apllCtrlWrite dt src a w)
    (fun s => s.access src (Reg.APLL_CTRL a) = .ok ∧
      (s.on (Fld.APLL_CTRL_EN a) = false ∨ bitsOf w 1 1 = s.fld (Fld.APLL_CTRL_SRC a)))
    (fun s =>
      let t := (s.storeRw (Reg.APLL_CTRL a) w).apllFollow a
      if t.apllState a = 1 then t.apllAcquire a else t)) ∧
  (∀ src a b w, a < 3 → b < 256 → (bitsOf w 31 1 = 1 → bitsOf w 0 14 < bitsOf w 14 14) →
    Completes (fun dt => .bandWrite dt src a b w)
    (fun s => s.access src (Reg.SYN_BAND a b) = .ok ∧ s.apllState a < 2)
    (fun s =>
      let t := s.storeRw (Reg.SYN_BAND a b) w
      if t.apllState a = 1 then t.apllAcquire a else t)) ∧
  (∀ a, a < 3 → Completes (fun dt => .apllLock dt a)
    (fun s => s.apllState a = 2 ∧ s.waiting .apllTry a = true)
    (fun s =>
      let t := (s.stopTimer .apllTry a).setApll a 3
      t.forAll (t.outsOf a) (fun j s => s.outFollow j))) ∧
  (∀ a, a < 3 → Completes (fun dt => .apllLockFail dt a) (fun s => s.due .apllTry a = true)
    (fun s => (((s.stopTimer .apllTry a).bump (Fld.APLL_LOSS_LOCK_FAIL a) 1).raise (Fld.APLL_EVT_LOCK_FAIL a)).startTimer
      .apllRetry a (100 * msT))) ∧
  (∀ a, a < 3 → Completes (fun dt => .apllRetry dt a) (fun s => s.due .apllRetry a = true) (fun s => s.apllAcquire a)) ∧
  (∀ a, a < 3 → Completes (fun dt => .apllLoss dt a) (fun s => s.apllState a = 3)
    (fun s =>
      let t := ((s.bump (Fld.APLL_LOSS_LOSS a) 1).raise (Fld.APLL_EVT_LOSS a)).setFld (Fld.APLL_STAT_MOVING a) 0
      ((t.forAll (t.outsOf a) (fun j s => s.outMute j true)).stopTimer .apllMove a).apllAcquire a)) ∧
  (∀ a, a < 3 → Completes (fun dt => .apllMoveEnd dt a) (fun s => s.due .apllMove a = true)
    (fun s => (s.stopTimer .apllMove a).setFld (Fld.APLL_STAT_MOVING a) 0))

/-- The commands of the clock outputs complete: a legal write of CFG (R277, R281), the first aligned edge of an output that may
run (R281), an accepted edge of SYNCIN (R283), a write of SYN.SYNCIN (R283), a set of dividers that passes its check, a write
of UPDATE, and the load 1 µs later (R284, R285). -/
def Obligations.ClockOutputsComplete : Prop :=
  (∀ src j w, j < 12 → bitsOf w 8 3 < 6 → bitsOf w 4 2 ≠ 3 → bitsOf w 12 2 ≠ 3 → Completes (fun dt => .outCfgWrite dt src j w)
    (fun s => s.access src (Reg.OUT_CFG j) = .ok ∧
      (s.on (Fld.OUT_CFG_EN j) = true → bitsOf w 4 2 = s.outSrc j ∧ bitsOf w 8 3 = s.fld (Fld.OUT_CFG_FORMAT j)))
    (fun s =>
      let t := s.storeRw (Reg.OUT_CFG j) w
      if (bitsOf w 0 1 == 1) = s.on (Fld.OUT_CFG_EN j) then t.outShow j else t.outFollow j)) ∧
  (∀ j, j < 12 → Completes (fun dt => .outputAlign dt j)
    (fun s =>
      let t := s.outTake j
      t.outState j = 2 ∧ t.outMayRun j = true ∧ t.outEdge j < t.otimeAfter (t.outSrc j) 1)
    (fun s => (s.outTake j).outRun j)) ∧
  (∀ falling sub settled, sub < tickUnits → Completes (fun dt => .syncinEdge dt falling sub settled)
    (fun s => s.powered = true ∧ s.syncinOk falling settled = true) (syncinEdge sub)) ∧
  (∀ src w, Completes (fun dt => .syncinArm dt src w) (fun s => s.access src Reg.SYN_SYNCIN = .ok) (syncinWrite w)) ∧
  (∀ src j w, j < 12 → Completes (fun dt => .divNextWrite dt src j w)
    (fun s =>
      let v := s.wideValue (Reg.OUT_DIV_NEXT0 j) 2 (w &&& 0x0FFF00FF#32)
      s.access src (Reg.OUT_DIV_NEXT0 j) = .ok ∧
      dividersOk (s.fvco (s.outSrc j)) (s.fld (Fld.OUT_CFG_FORMAT j)) (v % 256) (v / 2 ^ 32) = true)
    (divNextWrite j w)) ∧
  (∀ src w, bitsOf w 31 1 = 1 → Completes (fun dt => .dividerUpdate dt src w) (fun s => s.access src Reg.SYN_UPDATE = .ok)
    (fun s =>
      let t := s.setFld Fld.SYN_UPDATE_MASK (bitsOf w 0 12)
      { t with divLoads := t.divLoads ++ [(t.ticks + usT, bitsOf w 0 12)] })) ∧
  (∀ l mask rest, Completes (fun dt => .dividerLoad dt)
    (fun s => s.divLoads = (l, mask) :: rest ∧ l ≤ s.ticks)
    (fun s => { s with divLoads := s.divLoads.filter (fun (x : Nat × Nat) => x.1 != l) }.loadOuts
      ((s.divLoads.filter (fun (x : Nat × Nat) => x.1 == l)).foldl (fun m (x : Nat × Nat) => m ||| x.2) 0) l))

/-- The commands of the PLLs that clock the device complete: a Leaf's CORE or MEM PLL loses lock and its clock is safe (R287),
an attempt, its time-out, the third of which is reported, and lock held for 10 ms (R288); the TSU PLL loses lock, tries again
every 1 ms, and is locked once it has held lock for 1 ms (R50, R289). -/
def Obligations.DevicePllsComplete : Prop :=
  (∀ n, Completes (fun dt => .leafPllLoss dt n false) (fun s => s.leafOn n = true ∧ s.on (Fld.LCTL_CLK_CORE_LOCK n) = true)
    (fun s =>
      let t := ({ s with relocks := kput s.relocks (2 * n) 0 }.setFld (Fld.LCTL_CLK_ATTEMPTS n) 0).stopTimer .relock (2 * n)
      ((t.setFld (Fld.LCTL_CLK_CORE_LOCK n) 0).setFld (Fld.LCTL_CLK_CORE_RATE n) 3).raise (Fld.LCTL_CLK_EVT_CORE_LOSS n))) ∧
  (∀ n, Completes (fun dt => .leafPllLoss dt n true) (fun s => s.leafOn n = true ∧ s.on (Fld.LCTL_CLK_MEM_LOCK n) = true)
    (fun s =>
      let i := 2 * n + 1
      let t := ({ s with relocks := kput s.relocks i 0 }.setFld (Fld.LCTL_CLK_ATTEMPTS n) 0).stopTimer .relock i
      ((t.setFld (Fld.LCTL_CLK_MEM_LOCK n) 0).raise (Fld.LCTL_CLK_MEM_SAFE n)).raise (Fld.LCTL_CLK_EVT_MEM_LOSS n))) ∧
  (∀ n mem, Completes (fun dt => .leafPllRelockAttempt dt n mem)
    (fun s => s.fwRuns = true ∧ s.leafOn n = true ∧ s.leafPll n mem = false ∧
      kget s.relocks (2 * n + (if mem then 1 else 0)) 0 < 3 ∧ s.running .relock (2 * n + (if mem then 1 else 0)) = false)
    (fun s =>
      let i := 2 * n + (if mem then 1 else 0)
      let k := kget s.relocks i 0
      ({ s with relocks := kput s.relocks i (k + 1) }.setFld (Fld.LCTL_CLK_ATTEMPTS n) (k + 1)).startTimer .relock i
        (10 * msT))) ∧
  (∀ n mem, Completes (fun dt => .relockAttemptTimeout dt n mem)
    (fun s => s.leafOn n = true ∧ s.due .relock (2 * n + (if mem then 1 else 0)) = true)
    (fun s =>
      let i := 2 * n + (if mem then 1 else 0)
      let t := s.stopTimer .relock i
      if kget t.relocks i 0 < 3 then t
      else (t.raise (Fld.LCTL_CLK_RELOCK_FAIL n)).raise (Fld.LCTL_CLK_EVT_RELOCK_FAIL n))) ∧
  (∀ n mem, Completes (fun dt => .leafPllRelocked dt n mem)
    (fun s => s.leafOn n = true ∧ s.leafPll n mem = false ∧ s.due .relock (2 * n + (if mem then 1 else 0)) = true)
    (fun s =>
      let t := s.stopTimer .relock (2 * n + (if mem then 1 else 0))
      if mem = true then (t.raise (Fld.LCTL_CLK_MEM_LOCK n)).setFld (Fld.LCTL_CLK_MEM_SAFE n) 0
      else (t.raise (Fld.LCTL_CLK_CORE_LOCK n)).setFld (Fld.LCTL_CLK_CORE_RATE n) (t.throttle n))) ∧
  Completes (fun dt => .tsuPllLoss dt) (fun s => s.powered = true ∧ s.on Fld.TSU_PLL_LOCK = true)
    (fun s =>
      let t := ((s.setFld Fld.TSU_PLL_LOCK 0).raise Fld.TSU_PLL_LOSS).bump Fld.TSU_PLL_COUNT 1
      let t := { t with tsuLossAt := t.ticks }.raise Fld.TSU_PLL_LANES_ON_XO
      let t := (t.setFld Fld.TIME_STATUS_TSU_LOCK 0).startTimer .tsuRetry 0 msT
      let t := t.forAll (List.range 8) (fun j s => if s.pulseMode j = 0 then s else s.raise (Fld.TIME_PULSE_STAT_MUTED j))
      (t.calDisturb (fun item _ => item == 1 || item == 4) calDisturbed).ladleHalt) ∧
  Completes (fun dt => .tsuPllRetry dt)
    (fun s => s.powered = true ∧ s.on Fld.TSU_PLL_LOCK = false ∧ s.due .tsuRetry 0 = true)
    (fun s => s.startTimer .tsuRetry 0 msT) ∧
  Completes (fun dt => .tsuPllRelock dt)
    (fun s => s.powered = true ∧ s.on Fld.TSU_PLL_LOCK = false ∧ s.tsuLossAt + msT ≤ s.ticks)
    (fun s => (({ s with counting := true }.stopTimer .tsuRetry 0).raise Fld.TSU_PLL_LOCK).setFld Fld.TSU_PLL_LANES_ON_XO 0
      |>.tsuFollow)

/-! ## GNSS baseband -/

/-- The commands of the sample ports, the channels and acquisition complete: a sample clock lost and restored, a reading of its
offset (R293), START of an idle channel and STOP (R299), pull-in done, a dump, a loss (R299, R301, R302), a change of owner
(R299), a request, its capture, a peak below or above threshold, a hand-over, a result read (R297, R298). -/
def Obligations.GnssChannelsComplete : Prop :=
  (∀ x, x < 2 → Completes (fun dt => .sampleClockLoss dt x)
    (fun s => s.portRuns x = true ∧ s.on (Fld.GNSS_PORT_STAT_PWREN x) = true ∧ s.on (Fld.GNSS_PORT_STAT_CLK_OK x) = true)
    (fun s => (((s.setFld (Fld.GNSS_PORT_STAT_CLK_OK x) 0).raise (portEvt x)).modGnss (fun g => { g with
      clkAt := kput g.clkAt x s.ticks })).portLost x)) ∧
  (∀ x, x < 2 → Completes (fun dt => .sampleClockRestore dt x)
    (fun s => s.portRuns x = true ∧ kget s.gnss.clkAt x 0 + msT ≤ s.ticks)
    (fun s => s.raise (Fld.GNSS_PORT_STAT_CLK_OK x))) ∧
  (∀ x ppb, x < 2 → Completes (fun dt => .gnssFmeas dt x ppb)
    (fun s => s.portRuns x = true ∧ s.on (Fld.GNSS_PORT_STAT_CLK_OK x) = true ∧ kfind s.gnss.fmeasSec x ≠ some (s.now / secU))
    (fun s =>
      let t := s.modGnss (fun g => { g with fmeasSec := kput g.fmeasSec x (s.now / secU) })
      let t := (t.setFld (Fld.GNSS_PORT_FMEAS_PPB x) (unsigned 32 ppb)).setBit (Fld.GNSS_PORT_STAT_FREQ_BAD x)
        (decide (200000 < ppb.natAbs))
      if 200000 < ppb.natAbs ∧ s.on (Fld.GNSS_PORT_STAT_FREQ_BAD x) = false then (t.raise (portEvt x)).portLost x else t)) ∧
  (∀ src c w, c < 64 → bitsOf w 31 1 = 1 → bitsOf w 30 1 = 0 → prnOk (bitsOf w 16 3) (bitsOf w 0 8) = true →
    Completes (fun dt => .channelStart dt src c w)
    (fun s => s.access src (Reg.GNSS_CH_CTRL c) = .ok ∧ (isSoftware src = true → s.on Fld.GNSS_CTRL_SW_OWN = true) ∧
      s.chanState c = 0 ∧ s.bandWithin (bitsOf w 16 3) = true)
    (fun s =>
      let t := s.storeRw (Reg.GNSS_CH_CTRL c) w
      (t.chanStart c (t.fld (Fld.GNSS_CH_INIT_CODE_CODE c)) (t.fld (Fld.GNSS_CH_INIT_DOPPLER_DOPPLER c))).gnssFollow)) ∧
  (∀ src c w, c < 64 → bitsOf w 30 1 = 1 → Completes (fun dt => .channelStop dt src c w)
    (fun s => s.access src (Reg.GNSS_CH_CTRL c) = .ok ∧ (isSoftware src = true → s.on Fld.GNSS_CTRL_SW_OWN = true) ∧
      bitsOf w 16 3 = s.chanSignal c ∧ bitsOf w 0 8 = s.fld (Fld.GNSS_CH_CTRL_PRN c))
    (fun s => ((s.storeRw (Reg.GNSS_CH_CTRL c) w).chanIdle c).gnssFollow)) ∧
  (∀ c t, c < 64 → Completes (fun dt => .pullInDone dt c)
    (fun s => s.chanState c = 1 ∧ (s.chan c).goodSince = some t ∧ t + 200 * msT ≤ s.ticks)
    (fun s => (s.setFld (Fld.GNSS_CH_STAT_STATE c) 2).modChan c (fun x => { x with trackAt := s.ticks }))) ∧
  (∀ c i q sync half slip, c < 64 → Completes (fun dt => .integrationDump dt c i q sync half slip)
    (fun s => s.domOn 3 = true ∧ (s.chanState c = 1 ∨ s.chanState c = 2) ∧ s.dumpDue c = true)
    (fun s =>
      let x := signalPort (s.chanSignal c)
      let samples := s.samples x i q
      let corr := s.correlators c samples
      let at1 := fun t => (corr[t]?).getD (0, 0)
      let t := s.modGnss (fun g => { g with sample := samples.getLast?.elim g.sample (fun v => kput g.sample x v) })
      let t := (t.closeLoops c corr).modChan c (fun y => { y with
        corr := corr, dumpAt := t.ticks, taps := (t.get (Reg.GNSS_CH_TAPS0 c), t.get (Reg.GNSS_CH_TAPS1 c)) })
      (t.judgeDump c (Config.cn0Estimate (at1 3) (at1 7) (s.fld (Fld.GNSS_CH_STAT_CN0 c)))
        (Config.lockIndicator (at1 3) (s.chan c).pli) half slip).setBit (Fld.GNSS_CH_STAT_BIT_SYNC c) sync)) ∧
  (∀ c, c < 64 → Completes (fun dt => .channelLoss dt c)
    (fun s => (s.chanState c = 1 ∨ s.chanState c = 2) ∧ s.signalGone c = true)
    (fun s =>
      let t := (((s.setFld (Fld.GNSS_CH_STAT_STATE c) 5).raise Fld.GNSS_EVT_CHAN_LOST).setFld (Fld.GNSS_CH_STAT_CODE_LOCK c)
        0).setFld (Fld.GNSS_CH_STAT_CARRIER_LOCK c) 0
      (t.modChan c (fun x => { x with lockSince := none })).modChan c (fun x => { x with meas := s.predicted c }))) ∧
  (∀ src w, Completes (fun dt => .gnssOwnerChange dt src w)
    (fun s => s.access src Reg.GNSS_CTRL = .ok ∧ (bitsOf w 0 1 == 1) ≠ s.on Fld.GNSS_CTRL_SW_OWN)
    (fun s =>
      let t := (s.setFld Fld.GNSS_CTRL_SW_OWN (bitsOf w 0 1)).forAll allChans (fun c s => s.chanIdle c)
      ((t.modGnss (fun g => { g with reqs := [], res := [], capAt := none })).set Reg.GNSS_ACQ_STAT 0#32).gnssFollow)) ∧
  (∀ src w, bitsOf w 31 1 = 1 → Completes (fun dt => .acqRequest dt src w)
    (fun s => s.access src Reg.GNSS_ACQ_REQ0 = .ok ∧ (isSoftware src = true → s.on Fld.GNSS_CTRL_SW_OWN = true) ∧
      (s.storeRw Reg.GNSS_ACQ_REQ0 w).gnss.reqs.length < 16)
    (fun s =>
      let t := s.storeRw Reg.GNSS_ACQ_REQ0 w
      (t.modGnss (fun g => { g with
        reqs := g.reqs ++ [[t.get Reg.GNSS_ACQ_REQ0, t.get Reg.GNSS_ACQ_REQ1, t.get Reg.GNSS_ACQ_REQ2]] })).acqShow)) ∧
  (∀ r rest, Completes (fun dt => .acqCaptureStart dt)
    (fun s => s.gnss.reqs = r :: rest ∧ s.gnss.capAt = none ∧ s.gnss.res.length < 16 ∧ s.acqValid = true ∧ s.acqPortUp = true)
    (fun s => s.modGnss (fun g => { g with capAt := some s.ticks }))) ∧
  (∀ code doppler cn0 r rest t, Completes (fun dt => .acqComplete dt code doppler cn0)
    (fun s => s.gnss.reqs = r :: rest ∧ s.gnss.res.length < 16 ∧ s.acqValid = true ∧ s.acqPortUp = true ∧
      s.gnss.capAt = some t ∧ t + s.acqCapture ≤ s.ticks ∧ s.acqOnGrid code doppler = true)
    (fun s =>
      if cn0 < 10 * bitsOf (s.acqHead 2) 0 10 then s.acqResult 1 code (unsigned 32 doppler) cn0
      else if bitsOf (s.acqHead 0) 30 1 = 1 then s.acqHandover code (unsigned 32 doppler) cn0
      else s.acqResult 0 code (unsigned 32 doppler) cn0)) ∧
  (∀ src r rest, Completes (fun dt => .acqResultRead dt src)
    (fun s => s.access src Reg.GNSS_ACQ_RES0 = .ok ∧ s.gnss.res = r :: rest)
    (fun s =>
      let t := (s.modGnss (fun g => { g with res := g.res.drop 1 })).acqShow
      (t.setWide Reg.GNSS_ACQ_RES0 4 (r.foldr (fun w a => w.toNat + 2 ^ 32 * a) 0)).emit (.readData src [r.headD 0#32])))

/-- The commands of the Kettle complete: power asked for ahead of a window, the front ends on, the burst begun with a grant and
skipped without one, a channel re-acquired or missed, the window's end (R303 to R305). -/
def Obligations.KettleComplete : Prop :=
  Completes (fun dt => .kettlePowerRequest dt)
    (fun s => s.bursting = true ∧ s.nextBurst ≤ s.now + s.burstHalf + s.burstLead + msU) (fun s => s.request 3) ∧
  Completes (fun dt => .feLeadPwrenHigh dt)
    (fun s => s.bursting = true ∧ s.on Fld.KETTLE_CTRL_FE_GATE = true ∧ s.domOn 3 = true ∧
      s.nextBurst ≤ s.now + s.burstHalf + s.burstLead) (fun s => (s.modGnss (fun g => { g with lead := true })).pwren) ∧
  Completes (fun dt => .burstStart dt) (fun s => s.burstDue = true ∧ s.burstGranted = true ∧ s.domOn 3 = true)
    (fun s =>
      let n := s.nextBurst
      let t := (s.modGnss (fun g => { g with
        awake := some (n, s.ticks + unitTicks (n - msU - s.now), s.ticks + unitTicks (n + s.burstHalf - s.now))
        lead := false, decided := n })).raise Fld.KETTLE_STAT_AWAKE
      t.pwren.forAll (allChans.filter (fun c => t.chanState c == 3)) (fun c s => s.setFld (Fld.GNSS_CH_STAT_STATE c) 4)) ∧
  Completes (fun dt => .burstSkip dt) (fun s => s.burstDue = true ∧ s.burstGranted = false)
    (fun s => (((s.modGnss (fun g => { g with decided := s.nextBurst, lead := false })).bump Fld.KETTLE_CNT_SKIPPED 1).raise
      Fld.GNSS_EVT_BURST_SKIP).gnssFollow) ∧
  (∀ c cn0 found n miss fin, c < 64 → Completes (fun dt => .wakingReacquired dt c cn0 found)
    (fun s => s.chanState c = 4 ∧ s.gnss.awake = some (n, miss, fin) ∧ s.ticks ≤ miss ∧
      (s.burstBegan + 4 * msT ≤ s.ticks ∧ 50 * s.fld Fld.KETTLE_CTRL_REACQ_CN0 ≤ cn0 ∨
        s.burstBegan + 8 * msT ≤ s.ticks ∧ found = true))
    (fun s => (((s.setFld (Fld.GNSS_CH_STAT_STATE c) 2).modChan c (fun x => { x with trackAt := s.ticks })).setFld (Fld.GNSS_CH_STAT_MISSED c) 0).modChan c
      (fun x => { x with misses := 0, cn0s := [], lowSince := none }))) ∧
  (∀ c n miss fin, c < 64 → Completes (fun dt => .burstMiss dt c)
    (fun s => s.chanState c = 4 ∧ s.gnss.awake = some (n, miss, fin) ∧ miss ≤ s.ticks)
    (fun s =>
      let k := (s.chan c).misses + 1
      let t := (s.modChan c (fun x => { x with misses := k, slept := true })).raise (Fld.GNSS_CH_STAT_MISSED c)
      let t := (t.bump Fld.KETTLE_CNT_MISSES 1).raise Fld.GNSS_EVT_BURST_MISS
      if t.fld Fld.KETTLE_CTRL_MISS_LIMIT ≤ k then t.chanLost c else t.setFld (Fld.GNSS_CH_STAT_STATE c) 3)) ∧
  (∀ n miss fin, Completes (fun dt => .burstEnd dt)
    (fun s => s.gnss.awake = some (n, miss, fin) ∧ fin ≤ s.ticks) burstEnd) ∧
  Completes (fun dt => .burstEnd dt)
    (fun s => s.gnss.awake = none ∧ s.kettleOn = true ∧ s.gnss.ended < s.burstS ∧ s.burstS ≤ s.now + secU - s.burstHalf)
    (fun s =>
      let t := (s.modGnss (fun g => { g with awake := none, lead := false, ended := s.burstS })).setFld Fld.KETTLE_STAT_AWAKE 0
      (t.forAll (allChans.filter (fun c => t.burstCh c && t.chanState c == 2)) (fun c s =>
        ((s.setFld (Fld.GNSS_CH_STAT_STATE c) 3).chanUnlock c).modChan c (fun x => { x with slept := true }))).gnssFollow)

/-- The commands of the measurement epochs, the navigation queue and the time service complete: an epoch latched once a second
and shown in the other bank (R307, R308), a record queued while there is room, read, flushed (R309), a solution near enough
handed on, a jump confirmed, the survey's end, a renewal (R306, R311, R312). -/
def Obligations.GnssServiceComplete : Prop :=
  (∀ ms, Completes (fun dt => .measurementEpoch dt ms)
    (fun s => s.powered = true ∧ s.counting = true ∧ s.gnss.recs = none ∧ s.now / secU ≠ s.gnss.epoch ∧
      (s.domOn 3 = true ∨ ∃ c ∈ allChans, s.chanState c = 3))
    (fun s =>
      let active := allChans.filter (fun c => s.chanState c != 0)
      let t := s.modGnss (fun g => { g with
        recs := some (s.now / secU * secU, active.map (fun c => (c, s.epochRecord c (s.measureOf ms c))))
        epoch := s.now / secU, stepped := false })
      t.gnssParams.forAll active (fun c t => t.modChan c (fun x => { x with
        slip := false, slept := s.chanState c == 3, meas := s.measureOf ms c, measAt := s.now })))) ∧
  (∀ t recs, Completes (fun dt => .epochComplete dt) (fun s => s.gnss.recs = some (t, recs))
    (fun s =>
      let b := 1 - s.fld Fld.GNSS_EPOCH_STAT_BANK
      let u := s.forAll allChans (fun c s => s.forAll (List.range 8) (fun e s =>
        s.set (Reg.GNSS_MEAS b c e) ((((kfind recs c).getD [])[e]?).getD 0#32)))
      let u := (u.setFld Fld.GNSS_EPOCH_STAT_BANK b).wrapAdd Fld.GNSS_EPOCH_STAT_SEQ 1
      ((u.setWide Reg.GNSS_EPOCH_TIME0 3 (rawOfTime t)).raise Fld.GNSS_EVT_EPOCH).modGnss (fun g => { g with recs := none }))) ∧
  (∀ c t inverted prev raw, c < 64 → Completes (fun dt => .navRecord dt c t inverted ⟨prev, raw⟩)
    (fun s => s.domOn 3 = true ∧ s.chanState c = 2 ∧ s.on (Fld.GNSS_CH_STAT_BIT_SYNC c) = true ∧ s.chanSignal c ≤ 2 ∧
      s.fld Fld.PWR_STATE_STATE ≠ 1 ∧ s.gnss.nav.length < 512 ∧ ∀ e ∈ s.gnss.nav, e.1 < s.ticks)
    (fun s =>
      let w0 := s.fld (Fld.GNSS_CH_CTRL_PRN c) + 2 ^ 8 * c + 2 ^ 16 * (s.chanSignal c + 1) + (if inverted then 2 ^ 20 else 0)
      let r := [BitVec.ofNat 32 w0] ++ timeWords t ++
        (navData (s.chanSignal c) inverted prev raw).map (fun (v : Nat) => BitVec.ofNat 32 v)
      let n := s.gnss.nav.length
      let u := (s.modGnss (fun g => { g with nav := g.nav ++ [(s.ticks, r)] })).setFld Fld.GNSS_NAV_STAT_LEVEL (n + 1)
      if n = 0 then u.raise Fld.GNSS_EVT_NAV else u)) ∧
  (∀ src r rest, Completes (fun dt => .navRead dt src)
    (fun s => s.access src (Reg.GNSS_NAV_REC 0) = .ok ∧ s.gnss.nav = r :: rest)
    (fun s =>
      let t := s.modGnss (fun g => { g with nav := g.nav.drop 1 })
      let t := t.setFld Fld.GNSS_NAV_STAT_LEVEL t.gnss.nav.length
      (t.forAll (List.range 16) (fun e s => s.set (Reg.GNSS_NAV_REC e) ((r.2[e]?).getD 0#32))).emit
        (.readData src [r.2.headD 0#32]))) ∧
  (∀ src w, Completes (fun dt => .navFlush dt src w) (fun s => s.access src Reg.GNSS_NAV_STAT = .ok)
    (navFlush (w ||| 0x800#32))) ∧
  (∀ sats up x, Completes (fun dt => .timeSolution dt sats up)
    (fun s =>
      let all := sats.filterMap (fun o => s.satOffset o)
      let used := excludeFar (s.gnssParam 5 * 65536) all.length all
      s.gnssService = true ∧ s.gnss.solved ≠ some (s.fld Fld.GNSS_EPOCH_STAT_SEQ) ∧ s.positionHeld = true ∧
      s.gnssParam 4 ≤ (used.length : Int) ∧ meanOf up used = x ∧
      (s.on Fld.TIME_STATUS_VALID = false ∨ (x.natAbs : Int) ≤ s.jumpLimit))
    (fun s =>
      let all := sats.filterMap (fun o => s.satOffset o)
      let used := excludeFar (s.gnssParam 5 * 65536) all.length all
      let t := s.modGnss (fun g => { g with solved := some (s.fld Fld.GNSS_EPOCH_STAT_SEQ) })
      let t := (t.setFld Fld.GNSS_SOL_STAT_NSATS (sat 8 used.length)).setWide Reg.GNSS_SOL_OFFSET0 2 (unsigned 64 x)
      (t.modGnss (fun g => { g with withheld := [], accepted := none })).handOn)) ∧
  (∀ sats up, Completes (fun dt => .timeSolution dt sats up)
    (fun s =>
      let all := sats.filterMap (fun o => s.satOffset o)
      s.gnssService = true ∧ s.gnss.solved ≠ some (s.fld Fld.GNSS_EPOCH_STAT_SEQ) ∧ s.positionHeld = true ∧
      ((excludeFar (s.gnssParam 5 * 65536) all.length all).length : Int) < s.gnssParam 4)
    (fun s => (s.modGnss (fun g => { g with solved := some (s.fld Fld.GNSS_EPOCH_STAT_SEQ) })).raise Fld.GNSS_FW_EVT_FEW_SATS)) ∧
  Completes (fun dt => .jumpConfirm dt) (fun s => s.gnssService = true ∧ s.jumpSure = true)
    (fun s =>
      let m := medianOf s.jumpWindow
      ((s.modGnss (fun g => { g with withheld := [], accepted := some m })).raise Fld.GNSS_FW_EVT_JUMP_ACCEPTED).handOn) ∧
  (∀ x y z, Completes (fun dt => .surveyDone dt x y z)
    (fun s => s.gnssService = true ∧ s.positionHeld = false ∧ s.gnss.surveyAt + (s.gnssParam 0x11).toNat * secT ≤ s.ticks)
    (fun s => (s.modGnss (fun g => { g with position := some (x, y, z) })).raise Fld.GNSS_FW_EVT_SURVEY_DONE)) ∧
  (∀ c n, c < 64 → Completes (fun dt => .ephemerisRenewal dt c false n)
    (fun s => s.gnssService = true ∧ s.fld Fld.PWR_STATE_STATE ≠ 1 ∧ s.burstCh c = true ∧
      kget s.gnss.ephs (s.satKey c) 0 ≤ s.ticks + 1800 * secT)
    (fun s =>
      let t := ((s.setFld (Fld.GNSS_CH_CTRL_BURST c) 0).modGnss (fun g => { g with
        renewing := kput g.renewing c s.ticks })).gnssFollow
      if (t.ephsPast (t.ticks + 1800 * secT) : Int) < t.gnssParam 4 then t.raise Fld.GNSS_FW_EVT_EPH_LOW else t)) ∧
  (∀ c n t0, c < 64 → Completes (fun dt => .ephemerisRenewal dt c true n)
    (fun s => s.gnssService = true ∧ s.fld Fld.PWR_STATE_STATE ≠ 1 ∧ s.chanState c = 2 ∧ s.burstCh c = false ∧
      kfind s.gnss.renewing c = some t0 ∧ t0 + 36 * secT ≤ s.ticks)
    (fun s =>
      let t := s.modGnss (fun g => { g with
        ephs := kput g.ephs (s.satKey c) (s.ticks + n * secT), renewing := kdel g.renewing c })
      let t := if t.mayBurst c then (t.setFld (Fld.GNSS_CH_CTRL_BURST c) 1).gnssFollow else t
      if (t.ephsPast (t.ticks + 1800 * secT) : Int) < t.gnssParam 4 then t.raise Fld.GNSS_FW_EVT_EPH_LOW else t))

/-! ## Claims -/

/-- The commands of the claim controller complete: a heartbeat sent on a free medium 1 ms less 10 µs after the last or
later (R318), one accepted (R319), a claim that
lapses, the accepted claim and ports (R320, R321), CAND gated to accepted ports (R323), a witness's DEPOSE and ADMIT notices by
software or by itself (R325, R327), a member alone for ALONE seconds (R327), a drill's end (R328). -/
def Obligations.ClaimsComplete : Prop :=
  (∀ p pos, Completes (fun dt => .heartbeatSend dt p pos)
    (fun s =>
      let t := s.creditTo p
      s.hbPort p = true ∧ s.inTick pos = true ∧ (s.fwRuns = true ∨ s.fld Fld.SYS_BOOT_STATUS_STATE = 7) ∧ (∀ x, kfind s.hbSent p = some x → x.2 + 990 * usT ≤ s.ticks) ∧
      t.inFragment p = none ∧ t.mediumFree p pos = true ∧
      ∀ h ∈ t.known p, pos + bytesU (t.portMode p) (1 + 133 + 12 + 8) ≤ h.release)
    (fun s => (s.creditTo p).hbTransmit p pos)) ∧
  (∀ p full i, Completes (fun dt => .heartbeatReceive dt p full i)
    (fun s =>
      let b := full.take (full.length - 4)
      s.linkUp p = true ∧ isTcx full = false ∧ isHb full = true ∧ s.drainedAt p (s.rxPhys p i) = false ∧
      s.stampedDown p (s.rxStamp p i) (s.stampFlags p (s.rxPhys p i) false) = false ∧ s.clmOn = true ∧ s.portActive p = true ∧ i.codeErr = false ∧
      (i.uncorrectable = 0 ∨ s.fld (Fld.PORT_MODE_FEC p) = 0) ∧
      crc32 b = leAt full (full.length - 4) 4 ∧ daOf b = tcxDa ∧ byteAt b 19 = 1 ∧ byteAt b 20 = 2 ∧ 110 ≤ beAt b 21 2 ∧
      129 ≤ b.length)
    (fun s =>
      let b := full.take (full.length - 4)
      (s.hbTake p
        { at_ := s.ticks, serial := beAt b 25 2 % 2 ^ 12, sa := saOf b, member := beAt b 27 2, seen := beAt b 29 2
          drill := beAt b 127 2, claims := allDoms.map (fun d => beAt b (31 + 2 * d) 2) }
        (allDoms.map (fun d => beAt b (63 + 4 * d) 4))).macReceive p full i (s.rxStamp p i)
        (s.stampFlags p (s.rxPhys p i) false) (s.rxPhys p i))) ∧
  (∀ p h, Completes (fun dt => .heardClaimLapse dt p) (fun s => kfind s.hbs p = some h ∧ s.heartbeat p = none)
    (fun s => { s with hbs := kdel s.hbs p }.forAll allDoms (fun d s => s.watch d))) ∧
  (∀ d, d < 16 → Completes (fun dt => .acceptedClaimUpdate dt d) (fun s => s.powered = true) (acceptedUpdate d)) ∧
  Completes (fun dt => .candGating dt)
    (fun s => s.fwRuns = true ∧ s.gateDue = true ∧ ∃ d ∈ allDoms, s.on (Fld.CLM_DOM_CFG_GATE_SLOTS d) = true)
    (fun s => { s with gateDue := false }.forAll [0, 1, 2] (fun d s => s.setFld (Fld.DPLL_CAND_MASK d) (s.gatedMask (s.paramNat (pkey 7 d 0x30))))) ∧
  (∀ d i, d < 16 → i < 2 → Completes (fun dt => .witnessAdmit dt d i) (fun s => s.mayAdmit d i = true)
    (fun s => s.issue d 2 (s.peer d i))) ∧
  (∀ d, d < 16 → Completes (fun dt => .aloneExpiry dt d false) (fun s => s.alone d = true) (fun s => s.setClm d 2)) ∧
  (∀ src d m, d < 16 → m < 2 ^ 12 → Completes (fun dt => .clmDepose dt src d m)
    (fun s =>
      let t := s.storeRw Reg.CLM_CMD (clmCmdWord 1 d m)
      s.access src Reg.CLM_CMD = .ok ∧ 2 ≤ t.role d ∧ (m = t.peer d 0 ∨ m = t.peer d 1))
    (fun s => ((s.storeRw Reg.CLM_CMD (clmCmdWord 1 d m)).setFld Fld.CLM_CMD_STAT_RESULT 0).issue d 1 m)) ∧
  (∀ src d m, d < 16 → m < 2 ^ 12 → Completes (fun dt => .clmAdmit dt src d m)
    (fun s =>
      let t := s.storeRw Reg.CLM_CMD (clmCmdWord 2 d m)
      s.access src Reg.CLM_CMD = .ok ∧ 2 ≤ t.role d ∧ (m = t.peer d 0 ∨ m = t.peer d 1))
    (fun s => ((s.storeRw Reg.CLM_CMD (clmCmdWord 2 d m)).setFld Fld.CLM_CMD_STAT_RESULT 0).issue d 2 m)) ∧
  (∀ d t, d < 16 → Completes (fun dt => .drillEnd dt d)
    (fun s => (s.clm d).drillEnd = some t ∧ t ≤ s.ticks)
    (fun s =>
      let u := s.modClm d (fun x => { x with drillEnd := none })
      if u.clmState d = 5 then (u.setClm d (u.clm d).before).clmEvent Fld.CLM_EVT_DRILL d else u))

/-! ## Power -/

/-- The commands of the power states complete: REQ with GO and TARGET KEEP or READY (R331 to R333), WAKE_AT reached, READY
entered once SP_HOST and SP_FAB are on (R333), a Leaf drained or its limit expired, restored, aligned, or not aligned in 10 ms
(R45, R47, R48). -/
def Obligations.PowerStatesComplete : Prop :=
  (∀ src, Completes (fun dt => .powerRequestKeep dt src)
    (fun s =>
      let t := s.storeRw Reg.PWR_REQ 0x80000001#32
      s.access src Reg.PWR_REQ = .ok ∧ t.wakeWithin (t.power.roundAt + 250 * usT - t.ticks) = false ∧
      t.on Fld.PWR_STATE_BUSY = false ∧ 2 ≤ t.pstate)
    (fun s => (s.storeRw Reg.PWR_REQ 0x80000001#32).beginKeep (s.storeRw Reg.PWR_REQ 0x80000001#32).limitOf)) ∧
  (∀ src, Completes (fun dt => .powerRequestKeep dt src)
    (fun s =>
      let t := s.storeRw Reg.PWR_REQ 0x80000001#32
      s.access src Reg.PWR_REQ = .ok ∧ t.wakeWithin (t.power.roundAt + 250 * usT - t.ticks) = true)
    (fun s =>
      let t := wakeAt (s.storeRw Reg.PWR_REQ 0x80000001#32)
      t.requestState 1 t.limitOf)) ∧
  (∀ src, Completes (fun dt => .powerRequestReady dt src)
    (fun s =>
      let t := s.storeRw Reg.PWR_REQ 0x80000002#32
      s.access src Reg.PWR_REQ = .ok ∧ t.wakeWithin (t.power.roundAt + 250 * usT - t.ticks) = false ∧
      t.on Fld.PWR_STATE_BUSY = false ∧ t.pstate = 1)
    (fun s => ((((s.storeRw Reg.PWR_REQ 0x80000002#32).raise Fld.PWR_STATE_BUSY).setFld Fld.PWR_STATE_TARGET 2).request
      4).request 5)) ∧
  (∀ x, Completes (fun dt => .wakeAt dt)
    (fun s => s.powered = true ∧ s.on Fld.PWR_WAKE_EN = true ∧ s.power.woke = false ∧ s.spineHot = false ∧
      timeOfRaw (s.getWide Reg.PWR_WAKE_AT0 3) = some x ∧ x ≤ s.now)
    (fun s => (s.modPower (fun x => { x with woke := true })).requestState 2 s.limitOf)) ∧
  Completes (fun dt => .readyEntry dt)
    (fun s => s.on Fld.PWR_STATE_BUSY = true ∧ s.pstate < 2 ∧ s.domOn 4 = true ∧ s.domOn 5 = true)
    (fun s =>
      let t := ((s.setFld Fld.PWR_STATE_BUSY 0).setFld Fld.PWR_STATE_TARGET 0).setPstate 2
      let t := t.modPower (fun x => { x with savedOuts := [], savedAplls := [] })
      let t := t.forAll s.power.savedAplls (fun a s => (s.raise (Fld.APLL_CTRL_EN a)).apllFollow a)
      let t := t.forAll s.power.savedOuts (fun j s => (s.raise (Fld.OUT_CFG_EN j)).outFollow j)
      let t := t.forAll (t.allLeaves.filter (fun n => t.fldBit Fld.PWR_WAKE_LEAF_MASK n)) (fun n s => s.leafStart n)
      t.nextRequest (fun s => s.beginKeep s.limitOf)) ∧
  (∀ n, n < 8 → Completes (fun dt => .drainComplete dt n) (fun s => s.leaf n = 5 ∧ s.leafEmpty n = true)
    (fun s => s.leafOff n)) ∧
  (∀ n, n < 8 → Completes (fun dt => .drainLimitExpiry dt n) (fun s => s.leaf n = 5 ∧ s.due .drain n = true)
    (fun s => (s.leafDiscard n).leafOff n)) ∧
  (∀ n, n < 8 → Completes (fun dt => .restoreComplete dt n)
    (fun s => s.fwRuns = true ∧ s.leaf n = 2 ∧ s.domOn (8 + n) = true) (restoreComplete n)) ∧
  (∀ n, n < 8 → Completes (fun dt => .leafAligned dt n)
    (fun s => s.leaf n = 3 ∧ s.fldBit Fld.TIME_STATUS_LEAF_ALIGNED n = true)
    (fun s => ((s.stopTimer .leafAlign n).setLeaf n 4).forAll (List.range 4) (fun m s => s.followOctet (4 * n + m)))) ∧
  (∀ n, n < 8 → Completes (fun dt => .alignTimeout dt n) (fun s => s.leaf n = 3 ∧ s.due .leafAlign n = true)
    (fun s => (((((s.stopTimer .leafAlign n).stopTimer .drain n).setLeaf n 6).leafUnpower n).raise
      (Fld.LCTL_FAULT_STOPPED n)).raise (Fld.LCTL_FAULT_ALIGN n)))

/-- The commands of the arbiter, the regulators and the throttle complete: a granted domain powered and clocked (R334, R347), a
regulator's failure (R348), a poll and an alert (R349), a round of the arbiter (R337), a pipeline released (R340), a legal
BUDGET (R338), a level raised and lowered (R343), critical temperatures of a Leaf and of the Spine (R344, R345). -/
def Obligations.PowerBudgetComplete : Prop :=
  (∀ r, r < 176 → Completes (fun dt => .domainPowerUp dt r)
    (fun s => s.rq r = 2 ∧ s.domOn r = false ∧ kget s.power.grantAt r 0 + s.onDelay r ≤ s.ticks)
    (domainPowerUp r)) ∧
  (∀ i tx r, i < 16 → Completes (fun dt => .regulatorFail dt i tx)
    (fun s => s.regOf i = some r ∧ i ∈ s.regsOf r ∧ s.rq r = 2 ∧ s.domOn r = false ∧
      (tx = true ∨ kget s.power.grantAt r 0 + s.delayOf (s.regsUpTo r i) + s.fld (Fld.PWR_REG_TIME_PG_TMO i) * msT ≤ s.ticks))
    (fun s =>
      let t := (s.raise (Fld.PWR_REG_STAT_FAIL i)).raise Fld.PWR_EVT_REG_FAIL
      let on := t.regsUpTo r i
      let t := (t.forAll on (fun k s => s.regOn k)).forAll on.reverse (fun k s => s.regOff k)
      let t := if 8 ≤ r ∧ r < 16 then { t with restarts := t.restarts.filter (fun m => m != r - 8) }.leafOff (r - 8)
        else t.release r
      let t := (t.setFld (Fld.PWR_RQ_STATE r) 4).showGrant
      if r = 4 ∨ r = 5 then t.readyFails else t)) ∧
  (∀ reads, Completes (fun dt => .regulatorPoll dt reads)
    (fun s => s.powered = true ∧ s.on Fld.PWR_PMB_CFG_EN = true ∧ s.power.pollAt + 100 * msT ≤ s.ticks)
    (fun s => ((s.modPower (fun x => { x with pollAt := s.ticks })).regsRead reads).regsFollow)) ∧
  (∀ reads, Completes (fun dt => .pmbAlert dt reads) (fun s => s.powered = true)
    (fun s =>
      let t := s.raise Fld.PWR_EVT_PMB_ALERT
      if t.on Fld.PWR_PMB_CFG_EN = true then t.regsRead reads else t)) ∧
  Completes (fun dt => .arbiterRound dt) (fun s => s.powered = true ∧ s.power.roundAt + 250 * usT ≤ s.ticks)
    (fun s =>
      let t := s.modPower (fun x => { x with roundAt := s.ticks })
      let t := (t.waitOrder.foldl roundStep (t, false)).1.regsFollow.showGrant
      t.setBit Fld.PWR_GRANT_OVER (decide (t.budgetRoom < t.grantedTokens))) ∧
  (∀ o, o < 32 → Completes (fun dt => .pipelineRelease dt o) (fun s => s.due .pipeRelease o = true)
    (fun s => ((s.stopTimer .pipeRelease o).release (16 + o)).forAll (List.range 4)
      (fun q s => s.followGroup (48 + 4 * o + q)))) ∧
  (∀ src w, bitsOf w 16 16 < bitsOf w 0 16 → Completes (fun dt => .budgetWrite dt src w)
    (fun s => s.access src Reg.PWR_BUDGET = .ok ∧ bitsOf w 0 16 ≤ s.member.budget.1)
    (fun s => s.storeRw Reg.PWR_BUDGET w)) ∧
  (∀ n, Completes (fun dt => .throttleRise dt n)
    (fun s => s.leafOn n = true ∧ s.throttle n < 2 ∧ s.heldFor s.power.hotAt n (10 * msT) = true ∧
      ∀ t, kfind s.power.roseAt n = some t → t + secT ≤ s.ticks)
    (fun s => (s.modPower (fun x => { x with roseAt := kput x.roseAt n s.ticks })).setThrottle n (s.throttle n + 1))) ∧
  (∀ n, Completes (fun dt => .throttleFall dt n)
    (fun s => s.leafOn n = true ∧ 0 < s.throttle n ∧ s.heldFor s.power.coldAt n (5 * secT) = true)
    (fun s => (s.modPower (fun x => { x with coldAt := kput x.coldAt n s.ticks })).setThrottle n (s.throttle n - 1))) ∧
  (∀ n, n < 8 → Completes (fun dt => .leafTcrit dt n)
    (fun s => 2 ≤ s.leaf n ∧ s.leaf n ≤ 5 ∧ s.heldFor s.power.critAt n msT = true)
    (fun s => (s.leafFault n).setThrottle n 2)) ∧
  Completes (fun dt => .spineTcrit dt) (fun s => s.powered = true ∧ s.heldFor s.power.critAt 8 msT = true)
    (fun s =>
      let t := (s.raise Fld.PWR_EVT_TCRIT).modPower (fun x => { x with critAt := kdel x.critAt 8, tripped := true })
      let t := t.forAll t.allLeaves (fun n s => if s.leaf n = 5 then s.startTimer .drain n msT else s)
      t.requestState 1 (fun _ => msT))

/-! ## Reset, boot and debug unlock -/

/-- The commands of reset complete: PORn rises with the straps and the fuses and falls, a supply fault (R351, R353, R485), the
end of a low level on WARMn (R352), the choice of the AON clock 500 ms after PORn (R30, R478). -/
def Obligations.ResetComplete : Prop :=
  (∀ sel f, Completes (fun dt => .porRelease dt sel f) (fun s => s.powered = false)
    (fun s => ({ s with fuses := f, member := memberOf f.member, gradeE := f.gradeE }.bootBegin sel).startTimer .aonSelect 0
      (500 * msT))) ∧
  Completes (fun dt => .pornAssert dt) (fun s => s.powered = true) State.porLow ∧
  Completes (fun dt => .supplyFault dt) (fun s => s.powered = true) State.porLow ∧
  (∀ sel, Completes (fun dt => .warmResetPin dt sel) (fun s => s.powered = true)
    (warmReset Fld.SYS_RESET_CAUSE_WARM_PIN sel)) ∧
  (∀ crystal, Completes (fun dt => .aonClockSelect dt crystal)
    (fun s => s.powered = true ∧ s.due .aonSelect 0 = true)
    (fun s => (s.stopTimer .aonSelect 0).modBoot (fun b => { b with aonXtal := some crystal })))

/-- The commands of boot and update complete: a candidate slot or the staged image passes or fails R356 (R355 to R357), GO of
IMG (R357), the image applied (R361), the firmware reports (R361, R373), or does not (R362, R374). -/
def Obligations.BootComplete : Prop :=
  (∀ slot, slot < 2 → Completes (fun dt => .slotValidation dt slot true)
    (fun s => s.powered = true ∧ s.bootState = bootLoading ∧ slot ∉ s.boot.tried ∧ s.toJudge.head? = some slot)
    (fun s =>
      let r := s.validateSlot slot true
      let t := s.modBoot (fun b => { b with tried := slot :: b.tried })
      if r ≠ 0 then (t.setReason slot r).flashNext
      else if 1 - slot ∈ s.boot.tried ∨ s.candidate (1 - slot) = true then t.imagePassed slot
      else (t.setReason (1 - slot) 4).imagePassed slot)) ∧
  Completes (fun dt => .slotValidation dt 2 true)
    (fun s => s.powered = true ∧ s.on Fld.IMG_STAT_BUSY = true)
    (fun s =>
      let r := s.validateSlot 2 true
      let t := (s.setFld Fld.IMG_STAT_BUSY 0).raise Fld.IMG_STAT_DONE
      if r = 0 then t.imagePassed 2
      else if (t.setReason 2 r).bootState = bootHeld then t.setReason 2 r
      else (t.setReason 2 r).enterHeld) ∧
  (∀ src page, page < 16 → Completes (fun dt => .imgGo dt src page)
    (fun s => s.access src Reg.IMG_CTRL = .ok ∧ s.on Fld.IMG_STAT_BUSY = false ∧ s.imgOpen = true)
    (fun s =>
      let t := ((s.storeRw Reg.IMG_CTRL (BitVec.ofNat 32 (2 ^ 31 + page))).raise Fld.IMG_STAT_BUSY).modBoot (fun b => { b with
        hostSrc := if src = .pf1 then 3 else 4 })
      if t.bootState = bootWaitHost then t.setBootState bootValidating else t)) ∧
  Completes (fun dt => .imageStart dt)
    (fun s => s.powered = true ∧ s.bootState = bootStarting ∧ s.boot.started = false)
    (fun s => (((s.lockWorld (s.boot.image.getD 0)).applyPower (s.boot.image.getD 0)).modBoot (fun b => { b with
      started := true })).startTimer .fwStart 0 (10 * secT)) ∧
  Completes (fun dt => .firmwareRunning dt)
    (fun s => s.powered = true ∧ s.bootState = bootStarting ∧ s.boot.started = true)
    (fun s => bootRuns { s.stopTimer .fwStart 0 with gateDue := true }) ∧
  Completes (fun dt => .firmwareStartTimeout dt)
    (fun s => s.powered = true ∧ s.bootState = bootStarting ∧ s.due .fwStart 0 = true)
    (fun s =>
      let slot := s.boot.image.getD 0
      let t := ((s.stopTimer .fwStart 0).setReason slot reasonStart).modBoot (fun b => { b with image := none, started := false })
      if slot < 2 then t.flashNext else t.enterHeld) ∧
  (∀ new prev, new < 2 → Completes (fun dt => .updateTimeout dt)
    (fun s => s.powered = true ∧ s.bootState = bootUpdating ∧ s.due .fwStart 0 = true ∧ s.boot.update = some (new, prev))
    updateTimeout)

/-- The commands of the debug unlock complete: an attempt by challenge and response, by password, or by JTAG runs when the
engine is not BUSY (R369 to R371), and a read of DBG_STAT clears its source (R460). -/
def Obligations.DebugUnlockComplete : Prop :=
  (∀ src scope took, scope < 4 → Completes (fun dt => .challengeResponseAttempt dt src scope took)
    (fun s => s.access src Reg.SEC_DBG_CTRL = .ok ∧ s.waiting .dbgBusy 0 = false)
    (fun s =>
      let t := s.storeRw Reg.SEC_DBG_CTRL (BitVec.ofNat 32 (2 ^ 31 + scope))
      debugAttempt false scope took t.respBytes t)) ∧
  (∀ src scope took, scope < 4 → Completes (fun dt => .passwordAttempt dt src scope took)
    (fun s => s.access src Reg.SEC_DBG_CTRL = .ok ∧ s.waiting .dbgBusy 0 = false)
    (fun s =>
      let t := s.storeRw Reg.SEC_DBG_CTRL (BitVec.ofNat 32 (2 ^ 31 + 2 ^ 8 + scope))
      debugAttempt true scope took t.respBytes t)) ∧
  (∀ password scope resp took, Completes (fun dt => .jtagDebugUnlock dt password scope resp took)
    (fun s => s.powered = true ∧ s.waiting .dbgBusy 0 = false) (debugAttempt password scope took resp)) ∧
  (∀ src, Completes (fun dt => .dbgStatRead dt src) (fun s => s.access src Reg.SEC_DBG_STAT = .ok)
    (fun s => (s.setFldBit (Fld.EVT_RAW_RAW 0) 2 false).emit
      (.readData src [(s.setBit Fld.SEC_DBG_STAT_BUSY (s.waiting .dbgBusy 0)).get Reg.SEC_DBG_STAT])))

/-! ## Register access, mailboxes, rings -/

/-- The commands that access registers complete: a write that passes its checks applies its block's rule or its access types
(R8, R9), a read of a value of several words latches the upper ones (R11), a read clears RC fields (R9), SPI and I2C
transactions (R382 to R384), accepted writes of EVT ROUTE and ENABLE (R464, R465). -/
def Obligations.RegisterAccessComplete : Prop :=
  (∀ src a w took fault f, a < bar2 → ruleOf src a w took fault = some f →
    Completes (fun dt => .registerWrite dt src a w true took fault) (fun s => s.access src a = .ok) f) ∧
  (∀ src a w took fault, a < bar2 → ruleOf src a w took fault = none →
    Completes (fun dt => .registerWrite dt src a w true took fault) (fun s => s.access src a = .ok)
    (plainWrite (unmirror a) w)) ∧
  (∀ src a r, a < pf1 → a / 0x10000 ≠ 2 → leafWin a = none → readRule src a = none → unmirror a = a → viewOf a = none →
    rowOf a = some r → 1 < r.wide.2 → r.wide.1 = 0 → Completes (fun dt => .wideValueRead dt src a)
    (fun s => s.reaches src = true ∧ inSpace src a = true ∧ s.access src a = .ok ∧ s.noPortAt a = false)
    (fun s => (s.refresh a).readValue src a r.wide.2 ((s.refresh a).getWide a r.wide.2))) ∧
  (∀ src a r, a < pf1 → a / 0x10000 ≠ 2 → leafWin a = none → readRule src a = none → unmirror a = a → viewOf a = none →
    rowOf a = some r → r.wide.2 ≤ 1 → accMask [.rc] a < 2 ^ 32 → accMask [.rc] a ≠ 0 → Completes (fun dt => .readClear dt src a)
    (fun s => s.reaches src = true ∧ inSpace src a = true ∧ s.access src a = .ok ∧ s.noPortAt a = false)
    (fun s =>
      let t := s.refresh a
      (t.set a (t.get a &&& ~~~(BitVec.ofNat 32 (accMask [.rc] a)))).emit
        (.readData src [kget t.latched a (t.get a) &&& readMask a]))) ∧
  (∀ b sent f, spiFrame b = some f → f.op ≠ 2 → Completes (fun dt => .spiRead dt b sent) (fun s => s.powered = true)
    (spiRead f sent)) ∧
  (∀ b took fault f, spiFrame b = some f → f.op = 2 → Completes (fun dt => .spiWrite dt b took fault)
    (fun s => s.powered = true ∧ s.spiStatus f = 0)
    (fun s => (s.forAll (List.range f.words) (fun i s => s.writeAt f.src (f.at_ i) (BitVec.ofNat 32 (beAt f.bytes (6 + 4 * i) 4))
      took fault)).emit (.spi (if s.spiErr f then 3 else 0) []))) ∧
  (∀ ptr n, ptr < 256 → Completes (fun dt => .i2cTransaction dt ptr none n) (fun s => s.powered = true)
    (fun s => s.emit (.i2c (((List.range ((n + 3) / 4)).flatMap (fun i =>
      wordBytes (s.i2cWord ((ptr + 4 * i) % 256)))).take n)))) ∧
  (∀ w n, Completes (fun dt => .i2cTransaction dt 0x40 (some w) n) (fun s => s.powered = true) (i2cPower w)) ∧
  (∀ src i w, i < 96 → Completes (fun dt => .evtRouteWrite dt src i w)
    (fun s => s.access src (Reg.EVT_ROUTE i) = .ok ∧ s.evtVisible src i = true ∧ s.routeOk src i w = true)
    (fun s => s.set (Reg.EVT_ROUTE i) (w &&& 0x8007001F#32))) ∧
  (∀ src k w, k < 3 → Completes (fun dt => .evtEnableWrite dt src k w) (fun s => s.access src (Reg.EVT_ENABLE k) = .ok)
    (fun s =>
      let m := BitVec.ofNat 32 (s.evtMask src k &&& evtExists k)
      s.set (Reg.EVT_ENABLE k) ((s.get (Reg.EVT_ENABLE k) &&& ~~~m) ||| (w &&& m))))

/-- The commands of the mailboxes, of messages and of a function's reset complete: a free mailbox takes a request and is
released (R387), a request that breaks the transport is answered (R390), a message held until the host allows it (R391, R392), a
function level reset (R379). -/
def Obligations.MailboxAndMessagesComplete : Prop :=
  (∀ src m, m < 8 → Completes (fun dt => .mailboxSubmit dt src m)
    (fun s => s.access src (Reg.MBX_DOORBELL m) = .ok ∧ s.on (Fld.MBX_STATUS_BUSY m) = false ∧
      s.on (Fld.MBX_STATUS_RESP_READY m) = false)
    (fun s => { s with mbxQueue := s.goOrder m, goAt := kput s.goAt m s.ticks }.raise (Fld.MBX_STATUS_BUSY m))) ∧
  (∀ src m, m < 8 → Completes (fun dt => .mailboxRelease dt src m) (fun s => s.access src (Reg.MBX_STATUS m) = .ok)
    (fun s =>
      let t := s.set (Reg.MBX_STATUS m) (s.get (Reg.MBX_STATUS m) &&& ~~~(2#32))
      { t with quiet := t.quiet.filter (fun x => x != m) })) ∧
  (∀ m, Completes (fun dt => .mailboxTransportError dt m) (fun s => s.fwTakes m = true ∧ s.transportError m ≠ 0)
    (fun s => s.reply m (s.transportError m) 0 [])) ∧
  (∀ v en busMaster masked, v < 32 → Completes (fun dt => .msixPendingSend dt v en busMaster masked)
    (fun s => s.domOn 4 = true)
    (fun s =>
      let t := setFn v { msixEn := en, busMaster := busMaster, masked := masked } s
      if t.on (pbaBit v) = true then t.signalVector v else t)) ∧
  (∀ f, f < 2 → Completes (fun dt => .functionLevelReset dt f) (fun s => s.domOn 4 = true) (functionReset f))

/-- The commands of the DMA rings complete: a legal TAIL (R395), a disable and a PCIe error (R403), the timer of T (R404), a
descriptor fetched, whose frame goes to lookup or to its port (R397, R399), a write-back and a stamp's time-out (R398), a frame
delivered to the ring of its class (R400, R401). -/
def Obligations.RingsComplete : Prop :=
  (∀ src q r w, q < 2 → r < 16 → Completes (fun dt => .tailWrite dt src q r w)
    (fun s => s.access src (Reg.RING_TAIL q r) = .ok ∧ bitsOf w 0 16 < s.ringSize q r)
    (fun s => s.setFld (Fld.RING_TAIL_TAIL q r) (bitsOf w 0 16))) ∧
  (∀ src q r, q < 2 → r < 16 → Completes (fun dt => .ringDisable dt src q r)
    (fun s => s.access src (Reg.RING_CTRL q r) = .ok ∧ s.ringOn q r = true) (fun s => s.ringStop q r)) ∧
  (∀ q r, q < 2 → r < 16 → Completes (fun dt => .dmaPcieError dt q r)
    (fun s => s.domOn 4 = true ∧ s.on (Fld.RING_STAT_STOPPED q r) = false)
    (fun s => ((s.ringStop q r).raise (Fld.RING_STAT_FETCH_ERR q r)).setFldBit
      (if q = 0 then Fld.DMA_ERR_EVT_TX else Fld.DMA_ERR_EVT_RX) r true)) ∧
  (∀ q r, q < 2 → r < 16 → Completes (fun dt => .ringSignalTimer dt q r)
    (fun s => s.domOn 4 = true ∧ s.fld (Fld.RING_SIG_T q r) ≠ 0 ∧ 0 < (s.ring q r).unsignalled ∧
      (s.ring q r).since + s.fld (Fld.RING_SIG_T q r) * usT ≤ s.ticks)
    (fun s => s.ringSignal q r)) ∧
  (∀ d bytes r, dw d 3 18 1 = 0 → Completes (fun dt => .descriptorFetch dt d bytes)
    (fun s => s.domOn 4 = true ∧ s.txPick = some r ∧ s.descBad d = false)
    (fun s =>
      let slot := (s.ring 0 r).next
      let x : Desc := { slot := slot, tsReq := false, tag := dw d 2 16 16, readAt := s.ticks, res := some (0, 0, 0, 0, 0) }
      let t := s.modRing 0 r (fun y => { y with fetched := y.fetched ++ [x], next := (slot + 1) % s.ringSize 0 r })
      let t := { t with txTurn := kput t.txTurn (t.fld (Fld.RING_CTRL_PRIO 0 r)) r }
      if dw d 3 16 1 = 1 then t.sendNamed (t.descFrame r slot d bytes) (dw d 3 0 9) else t.toHeader (t.descFrame r slot d bytes) t.phys)) ∧
  (∀ r x rest res, r < 16 → Completes (fun dt => .txWriteback dt r)
    (fun s => s.domOn 4 = true ∧ (s.ring 0 r).fetched = x :: rest ∧ x.res = some res)
    (fun s => ((s.modRing 0 r (fun y => { y with fetched := rest })).writeBack 0 r x.slot (txWords x res)).ringIdle r)) ∧
  (∀ r, r < 16 → Completes (fun dt => .tsTimeout dt r) (fun s => s.domOn 4 = true) (tsTimeout r)) ∧
  (∀ buf c x rest, Completes (fun dt => .rxDelivery dt buf)
    (fun s =>
      let t := s.setQueue 258 c rest
      s.domOn 4 = true ∧ s.rxClass = some c ∧ s.queue 258 c = x :: rest ∧ t.ringOn 1 (s.rxRing x.f) = true ∧
      (s.egressBytes x.f 258).length ≤ t.bufBytes (s.rxRing x.f))
    (fun s =>
      let r := s.rxRing x.f
      let b := s.egressBytes x.f 258
      let t := (s.setQueue 258 c rest).takenAt 258 x
      let t := t.emit (.hostWrite (t.ringWorld 1 r) buf b)
      t.writeBack 1 r (t.ringHead 1 r) (rxWords x.f b.length)))

/-! ## Mailbox commands (R406 to R414) -/

/-- The commands of the SYS, TIME and ACT families complete for a well-formed request that no check of R408 refuses: identity, a
Leaf in service drained, an OFF one started, a FAULT one stopped, Leaf registers written (R411, R412), network time read and
armed (R51), an entry written, read or cancelled by the firmware through its world's interface (R66 to R68, R424), a broadcast
(R424). -/
def Obligations.SystemAndTimeRequestsComplete : Prop :=
  (∀ m, Completes (fun dt => .sysInfo dt m) (fun s => AtRequest m 0x0101 0 s ∧ s.barred m Reg.SYS_ID0 = false)
    (fun s => s.answer m (s.wordsAt Reg.SYS_ID0 3 ++ s.wordsAt Reg.SYS_FW_VER 1 ++ s.wordsAt Reg.SYS_BOOT_GEN 1 ++
      s.wordsAt Reg.SYS_BOOT_STATUS 1))) ∧
  (∀ m, Completes (fun dt => .leafDrain dt m)
    (fun s => AtRequest m 0x0102 12 s ∧ s.barred m Reg.SYS_LEAF_STATE = false ∧ s.arg m 0 < s.leaves ∧ s.arg m 0 < 8 ∧
      1000 ≤ s.arg m 1 ∧ s.arg m 1 ≤ 1000000 ∧ s.arg m 2 ≤ 1 ∧ (s.leaf (s.arg m 0) = 4 ∨ s.leaf (s.arg m 0) = 6))
    (fun s =>
      let lim := s.arg m 1 * usT
      let t := { s with drainLimit := kput s.drainLimit (s.arg m 0) lim }.leafDrain (s.arg m 0) lim (s.arg m 2 == 1)
      t.answer m [t.leafWord])) ∧
  (∀ m, Completes (fun dt => .leafStart dt m)
    (fun s => AtRequest m 0x0103 4 s ∧ s.barred m Reg.SYS_LEAF_STATE = false ∧ s.arg m 0 < s.leaves ∧ s.arg m 0 < 8 ∧
      s.on Fld.PWR_STATE_BUSY = false ∧ s.leaf (s.arg m 0) = 1)
    (fun s => (s.request (8 + s.arg m 0)).answer m [(s.request (8 + s.arg m 0)).leafWord])) ∧
  (∀ m, Completes (fun dt => .leafStop dt m)
    (fun s => AtRequest m 0x0104 4 s ∧ s.barred m Reg.SYS_LEAF_STATE = false ∧ s.arg m 0 < s.leaves ∧ s.arg m 0 < 8 ∧
      s.leaf (s.arg m 0) = 6)
    (fun s =>
      let t := { s with restarts := s.restarts.filter (fun x => x != s.arg m 0) }.leafOff (s.arg m 0)
      t.answer m [t.leafWord])) ∧
  (∀ m n, 1 ≤ n → n ≤ 255 → Completes (fun dt => .leafWrite dt m)
    (fun s => AtRequest m 0x0105 (4 + 8 * n) s ∧ s.arg m 0 = n ∧ ∀ e ∈ s.leafPairs m, s.barred m e.1 = false ∧
      s.absentAt e.1 = false ∧ s.laterLane e.1 = false ∧ leafWritable e.1 = true ∧ s.domainAt e.1 = true)
    (fun s => ((s.leafPairs m).foldl (fun s (e : Nat × Word) => s.leafPut e.1 e.2) s).answer m [n])) ∧
  (∀ m, Completes (fun dt => .timeGet dt m) (fun s => AtRequest m 0x0501 0 s)
    (fun s => s.answer m ((timeWords s.now).map (fun w => w.toNat) ++ s.wordsAt Reg.TIME_STATUS 1))) ∧
  (∀ m v, Completes (fun dt => .timeSet dt m) (fun s => AtRequest m 0x0502 12 s ∧ timeOfRaw (s.arg96 m 0) = some v)
    (fun s =>
      let t := (s.dropHeld Reg.TIME_SET0 3).setWide Reg.TIME_SET0 3 (s.arg96 m 0)
      ({ t with setLoad := some (v, t.now / secU) }.raise Fld.TIME_STATUS_SET_PENDING).answer m [])) ∧
  (∀ m e, Completes (fun dt => .actWrite dt m)
    (fun s =>
      let i := if s.arg m 0 = 0xFFFFFFFF then none else some (s.arg m 0)
      s.waiting .actBusy (worldOf m) = false ∧ AtRequest m 0x0601 36 s ∧ (s.arg m 0 < 256 ∨ s.arg m 0 = 0xFFFFFFFF) ∧
      (s.actCommand (worldOf m) i (s.entryArgs m 1)).1 = 0 ∧ (s.actCommand (worldOf m) i (s.entryArgs m 1)).2.2.1 = e)
    (fun s =>
      let i := if s.arg m 0 = 0xFFFFFFFF then none else some (s.arg m 0)
      (s.actCommand (worldOf m) i (s.entryArgs m 1)).2.2.2.answer m [e])) ∧
  (∀ m, Completes (fun dt => .actRead dt m)
    (fun s => s.waiting .actBusy (worldOf m) = false ∧ AtRequest m 0x0602 4 s ∧ s.arg m 0 < 256 ∧
      s.actWorld (s.arg m 0) = worldOf m)
    (fun s =>
      let t := actCmd (worldOf m) 2 (s.arg m 0) 0 s
      t.answer m (t.wordsAt (Reg.TIME_ACT_ENTRY (worldOf m) 0) 8 ++ t.wordsAt (Reg.TIME_ACT_STAT (worldOf m)) 1))) ∧
  (∀ m, Completes (fun dt => .actCancel dt m)
    (fun s => s.waiting .actBusy (worldOf m) = false ∧ AtRequest m 0x0603 4 s ∧ s.arg m 0 < 256 ∧
      s.actWorld (s.arg m 0) = worldOf m ∧
      (actCmd (worldOf m) 3 (s.arg m 0) 0 s).fld (Fld.TIME_ACT_STAT_RESULT (worldOf m)) = resOk)
    (fun s => (actCmd (worldOf m) 3 (s.arg m 0) 0 s).answer m [])) ∧
  (∀ m, Completes (fun dt => .actBroadcast dt m)
    (fun s => s.waiting .actBusy (worldOf m) = false ∧ AtRequest m 0x0604 40 s ∧ s.arg m 0 < 16 ∧ 1 ≤ s.arg m 1 ∧
      s.arg m 1 ≤ 15 ∧ (s.actCommand (worldOf m) none (s.entryArgs m 2)).1 = 0)
    (fun s =>
      let t := (s.actCommand (worldOf m) none (s.entryArgs m 2)).2.2.2
      let seq := (t.bseq + 1) % 65536
      let ports := t.bcastPorts (s.arg m 0)
      ({ t with bseq := seq }.bcastSend ports (t.fld Fld.CLM_ID_SERIAL) seq (s.arg m 0) (s.arg m 1) (s.entryArgs m 2)).answer m
        [seq, ports.length]))

/-- The commands of the PARAM family complete for a well-formed request that no check refuses: a value read, staged, a set
committed whole, discarded, listed, its state (R415 to R422). -/
def Obligations.ParameterRequestsComplete : Prop :=
  (∀ m, Completes (fun dt => .paramGet dt m)
    (fun s => AtRequest m 0x0201 4 s ∧ (worldOf m = 0 → s.keySecure (s.arg m 0) = false) ∧ s.keyAbsent (s.arg m 0) = false ∧
      (paramSpec (s.arg m 0)).isSome = true)
    (fun s => s.answer m (s.arg m 0 :: twoWords (s.param (s.arg m 0))))) ∧
  (∀ m p, Completes (fun dt => .paramStage dt m)
    (fun s =>
      let (i, k) := (s.arg m 0, s.arg m 1)
      AtRequest m 0x0202 16 s ∧ (worldOf m = 0 → s.keySecure k = false) ∧ s.psetForeign i (worldOf m) = false ∧
      s.keyAbsent k = false ∧ paramSpec k = some p ∧ i < 16 ∧ p.inRange (paramValue p (s.arg m 2) (s.arg m 3)) = true ∧
      s.setLocked i = false ∧ ((s.pset i).entries.length < 512 ∨ (kfind (s.pset i).entries k).isSome = true))
    (fun s =>
      let i := s.arg m 0
      let e := kput (s.pset i).entries (s.arg m 1) (paramValue p (s.arg m 2) (s.arg m 3))
      (s.setPset i { s.pset i with world := worldOf m, entries := e }).answer m [i, e.length])) ∧
  (∀ m, Completes (fun dt => .paramCommit dt m)
    (fun s => s.waiting .actBusy (worldOf m) = false ∧ AtRequest m 0x0203 28 s ∧ s.arg m 1 = 0 ∧ s.arg m 0 < 16 ∧
      s.psetForeign (s.arg m 0) (worldOf m) = false ∧ (s.commitStaged (s.arg m 0) (s.arg64 m 5) false).1 = none)
    (fun s => (s.commitStaged (s.arg m 0) (s.arg64 m 5) false).2.answer m [s.arg m 0, 0xFFFFFFFF])) ∧
  (∀ m e t, Completes (fun dt => .paramCommit dt m)
    (fun s => s.waiting .actBusy (worldOf m) = false ∧ AtRequest m 0x0203 28 s ∧ s.arg m 1 = 1 ∧ s.arg m 0 < 16 ∧
      s.psetForeign (s.arg m 0) (worldOf m) = false ∧ timeOfRaw (s.arg96 m 2) = some t ∧
      (s.actRequest (worldOf m) none (s.commitEntry m)).1 = 0 ∧ (s.actRequest (worldOf m) none (s.commitEntry m)).2.2.1 = e)
    (fun s => (s.actRequest (worldOf m) none (s.commitEntry m)).2.2.2.answer m [s.arg m 0, e])) ∧
  (∀ m, Completes (fun dt => .paramDiscard dt m)
    (fun s => AtRequest m 0x0204 4 s ∧ s.psetForeign (s.arg m 0) (worldOf m) = false ∧ s.arg m 0 < 16 ∧
      s.setLocked (s.arg m 0) = false)
    (fun s => (s.setPset (s.arg m 0) { s.pset (s.arg m 0) with entries := [] }).answer m [s.arg m 0])) ∧
  (∀ m, worldOf m = 1 → Completes (fun dt => .paramList dt m) (fun s => AtRequest m 0x0205 8 s ∧ s.arg m 0 < 256)
    (fun s =>
      let l := (s.classKeys (s.arg m 0)).filter (fun k => decide (s.arg m 1 ≤ k))
      let shown := l.take 127
      s.answer m ([((l.drop 127).head?).getD 0xFFFFFFFF, shown.length] ++ shown.flatMap (fun k => s.describe k)))) ∧
  (∀ m, Completes (fun dt => .paramStatus dt m)
    (fun s => AtRequest m 0x0206 4 s ∧ s.psetForeign (s.arg m 0) (worldOf m) = false ∧ s.arg m 0 < 16)
    (fun s =>
      let x := s.pset (s.arg m 0)
      s.answer m [s.psetState (s.arg m 0), x.entries.length, x.lastTag % 2 ^ 32, x.lastTag / 2 ^ 32, x.lastResult, x.failKey]))

/-- The commands of the TABLE and PORT families complete for a well-formed request of a secure mailbox that no check refuses: a
table command on every Leaf of the mask (R410), a port's entries flushed, a bank copied (R157), MODE and ADMIN set (R74, R111,
R411), status, a module's bytes (R412, R413), an LLDP neighbour (R429). -/
def Obligations.TableAndPortRequestsComplete : Prop :=
  (∀ m, worldOf m = 1 → Completes (fun dt => .tableOp dt m)
    (fun s =>
      let ctrl := s.arg m 1
      let l := s.maskLeaves (s.arg m 0)
      s.tablesIdle 1 = true ∧ AtRequest m 0x0301 48 s ∧ (∀ n ∈ l, s.leafOn n = true) ∧ l ≠ [] ∧ s.arg m 0 < 256 ∧
      ctrlOk ctrl = true ∧ (ctrl / 2 ^ 24 % 16 = 1 ∨ ctrl / 2 ^ 24 % 16 = 5 → l.length ≤ 1) ∧ s.groupHeld (s.arg m 2) = false)
    (fun s =>
      let e : TEntry := { data := (s.entryArgs m 4).map (fun w => w.toNat), xdata := s.arg m 3 }
      let x := (s.maskLeaves (s.arg m 0)).foldl (fun (r : List Nat × State) n =>
        (r.1 ++ (r.2.fwTable 1 n (s.arg m 1) (s.arg m 2) e).1, (r.2.fwTable 1 n (s.arg m 1) (s.arg m 2) e).2)) ([], s)
      x.2.answer m x.1)) ∧
  (∀ m, worldOf m = 1 → Completes (fun dt => .tableFlushPort dt m)
    (fun s =>
      let l := s.maskLeaves (s.arg m 0)
      AtRequest m 0x0302 12 s ∧ s.isPort (s.arg m 1) = true ∧ (∀ n ∈ l, s.leafOn n = true ∧ s.tableRefuses n 0 = false) ∧
      l ≠ [] ∧ s.arg m 0 < 256 ∧ s.arg m 2 ≤ 1)
    (fun s =>
      let l := s.maskLeaves (s.arg m 0)
      (s.forAll l (fun n s' => s'.dropEntries n 0 (s'.macOfPort n (s.arg m 1) (s.arg m 2 == 1)))).answer m
        ((List.range 8).map (fun n => if l.contains n then (s.macOfPort n (s.arg m 1) (s.arg m 2 == 1)).length else 0)))) ∧
  (∀ m, worldOf m = 1 → Completes (fun dt => .bankCopy dt m)
    (fun s =>
      let l := s.maskLeaves (s.arg m 0)
      AtRequest m 0x0303 8 s ∧ (∀ n ∈ l, s.leafOn n = true ∧
        ∀ i ∈ copyPairs (s.arg m 1), s.tableRefuses n (bankTable i (1 - s.bankBit n i)) = false) ∧
      l ≠ [] ∧ s.arg m 0 < 256 ∧ s.arg m 1 < 8)
    (fun s => (s.forAll (s.maskLeaves (s.arg m 0)) (fun n s' =>
      s'.forAll (copyPairs (s.arg m 1)) (fun i s' => s'.bankCopy n i))).answer m [])) ∧
  (∀ m, worldOf m = 1 → Completes (fun dt => .portMode dt m)
    (fun s =>
      let p := s.arg m 0
      AtRequest m 0x0401 12 s ∧ s.laneExists p = true ∧ (s.portOfLane p = none ∨ s.portOfLane p = some p) ∧
      s.dieOn p = true ∧ s.modeRefused p (s.arg m 1) (s.arg m 2) = false)
    (fun s =>
      let p := s.arg m 0
      let t := (s.laneOff p).leafPut (Reg.PORT_MODE p) (BitVec.ofNat 32 (s.arg m 1 + 2 ^ 8 * s.arg m 2))
      (t.writeAt .core (Reg.LANE_CTRL p) (s.get (Reg.LANE_CTRL p)) 0 false).answer m [])) ∧
  (∀ m, worldOf m = 1 → Completes (fun dt => .portAdmin dt m)
    (fun s => AtRequest m 0x0402 8 s ∧ s.isPort (s.arg m 0) = true ∧ s.dieOn (s.arg m 0) = true ∧ s.arg m 1 ≤ 1)
    (fun s =>
      let p := s.arg m 0
      let t := s.portAdmin p s.now (s.arg m 1 == 1)
      let t := if p < 256 then { t with shadows := kmod t.shadows (p / 32) {} (fun (x : Shadow) => { x with
        admin := kput x.admin p (s.arg m 1 == 1) }) } else t
      t.answer m [])) ∧
  (∀ m present, worldOf m = 1 → Completes (fun dt => .portStatus dt m present)
    (fun s => AtRequest m 0x0403 4 s ∧ s.isPort (s.arg m 0) = true ∧ s.arg m 0 < 258 ∧ s.dieOn (s.arg m 0) = true)
    (fun s =>
      let p := s.arg m 0
      s.answer m ((List.range 4).map (fun i => (((s.lanesOf p)[i]?).map (fun g => (s.get (Reg.LANE_STATE g)).toNat)).getD 0) ++
        [(s.get (Reg.PORT_STATUS p)).toNat, (if present then 1 else 0) + (if present && (s.port p).modReady then 2 else 0)]))) ∧
  (∀ m sff data, worldOf m = 1 → Completes (fun dt => .moduleRead dt m true sff (some data))
    (fun s => AtRequest m 0x0404 20 s ∧ s.isPort (s.arg m 0) = true ∧ s.arg m 0 < 256 ∧ s.dieOn (s.arg m 0) = true ∧
      s.arg m 1 < 256 ∧ s.arg m 2 < 256 ∧ s.arg m 3 + s.arg m 4 ≤ 256 ∧ 1 ≤ s.arg m 4 ∧ s.arg m 4 ≤ 128 ∧
      (sff = true → s.arg m 1 = 0))
    (fun s => s.reply m 0 0 ((data ++ zeros (s.arg m 4)).take (s.arg m 4)))) ∧
  (∀ m sff n, worldOf m = 1 → Completes (fun dt => .moduleWrite dt m true sff true)
    (fun s => AtRequest m 0x0405 (20 + n) s ∧ s.isPort (s.arg m 0) = true ∧ s.arg m 0 < 256 ∧ s.dieOn (s.arg m 0) = true ∧
      s.arg m 1 < 256 ∧ s.arg m 2 < 256 ∧ s.arg m 3 + n ≤ 256 ∧ s.arg m 4 = n ∧ 1 ≤ n ∧ n ≤ 128 ∧ (sff = true → s.arg m 1 = 0))
    (fun s => (s.emit (.module (s.arg m 0) (s.arg m 1) (s.arg m 2) (s.arg m 3) (s.argBytes m 20 n))).answer m [])) ∧
  (∀ p, p < 256 → Completes (fun dt => .moduleReady dt p)
    (fun s => s.fwRuns = true ∧ s.namesPort p = true ∧ s.dieOn p = true)
    (fun s => s.modPort p (fun x => { x with modReady := true }))) ∧
  (∀ m x, Completes (fun dt => .lldpNeighbour dt m)
    (fun s => AtRequest m 0x0406 4 s ∧ s.namesPort (s.arg m 0) = true ∧ kfind s.neighbours (s.arg m 0) = some x)
    (fun s => s.reply m 0 0 (payload [(s.ticks - x.at_) / secT] ++ (x.chassis ++ zeros 256).take 256 ++
      (x.portId ++ zeros 256).take 256 ++ (x.sysName ++ zeros 256).take 256)))

/-- The commands of the REF, DPLL, SYN, GNSS, CLAIM, POWER and TELEM families complete for a well-formed request of a secure
mailbox that no check refuses: they answer the registers' words (R409), or act as the register does (R267, R325, R450 to
R453), or pass a PMBus transaction (R346). -/
def Obligations.ClockAndPowerRequestsComplete : Prop :=
  (∀ m, worldOf m = 1 → Completes (fun dt => .refStatus dt m) (AtRequest m 0x0701 0)
    (fun s => s.answer m (s.shownAt ((List.range 16).flatMap (fun i => [Reg.REF_SLOT_STAT i, Reg.REF_SLOT_FOFF i]))))) ∧
  (∀ m, worldOf m = 1 → Completes (fun dt => .dpllStatus dt m) (fun s => AtRequest m 0x0801 4 s ∧ s.arg m 0 < 3)
    (fun s => s.answer m (s.shownAt [Reg.DPLL_STAT (s.arg m 0)] ++ s.wordsAt (Reg.DPLL_FREQ_NOW0 (s.arg m 0)) 2 ++
      s.wordsAt (Reg.DPLL_OFFSET0 (s.arg m 0)) 2 ++ s.wordsAt (Reg.DPLL_HO_BOUND (s.arg m 0)) 1))) ∧
  (∀ m, worldOf m = 1 → Completes (fun dt => .dpllReturn dt m)
    (fun s => AtRequest m 0x0802 8 s ∧ s.arg m 0 < 3 ∧ 1 ≤ s.arg m 1 ∧ s.arg m 1 ≤ 3 ∧
      s.on (Fld.DPLL_STAT_RETURN_PENDING (s.arg m 0)) = true)
    (fun s => (dpllReturn (s.arg m 0) (s.arg m 1) s).answer m [])) ∧
  (∀ m, worldOf m = 1 → Completes (fun dt => .synStatus dt m) (AtRequest m 0x0901 0)
    (fun s => s.answer m (s.shownAt ((List.range 3).map Reg.APLL_STAT ++ (List.range 12).map Reg.OUT_STAT)))) ∧
  (∀ m, worldOf m = 1 → Completes (fun dt => .gnssStatus dt m) (AtRequest m 0x0A01 0)
    (fun s => s.answer m (s.wordsAt Reg.GNSS_SOL_STAT 1 ++ s.wordsAt Reg.GNSS_SOL_OFFSET0 2 ++ s.wordsAt Reg.GNSS_FW_EVT 1 ++
      [(allChans.filter (fun c => s.chanState c == 2)).length]))) ∧
  (∀ m, worldOf m = 1 → Completes (fun dt => .gnssSurvey dt m) (AtRequest m 0x0A02 0)
    (fun s => (s.modGnss (fun g => { g with position := none, surveyAt := s.ticks })).answer m [])) ∧
  (∀ m, worldOf m = 1 → Completes (fun dt => .claimStatus dt m) (fun s => AtRequest m 0x0B01 4 s ∧ s.arg m 0 < 16)
    (fun s => s.answer m (s.shownAt ((List.range 8).map (fun i => Reg.CLM_DOM_CFG (s.arg m 0) + 4 * i))))) ∧
  (∀ m, worldOf m = 1 → Completes (fun dt => .claimNotice dt m)
    (fun s =>
      let (d, op, x) := (s.arg m 0, s.arg m 1, s.arg m 2)
      AtRequest m 0x0B02 12 s ∧ d < 16 ∧ (op = 1 ∨ op = 2) ∧ (x = s.peer d 0 ∨ x = s.peer d 1) ∧ 2 ≤ s.role d)
    (fun s =>
      let t := clmCmd (clmCmdWord (s.arg m 1) (s.arg m 0) (s.arg m 2)) s
      t.answer m [t.fld (Fld.CLM_DOM_NOTICE_GEN (s.arg m 0))])) ∧
  (∀ m, worldOf m = 1 → Completes (fun dt => .powerStatus dt m) (AtRequest m 0x0C01 0)
    (fun s => s.answer m (s.shownAt ([Reg.PWR_STATE, Reg.PWR_GRANT, Reg.PWR_THROTTLE] ++ allRegs.map Reg.PWR_REG_STAT)))) ∧
  (∀ m data n, worldOf m = 1 → n ≤ 32 → Completes (fun dt => .pmbusXfer dt m (some data))
    (fun s => AtRequest m 0x0C02 (20 + n) s ∧ s.arg m 0 < 128 ∧ s.arg m 1 < 256 ∧ s.arg m 2 < 256 ∧ s.arg m 3 = n ∧
      s.arg m 4 ≤ 32)
    (fun s => (s.emit (.pmbus (s.arg m 0) (s.arg m 1) (s.arg m 2) (s.argBytes m 20 n))).reply m 0 0
      ((data ++ zeros (s.arg m 4)).take (s.arg m 4)))) ∧
  (∀ m, worldOf m = 1 → Completes (fun dt => .snapshot dt m)
    (fun s => AtRequest m 0x0F01 12 s ∧ s.actValid 0x02 (s.arg m 0) (s.arg64 m 1) = true ∧ s.snapOpen = true)
    (fun s => (snapBegin (s.arg64 m 1) (s.arg m 0) s.now s).answer m [])) ∧
  (∀ m, worldOf m = 1 → Completes (fun dt => .freeze dt m) (fun s => AtRequest m 0x0F02 4 s ∧ s.arg m 0 ≤ 1)
    (fun s => (telFreeze (s.arg m 0 == 1) s).answer m [])) ∧
  (∀ m, worldOf m = 1 → Completes (fun dt => .userWindow dt m) (fun s => AtRequest m 0x0F03 8 s ∧ s.arg64 m 0 < 32)
    (fun s => (s.setFld Fld.TEL_USER_MASK_GROUPS (s.arg m 0)).answer m []))

/-- The commands of the IMAGE, SEC and CAL families complete for a well-formed request that no check refuses: flash erased,
written and read outside the running slot, a slot checked (R356, R414), activated (R372), status, a warm reset 10 ms after its
answer (R352), a calibration queued (R437) and its last result (R440). -/
def Obligations.ImageAndCalibrationRequestsComplete : Prop :=
  (∀ m, Completes (fun dt => .flashErase dt m true)
    (fun s => AtRequest m 0x0D01 12 s ∧ s.arg m 0 < 2 ∧ s.arg m 1 % 4096 = 0 ∧ s.arg m 2 % 4096 = 0 ∧
      s.arg m 1 + s.arg m 2 ≤ slotBytes ∧ s.slotRuns (s.arg m 0) = false)
    (fun s => { s with flash := flashErase s.flash (s.arg m 0 * slotBytes + s.arg m 1) (s.arg m 2) }.answer m [])) ∧
  (∀ m n, n % 4 = 0 → 4 ≤ n → n ≤ 4064 → Completes (fun dt => .flashWrite dt m true)
    (fun s => AtRequest m 0x0D02 (8 + n) s ∧ s.arg m 0 < 2 ∧ s.arg m 1 + n ≤ slotBytes ∧ s.slotRuns (s.arg m 0) = false)
    (fun s => { s with flash := flashPut s.flash (s.arg m 0 * slotBytes + s.arg m 1) (s.argBytes m 8 n) }.answer m [])) ∧
  (∀ m, Completes (fun dt => .flashRead dt m true)
    (fun s => AtRequest m 0x0D03 12 s ∧ s.arg m 0 < 2 ∧ 4 ≤ s.arg m 2 ∧ s.arg m 2 ≤ 4072 ∧ s.arg m 1 + s.arg m 2 ≤ slotBytes)
    (fun s => s.reply m 0 0 (s.imgBytes (s.arg m 0) (s.arg m 1) (s.arg m 2)))) ∧
  (∀ m, Completes (fun dt => .imageCheck dt m true)
    (fun s => AtRequest m 0x0D04 4 s ∧ s.arg m 0 < 2)
    (fun s =>
      let r := s.validateSlot (s.arg m 0) true
      if r = 0 then s.answer m [leAt (s.imgBytes (s.arg m 0) 0 320) 8 4, leAt (s.imgBytes (s.arg m 0) 0 320) 12 4,
        s.genOf (s.arg m 0)]
      else s.reply m stImageBad r [])) ∧
  (∀ m, Completes (fun dt => .imageActivate dt m true)
    (fun s => AtRequest m 0x0D05 4 s ∧ s.arg m 0 < 2 ∧ s.boot.activate = none ∧ s.bootState ≠ bootUpdating)
    (fun s =>
      let r := s.validateSlot (s.arg m 0) true
      if r ≠ 0 then s.reply m stImageBad r []
      else if s.sameWorld (s.arg m 0) = true then (s.modBoot (fun b => { b with activate := some (s.arg m 0) })).answer m []
      else s.draw.2.reply m stImageBad (s.draw.1.toNat % 16) [])) ∧
  (∀ m, Completes (fun dt => .secStatus dt m) (AtRequest m 0x0E01 0)
    (fun s =>
      let t := s.setFldBit (Fld.EVT_RAW_RAW 0) 2 false
      t.answer m (s.shownAt [Reg.SEC_FUSE, Reg.SEC_WORLD, Reg.SEC_DBG_STAT]))) ∧
  (∀ m, Completes (fun dt => .warmReset dt m)
    (fun s => s.due .warmCmd 0 = false ∧ AtRequest m 0x0E02 0 s ∧ s.running .warmCmd 0 = false)
    (fun s => (s.startTimer .warmCmd 0 (10 * msT)).answer m [])) ∧
  (∀ m, Completes (fun dt => .warmReset dt m) (fun s => s.due .warmCmd 0 = true)
    (fun s => warmReset Fld.SYS_RESET_CAUSE_WARM_CMD (s.fld Fld.SYS_BOOT_STATUS_BOOTSEL) s)) ∧
  (∀ m, worldOf m = 1 → Completes (fun dt => .calRun dt m)
    (fun s => AtRequest m 0x1001 8 s ∧ s.calAbsent (s.arg m 0) (s.arg m 1) = false ∧
      s.calUnpowered (s.arg m 0) (s.arg m 1) = false ∧ s.calRefusal (s.arg m 0) (s.arg m 1) = 0)
    (fun s => s.calQueue (s.arg m 0) (s.arg m 1) (3 + m))) ∧
  (∀ m, worldOf m = 1 → Completes (fun dt => .bandCal dt m)
    (fun s => AtRequest m 0x0902 4 s ∧ s.arg m 0 < 3 ∧ s.domOn (s.arg m 0) = true ∧ s.apllState (s.arg m 0) < 2 ∧
      s.calRefusal 3 (s.arg m 0) = 0)
    (fun s => s.calQueue 3 (s.arg m 0) (3 + m))) ∧
  (∀ m t0, worldOf m = 1 → Completes (fun dt => .calStatus dt m)
    (fun s => AtRequest m 0x1002 8 s ∧ s.calAbsent (s.arg m 0) (s.arg m 1) = false ∧
      s.calKnown (s.arg m 0) (s.arg m 1) = true ∧ kfind s.cal.resAt (calKey (s.arg m 0) (s.arg m 1)) = some t0)
    (fun s => s.answer m [(s.get (Reg.CAL_RES (s.arg m 0 - 1) (s.arg m 1))).toNat, (s.ticks - t0) / secT]))

/-! ## Calibration, telemetry, services -/

/-- The commands of the calibration engine and the monitors complete: a request of a known instance with a free place in the
queue, an automatic run that falls due (R437, R439), the head of the queue started with its preconditions met (R438), a run
completed with a correction in range (R434, R435, R440), a conversion (R441, R442). -/
def Obligations.CalibrationComplete : Prop :=
  (∀ src w item inst, w < 2 → item < 16 → inst < 512 → Completes (fun dt => .calRequest dt src w item inst)
    (fun s =>
      let t := s.storeRw (Reg.CAL_REQ w) (BitVec.ofNat 32 (2 ^ 31 + item * 2 ^ 24 + inst))
      s.access src (Reg.CAL_REQ w) = .ok ∧ s.on (Fld.CAL_REQ_STAT_BUSY w) = false ∧ t.calRefusal item inst = 0)
    (fun s =>
      let t := s.storeRw (Reg.CAL_REQ w) (BitVec.ofNat 32 (2 ^ 31 + item * 2 ^ 24 + inst))
      ((t.raise (Fld.CAL_REQ_STAT_BUSY w)).setFld (Fld.CAL_REQ_STAT_DONE w) 0).calQueue item inst w)) ∧
  (∀ item inst, Completes (fun dt => .calSchedule dt item inst)
    (fun s => s.powered = true ∧ s.calKnown item inst = true ∧ s.on (Fld.CAL_ITEM_CFG_PERIOD item) = true ∧
      kget s.cal.dueAt (calKey item inst) 0 + s.fld (Fld.CAL_ITEM_CFG_PERIOD item) * secT ≤ s.ticks)
    (fun s =>
      let t := s.modCal (fun c => { c with dueAt := kput c.dueAt (calKey item inst) s.ticks })
      if t.calRefusal item inst = 0 then t.calQueue item inst 2 else t)) ∧
  (∀ r rest, Completes (fun dt => .calRunStart dt)
    (fun s => s.powered = true ∧ s.cal.runs.length < 8 ∧ s.cal.queue = r :: rest ∧
      (s.modCal (fun c => { c with queue := rest })).calPrecondition r.item r.inst = 0)
    (fun s =>
      let t := s.modCal (fun c => { c with queue := rest })
      (t.modCal (fun c => { c with runs := c.runs ++ [{ r with at_ := t.ticks }] })).calHold r.item r.inst)) ∧
  (∀ item inst dac el bands r m e v, Completes (fun dt => .calRunComplete dt item inst dac el bands)
    (fun s => s.cal.runs.find? (fun r => r.item == item && r.inst == inst) = some r ∧
      s.calResult r.item r.inst dac el bands = some (m, e, v))
    (fun s =>
      let w := BitVec.ofNat 32 (m * 2 ^ 26 + e % 256 * 2 ^ 16 + unsigned 16 v)
      let t := (((s.raise Fld.CAL_EVT_DONE).calApply r.item r.inst bands).calEnd r w)
      t.modCal (fun c => { c with applied := kput c.applied (calKey r.item r.inst) w }))) ∧
  (∀ m value, m < 10 → Completes (fun dt => .monitorConversion dt false m value)
    (fun s => s.monOn (tempInst m) = true ∧ calHas s.cal.runs 6 (tempInst m) = false)
    (fun s =>
      let before := !s.on (Fld.CAL_MON_TEMP_VALID m) || s.tempIn m (s.fldInt (Fld.CAL_MON_TEMP_VALUE m))
      let t := s.set (Reg.CAL_MON_TEMP m) (BitVec.ofNat 32 (2 ^ 31 + unsigned 16 value))
      let t := if before && !t.tempIn m value then t.setFldBit Fld.CAL_MON_TEMP_EVT_CROSS m true else t
      if m = 0 then t.forAll [0, 1, 2] (fun d s => if s.fld (Fld.DPLL_HO_CFG_TEMP_SRC d) = 0 then s.dpllTemp d value else s)
      else t.judgeTemp (if m = 1 then 8 else m - 2) value)) ∧
  (∀ v mv, v < 27 → mv < 65536 → Completes (fun dt => .monitorConversion dt true v (mv : Nat))
    (fun s => s.monOn (voltInst v) = true ∧ calHas s.cal.runs 6 (voltInst v) = false)
    (fun s =>
      let before := !s.on (Fld.CAL_MON_VOLT_VALID v) || s.voltIn v (s.fld (Fld.CAL_MON_VOLT_MV v))
      let t := s.set (Reg.CAL_MON_VOLT v) (BitVec.ofNat 32 (2 ^ 31 + mv))
      if before && !t.voltIn v mv then t.setFldBit Fld.CAL_MON_VOLT_EVT_CROSS v true else t))

/-- The commands of telemetry complete: the live view frozen or not (R450), a snapshot begun and its banks swapped (R451, R452),
the sampler's control written with SEL below 3 while it is off, its store flushed, a record read (R454, R457). -/
def Obligations.TelemetryComplete : Prop :=
  (∀ src on, Completes (fun dt => .freezeWrite dt src on) (fun s => s.access src Reg.TEL_CTRL = .ok)
    (fun s => ({ s with frozen := if on then some (s.frozen.getD s.cnt) else none }.setBit Fld.TEL_CTRL_FREEZE on).setBit
      Fld.TEL_CTRL_FROZEN on)) ∧
  (∀ src target, target < 512 → Completes (fun dt => .snapReq dt src target)
    (fun s => s.access src Reg.TEL_SNAP_REQ = .ok ∧ groupsOk (s.getWide Reg.TEL_SNAP_MASK0 2) = true ∧ s.snapOpen = true)
    (fun s =>
      let t := s.storeRw Reg.TEL_SNAP_REQ (BitVec.ofNat 32 (2 ^ 31 + target))
      snapBegin (s.getWide Reg.TEL_SNAP_MASK0 2) target t.now t)) ∧
  (∀ x, Completes (fun dt => .snapshotSwap dt) (fun s => s.snap = some x) (snapSwap x)) ∧
  (∀ src n w, n < 8 → bitsOf w 28 2 ≠ 3 → bitsOf w 30 1 = 0 → bitsOf w 31 1 = 1 →
    Completes (fun dt => .samplerCtrlWrite dt src n 0 w)
    (fun s => s.access src (Reg.SMP_CTRL n) = .ok ∧ s.on (Fld.SMP_CTRL_EN n) = false)
    (fun s =>
      let t := (s.storeRw (Reg.SMP_CTRL n) w).smpStop n
      t.modDie n (fun d => { d with lfsr := t.get (Reg.SMP_SEED n) }))) ∧
  (∀ src n e w, n < 8 → 1 ≤ e → e < 4 → (e = 1 → w ≠ 0#32) → Completes (fun dt => .samplerCtrlWrite dt src n e w)
    (fun s => s.access src (Reg.SMP_CTRL n + 4 * e) = .ok ∧ s.on (Fld.SMP_CTRL_EN n) = false)
    (fun s => s.storeRw (Reg.SMP_CTRL n + 4 * e) w)) ∧
  (∀ src n, n < 8 → Completes (fun dt => .samplerFlush dt src n) (fun s => s.access src (Reg.SMP_CTRL n) = .ok)
    (fun s => (((s.modDie n (fun d => { d with recs := [] })).setFld (Fld.SMP_STAT_STOPPED n) 0).set (Reg.SMP_CNT_LOST n)
      0#32).smpShow n)) ∧
  (∀ src n r rest, n < 8 → Completes (fun dt => .samplerRead dt src n)
    (fun s => s.access src (Reg.SMP_REC n 0) = .ok ∧ (s.die n).recs = r :: rest)
    (fun s =>
      let t := (s.modDie n (fun d => { d with recs := rest })).smpShow n
      (t.forAll (List.range 16) (fun i s => s.set (Reg.SMP_REC n i) ((r[i]?).getD 0#32))).emit
        (.readData src [(r[0]?).getD 0#32])))

/-- The commands of the firmware's services complete: a broadcast, an LLDP frame or a snooped message is taken from port 259
(R425, R428, R429), an LLDP frame sent when due and a neighbour forgotten (R429), a query sent when due and memberships not
heard dropped (R428). -/
def Obligations.ServicesComplete : Prop :=
  (∀ f t, Completes (fun dt => .broadcastReceive dt)
    (fun s => s.waiting .actBusy 0 = false ∧ s.fwRuns = true ∧ s.dropUnserved.svcTake 3 = some (f, t)) (fun _ => bcastTake f t)) ∧
  (∀ p, Completes (fun dt => .lldpTransmit dt p)
    (fun s => s.fwRuns = true ∧ s.svcPort p = true ∧ s.lldpAdmin p % 2 = 1 ∧
      s.passed (kfind s.lldpAt p) (s.lldpEvery * secT) = true)
    (fun s => { s with lldpAt := kput s.lldpAt p s.ticks }.fwSend p 7 none (s.lldpFrame p))) ∧
  (∀ f t x, Completes (fun dt => .lldpReceive dt)
    (fun s => s.fwRuns = true ∧ s.dropUnserved.svcTake 4 = some (f, t) ∧
      lldpParse (f.bytes.drop (parseFrame true f.bytes).body) t.ticks = some x ∧ 2 ≤ t.lldpAdmin f.inPort)
    (fun _ => { t with neighbours := if x.ttl = 0 then kdel t.neighbours f.inPort else kput t.neighbours f.inPort x })) ∧
  (∀ p x, Completes (fun dt => .lldpTtlExpiry dt p)
    (fun s => s.fwRuns = true ∧ kfind s.neighbours p = some x ∧ x.at_ + x.ttl * secT ≤ s.ticks)
    (fun s => { s with neighbours := kdel s.neighbours p })) ∧
  (∀ f t, Completes (fun dt => .snoopReport dt) (fun s => s.fwRuns = true ∧ s.dropUnserved.svcTake 5 = some (f, t))
    (fun _ => snoopTake f t)) ∧
  (∀ vid v6, vid < 4096 → Completes (fun dt => .snoopQuery dt vid v6)
    (fun s => s.fwRuns = true ∧ s.snoopItem 1 = 1 ∧ s.snoopItem 2 = 1 ∧ (s.vlanAny vid).snoops = true ∧
      s.passed (kfind s.snoop.queryAt (vid * 2 + (if v6 then 1 else 0))) (s.snoopItem 3 * secT) = true)
    (fun s =>
      let k := vid * 2 + (if v6 then 1 else 0)
      let t := s.modSnoop (fun x => { x with queryAt := kput x.queryAt k s.ticks })
      { t with frames := t.frames + 1 }.forward 8
        { id := t.frames, bytes := padTo60 (t.queryFrame v6), inPort := 259, stamp := t.now, flags := t.synthFlags, vid := vid,
          cls := 7, dest := (membersOf (s.vlanAny vid)).filter (fun p => t.svcPort p) })) ∧
  (∀ x, Completes (fun dt => .snoopMemberTimeout dt)
    (fun s => s.fwRuns = true ∧ x ∈ s.snoop.members ∧ x.heard + s.snoopItem 4 * secT ≤ s.ticks)
    (fun s => (s.modSnoop (fun y => { y with
      members := y.members.filter (fun z => decide (s.ticks < z.heard + s.snoopItem 4 * secT)) })).snoopFollow))

/-! ## The queue, the event controller and the register file -/

/-- One step takes the command at the front of the queue and answers what exec answers with the queue's rest; with an empty
queue one tick of the TSU clock passes and the event controller follows (the model's choice, log entry 1). -/
def Obligations.StepTakesFrontCommand : Prop :=
  (∀ c rest s, s.pending = c :: rest → step s = exec c { s with pending := rest }) ∧
  (∀ s, s.pending = [] → step s = .next (s.after 1 id))

/-- No step ever stops, and commands leave the queue first in, first out, one a step: k steps from any state answer a next
state whose queue has lost its first k commands. -/
def Obligations.StepsNeverStop : Prop :=
  ∀ k s, ∃ t, Sys2Proof.core.run k s = .next t ∧ t.pending = s.pending.drop k

/-- What the spec says stands after reset: the transmit taps of every lane (R95), MAX_FRAME (R114), the buffers' limits (R169,
R171), the DPLLs' clamps (R255), MUTE_HIZ of the outputs (R280), the calibration results (R440), EVT.ENABLE and the default
routes (R460), no table entry valid and no request waiting, network time at 0 (R50), the boot ROM's state (R353). -/
def Obligations.ResetValues : Prop :=
  let s := State.reset
  (∀ g, g < 258 → s.fldInt (Fld.LANE_FFE_NOW_C0 g) = 63 ∧ s.fldInt (Fld.LANE_FFE_NOW_C_M2 g) = 0 ∧
    s.fldInt (Fld.LANE_FFE_NOW_C_M1 g) = 0 ∧ s.fldInt (Fld.LANE_FFE_NOW_C_P1 g) = 0 ∧
    s.fldInt (Fld.LANE_FFE_NOW_P2_C_P2 g) = 0 ∧ s.fld (Fld.PORT_MAC_MAX_FRAME g) = 9216) ∧
  (∀ p, p < 256 → s.fld (plimF p) = 3072 ∧ ∀ c, c < 8 → s.fld (qlimF p c) = 384) ∧
  (∀ p, p < 260 → 256 ≤ p → s.fld (plimF p) = 4096 ∧ ∀ c, c < 8 → s.fld (qlimF p c) = 512) ∧
  s.fld (Fld.DPLL_CLAMP_FREQ_CLAMP 0) = 80 ∧ s.fld (Fld.DPLL_CLAMP_FREQ_CLAMP 1) = 500 ∧
  s.fld (Fld.DPLL_CLAMP_FREQ_CLAMP 2) = 500 ∧ (∀ j, j < 12 → s.on (Fld.OUT_CFG_MUTE_HIZ j) = true) ∧
  (∀ i k, i < 7 → k < 258 → s.get (Reg.CAL_RES i k) = 0xF0000000#32) ∧
  s.get (Reg.EVT_ENABLE 0) = 0x400#32 ∧ s.get (Reg.EVT_ENABLE 1) = 0#32 ∧ s.get (Reg.EVT_ENABLE 2) = 0xFF000000#32 ∧
  (∀ i, i < 96 → s.fld (Fld.EVT_ROUTE_WORLD i) = (if i = 1 ∨ i = 2 ∨ (76 ≤ i ∧ i ≤ 79) then 1 else 0)) ∧
  (∀ n t i, s.entry n t i = {}) ∧ (∀ e, (s.act e).state = .free) ∧ s.mbxQueue = [] ∧ s.now = 0 ∧
  s.fld Fld.SYS_BOOT_STATUS_STATE = 0

/-- Reset leaves the block as every step leaves it: the event controller at rest, and the register file and the flash in their
one form. -/
def Obligations.ResetIsSettled : Prop :=
  EventsFollow State.reset ∧ RegsCanonical State.reset ∧ FlashCanonical State.reset.flash

/-- Every step, from any state whatever, leaves the event controller at rest: PEND is RAW masked by ENABLE (R459, R464), IRQn is
driven by what is pending and routed to it (R393), and each vector holds the pending sources routed to it (R392, R464). -/
def Obligations.EveryStepSettlesEvents : Prop :=
  ∀ s t, step s = .next t → EventsFollow t

/-- What the event controller leaves alone when it follows the state: everything but EVT.RAW, EVT.PEND, the PBA bits, its own
memory of the vectors, IRQn and the messages it sends; and what it sends is messages. -/
def Obligations.EventControllerFrame : Prop :=
  ∀ s : State,
    settle s = { s with
      regs := (settle s).regs, vecMem := (settle s).vecMem, irqLow := (settle s).irqLow, out := (settle s).out } ∧
    (∃ l, (settle s).out = s.out ++ l ∧ ∀ o ∈ l, ∃ v a d, v < 32 ∧ o = .msix v a d) ∧
    ∀ a, (∀ k, k < 3 → a ≠ Reg.EVT_RAW k ∧ a ≠ Reg.EVT_PEND k) → a ≠ Reg.MSIX_PBA0 → a ≠ Reg.MSIX_PBA1 →
      (settle s).get a = s.get a

/-- The register file: a word written reads back and no other word changes; a field written reads its value and the fields
beside it stay; the one form is kept. A write by access types acts on each bit as R9 says: WS sets, WC clears, RW takes the
value, WO reads 0, any other bit stays. -/
def Obligations.RegisterFileLaws : Prop :=
  (∀ (s : State) a w b, (s.set a w).get b = if b = a then w else s.get b) ∧
  (∀ (s : State) (f g : FRef) v, f.lo + f.len ≤ 32 → (s.setFld f v).fld f = v % 2 ^ f.len ∧
    ((g.addr ≠ f.addr ∨ g.lo + g.len ≤ f.lo ∨ f.lo + f.len ≤ g.lo) → (s.setFld f v).fld g = s.fld g)) ∧
  (∀ (s : State) a w, RegsCanonical s → RegsCanonical (s.set a w)) ∧
  (∀ (s : State) a w r i, rowOf a = some r → r.wide.2 ≤ 1 → i < 32 →
    let m := fun l => (BitVec.ofNat 32 (accMask l a)).getLsbD i
    ((plainWrite a w s).get a).getLsbD i =
      if (m [.ws] && w.getLsbD i) = true then true
      else if (m [.wc] && w.getLsbD i) = true then false
      else if m [.rw] = true then w.getLsbD i
      else if m [.wo] = true then false
      else (s.get a).getLsbD i)

/-! ## What is refused -/

/-- Accesses that fail. One that an off domain, another world or reserved space refuses (R33, R35, R41) changes only the error
status of its source's world, and a read of it answers 0; so does a write without all byte enables (R8), where the Leaf is
present. An error sets its KIND bit and counts; the first since every KIND bit was clear latches SOURCE and ADDR, a later one
sets MULTI and leaves them (R380). An absent Leaf takes writes and answers 0 without error (R6). -/
def Obligations.RefusedAccessesOnlyRecorded : Prop :=
  (∀ dt src a w took fault (s : State) k, (s.later dt).access src (viewAddr src a) = .err k →
    exec (.registerWrite dt src a w true took fault) s = .next (s.after dt (fun u => u.accessError src k (viewAddr src a)))) ∧
  (∀ dt src a w took fault (s : State), (s.later dt).access src (viewAddr src a) ≠ .void →
    exec (.registerWrite dt src a w false took fault) s = .next (s.after dt (fun u => u.accessError src 0 (viewAddr src a)))) ∧
  (∀ dt src a w be took fault (s : State), (s.later dt).access src (viewAddr src a) = .void →
    exec (.registerWrite dt src a w be took fault) s = .next (s.after dt id)) ∧
  (∀ dt src a (s : State), (s.later dt).reaches src = true → inSpace src a = true →
    (∀ k, (s.later dt).access src (viewAddr src a) = .err k → exec (.wideValueRead dt src a) s =
      .next (s.after dt (fun u => (u.accessError src k (viewAddr src a)).emit (.readData src [0#32])))) ∧
    ((s.later dt).access src (viewAddr src a) = .void →
      exec (.wideValueRead dt src a) s = .next (s.after dt (fun u => u.emit (.readData src [0#32]))))) ∧
  (∀ (s : State) src k a, k < 4 →
    let t := s.accessError src k a
    let x := herrOf src
    (∀ j, j < 4 → t.fldBit (Fld.HERR_STAT_KIND x) j = (j == k || s.fldBit (Fld.HERR_STAT_KIND x) j)) ∧
    t.fld (Fld.HERR_STAT_COUNT x) = min (s.fld (Fld.HERR_STAT_COUNT x) + 1) (2 ^ (Fld.HERR_STAT_COUNT x).len - 1) ∧
    (if s.fld (Fld.HERR_STAT_KIND x) = 0 then
      t.fld (Fld.HERR_STAT_SOURCE x) = srcCode src ∧ t.get (Reg.HERR_ADDR x) = BitVec.ofNat 32 a ∧
        t.fld (Fld.HERR_STAT_MULTI x) = s.fld (Fld.HERR_STAT_MULTI x)
    else t.fld (Fld.HERR_STAT_SOURCE x) = s.fld (Fld.HERR_STAT_SOURCE x) ∧
        t.get (Reg.HERR_ADDR x) = s.get (Reg.HERR_ADDR x) ∧ t.fld (Fld.HERR_STAT_MULTI x) = 1) ∧
    (∀ b, b ≠ Reg.HERR_STAT x → b ≠ Reg.HERR_ADDR x → t.get b = s.get b) ∧ t = { s with regs := t.regs })

/-- Commands that a Leaf's tables refuse (R154, R155, R157, R161): a write of CTRL while BUSY only sets OVERRUN; a non-secure
command on a secure table answers WORLD; an opcode not listed, an index outside the table or an invalid field (a port above 259,
a source beside STAR, ID_MODE 4 to 7, GATE 0b11) INVALID; a
command that would change an entry of a table that refuses writes BUSY. None of these changes any table. -/
def Obligations.TableCommandRefusals : Prop :=
  (∀ n w op t idx took (s : State), s.waiting .fwdBusy (2 * n + w) = true →
    tableCmd n w op t idx took s = s.raise (Fld.FWD_CMD_STAT_OVERRUN n w)) ∧
  (∀ (s : State) n w op t idx i e,
    (s.fwdSecure n t = true → w = 0 → s.tableOp n w op t idx i e = ({ code := tWorld }, s)) ∧
    (s.fwdSecure n t = false ∨ w ≠ 0 →
      (opListed op t idx = false → s.tableOp n w op t idx i e = ({ code := tInvalid }, s)) ∧
      (opListed op t idx = true → opWrites op = true → s.tableRefuses n t = true →
        s.tableOp n w op t idx i e = ({ code := tBusy }, s)) ∧
      (opListed op t idx = true → (opWrites op = false ∨ s.tableRefuses n t = false) → (idx = true ∨ isHashed t = false) →
        tableSize t ≤ i → s.tableOp n w op t idx i e = ({ code := tInvalid }, s)) ∧
      (opListed op t idx = true → (op = 2 ∨ op = 3) → s.tableRefuses n t = false →
        (tableKind t = 0 ∧ e.f 2 14 1 = 0 ∧ 259 < e.f 2 0 14) ∨
          (tableKind t = 3 ∧ e.f 8 13 1 = 1 ∧ ∃ j, 4 ≤ j ∧ j < 8 ∧ e.w j ≠ 0) ∨
          (tableKind t = 4 ∧ (3 < e.f 4 28 3 ∨ e.f 5 26 2 = 3)) →
        s.tableOp n w op t idx i e = ({ code := tInvalid }, s)))) ∧
  (∀ (s : State) n w op t idx i e, (s.tableOp n w op t idx i e).1.code ∉ [tOk, tKeptHit] →
    (s.tableOp n w op t idx i e).2.dies = s.dies)

/-- An INSERT of the staged entry that answers OK put it at the index it reports, in a place that held none, where a look for its key finds
it, VALID, with its key; every other entry of every table of every Leaf is as it was. The answer EXISTS names the valid entry
with that key, and changes nothing (R155). -/
def Obligations.InsertedEntryIsFound : Prop :=
  ∀ (s : State) n w t i, isHashed t = true →
    let e := s.staged n w
    let k := tableKind t
    let r := s.tableOp n w 3 t false i e
    (r.1.code = tOk →
      r.2.findKey n t (e.key k) = some r.1.idx ∧ (s.entry n t r.1.idx).valid k = false ∧
      (r.2.entry n t r.1.idx).valid k = true ∧ (r.2.entry n t r.1.idx).key k = e.key k ∧
      ∀ n' t' j, (n' ≠ n ∨ t' ≠ t ∨ j ≠ r.1.idx) → r.2.entry n' t' j = s.entry n' t' j) ∧
    (r.1.code = tExists → r.2 = s ∧ s.findKey n t (e.key k) = some r.1.idx)

/-- The worlds of the timed-action entries (R64): the first SECURE_ENTRIES are secure; an interface's command on an entry of the
other world, in the cycle in which it completes, reports WORLD, shows zeros (R68) and changes no entry; ACT_PART keeps its value where an entry that would change
worlds is not FREE (IN_USE) or the value exceeds 256 (INVALID), and else takes it. -/
def Obligations.ActionEntriesOfAnotherWorld : Prop :=
  (∀ s : State, s.secureAt (Reg.TIME_ACT_CMD 0) = false ∧ s.secureAt (Reg.TIME_ACT_CMD 1) = true ∧
    s.secureAt Reg.TIME_ACT_PART = true) ∧
  (∀ (s : State) e, s.actWorld e = if e < s.fld Fld.TIME_ACT_PART_SECURE_ENTRIES then 1 else 0) ∧
  (∀ w op e (s t : State), w < 2 → e < 256 → s.actWorld e ≠ w →
    (s.waiting .actBusy w = false ∧ t = actCmd w op e 0 s) ∨
      (∃ due, kfind s.actCmds w = some ⟨op, e, due⟩ ∧ due ≤ s.ticks ∧ t = actComplete w s) →
    t.acts = s.acts ∧ t.fld (Fld.TIME_ACT_STAT_RESULT w) = 2 ∧ t.fld (Fld.TIME_ACT_STAT_STATE w) = 0 ∧
    t.fld (Fld.TIME_ACT_STAT_FIRES w) = 0 ∧ t.fld (Fld.TIME_ACT_STAT_LAST_FIRE w) = 0 ∧
    ∀ i, i < 8 → t.get (Reg.TIME_ACT_ENTRY w i) = s.get (Reg.TIME_ACT_ENTRY w i)) ∧
  (∀ (s : State) w,
    let old := s.fld Fld.TIME_ACT_PART_SECURE_ENTRIES
    let new := bitsOf w 0 9
    let t := actPartWrite w s
    t.acts = s.acts ∧
    (256 < new → t.fld Fld.TIME_ACT_PART_SECURE_ENTRIES = old ∧ t.fld (Fld.TIME_ACT_STAT_RESULT 1) = 4) ∧
    (new ≤ 256 → (∃ e, e < 256 ∧ (s.act e).state ≠ .free ∧ ¬(e < old ↔ e < new)) →
      t.fld Fld.TIME_ACT_PART_SECURE_ENTRIES = old ∧ t.fld (Fld.TIME_ACT_STAT_RESULT 1) = 1) ∧
    (new ≤ 256 → (∀ e, e < 256 → ¬(e < old ↔ e < new) → (s.act e).state = .free) →
      t.fld Fld.TIME_ACT_PART_SECURE_ENTRIES = new))

/-- Edges that are not stamped (R57): one less than 100 ns after the edge before it on its channel, in either direction, and one
that finds 16 stamps held. Each condition sets its bit, an edge that meets both sets both and counts once in LOST, which saturates
at 65,535 and clears on FLUSH; the stamps held stay. -/
def Obligations.EdgesNotStamped : Prop :=
  (∀ dt i rising sub (s : State), (s.later dt).powered = true → i < 6 → sub < tickUnits →
    exec (.captureEdge dt i rising sub) s = .next (s.after dt (captureEdge i rising sub))) ∧
  (∀ i rising sub (s : State), i < 6 → s.on (Fld.TIME_CAP_CTRL_EN i) = true →
    (if rising then s.fldBit (Fld.TIME_CAP_CTRL_EDGE i) 0 else s.fldBit (Fld.TIME_CAP_CTRL_EDGE i) 1) = true →
    let at1 := s.ticks * tickUnits + sub
    let close := ∃ l, (s.cap i).last = some l ∧ at1 < l + 100 * nsU
    let full := 16 ≤ (s.cap i).fifo.length
    let t := captureEdge i rising sub s
    close ∨ full →
      (close → t.fld (Fld.TIME_CAP_STAT_TOO_CLOSE i) = 1) ∧
      (¬close → t.fld (Fld.TIME_CAP_STAT_TOO_CLOSE i) = s.fld (Fld.TIME_CAP_STAT_TOO_CLOSE i)) ∧
      (full → t.fld (Fld.TIME_CAP_STAT_OVERFLOW i) = 1) ∧
      (¬full → t.fld (Fld.TIME_CAP_STAT_OVERFLOW i) = s.fld (Fld.TIME_CAP_STAT_OVERFLOW i)) ∧
      t.fld (Fld.TIME_CAP_STAT_LOST i) = min (s.fld (Fld.TIME_CAP_STAT_LOST i) + 1) 65535 ∧
      (t.cap i).fifo = (s.cap i).fifo ∧ (t.cap i).last = some at1) ∧
  (∀ i (s : State), i < 6 → (captureFlush i s).fld (Fld.TIME_CAP_STAT_LOST i) = 0)

/-- Requests that break the transport (R390): the code is one whose condition holds, and there is none only where none holds;
the firmware answers with it and does nothing else, whatever the opcode asks. A GO at a mailbox that is busy, or whose response is
not yet released, is discarded and sets OVERRUN (R387). -/
def Obligations.MailboxRequestsTurnedAway : Prop :=
  (∀ (s : State) m, m < 8 →
    let op := s.reqOpcode m
    let x := s.transportError m
    let badLength := 4080 < s.reqLength m
    let badHeader := s.reqWord m 2 ≠ 0 ∨ s.reqWord m 3 ≠ 0 ∨ 1 < s.reqFlags m
    let unknown := opcodeKnown op = false
    let wrongWorld := m < 4 ∧ (op / 256 = 0x0D ∨ op / 256 = 0x0E)
    (x = 0 ∧ ¬badLength ∧ ¬badHeader ∧ ¬unknown ∧ ¬wrongWorld) ∨ (x = 0xFF01 ∧ badLength) ∨ (x = 0xFF02 ∧ badHeader) ∨
      (x = 0xFF03 ∧ unknown) ∨ (x = 0xFF04 ∧ wrongWorld)) ∧
  (∀ dt m (s : State), (s.later dt).fwTakes m = true → (s.later dt).transportError m ≠ 0 →
    exec (.mailboxTransportError dt m) s = .next (s.after dt (fun u => u.reply m (u.transportError m) 0 []))) ∧
  (∀ (s : State) m st, m < 8 → st < 65536 → s.mbxQueue.head? = some m → s.mbxQueue.Nodup → s.boot.activate = none →
    let t := s.reply m st 0 []
    t = { s with regs := t.regs, mbxQueue := t.mbxQueue, quiet := t.quiet } ∧ t.mbxQueue = s.mbxQueue.tail ∧
    t.fld (Fld.MBX_STATUS_RESP_READY m) = 1 ∧ t.fld (Fld.MBX_STATUS_BUSY m) = 0 ∧
    t.get (Reg.MBX_RESP m 2) = BitVec.ofNat 32 st ∧
    ∀ a, a ≠ Reg.MBX_STATUS m → (∀ i, i < 4 → a ≠ Reg.MBX_RESP m i) → t.get a = s.get a) ∧
  (∀ dt src m (s : State), m < 8 → (s.later dt).access src (Reg.MBX_DOORBELL m) = .ok →
    ((s.later dt).on (Fld.MBX_STATUS_BUSY m) = true ∨ (s.later dt).on (Fld.MBX_STATUS_RESP_READY m) = true) →
    exec (.mailboxSubmit dt src m) s = .next (s.after dt (fun u => u.raise (Fld.MBX_STATUS_OVERRUN m))))

/-- A write of EVT.ROUTE (R465): accepted when WORLD stays or the secure core changes it on a source that is not fixed, VEC lies
in the world's range where MSIX is 1, a secure route sets MSIX only for the sources PF1 reaches and never IRQ; discarded with
CFG_ERR otherwise. -/
def Obligations.RouteWriteRule : Prop :=
  ∀ dt src i w (s : State), i < 96 →
    let u := s.later dt
    u.access src (Reg.EVT_ROUTE i) = .ok → (secureSrc src = true ∨ u.on (Fld.EVT_ROUTE_WORLD i) = false) →
    let world := bitsOf w 31 1
    let msix := bitsOf w 16 1
    let vec := bitsOf w 0 5
    let reached := i = 1 ∨ i = 2 ∨ (68 ≤ i ∧ i ≤ 71) ∨ (76 ≤ i ∧ i ≤ 79)
    let accepted := (world = u.fld (Fld.EVT_ROUTE_WORLD i) ∨ (src = .core ∧ evtFixed i = false)) ∧
      (msix = 1 → (world = 0 → vec ≤ 23) ∧ (world = 1 → 24 ≤ vec ∧ reached)) ∧ (world = 1 → bitsOf w 17 1 = 0)
    (accepted → exec (.evtRouteWrite dt src i w) s =
      .next (s.after dt (fun u => u.set (Reg.EVT_ROUTE i) (w &&& 0x8007001F#32)))) ∧
    (¬accepted → exec (.evtRouteWrite dt src i w) s = .next (s.after dt (fun u => u.raise Fld.EVT_STAT_CFG_ERR)))

/-- A set of parameters commits whole or not at all (R418): when an entry fails its check against the values as the set would
change them, the first failing key in key order is shown and no parameter and no register changes; when none fails every value
of the set is the committed one, no other parameter changes and the set is empty. -/
def Obligations.SetsCommitWholeOrNotAtAll : Prop :=
  ∀ (s : State) i tag, krising (s.pset i).entries = true →
    let e := (s.pset i).entries
    let r := s.commitStaged i tag false
    let fails := fun k => (s.putParams e).keyOk k = false
    (∀ k x, (k, x) ∈ e → fails k → (∀ j y, (j, y) ∈ e → j < k → ¬fails j) →
      r.1 = some k ∧ r.2 = { s with psets := r.2.psets } ∧ (r.2.pset i).entries = e ∧ (r.2.pset i).failKey = k ∧
      (r.2.pset i).lastTag = tag) ∧
    ((∀ k x, (k, x) ∈ e → ¬fails k) →
      r.1 = none ∧ (r.2.pset i).entries = [] ∧ (r.2.pset i).lastTag = tag ∧ (r.2.pset i).lastResult = 1 ∧
      (∀ k x, (k, x) ∈ e → kfind r.2.params k = some x) ∧
      (∀ k, (∀ x, (k, x) ∉ e) → kfind r.2.params k = kfind s.params k))

end
end

