-- ==== Sys2Proof/Laws/Regs.lean ====
section
/-!
SUPPORT. Laws/Regs.lean: the laws of sparse tables, of the register file and of the flash: what a write leaves to be read, and
that every operation keeps the one form.
-/
namespace Sys2Proof.Machine

/-! ## Sparse tables -/

variable {α : Type}

theorem kfind_kput_same (m : KMap α) (i : Nat) (x : α) : kfind (kput m i x) i = some x := by
  induction m with
  | nil => simp [kput, kfind]
  | cons e m ih =>
    obtain ⟨k, v⟩ := e
    unfold kput
    split
    · simp [kfind]
    · split <;> simp_all [kfind]

theorem kfind_kput_ne (m : KMap α) {i j : Nat} (x : α) (h : j ≠ i) : kfind (kput m i x) j = kfind m j := by
  induction m with
  | nil => simp [kput, kfind, Ne.symm h]
  | cons e m ih =>
    obtain ⟨k, v⟩ := e
    unfold kput
    split
    · next hk => simp [kfind, hk, Ne.symm h]
    · split
      · simp [kfind, Ne.symm h]
      · simp only [kfind, ih]

theorem kfind_kdel_same (m : KMap α) (i : Nat) : kfind (kdel m i) i = none := by
  induction m with
  | nil => simp [kdel, kfind]
  | cons e m ih =>
    obtain ⟨k, v⟩ := e
    by_cases hk : k = i <;> simp_all [kdel, kfind]

theorem kdel_kput_same (m : KMap α) (i : Nat) (x : α) : kdel (kput m i x) i = kdel m i := by
  induction m with
  | nil => simp [kput, kdel]
  | cons h m ih =>
    obtain ⟨k, v⟩ := h
    simp only [kput]
    split
    · simp_all [kdel]
    · split
      · simp [kdel]
      · simp only [kdel, List.filter_cons] at *
        rw [ih]

theorem kfind_kdel_ne (m : KMap α) {i j : Nat} (h : j ≠ i) : kfind (kdel m i) j = kfind m j := by
  induction m with
  | nil => simp [kdel, kfind]
  | cons e m ih =>
    obtain ⟨k, v⟩ := e
    by_cases hk : k = i
    · subst hk; simp_all [kdel, kfind, Ne.symm h]
    · by_cases hj : k = j <;> simp_all [kdel, kfind]

@[simp] theorem kget_kput_same (m : KMap α) (i : Nat) (x d : α) : kget (kput m i x) i d = x := by
  simp [kget, kfind_kput_same]

theorem kget_kput_ne (m : KMap α) {i j : Nat} (x d : α) (h : j ≠ i) : kget (kput m i x) j d = kget m j d := by
  simp [kget, kfind_kput_ne m x h]

@[simp] theorem kget_kdel_same (m : KMap α) (i : Nat) (d : α) : kget (kdel m i) i d = d := by
  simp [kget, kfind_kdel_same]

theorem kget_kdel_ne (m : KMap α) {i j : Nat} (d : α) (h : j ≠ i) : kget (kdel m i) j d = kget m j d := by
  simp [kget, kfind_kdel_ne m h]

/-- Rising indices, as Mathlib's pairwise order. -/
theorem krising_iff (m : KMap α) : krising m = true ↔ m.Pairwise (fun a b => a.1 < b.1) := by
  induction m with
  | nil => simp [krising]
  | cons e m ih =>
    obtain ⟨k, v⟩ := e
    cases m with
    | nil => simp [krising]
    | cons f m =>
      obtain ⟨l, y⟩ := f
      simp only [krising, Bool.and_eq_true, decide_eq_true_eq, ih, List.pairwise_cons, List.mem_cons]
      constructor
      · rintro ⟨h1, h2, h3⟩
        refine ⟨?_, h2, h3⟩
        rintro a (rfl | ha)
        · exact h1
        · exact lt_trans h1 (h2 a ha)
      · rintro ⟨h1, h2, h3⟩
        exact ⟨h1 _ (Or.inl rfl), h2, h3⟩

theorem mem_kput {m : KMap α} {i : Nat} {x : α} {e : Nat × α} (h : e ∈ kput m i x) : e = (i, x) ∨ e ∈ m := by
  induction m with
  | nil => simp_all [kput]
  | cons f m ih =>
    obtain ⟨k, v⟩ := f
    unfold kput at h
    split at h
    · simp_all only [List.mem_cons]; tauto
    · split at h
      · simp_all only [List.mem_cons]
      · simp only [List.mem_cons] at h ⊢
        rcases h with h | h
        · exact Or.inr (Or.inl h)
        · rcases ih h with h | h
          · exact Or.inl h
          · exact Or.inr (Or.inr h)

theorem krising_kput {m : KMap α} (i : Nat) (x : α) (h : krising m = true) : krising (kput m i x) = true := by
  rw [krising_iff] at h ⊢
  induction m with
  | nil => simp [kput]
  | cons f m ih =>
    obtain ⟨k, v⟩ := f
    rw [List.pairwise_cons] at h
    unfold kput
    split
    · next hk => subst hk; exact List.pairwise_cons.2 h
    · split
      · next hk hlt =>
        refine List.pairwise_cons.2 ⟨?_, List.pairwise_cons.2 h⟩
        intro a ha
        rcases List.mem_cons.1 ha with rfl | ha
        · exact hlt
        · exact lt_trans hlt (h.1 a ha)
      · next hk hlt =>
        refine List.pairwise_cons.2 ⟨?_, ih h.2⟩
        intro a ha
        rcases mem_kput ha with rfl | ha
        · exact lt_of_le_of_ne (Nat.le_of_not_lt hlt) hk
        · exact h.1 a ha

theorem krising_kdel {m : KMap α} (i : Nat) (h : krising m = true) : krising (kdel m i) = true := by
  rw [krising_iff] at h ⊢
  exact h.filter _

/-! ## The register file -/

@[simp] theorem State.get_set_same (s : State) (a : Nat) (w : Word) : (s.set a w).get a = w := by
  unfold State.get State.set regPut
  dsimp only
  split
  · next h => rw [kget_kdel_same, ← h]
  · simp

theorem State.get_set_ne (s : State) {a b : Nat} (w : Word) (h : b ≠ a) : (s.set a w).get b = s.get b := by
  unfold State.get State.set regPut
  dsimp only
  split
  · exact kget_kdel_ne _ _ h
  · exact kget_kput_ne _ _ _ h

theorem regsCanonical_set {s : State} (a : Nat) (w : Word) (h : RegsCanonical s) : RegsCanonical (s.set a w) := by
  obtain ⟨h1, h2⟩ := h
  unfold RegsCanonical State.set regPut
  dsimp only
  split
  · exact ⟨krising_kdel a h1, fun e he => h2 e (List.mem_of_mem_filter he)⟩
  · next hw =>
    refine ⟨krising_kput a w h1, fun e he => ?_⟩
    rcases mem_kput he with rfl | he
    · exact hw
    · exact h2 e he

/-- A word whose field is replaced, as a sum of its parts. -/
theorem withBits_toNat (w : Word) (lo len v : Nat) (h : lo + len ≤ 32) :
    (withBits w lo len v).toNat =
      2 ^ lo * (2 ^ len * (w.toNat / 2 ^ lo / 2 ^ len) + v % 2 ^ len) + w.toNat % 2 ^ lo := by
  have hw := w.isLt
  set x := w.toNat with hx
  have hp : 0 < 2 ^ lo := Nat.two_pow_pos lo
  have hq : 0 < 2 ^ len := Nat.two_pow_pos len
  have h1 := Nat.div_add_mod x (2 ^ lo)
  have h2 := Nat.div_add_mod (x / 2 ^ lo) (2 ^ len)
  have key : x = 2 ^ lo * (2 ^ len * (x / 2 ^ lo / 2 ^ len)) + 2 ^ lo * (x / 2 ^ lo % 2 ^ len) + x % 2 ^ lo := by
    rw [← Nat.mul_add, h2, h1]
  have hsub : x - x / 2 ^ lo % 2 ^ len * 2 ^ lo = 2 ^ lo * (2 ^ len * (x / 2 ^ lo / 2 ^ len)) + x % 2 ^ lo := by
    rw [Nat.mul_comm (x / 2 ^ lo % 2 ^ len)]; omega
  have hb : 2 ^ lo * (2 ^ len * (x / 2 ^ lo / 2 ^ len) + v % 2 ^ len) + x % 2 ^ lo < 2 ^ 32 := by
    have h32 : 2 ^ lo * (2 ^ len * 2 ^ (32 - lo - len)) = 2 ^ 32 := by
      rw [← pow_add, ← pow_add]; congr 1; omega
    have h3 : x / 2 ^ lo / 2 ^ len + 1 ≤ 2 ^ (32 - lo - len) := by
      have : x / 2 ^ lo / 2 ^ len < 2 ^ (32 - lo - len) := by
        rw [Nat.div_div_eq_div_mul, Nat.div_lt_iff_lt_mul (by positivity), Nat.mul_comm, Nat.mul_assoc, h32]
        exact hw
      omega
    have h4 := Nat.mod_lt x hp
    have h5 := Nat.mod_lt v hq
    have h6 := Nat.mul_le_mul_left (2 ^ len) h3
    have h7 : 2 ^ len * (x / 2 ^ lo / 2 ^ len) + v % 2 ^ len + 1 ≤ 2 ^ len * 2 ^ (32 - lo - len) := by
      rw [Nat.mul_add] at h6; omega
    have h8 := Nat.mul_le_mul_left (2 ^ lo) h7
    rw [h32, Nat.mul_add] at h8
    omega
  unfold withBits
  rw [← hx]
  dsimp only
  rw [BitVec.toNat_ofNat, hsub]
  have e : 2 ^ lo * (2 ^ len * (x / 2 ^ lo / 2 ^ len)) + x % 2 ^ lo + v % 2 ^ len * 2 ^ lo =
      2 ^ lo * (2 ^ len * (x / 2 ^ lo / 2 ^ len) + v % 2 ^ len) + x % 2 ^ lo := by ring
  rw [e, Nat.mod_eq_of_lt hb]

/-- The bits of a word whose field is replaced. -/
theorem withBits_testBit (w : Word) (lo len v i : Nat) (h : lo + len ≤ 32) :
    (withBits w lo len v).toNat.testBit i =
      if lo ≤ i ∧ i < lo + len then v.testBit (i - lo) else w.toNat.testBit i := by
  rw [withBits_toNat w lo len v h, Nat.testBit_two_pow_mul_add _ (Nat.mod_lt _ (Nat.two_pow_pos lo))]
  by_cases h1 : i < lo
  · rw [if_pos h1, if_neg (by omega), Nat.testBit_mod_two_pow]
    simp [h1]
  · rw [if_neg h1, Nat.testBit_two_pow_mul_add _ (Nat.mod_lt _ (Nat.two_pow_pos len))]
    by_cases h2 : i - lo < len
    · rw [if_pos h2, if_pos (by omega), Nat.testBit_mod_two_pow]
      simp [h2]
    · rw [if_neg h2, if_neg (by omega), Nat.testBit_div_two_pow, Nat.testBit_div_two_pow]
      congr 1
      omega

/-- The bits of a field. -/
theorem bitsOf_testBit (w : Word) (lo len i : Nat) :
    (bitsOf w lo len).testBit i = (decide (i < len) && w.toNat.testBit (i + lo)) := by
  rw [bitsOf, Nat.testBit_mod_two_pow, Nat.testBit_div_two_pow]

/-- The field written reads its value. -/
theorem bitsOf_withBits_same (w : Word) (lo len v : Nat) (h : lo + len ≤ 32) :
    bitsOf (withBits w lo len v) lo len = v % 2 ^ len := by
  apply Nat.eq_of_testBit_eq
  intro i
  rw [bitsOf_testBit, withBits_testBit _ _ _ _ _ h, Nat.testBit_mod_two_pow]
  by_cases hi : i < len
  · rw [if_pos (by omega)]; simp
  · simp [hi]

/-- A field beside the one written stays. -/
theorem bitsOf_withBits_ne (w : Word) (lo len v lo' len' : Nat) (h : lo + len ≤ 32)
    (hd : lo' + len' ≤ lo ∨ lo + len ≤ lo') : bitsOf (withBits w lo len v) lo' len' = bitsOf w lo' len' := by
  apply Nat.eq_of_testBit_eq
  intro i
  rw [bitsOf_testBit, bitsOf_testBit, withBits_testBit _ _ _ _ _ h]
  by_cases hi : i < len'
  · rw [if_neg (by omega)]
  · simp [hi]

/-- A field written reads its value. -/
theorem State.fld_setFld_same (s : State) (f : FRef) (v : Nat) (h : f.lo + f.len ≤ 32) :
    (s.setFld f v).fld f = v % 2 ^ f.len := by
  simp [State.fld, State.setFld, bitsOf_withBits_same _ _ _ _ h]

/-- A field written leaves every other word as it was. -/
theorem State.get_setFld_ne (s : State) (f : FRef) (v : Nat) {a : Nat} (h : a ≠ f.addr) : (s.setFld f v).get a = s.get a :=
  State.get_set_ne _ _ h

/-- A field written leaves the fields of other words as they were. -/
theorem State.fld_setFld_ne (s : State) (f g : FRef) (v : Nat) (h : g.addr ≠ f.addr) : (s.setFld f v).fld g = s.fld g := by
  simp [State.fld, State.get_setFld_ne s f v h]

/-! ## Wide values -/

theorem State.get_setWide_ne (s : State) {a : Nat} (n v : Nat) {b : Nat} (h : ∀ i, i < n → b ≠ a + 4 * i) :
    (s.setWide a n v).get b = s.get b := by
  induction n generalizing s a v with
  | zero => rfl
  | succ n ih =>
    unfold State.setWide
    rw [ih _ _ (fun i hi => ?_), State.get_set_ne _ _ (by simpa using h 0 (Nat.succ_pos n))]
    have := h (i + 1) (by omega)
    omega

theorem State.getWide_congr {s t : State} {a : Nat} (n : Nat) (h : ∀ i, i < n → t.get (a + 4 * i) = s.get (a + 4 * i)) :
    t.getWide a n = s.getWide a n := by
  induction n generalizing a with
  | zero => rfl
  | succ n ih =>
    unfold State.getWide
    have h0 := h 0 (Nat.succ_pos n)
    simp only [Nat.mul_zero, Nat.add_zero] at h0
    rw [h0, ih (fun i hi => ?_)]
    have := h (i + 1) (by omega)
    rwa [show a + 4 * (i + 1) = a + 4 + 4 * i by omega] at this

/-- Words written together read back as their value. -/
theorem State.getWide_setWide (s : State) (a n v : Nat) : (s.setWide a n v).getWide a n = v % 2 ^ (32 * n) := by
  induction n generalizing s a v with
  | zero => simp [State.getWide, Nat.mod_one]
  | succ n ih =>
    unfold State.setWide State.getWide
    rw [ih, State.get_setWide_ne _ _ _ (fun i _ => by omega), State.get_set_same, BitVec.toNat_ofNat,
      show 32 * (n + 1) = 32 + 32 * n by ring, pow_add, Nat.mod_mul]

/-! ## The flash -/

theorem flashCanonical_flashPut {m : KMap Byte} (a : Nat) (l : List Byte) (h : FlashCanonical m) :
    FlashCanonical (flashPut m a l) := by
  induction l generalizing m a with
  | nil => exact h
  | cons b l ih =>
    apply ih
    obtain ⟨h1, h2⟩ := h
    split
    · exact ⟨krising_kdel a h1, fun e he => h2 e (List.mem_of_mem_filter he)⟩
    · next hb =>
      refine ⟨krising_kput a b h1, fun e he => ?_⟩
      rcases mem_kput he with rfl | he
      · exact hb
      · exact h2 e he

theorem flashCanonical_flashErase {m : KMap Byte} (a n : Nat) (h : FlashCanonical m) : FlashCanonical (flashErase m a n) := by
  obtain ⟨h1, h2⟩ := h
  refine ⟨?_, fun e he => h2 e (List.mem_of_mem_filter he)⟩
  rw [krising_iff] at h1 ⊢
  exact h1.filter _

end Sys2Proof.Machine
end

