-- ==== Sys2Proof/Laws/Settle.lean ====
section
/-!
SUPPORT. Laws/Settle.lean: what the event controller changes when it follows the state, one lemma per operation, and the frame
of a step.
-/
namespace Sys2Proof.Machine

theorem State.setFld_frame (s : State) (f : FRef) (v : Nat) : s.setFld f v = { s with regs := (s.setFld f v).regs } := rfl

theorem State.setWide_frame (s : State) (a n v : Nat) : s.setWide a n v = { s with regs := (s.setWide a n v).regs } := by
  induction n generalizing s a v with
  | zero => rfl
  | succ n ih => exact ih (s.set a (BitVec.ofNat 32 v)) (a + 4) (v / 2 ^ 32)

@[simp] theorem State.setWide_out (s : State) (a n v : Nat) : (s.setWide a n v).out = s.out := by
  rw [State.setWide_frame]
@[simp] theorem State.setWide_vecMem (s : State) (a n v : Nat) : (s.setWide a n v).vecMem = s.vecMem := by
  rw [State.setWide_frame]
@[simp] theorem State.setWide_irqLow (s : State) (a n v : Nat) : (s.setWide a n v).irqLow = s.irqLow := by
  rw [State.setWide_frame]
@[simp] theorem State.setWide_member (s : State) (a n v : Nat) : (s.setWide a n v).member = s.member := by
  rw [State.setWide_frame]
@[simp] theorem State.setWide_pending (s : State) (a n v : Nat) : (s.setWide a n v).pending = s.pending := by
  rw [State.setWide_frame]

theorem pbaBit_addr (v : Nat) : (pbaBit v).addr = Reg.MSIX_PBA0 ∨ (pbaBit v).addr = Reg.MSIX_PBA1 := by
  unfold pbaBit; split <;> simp

/-- A message sent or held changes its PBA bit and the outputs, and nothing else. -/
theorem State.signalVector_frame (s : State) (v : Nat) : 
    s.signalVector v = { s with regs := (s.signalVector v).regs, out := (s.signalVector v).out } := by
  unfold State.signalVector; split <;> rfl

theorem State.signalVector_out (s : State) (v : Nat) :
    (s.signalVector v).out = s.out ∨ ∃ a d, (s.signalVector v).out = s.out ++ [.msix v a d] := by
  unfold State.signalVector; split
  · exact Or.inr ⟨_, _, rfl⟩
  · exact Or.inl rfl

theorem State.signalVector_get (s : State) (v : Nat) {a : Nat} (h0 : a ≠ Reg.MSIX_PBA0) (h1 : a ≠ Reg.MSIX_PBA1) :
    (s.signalVector v).get a = s.get a := by
  have h : a ≠ (pbaBit v).addr := by rcases pbaBit_addr v with e | e <;> rw [e] <;> assumption
  unfold State.signalVector; split
  · exact State.get_setFld_ne _ _ _ h
  · exact State.get_setFld_ne _ _ _ h

/-- A vector that follows its sources changes its memory, its PBA bit and the outputs, and nothing else. -/
theorem State.followVector_frame (s : State) (p v : Nat) :
    s.followVector p v = { s with
      regs := (s.followVector p v).regs, out := (s.followVector p v).out, vecMem := (s.followVector p v).vecMem } := by
  unfold State.followVector
  dsimp only
  generalize (if s.vecSources p v = 0 then kdel s.vecMem v else kput s.vecMem v (s.vecSources p v)) = m
  split
  · unfold State.signalVector
    split <;> rfl
  · rfl

theorem State.followVector_get (s : State) (p v : Nat) {a : Nat} (h0 : a ≠ Reg.MSIX_PBA0) (h1 : a ≠ Reg.MSIX_PBA1) :
    (s.followVector p v).get a = s.get a := by
  unfold State.followVector
  dsimp only
  split
  · rw [State.signalVector_get _ v h0 h1]; rfl
  · rfl

theorem State.followVector_out (s : State) (p v : Nat) :
    (s.followVector p v).out = s.out ∨ ∃ a d, (s.followVector p v).out = s.out ++ [.msix v a d] := by
  unfold State.followVector
  dsimp only
  split
  · exact State.signalVector_out _ v
  · exact Or.inl rfl

/-- The vector that follows remembers its sources; the others remember what they did. -/
theorem State.followVector_mem (s : State) (p v u : Nat) :
    kget (s.followVector p v).vecMem u 0 = if u = v then s.vecSources p v else kget s.vecMem u 0 := by
  have h : (s.followVector p v).vecMem =
      if s.vecSources p v = 0 then kdel s.vecMem v else kput s.vecMem v (s.vecSources p v) := by
    unfold State.followVector
    dsimp only
    split
    · rw [State.signalVector_frame]
    · rfl
  rw [h]
  split
  · next h0 =>
    split
    · next e => rw [e, kget_kdel_same, h0]
    · next e => exact kget_kdel_ne _ _ e
  · split
    · next e => rw [e, kget_kput_same]
    · next e => exact kget_kput_ne _ _ _ e

/-- The sources of a vector depend on the routes alone. -/
theorem State.vecSources_congr {s t : State} (p v : Nat)
    (h : ∀ i, i < 96 → t.get (Reg.EVT_ROUTE i) = s.get (Reg.EVT_ROUTE i)) : t.vecSources p v = s.vecSources p v := by
  unfold State.vecSources
  refine List.foldl_ext _ _ _ (fun acc i hi => ?_)
  have hi := h i (List.mem_range.1 hi)
  have e1 : t.on (Fld.EVT_ROUTE_MSIX i) = s.on (Fld.EVT_ROUTE_MSIX i) := by
    simp only [State.on, State.fld]
    rw [show (Fld.EVT_ROUTE_MSIX i).addr = Reg.EVT_ROUTE i from rfl, hi]
  have e2 : t.fld (Fld.EVT_ROUTE_VEC i) = s.fld (Fld.EVT_ROUTE_VEC i) := by
    simp only [State.fld]
    rw [show (Fld.EVT_ROUTE_VEC i).addr = Reg.EVT_ROUTE i from rfl, hi]
  rw [e1, e2]

/-- Following the vectors changes no register but the PBA bits. -/
theorem foldl_followVector_get (p : Nat) (l : List Nat) (s : State) {a : Nat} (h0 : a ≠ Reg.MSIX_PBA0)
    (h1 : a ≠ Reg.MSIX_PBA1) : (l.foldl (fun t v => t.followVector p v) s).get a = s.get a := by
  induction l generalizing s with
  | nil => rfl
  | cons v l ih => rw [List.foldl_cons, ih, State.followVector_get _ _ _ h0 h1]

theorem route_ne_pba (i : Nat) (h : i < 96) : Reg.EVT_ROUTE i ≠ Reg.MSIX_PBA0 ∧ Reg.EVT_ROUTE i ≠ Reg.MSIX_PBA1 := by
  unfold Reg.EVT_ROUTE Reg.MSIX_PBA0 Reg.MSIX_PBA1 pf1
  omega

/-- Each vector that follows its sources remembers them. -/
theorem foldl_followVector_mem (p : Nat) (l : List Nat) (hn : l.Nodup) (s : State) (u : Nat) :
    kget (l.foldl (fun t v => t.followVector p v) s).vecMem u 0 =
      if u ∈ l then s.vecSources p u else kget s.vecMem u 0 := by
  induction l generalizing s with
  | nil => simp
  | cons v l ih =>
    rw [List.foldl_cons, ih (List.nodup_cons.1 hn).2]
    have hv : ∀ w, (s.followVector p v).vecSources p w = s.vecSources p w := fun w =>
      State.vecSources_congr _ _ (fun i hi => State.followVector_get _ _ _ (route_ne_pba i hi).1 (route_ne_pba i hi).2)
    rw [hv, State.followVector_mem]
    have hn' := (List.nodup_cons.1 hn).1
    by_cases h : u ∈ l <;> by_cases h' : u = v <;> simp_all

/-- What a step answers keeps its queue. -/
@[simp] theorem State.after_pending (s : State) (dt : Nat) (f : State → State) : (s.after dt f).pending = s.pending := rfl

end Sys2Proof.Machine
end

