-- ==== Sys2Proof/Laws/Exec.lean ====
section
/-!
SUPPORT. Laws/Exec.lean: every command answers a next state of one shape: time passes, an effect, the event controller follows.
-/
namespace Sys2Proof.Machine

theorem exec_shape (c : Instr) (s : State) : ∃ dt f, exec c s = .next (s.after dt f) := by
  cases c <;> exact ⟨_, _, rfl⟩

/-- A condition that holds lets the effect happen. -/
theorem onlyIf_true {c : Bool} (f : State → State) (s : State) (h : c = true) : onlyIf c f s = f s := by simp [onlyIf, h]

/-- A condition that fails leaves the state. -/
theorem onlyIf_false {c : Bool} (f : State → State) (s : State) (h : c = false) : onlyIf c f s = s := by simp [onlyIf, h]

/-- A write that passes the checks acts. -/
theorem State.guarded_ok {s : State} {src : Src} {a : Nat} (f : State → State) (h : s.access src a = .ok) :
    s.guarded src a f = f s := by simp [State.guarded, h]

/-- A write that the checks refuse is recorded. -/
theorem State.guarded_err {s : State} {src : Src} {a k : Nat} (f : State → State) (h : s.access src a = .err k) :
    s.guarded src a f = s.accessError src k a := by simp [State.guarded, h]

/-- A write to an absent Leaf does nothing. -/
theorem State.guarded_void {s : State} {src : Src} {a : Nat} (f : State → State) (h : s.access src a = .void) :
    s.guarded src a f = s := by simp [State.guarded, h]

/-- A command whose effect on the state it finds is that of g answers the state that g leaves. -/
theorem effect_eq {dt : Nat} {s : State} {f g : State → State} (h : f (s.later dt) = g (s.later dt)) :
    effect dt f s = .next (s.after dt g) := by simp only [effect, State.after]; rw [h]

end Sys2Proof.Machine
end

