-- ==== Sys2Proof/Laws/State.lean ====
section
/-!
SUPPORT. Laws/State.lean: what the updates every command is made of leave alone, one lemma per field and update.
-/
namespace Sys2Proof.Machine

variable (s : State)

/-! ## `set` -/

@[simp] theorem State.set_pending (a : Nat) (w : Word) : (s.set a w).pending = s.pending := rfl
@[simp] theorem State.set_out (a : Nat) (w : Word) : (s.set a w).out = s.out := rfl
@[simp] theorem State.set_held (a : Nat) (w : Word) : (s.set a w).held = s.held := rfl
@[simp] theorem State.set_latched (a : Nat) (w : Word) : (s.set a w).latched = s.latched := rfl
@[simp] theorem State.set_member (a : Nat) (w : Word) : (s.set a w).member = s.member := rfl
@[simp] theorem State.set_gradeE (a : Nat) (w : Word) : (s.set a w).gradeE = s.gradeE := rfl
@[simp] theorem State.set_ticks (a : Nat) (w : Word) : (s.set a w).ticks = s.ticks := rfl
@[simp] theorem State.set_fine (a : Nat) (w : Word) : (s.set a w).fine = s.fine := rfl
@[simp] theorem State.set_fresh (a : Nat) (w : Word) : (s.set a w).fresh = s.fresh := rfl
@[simp] theorem State.set_tsuLockAt (a : Nat) (w : Word) : (s.set a w).tsuLockAt = s.tsuLockAt := rfl
@[simp] theorem State.set_timers (a : Nat) (w : Word) : (s.set a w).timers = s.timers := rfl
@[simp] theorem State.set_setLoad (a : Nat) (w : Word) : (s.set a w).setLoad = s.setLoad := rfl
@[simp] theorem State.set_caps (a : Nat) (w : Word) : (s.set a w).caps = s.caps := rfl
@[simp] theorem State.set_pulses (a : Nat) (w : Word) : (s.set a w).pulses = s.pulses := rfl
@[simp] theorem State.set_acts (a : Nat) (w : Word) : (s.set a w).acts = s.acts := rfl
@[simp] theorem State.set_actCmds (a : Nat) (w : Word) : (s.set a w).actCmds = s.actCmds := rfl
@[simp] theorem State.set_stepAt (a : Nat) (w : Word) : (s.set a w).stepAt = s.stepAt := rfl
@[simp] theorem State.set_aligns (a : Nat) (w : Word) : (s.set a w).aligns = s.aligns := rfl
@[simp] theorem State.set_powered (a : Nat) (w : Word) : (s.set a w).powered = s.powered := rfl
@[simp] theorem State.set_counting (a : Nat) (w : Word) : (s.set a w).counting = s.counting := rfl
@[simp] theorem State.set_doms (a : Nat) (w : Word) : (s.set a w).doms = s.doms := rfl
@[simp] theorem State.set_fn0 (a : Nat) (w : Word) : (s.set a w).fn0 = s.fn0 := rfl
@[simp] theorem State.set_fn1 (a : Nat) (w : Word) : (s.set a w).fn1 = s.fn1 := rfl
@[simp] theorem State.set_vecMem (a : Nat) (w : Word) : (s.set a w).vecMem = s.vecMem := rfl
@[simp] theorem State.set_irqLow (a : Nat) (w : Word) : (s.set a w).irqLow = s.irqLow := rfl
@[simp] theorem State.set_quiet (a : Nat) (w : Word) : (s.set a w).quiet = s.quiet := rfl
@[simp] theorem State.set_leafAt (a : Nat) (w : Word) : (s.set a w).leafAt = s.leafAt := rfl
@[simp] theorem State.set_dies (a : Nat) (w : Word) : (s.set a w).dies = s.dies := rfl
@[simp] theorem State.set_ports (a : Nat) (w : Word) : (s.set a w).ports = s.ports := rfl
@[simp] theorem State.set_frames (a : Nat) (w : Word) : (s.set a w).frames = s.frames := rfl
@[simp] theorem State.set_flight (a : Nat) (w : Word) : (s.set a w).flight = s.flight := rfl
@[simp] theorem State.set_crcAt (a : Nat) (w : Word) : (s.set a w).crcAt = s.crcAt := rfl
@[simp] theorem State.set_limWas (a : Nat) (w : Word) : (s.set a w).limWas = s.limWas := rfl
@[simp] theorem State.set_slot (a : Nat) (w : Word) : (s.set a w).slot = s.slot := rfl
@[simp] theorem State.set_cnt (a : Nat) (w : Word) : (s.set a w).cnt = s.cnt := rfl
@[simp] theorem State.set_lately (a : Nat) (w : Word) : (s.set a w).lately = s.lately := rfl
@[simp] theorem State.set_frozen (a : Nat) (w : Word) : (s.set a w).frozen = s.frozen := rfl
@[simp] theorem State.set_shadow (a : Nat) (w : Word) : (s.set a w).shadow = s.shadow := rfl
@[simp] theorem State.set_snap (a : Nat) (w : Word) : (s.set a w).snap = s.snap := rfl
@[simp] theorem State.set_homes (a : Nat) (w : Word) : (s.set a w).homes = s.homes := rfl
@[simp] theorem State.set_rings (a : Nat) (w : Word) : (s.set a w).rings = s.rings := rfl
@[simp] theorem State.set_fwStamps (a : Nat) (w : Word) : (s.set a w).fwStamps = s.fwStamps := rfl
@[simp] theorem State.set_rqSince (a : Nat) (w : Word) : (s.set a w).rqSince = s.rqSince := rfl
@[simp] theorem State.set_escans (a : Nat) (w : Word) : (s.set a w).escans = s.escans := rfl
@[simp] theorem State.set_scanEnd (a : Nat) (w : Word) : (s.set a w).scanEnd = s.scanEnd := rfl
@[simp] theorem State.set_calLanes (a : Nat) (w : Word) : (s.set a w).calLanes = s.calLanes := rfl
@[simp] theorem State.set_movesSec (a : Nat) (w : Word) : (s.set a w).movesSec = s.movesSec := rfl
@[simp] theorem State.set_calNext (a : Nat) (w : Word) : (s.set a w).calNext = s.calNext := rfl
@[simp] theorem State.set_params (a : Nat) (w : Word) : (s.set a w).params = s.params := rfl
@[simp] theorem State.set_dplls (a : Nat) (w : Word) : (s.set a w).dplls = s.dplls := rfl
@[simp] theorem State.set_pairs (a : Nat) (w : Word) : (s.set a w).pairs = s.pairs := rfl
@[simp] theorem State.set_refAt (a : Nat) (w : Word) : (s.set a w).refAt = s.refAt := rfl
@[simp] theorem State.set_slotHeard (a : Nat) (w : Word) : (s.set a w).slotHeard = s.slotHeard := rfl
@[simp] theorem State.set_slotEvery (a : Nat) (w : Word) : (s.set a w).slotEvery = s.slotEvery := rfl
@[simp] theorem State.set_slotEdges (a : Nat) (w : Word) : (s.set a w).slotEdges = s.slotEdges := rfl
@[simp] theorem State.set_age (a : Nat) (w : Word) : (s.set a w).age = s.age := rfl
@[simp] theorem State.set_dfine (a : Nat) (w : Word) : (s.set a w).dfine = s.dfine := rfl
@[simp] theorem State.set_apllMove (a : Nat) (w : Word) : (s.set a w).apllMove = s.apllMove := rfl
@[simp] theorem State.set_ckouts (a : Nat) (w : Word) : (s.set a w).ckouts = s.ckouts := rfl
@[simp] theorem State.set_syncinAt (a : Nat) (w : Word) : (s.set a w).syncinAt = s.syncinAt := rfl
@[simp] theorem State.set_divLoads (a : Nat) (w : Word) : (s.set a w).divLoads = s.divLoads := rfl
@[simp] theorem State.set_relocks (a : Nat) (w : Word) : (s.set a w).relocks = s.relocks := rfl
@[simp] theorem State.set_tsuLossAt (a : Nat) (w : Word) : (s.set a w).tsuLossAt = s.tsuLossAt := rfl
@[simp] theorem State.set_gnss (a : Nat) (w : Word) : (s.set a w).gnss = s.gnss := rfl
@[simp] theorem State.set_chans (a : Nat) (w : Word) : (s.set a w).chans = s.chans := rfl
@[simp] theorem State.set_hbs (a : Nat) (w : Word) : (s.set a w).hbs = s.hbs := rfl
@[simp] theorem State.set_hbSent (a : Nat) (w : Word) : (s.set a w).hbSent = s.hbSent := rfl
@[simp] theorem State.set_clms (a : Nat) (w : Word) : (s.set a w).clms = s.clms := rfl
@[simp] theorem State.set_gateDue (a : Nat) (w : Word) : (s.set a w).gateDue = s.gateDue := rfl
@[simp] theorem State.set_slotBound (a : Nat) (w : Word) : (s.set a w).slotBound = s.slotBound := rfl
@[simp] theorem State.set_power (a : Nat) (w : Word) : (s.set a w).power = s.power := rfl
@[simp] theorem State.set_drainLimit (a : Nat) (w : Word) : (s.set a w).drainLimit = s.drainLimit := rfl
@[simp] theorem State.set_restarts (a : Nat) (w : Word) : (s.set a w).restarts = s.restarts := rfl
@[simp] theorem State.set_shadows (a : Nat) (w : Word) : (s.set a w).shadows = s.shadows := rfl
@[simp] theorem State.set_starting (a : Nat) (w : Word) : (s.set a w).starting = s.starting := rfl
@[simp] theorem State.set_boot (a : Nat) (w : Word) : (s.set a w).boot = s.boot := rfl
@[simp] theorem State.set_flash (a : Nat) (w : Word) : (s.set a w).flash = s.flash := rfl
@[simp] theorem State.set_staging (a : Nat) (w : Word) : (s.set a w).staging = s.staging := rfl
@[simp] theorem State.set_sysMem (a : Nat) (w : Word) : (s.set a w).sysMem = s.sysMem := rfl
@[simp] theorem State.set_spiNow (a : Nat) (w : Word) : (s.set a w).spiNow = s.spiNow := rfl
@[simp] theorem State.set_fuses (a : Nat) (w : Word) : (s.set a w).fuses = s.fuses := rfl
@[simp] theorem State.set_mbxQueue (a : Nat) (w : Word) : (s.set a w).mbxQueue = s.mbxQueue := rfl
@[simp] theorem State.set_goAt (a : Nat) (w : Word) : (s.set a w).goAt = s.goAt := rfl
@[simp] theorem State.set_psets (a : Nat) (w : Word) : (s.set a w).psets = s.psets := rfl
@[simp] theorem State.set_cal (a : Nat) (w : Word) : (s.set a w).cal = s.cal := rfl
@[simp] theorem State.set_neighbours (a : Nat) (w : Word) : (s.set a w).neighbours = s.neighbours := rfl
@[simp] theorem State.set_lldpAt (a : Nat) (w : Word) : (s.set a w).lldpAt = s.lldpAt := rfl
@[simp] theorem State.set_sweptAt (a : Nat) (w : Word) : (s.set a w).sweptAt = s.sweptAt := rfl
@[simp] theorem State.set_snoop (a : Nat) (w : Word) : (s.set a w).snoop = s.snoop := rfl
@[simp] theorem State.set_ptps (a : Nat) (w : Word) : (s.set a w).ptps = s.ptps := rfl
@[simp] theorem State.set_bseq (a : Nat) (w : Word) : (s.set a w).bseq = s.bseq := rfl
@[simp] theorem State.set_bseen (a : Nat) (w : Word) : (s.set a w).bseen = s.bseen := rfl
@[simp] theorem State.set_bcount (a : Nat) (w : Word) : (s.set a w).bcount = s.bcount := rfl
@[simp] theorem State.set_txTurn (a : Nat) (w : Word) : (s.set a w).txTurn = s.txTurn := rfl
@[simp] theorem State.set_i2cLost (a : Nat) (w : Word) : (s.set a w).i2cLost = s.i2cLost := rfl

/-! ## `setFld` -/

@[simp] theorem State.setFld_pending (f : FRef) (v : Nat) : (s.setFld f v).pending = s.pending := rfl
@[simp] theorem State.setFld_out (f : FRef) (v : Nat) : (s.setFld f v).out = s.out := rfl
@[simp] theorem State.setFld_held (f : FRef) (v : Nat) : (s.setFld f v).held = s.held := rfl
@[simp] theorem State.setFld_latched (f : FRef) (v : Nat) : (s.setFld f v).latched = s.latched := rfl
@[simp] theorem State.setFld_member (f : FRef) (v : Nat) : (s.setFld f v).member = s.member := rfl
@[simp] theorem State.setFld_gradeE (f : FRef) (v : Nat) : (s.setFld f v).gradeE = s.gradeE := rfl
@[simp] theorem State.setFld_ticks (f : FRef) (v : Nat) : (s.setFld f v).ticks = s.ticks := rfl
@[simp] theorem State.setFld_fine (f : FRef) (v : Nat) : (s.setFld f v).fine = s.fine := rfl
@[simp] theorem State.setFld_fresh (f : FRef) (v : Nat) : (s.setFld f v).fresh = s.fresh := rfl
@[simp] theorem State.setFld_tsuLockAt (f : FRef) (v : Nat) : (s.setFld f v).tsuLockAt = s.tsuLockAt := rfl
@[simp] theorem State.setFld_timers (f : FRef) (v : Nat) : (s.setFld f v).timers = s.timers := rfl
@[simp] theorem State.setFld_setLoad (f : FRef) (v : Nat) : (s.setFld f v).setLoad = s.setLoad := rfl
@[simp] theorem State.setFld_caps (f : FRef) (v : Nat) : (s.setFld f v).caps = s.caps := rfl
@[simp] theorem State.setFld_pulses (f : FRef) (v : Nat) : (s.setFld f v).pulses = s.pulses := rfl
@[simp] theorem State.setFld_acts (f : FRef) (v : Nat) : (s.setFld f v).acts = s.acts := rfl
@[simp] theorem State.setFld_actCmds (f : FRef) (v : Nat) : (s.setFld f v).actCmds = s.actCmds := rfl
@[simp] theorem State.setFld_stepAt (f : FRef) (v : Nat) : (s.setFld f v).stepAt = s.stepAt := rfl
@[simp] theorem State.setFld_aligns (f : FRef) (v : Nat) : (s.setFld f v).aligns = s.aligns := rfl
@[simp] theorem State.setFld_powered (f : FRef) (v : Nat) : (s.setFld f v).powered = s.powered := rfl
@[simp] theorem State.setFld_counting (f : FRef) (v : Nat) : (s.setFld f v).counting = s.counting := rfl
@[simp] theorem State.setFld_doms (f : FRef) (v : Nat) : (s.setFld f v).doms = s.doms := rfl
@[simp] theorem State.setFld_fn0 (f : FRef) (v : Nat) : (s.setFld f v).fn0 = s.fn0 := rfl
@[simp] theorem State.setFld_fn1 (f : FRef) (v : Nat) : (s.setFld f v).fn1 = s.fn1 := rfl
@[simp] theorem State.setFld_vecMem (f : FRef) (v : Nat) : (s.setFld f v).vecMem = s.vecMem := rfl
@[simp] theorem State.setFld_irqLow (f : FRef) (v : Nat) : (s.setFld f v).irqLow = s.irqLow := rfl
@[simp] theorem State.setFld_quiet (f : FRef) (v : Nat) : (s.setFld f v).quiet = s.quiet := rfl
@[simp] theorem State.setFld_leafAt (f : FRef) (v : Nat) : (s.setFld f v).leafAt = s.leafAt := rfl
@[simp] theorem State.setFld_dies (f : FRef) (v : Nat) : (s.setFld f v).dies = s.dies := rfl
@[simp] theorem State.setFld_ports (f : FRef) (v : Nat) : (s.setFld f v).ports = s.ports := rfl
@[simp] theorem State.setFld_frames (f : FRef) (v : Nat) : (s.setFld f v).frames = s.frames := rfl
@[simp] theorem State.setFld_flight (f : FRef) (v : Nat) : (s.setFld f v).flight = s.flight := rfl
@[simp] theorem State.setFld_crcAt (f : FRef) (v : Nat) : (s.setFld f v).crcAt = s.crcAt := rfl
@[simp] theorem State.setFld_limWas (f : FRef) (v : Nat) : (s.setFld f v).limWas = s.limWas := rfl
@[simp] theorem State.setFld_slot (f : FRef) (v : Nat) : (s.setFld f v).slot = s.slot := rfl
@[simp] theorem State.setFld_cnt (f : FRef) (v : Nat) : (s.setFld f v).cnt = s.cnt := rfl
@[simp] theorem State.setFld_lately (f : FRef) (v : Nat) : (s.setFld f v).lately = s.lately := rfl
@[simp] theorem State.setFld_frozen (f : FRef) (v : Nat) : (s.setFld f v).frozen = s.frozen := rfl
@[simp] theorem State.setFld_shadow (f : FRef) (v : Nat) : (s.setFld f v).shadow = s.shadow := rfl
@[simp] theorem State.setFld_snap (f : FRef) (v : Nat) : (s.setFld f v).snap = s.snap := rfl
@[simp] theorem State.setFld_homes (f : FRef) (v : Nat) : (s.setFld f v).homes = s.homes := rfl
@[simp] theorem State.setFld_rings (f : FRef) (v : Nat) : (s.setFld f v).rings = s.rings := rfl
@[simp] theorem State.setFld_fwStamps (f : FRef) (v : Nat) : (s.setFld f v).fwStamps = s.fwStamps := rfl
@[simp] theorem State.setFld_rqSince (f : FRef) (v : Nat) : (s.setFld f v).rqSince = s.rqSince := rfl
@[simp] theorem State.setFld_escans (f : FRef) (v : Nat) : (s.setFld f v).escans = s.escans := rfl
@[simp] theorem State.setFld_scanEnd (f : FRef) (v : Nat) : (s.setFld f v).scanEnd = s.scanEnd := rfl
@[simp] theorem State.setFld_calLanes (f : FRef) (v : Nat) : (s.setFld f v).calLanes = s.calLanes := rfl
@[simp] theorem State.setFld_movesSec (f : FRef) (v : Nat) : (s.setFld f v).movesSec = s.movesSec := rfl
@[simp] theorem State.setFld_calNext (f : FRef) (v : Nat) : (s.setFld f v).calNext = s.calNext := rfl
@[simp] theorem State.setFld_params (f : FRef) (v : Nat) : (s.setFld f v).params = s.params := rfl
@[simp] theorem State.setFld_dplls (f : FRef) (v : Nat) : (s.setFld f v).dplls = s.dplls := rfl
@[simp] theorem State.setFld_pairs (f : FRef) (v : Nat) : (s.setFld f v).pairs = s.pairs := rfl
@[simp] theorem State.setFld_refAt (f : FRef) (v : Nat) : (s.setFld f v).refAt = s.refAt := rfl
@[simp] theorem State.setFld_slotHeard (f : FRef) (v : Nat) : (s.setFld f v).slotHeard = s.slotHeard := rfl
@[simp] theorem State.setFld_slotEvery (f : FRef) (v : Nat) : (s.setFld f v).slotEvery = s.slotEvery := rfl
@[simp] theorem State.setFld_slotEdges (f : FRef) (v : Nat) : (s.setFld f v).slotEdges = s.slotEdges := rfl
@[simp] theorem State.setFld_age (f : FRef) (v : Nat) : (s.setFld f v).age = s.age := rfl
@[simp] theorem State.setFld_dfine (f : FRef) (v : Nat) : (s.setFld f v).dfine = s.dfine := rfl
@[simp] theorem State.setFld_apllMove (f : FRef) (v : Nat) : (s.setFld f v).apllMove = s.apllMove := rfl
@[simp] theorem State.setFld_ckouts (f : FRef) (v : Nat) : (s.setFld f v).ckouts = s.ckouts := rfl
@[simp] theorem State.setFld_syncinAt (f : FRef) (v : Nat) : (s.setFld f v).syncinAt = s.syncinAt := rfl
@[simp] theorem State.setFld_divLoads (f : FRef) (v : Nat) : (s.setFld f v).divLoads = s.divLoads := rfl
@[simp] theorem State.setFld_relocks (f : FRef) (v : Nat) : (s.setFld f v).relocks = s.relocks := rfl
@[simp] theorem State.setFld_tsuLossAt (f : FRef) (v : Nat) : (s.setFld f v).tsuLossAt = s.tsuLossAt := rfl
@[simp] theorem State.setFld_gnss (f : FRef) (v : Nat) : (s.setFld f v).gnss = s.gnss := rfl
@[simp] theorem State.setFld_chans (f : FRef) (v : Nat) : (s.setFld f v).chans = s.chans := rfl
@[simp] theorem State.setFld_hbs (f : FRef) (v : Nat) : (s.setFld f v).hbs = s.hbs := rfl
@[simp] theorem State.setFld_hbSent (f : FRef) (v : Nat) : (s.setFld f v).hbSent = s.hbSent := rfl
@[simp] theorem State.setFld_clms (f : FRef) (v : Nat) : (s.setFld f v).clms = s.clms := rfl
@[simp] theorem State.setFld_gateDue (f : FRef) (v : Nat) : (s.setFld f v).gateDue = s.gateDue := rfl
@[simp] theorem State.setFld_slotBound (f : FRef) (v : Nat) : (s.setFld f v).slotBound = s.slotBound := rfl
@[simp] theorem State.setFld_power (f : FRef) (v : Nat) : (s.setFld f v).power = s.power := rfl
@[simp] theorem State.setFld_drainLimit (f : FRef) (v : Nat) : (s.setFld f v).drainLimit = s.drainLimit := rfl
@[simp] theorem State.setFld_restarts (f : FRef) (v : Nat) : (s.setFld f v).restarts = s.restarts := rfl
@[simp] theorem State.setFld_shadows (f : FRef) (v : Nat) : (s.setFld f v).shadows = s.shadows := rfl
@[simp] theorem State.setFld_starting (f : FRef) (v : Nat) : (s.setFld f v).starting = s.starting := rfl
@[simp] theorem State.setFld_boot (f : FRef) (v : Nat) : (s.setFld f v).boot = s.boot := rfl
@[simp] theorem State.setFld_flash (f : FRef) (v : Nat) : (s.setFld f v).flash = s.flash := rfl
@[simp] theorem State.setFld_staging (f : FRef) (v : Nat) : (s.setFld f v).staging = s.staging := rfl
@[simp] theorem State.setFld_sysMem (f : FRef) (v : Nat) : (s.setFld f v).sysMem = s.sysMem := rfl
@[simp] theorem State.setFld_spiNow (f : FRef) (v : Nat) : (s.setFld f v).spiNow = s.spiNow := rfl
@[simp] theorem State.setFld_fuses (f : FRef) (v : Nat) : (s.setFld f v).fuses = s.fuses := rfl
@[simp] theorem State.setFld_mbxQueue (f : FRef) (v : Nat) : (s.setFld f v).mbxQueue = s.mbxQueue := rfl
@[simp] theorem State.setFld_goAt (f : FRef) (v : Nat) : (s.setFld f v).goAt = s.goAt := rfl
@[simp] theorem State.setFld_psets (f : FRef) (v : Nat) : (s.setFld f v).psets = s.psets := rfl
@[simp] theorem State.setFld_cal (f : FRef) (v : Nat) : (s.setFld f v).cal = s.cal := rfl
@[simp] theorem State.setFld_neighbours (f : FRef) (v : Nat) : (s.setFld f v).neighbours = s.neighbours := rfl
@[simp] theorem State.setFld_lldpAt (f : FRef) (v : Nat) : (s.setFld f v).lldpAt = s.lldpAt := rfl
@[simp] theorem State.setFld_sweptAt (f : FRef) (v : Nat) : (s.setFld f v).sweptAt = s.sweptAt := rfl
@[simp] theorem State.setFld_snoop (f : FRef) (v : Nat) : (s.setFld f v).snoop = s.snoop := rfl
@[simp] theorem State.setFld_ptps (f : FRef) (v : Nat) : (s.setFld f v).ptps = s.ptps := rfl
@[simp] theorem State.setFld_bseq (f : FRef) (v : Nat) : (s.setFld f v).bseq = s.bseq := rfl
@[simp] theorem State.setFld_bseen (f : FRef) (v : Nat) : (s.setFld f v).bseen = s.bseen := rfl
@[simp] theorem State.setFld_bcount (f : FRef) (v : Nat) : (s.setFld f v).bcount = s.bcount := rfl
@[simp] theorem State.setFld_txTurn (f : FRef) (v : Nat) : (s.setFld f v).txTurn = s.txTurn := rfl
@[simp] theorem State.setFld_i2cLost (f : FRef) (v : Nat) : (s.setFld f v).i2cLost = s.i2cLost := rfl

/-! ## `raise` -/

@[simp] theorem State.raise_pending (f : FRef) : (s.raise f).pending = s.pending := rfl
@[simp] theorem State.raise_out (f : FRef) : (s.raise f).out = s.out := rfl
@[simp] theorem State.raise_held (f : FRef) : (s.raise f).held = s.held := rfl
@[simp] theorem State.raise_latched (f : FRef) : (s.raise f).latched = s.latched := rfl
@[simp] theorem State.raise_member (f : FRef) : (s.raise f).member = s.member := rfl
@[simp] theorem State.raise_gradeE (f : FRef) : (s.raise f).gradeE = s.gradeE := rfl
@[simp] theorem State.raise_ticks (f : FRef) : (s.raise f).ticks = s.ticks := rfl
@[simp] theorem State.raise_fine (f : FRef) : (s.raise f).fine = s.fine := rfl
@[simp] theorem State.raise_fresh (f : FRef) : (s.raise f).fresh = s.fresh := rfl
@[simp] theorem State.raise_tsuLockAt (f : FRef) : (s.raise f).tsuLockAt = s.tsuLockAt := rfl
@[simp] theorem State.raise_timers (f : FRef) : (s.raise f).timers = s.timers := rfl
@[simp] theorem State.raise_setLoad (f : FRef) : (s.raise f).setLoad = s.setLoad := rfl
@[simp] theorem State.raise_caps (f : FRef) : (s.raise f).caps = s.caps := rfl
@[simp] theorem State.raise_pulses (f : FRef) : (s.raise f).pulses = s.pulses := rfl
@[simp] theorem State.raise_acts (f : FRef) : (s.raise f).acts = s.acts := rfl
@[simp] theorem State.raise_actCmds (f : FRef) : (s.raise f).actCmds = s.actCmds := rfl
@[simp] theorem State.raise_stepAt (f : FRef) : (s.raise f).stepAt = s.stepAt := rfl
@[simp] theorem State.raise_aligns (f : FRef) : (s.raise f).aligns = s.aligns := rfl
@[simp] theorem State.raise_powered (f : FRef) : (s.raise f).powered = s.powered := rfl
@[simp] theorem State.raise_counting (f : FRef) : (s.raise f).counting = s.counting := rfl
@[simp] theorem State.raise_doms (f : FRef) : (s.raise f).doms = s.doms := rfl
@[simp] theorem State.raise_fn0 (f : FRef) : (s.raise f).fn0 = s.fn0 := rfl
@[simp] theorem State.raise_fn1 (f : FRef) : (s.raise f).fn1 = s.fn1 := rfl
@[simp] theorem State.raise_vecMem (f : FRef) : (s.raise f).vecMem = s.vecMem := rfl
@[simp] theorem State.raise_irqLow (f : FRef) : (s.raise f).irqLow = s.irqLow := rfl
@[simp] theorem State.raise_quiet (f : FRef) : (s.raise f).quiet = s.quiet := rfl
@[simp] theorem State.raise_leafAt (f : FRef) : (s.raise f).leafAt = s.leafAt := rfl
@[simp] theorem State.raise_dies (f : FRef) : (s.raise f).dies = s.dies := rfl
@[simp] theorem State.raise_ports (f : FRef) : (s.raise f).ports = s.ports := rfl
@[simp] theorem State.raise_frames (f : FRef) : (s.raise f).frames = s.frames := rfl
@[simp] theorem State.raise_flight (f : FRef) : (s.raise f).flight = s.flight := rfl
@[simp] theorem State.raise_crcAt (f : FRef) : (s.raise f).crcAt = s.crcAt := rfl
@[simp] theorem State.raise_limWas (f : FRef) : (s.raise f).limWas = s.limWas := rfl
@[simp] theorem State.raise_slot (f : FRef) : (s.raise f).slot = s.slot := rfl
@[simp] theorem State.raise_cnt (f : FRef) : (s.raise f).cnt = s.cnt := rfl
@[simp] theorem State.raise_lately (f : FRef) : (s.raise f).lately = s.lately := rfl
@[simp] theorem State.raise_frozen (f : FRef) : (s.raise f).frozen = s.frozen := rfl
@[simp] theorem State.raise_shadow (f : FRef) : (s.raise f).shadow = s.shadow := rfl
@[simp] theorem State.raise_snap (f : FRef) : (s.raise f).snap = s.snap := rfl
@[simp] theorem State.raise_homes (f : FRef) : (s.raise f).homes = s.homes := rfl
@[simp] theorem State.raise_rings (f : FRef) : (s.raise f).rings = s.rings := rfl
@[simp] theorem State.raise_fwStamps (f : FRef) : (s.raise f).fwStamps = s.fwStamps := rfl
@[simp] theorem State.raise_rqSince (f : FRef) : (s.raise f).rqSince = s.rqSince := rfl
@[simp] theorem State.raise_escans (f : FRef) : (s.raise f).escans = s.escans := rfl
@[simp] theorem State.raise_scanEnd (f : FRef) : (s.raise f).scanEnd = s.scanEnd := rfl
@[simp] theorem State.raise_calLanes (f : FRef) : (s.raise f).calLanes = s.calLanes := rfl
@[simp] theorem State.raise_movesSec (f : FRef) : (s.raise f).movesSec = s.movesSec := rfl
@[simp] theorem State.raise_calNext (f : FRef) : (s.raise f).calNext = s.calNext := rfl
@[simp] theorem State.raise_params (f : FRef) : (s.raise f).params = s.params := rfl
@[simp] theorem State.raise_dplls (f : FRef) : (s.raise f).dplls = s.dplls := rfl
@[simp] theorem State.raise_pairs (f : FRef) : (s.raise f).pairs = s.pairs := rfl
@[simp] theorem State.raise_refAt (f : FRef) : (s.raise f).refAt = s.refAt := rfl
@[simp] theorem State.raise_slotHeard (f : FRef) : (s.raise f).slotHeard = s.slotHeard := rfl
@[simp] theorem State.raise_slotEvery (f : FRef) : (s.raise f).slotEvery = s.slotEvery := rfl
@[simp] theorem State.raise_slotEdges (f : FRef) : (s.raise f).slotEdges = s.slotEdges := rfl
@[simp] theorem State.raise_age (f : FRef) : (s.raise f).age = s.age := rfl
@[simp] theorem State.raise_dfine (f : FRef) : (s.raise f).dfine = s.dfine := rfl
@[simp] theorem State.raise_apllMove (f : FRef) : (s.raise f).apllMove = s.apllMove := rfl
@[simp] theorem State.raise_ckouts (f : FRef) : (s.raise f).ckouts = s.ckouts := rfl
@[simp] theorem State.raise_syncinAt (f : FRef) : (s.raise f).syncinAt = s.syncinAt := rfl
@[simp] theorem State.raise_divLoads (f : FRef) : (s.raise f).divLoads = s.divLoads := rfl
@[simp] theorem State.raise_relocks (f : FRef) : (s.raise f).relocks = s.relocks := rfl
@[simp] theorem State.raise_tsuLossAt (f : FRef) : (s.raise f).tsuLossAt = s.tsuLossAt := rfl
@[simp] theorem State.raise_gnss (f : FRef) : (s.raise f).gnss = s.gnss := rfl
@[simp] theorem State.raise_chans (f : FRef) : (s.raise f).chans = s.chans := rfl
@[simp] theorem State.raise_hbs (f : FRef) : (s.raise f).hbs = s.hbs := rfl
@[simp] theorem State.raise_hbSent (f : FRef) : (s.raise f).hbSent = s.hbSent := rfl
@[simp] theorem State.raise_clms (f : FRef) : (s.raise f).clms = s.clms := rfl
@[simp] theorem State.raise_gateDue (f : FRef) : (s.raise f).gateDue = s.gateDue := rfl
@[simp] theorem State.raise_slotBound (f : FRef) : (s.raise f).slotBound = s.slotBound := rfl
@[simp] theorem State.raise_power (f : FRef) : (s.raise f).power = s.power := rfl
@[simp] theorem State.raise_drainLimit (f : FRef) : (s.raise f).drainLimit = s.drainLimit := rfl
@[simp] theorem State.raise_restarts (f : FRef) : (s.raise f).restarts = s.restarts := rfl
@[simp] theorem State.raise_shadows (f : FRef) : (s.raise f).shadows = s.shadows := rfl
@[simp] theorem State.raise_starting (f : FRef) : (s.raise f).starting = s.starting := rfl
@[simp] theorem State.raise_boot (f : FRef) : (s.raise f).boot = s.boot := rfl
@[simp] theorem State.raise_flash (f : FRef) : (s.raise f).flash = s.flash := rfl
@[simp] theorem State.raise_staging (f : FRef) : (s.raise f).staging = s.staging := rfl
@[simp] theorem State.raise_sysMem (f : FRef) : (s.raise f).sysMem = s.sysMem := rfl
@[simp] theorem State.raise_spiNow (f : FRef) : (s.raise f).spiNow = s.spiNow := rfl
@[simp] theorem State.raise_fuses (f : FRef) : (s.raise f).fuses = s.fuses := rfl
@[simp] theorem State.raise_mbxQueue (f : FRef) : (s.raise f).mbxQueue = s.mbxQueue := rfl
@[simp] theorem State.raise_goAt (f : FRef) : (s.raise f).goAt = s.goAt := rfl
@[simp] theorem State.raise_psets (f : FRef) : (s.raise f).psets = s.psets := rfl
@[simp] theorem State.raise_cal (f : FRef) : (s.raise f).cal = s.cal := rfl
@[simp] theorem State.raise_neighbours (f : FRef) : (s.raise f).neighbours = s.neighbours := rfl
@[simp] theorem State.raise_lldpAt (f : FRef) : (s.raise f).lldpAt = s.lldpAt := rfl
@[simp] theorem State.raise_sweptAt (f : FRef) : (s.raise f).sweptAt = s.sweptAt := rfl
@[simp] theorem State.raise_snoop (f : FRef) : (s.raise f).snoop = s.snoop := rfl
@[simp] theorem State.raise_ptps (f : FRef) : (s.raise f).ptps = s.ptps := rfl
@[simp] theorem State.raise_bseq (f : FRef) : (s.raise f).bseq = s.bseq := rfl
@[simp] theorem State.raise_bseen (f : FRef) : (s.raise f).bseen = s.bseen := rfl
@[simp] theorem State.raise_bcount (f : FRef) : (s.raise f).bcount = s.bcount := rfl
@[simp] theorem State.raise_txTurn (f : FRef) : (s.raise f).txTurn = s.txTurn := rfl
@[simp] theorem State.raise_i2cLost (f : FRef) : (s.raise f).i2cLost = s.i2cLost := rfl

/-! ## `startTimer` -/

@[simp] theorem State.startTimer_pending (k : TimerKind) (i d : Nat) : (s.startTimer k i d).pending = s.pending := rfl
@[simp] theorem State.startTimer_out (k : TimerKind) (i d : Nat) : (s.startTimer k i d).out = s.out := rfl
@[simp] theorem State.startTimer_regs (k : TimerKind) (i d : Nat) : (s.startTimer k i d).regs = s.regs := rfl
@[simp] theorem State.startTimer_held (k : TimerKind) (i d : Nat) : (s.startTimer k i d).held = s.held := rfl
@[simp] theorem State.startTimer_latched (k : TimerKind) (i d : Nat) : (s.startTimer k i d).latched = s.latched := rfl
@[simp] theorem State.startTimer_member (k : TimerKind) (i d : Nat) : (s.startTimer k i d).member = s.member := rfl
@[simp] theorem State.startTimer_gradeE (k : TimerKind) (i d : Nat) : (s.startTimer k i d).gradeE = s.gradeE := rfl
@[simp] theorem State.startTimer_ticks (k : TimerKind) (i d : Nat) : (s.startTimer k i d).ticks = s.ticks := rfl
@[simp] theorem State.startTimer_fine (k : TimerKind) (i d : Nat) : (s.startTimer k i d).fine = s.fine := rfl
@[simp] theorem State.startTimer_fresh (k : TimerKind) (i d : Nat) : (s.startTimer k i d).fresh = s.fresh := rfl
@[simp] theorem State.startTimer_tsuLockAt (k : TimerKind) (i d : Nat) : (s.startTimer k i d).tsuLockAt = s.tsuLockAt := rfl
@[simp] theorem State.startTimer_setLoad (k : TimerKind) (i d : Nat) : (s.startTimer k i d).setLoad = s.setLoad := rfl
@[simp] theorem State.startTimer_caps (k : TimerKind) (i d : Nat) : (s.startTimer k i d).caps = s.caps := rfl
@[simp] theorem State.startTimer_pulses (k : TimerKind) (i d : Nat) : (s.startTimer k i d).pulses = s.pulses := rfl
@[simp] theorem State.startTimer_acts (k : TimerKind) (i d : Nat) : (s.startTimer k i d).acts = s.acts := rfl
@[simp] theorem State.startTimer_actCmds (k : TimerKind) (i d : Nat) : (s.startTimer k i d).actCmds = s.actCmds := rfl
@[simp] theorem State.startTimer_stepAt (k : TimerKind) (i d : Nat) : (s.startTimer k i d).stepAt = s.stepAt := rfl
@[simp] theorem State.startTimer_aligns (k : TimerKind) (i d : Nat) : (s.startTimer k i d).aligns = s.aligns := rfl
@[simp] theorem State.startTimer_powered (k : TimerKind) (i d : Nat) : (s.startTimer k i d).powered = s.powered := rfl
@[simp] theorem State.startTimer_counting (k : TimerKind) (i d : Nat) : (s.startTimer k i d).counting = s.counting := rfl
@[simp] theorem State.startTimer_doms (k : TimerKind) (i d : Nat) : (s.startTimer k i d).doms = s.doms := rfl
@[simp] theorem State.startTimer_fn0 (k : TimerKind) (i d : Nat) : (s.startTimer k i d).fn0 = s.fn0 := rfl
@[simp] theorem State.startTimer_fn1 (k : TimerKind) (i d : Nat) : (s.startTimer k i d).fn1 = s.fn1 := rfl
@[simp] theorem State.startTimer_vecMem (k : TimerKind) (i d : Nat) : (s.startTimer k i d).vecMem = s.vecMem := rfl
@[simp] theorem State.startTimer_irqLow (k : TimerKind) (i d : Nat) : (s.startTimer k i d).irqLow = s.irqLow := rfl
@[simp] theorem State.startTimer_quiet (k : TimerKind) (i d : Nat) : (s.startTimer k i d).quiet = s.quiet := rfl
@[simp] theorem State.startTimer_leafAt (k : TimerKind) (i d : Nat) : (s.startTimer k i d).leafAt = s.leafAt := rfl
@[simp] theorem State.startTimer_dies (k : TimerKind) (i d : Nat) : (s.startTimer k i d).dies = s.dies := rfl
@[simp] theorem State.startTimer_ports (k : TimerKind) (i d : Nat) : (s.startTimer k i d).ports = s.ports := rfl
@[simp] theorem State.startTimer_frames (k : TimerKind) (i d : Nat) : (s.startTimer k i d).frames = s.frames := rfl
@[simp] theorem State.startTimer_flight (k : TimerKind) (i d : Nat) : (s.startTimer k i d).flight = s.flight := rfl
@[simp] theorem State.startTimer_crcAt (k : TimerKind) (i d : Nat) : (s.startTimer k i d).crcAt = s.crcAt := rfl
@[simp] theorem State.startTimer_limWas (k : TimerKind) (i d : Nat) : (s.startTimer k i d).limWas = s.limWas := rfl
@[simp] theorem State.startTimer_slot (k : TimerKind) (i d : Nat) : (s.startTimer k i d).slot = s.slot := rfl
@[simp] theorem State.startTimer_cnt (k : TimerKind) (i d : Nat) : (s.startTimer k i d).cnt = s.cnt := rfl
@[simp] theorem State.startTimer_lately (k : TimerKind) (i d : Nat) : (s.startTimer k i d).lately = s.lately := rfl
@[simp] theorem State.startTimer_frozen (k : TimerKind) (i d : Nat) : (s.startTimer k i d).frozen = s.frozen := rfl
@[simp] theorem State.startTimer_shadow (k : TimerKind) (i d : Nat) : (s.startTimer k i d).shadow = s.shadow := rfl
@[simp] theorem State.startTimer_snap (k : TimerKind) (i d : Nat) : (s.startTimer k i d).snap = s.snap := rfl
@[simp] theorem State.startTimer_homes (k : TimerKind) (i d : Nat) : (s.startTimer k i d).homes = s.homes := rfl
@[simp] theorem State.startTimer_rings (k : TimerKind) (i d : Nat) : (s.startTimer k i d).rings = s.rings := rfl
@[simp] theorem State.startTimer_fwStamps (k : TimerKind) (i d : Nat) : (s.startTimer k i d).fwStamps = s.fwStamps := rfl
@[simp] theorem State.startTimer_rqSince (k : TimerKind) (i d : Nat) : (s.startTimer k i d).rqSince = s.rqSince := rfl
@[simp] theorem State.startTimer_escans (k : TimerKind) (i d : Nat) : (s.startTimer k i d).escans = s.escans := rfl
@[simp] theorem State.startTimer_scanEnd (k : TimerKind) (i d : Nat) : (s.startTimer k i d).scanEnd = s.scanEnd := rfl
@[simp] theorem State.startTimer_calLanes (k : TimerKind) (i d : Nat) : (s.startTimer k i d).calLanes = s.calLanes := rfl
@[simp] theorem State.startTimer_movesSec (k : TimerKind) (i d : Nat) : (s.startTimer k i d).movesSec = s.movesSec := rfl
@[simp] theorem State.startTimer_calNext (k : TimerKind) (i d : Nat) : (s.startTimer k i d).calNext = s.calNext := rfl
@[simp] theorem State.startTimer_params (k : TimerKind) (i d : Nat) : (s.startTimer k i d).params = s.params := rfl
@[simp] theorem State.startTimer_dplls (k : TimerKind) (i d : Nat) : (s.startTimer k i d).dplls = s.dplls := rfl
@[simp] theorem State.startTimer_pairs (k : TimerKind) (i d : Nat) : (s.startTimer k i d).pairs = s.pairs := rfl
@[simp] theorem State.startTimer_refAt (k : TimerKind) (i d : Nat) : (s.startTimer k i d).refAt = s.refAt := rfl
@[simp] theorem State.startTimer_slotHeard (k : TimerKind) (i d : Nat) : (s.startTimer k i d).slotHeard = s.slotHeard := rfl
@[simp] theorem State.startTimer_slotEvery (k : TimerKind) (i d : Nat) : (s.startTimer k i d).slotEvery = s.slotEvery := rfl
@[simp] theorem State.startTimer_slotEdges (k : TimerKind) (i d : Nat) : (s.startTimer k i d).slotEdges = s.slotEdges := rfl
@[simp] theorem State.startTimer_age (k : TimerKind) (i d : Nat) : (s.startTimer k i d).age = s.age := rfl
@[simp] theorem State.startTimer_dfine (k : TimerKind) (i d : Nat) : (s.startTimer k i d).dfine = s.dfine := rfl
@[simp] theorem State.startTimer_apllMove (k : TimerKind) (i d : Nat) : (s.startTimer k i d).apllMove = s.apllMove := rfl
@[simp] theorem State.startTimer_ckouts (k : TimerKind) (i d : Nat) : (s.startTimer k i d).ckouts = s.ckouts := rfl
@[simp] theorem State.startTimer_syncinAt (k : TimerKind) (i d : Nat) : (s.startTimer k i d).syncinAt = s.syncinAt := rfl
@[simp] theorem State.startTimer_divLoads (k : TimerKind) (i d : Nat) : (s.startTimer k i d).divLoads = s.divLoads := rfl
@[simp] theorem State.startTimer_relocks (k : TimerKind) (i d : Nat) : (s.startTimer k i d).relocks = s.relocks := rfl
@[simp] theorem State.startTimer_tsuLossAt (k : TimerKind) (i d : Nat) : (s.startTimer k i d).tsuLossAt = s.tsuLossAt := rfl
@[simp] theorem State.startTimer_gnss (k : TimerKind) (i d : Nat) : (s.startTimer k i d).gnss = s.gnss := rfl
@[simp] theorem State.startTimer_chans (k : TimerKind) (i d : Nat) : (s.startTimer k i d).chans = s.chans := rfl
@[simp] theorem State.startTimer_hbs (k : TimerKind) (i d : Nat) : (s.startTimer k i d).hbs = s.hbs := rfl
@[simp] theorem State.startTimer_hbSent (k : TimerKind) (i d : Nat) : (s.startTimer k i d).hbSent = s.hbSent := rfl
@[simp] theorem State.startTimer_clms (k : TimerKind) (i d : Nat) : (s.startTimer k i d).clms = s.clms := rfl
@[simp] theorem State.startTimer_gateDue (k : TimerKind) (i d : Nat) : (s.startTimer k i d).gateDue = s.gateDue := rfl
@[simp] theorem State.startTimer_slotBound (k : TimerKind) (i d : Nat) : (s.startTimer k i d).slotBound = s.slotBound := rfl
@[simp] theorem State.startTimer_power (k : TimerKind) (i d : Nat) : (s.startTimer k i d).power = s.power := rfl
@[simp] theorem State.startTimer_drainLimit (k : TimerKind) (i d : Nat) : (s.startTimer k i d).drainLimit = s.drainLimit := rfl
@[simp] theorem State.startTimer_restarts (k : TimerKind) (i d : Nat) : (s.startTimer k i d).restarts = s.restarts := rfl
@[simp] theorem State.startTimer_shadows (k : TimerKind) (i d : Nat) : (s.startTimer k i d).shadows = s.shadows := rfl
@[simp] theorem State.startTimer_starting (k : TimerKind) (i d : Nat) : (s.startTimer k i d).starting = s.starting := rfl
@[simp] theorem State.startTimer_boot (k : TimerKind) (i d : Nat) : (s.startTimer k i d).boot = s.boot := rfl
@[simp] theorem State.startTimer_flash (k : TimerKind) (i d : Nat) : (s.startTimer k i d).flash = s.flash := rfl
@[simp] theorem State.startTimer_staging (k : TimerKind) (i d : Nat) : (s.startTimer k i d).staging = s.staging := rfl
@[simp] theorem State.startTimer_sysMem (k : TimerKind) (i d : Nat) : (s.startTimer k i d).sysMem = s.sysMem := rfl
@[simp] theorem State.startTimer_spiNow (k : TimerKind) (i d : Nat) : (s.startTimer k i d).spiNow = s.spiNow := rfl
@[simp] theorem State.startTimer_fuses (k : TimerKind) (i d : Nat) : (s.startTimer k i d).fuses = s.fuses := rfl
@[simp] theorem State.startTimer_mbxQueue (k : TimerKind) (i d : Nat) : (s.startTimer k i d).mbxQueue = s.mbxQueue := rfl
@[simp] theorem State.startTimer_goAt (k : TimerKind) (i d : Nat) : (s.startTimer k i d).goAt = s.goAt := rfl
@[simp] theorem State.startTimer_psets (k : TimerKind) (i d : Nat) : (s.startTimer k i d).psets = s.psets := rfl
@[simp] theorem State.startTimer_cal (k : TimerKind) (i d : Nat) : (s.startTimer k i d).cal = s.cal := rfl
@[simp] theorem State.startTimer_neighbours (k : TimerKind) (i d : Nat) : (s.startTimer k i d).neighbours = s.neighbours := rfl
@[simp] theorem State.startTimer_lldpAt (k : TimerKind) (i d : Nat) : (s.startTimer k i d).lldpAt = s.lldpAt := rfl
@[simp] theorem State.startTimer_sweptAt (k : TimerKind) (i d : Nat) : (s.startTimer k i d).sweptAt = s.sweptAt := rfl
@[simp] theorem State.startTimer_snoop (k : TimerKind) (i d : Nat) : (s.startTimer k i d).snoop = s.snoop := rfl
@[simp] theorem State.startTimer_ptps (k : TimerKind) (i d : Nat) : (s.startTimer k i d).ptps = s.ptps := rfl
@[simp] theorem State.startTimer_bseq (k : TimerKind) (i d : Nat) : (s.startTimer k i d).bseq = s.bseq := rfl
@[simp] theorem State.startTimer_bseen (k : TimerKind) (i d : Nat) : (s.startTimer k i d).bseen = s.bseen := rfl
@[simp] theorem State.startTimer_bcount (k : TimerKind) (i d : Nat) : (s.startTimer k i d).bcount = s.bcount := rfl
@[simp] theorem State.startTimer_txTurn (k : TimerKind) (i d : Nat) : (s.startTimer k i d).txTurn = s.txTurn := rfl
@[simp] theorem State.startTimer_i2cLost (k : TimerKind) (i d : Nat) : (s.startTimer k i d).i2cLost = s.i2cLost := rfl

/-! ## `stopTimer` -/

@[simp] theorem State.stopTimer_pending (k : TimerKind) (i : Nat) : (s.stopTimer k i).pending = s.pending := rfl
@[simp] theorem State.stopTimer_out (k : TimerKind) (i : Nat) : (s.stopTimer k i).out = s.out := rfl
@[simp] theorem State.stopTimer_regs (k : TimerKind) (i : Nat) : (s.stopTimer k i).regs = s.regs := rfl
@[simp] theorem State.stopTimer_held (k : TimerKind) (i : Nat) : (s.stopTimer k i).held = s.held := rfl
@[simp] theorem State.stopTimer_latched (k : TimerKind) (i : Nat) : (s.stopTimer k i).latched = s.latched := rfl
@[simp] theorem State.stopTimer_member (k : TimerKind) (i : Nat) : (s.stopTimer k i).member = s.member := rfl
@[simp] theorem State.stopTimer_gradeE (k : TimerKind) (i : Nat) : (s.stopTimer k i).gradeE = s.gradeE := rfl
@[simp] theorem State.stopTimer_ticks (k : TimerKind) (i : Nat) : (s.stopTimer k i).ticks = s.ticks := rfl
@[simp] theorem State.stopTimer_fine (k : TimerKind) (i : Nat) : (s.stopTimer k i).fine = s.fine := rfl
@[simp] theorem State.stopTimer_fresh (k : TimerKind) (i : Nat) : (s.stopTimer k i).fresh = s.fresh := rfl
@[simp] theorem State.stopTimer_tsuLockAt (k : TimerKind) (i : Nat) : (s.stopTimer k i).tsuLockAt = s.tsuLockAt := rfl
@[simp] theorem State.stopTimer_setLoad (k : TimerKind) (i : Nat) : (s.stopTimer k i).setLoad = s.setLoad := rfl
@[simp] theorem State.stopTimer_caps (k : TimerKind) (i : Nat) : (s.stopTimer k i).caps = s.caps := rfl
@[simp] theorem State.stopTimer_pulses (k : TimerKind) (i : Nat) : (s.stopTimer k i).pulses = s.pulses := rfl
@[simp] theorem State.stopTimer_acts (k : TimerKind) (i : Nat) : (s.stopTimer k i).acts = s.acts := rfl
@[simp] theorem State.stopTimer_actCmds (k : TimerKind) (i : Nat) : (s.stopTimer k i).actCmds = s.actCmds := rfl
@[simp] theorem State.stopTimer_stepAt (k : TimerKind) (i : Nat) : (s.stopTimer k i).stepAt = s.stepAt := rfl
@[simp] theorem State.stopTimer_aligns (k : TimerKind) (i : Nat) : (s.stopTimer k i).aligns = s.aligns := rfl
@[simp] theorem State.stopTimer_powered (k : TimerKind) (i : Nat) : (s.stopTimer k i).powered = s.powered := rfl
@[simp] theorem State.stopTimer_counting (k : TimerKind) (i : Nat) : (s.stopTimer k i).counting = s.counting := rfl
@[simp] theorem State.stopTimer_doms (k : TimerKind) (i : Nat) : (s.stopTimer k i).doms = s.doms := rfl
@[simp] theorem State.stopTimer_fn0 (k : TimerKind) (i : Nat) : (s.stopTimer k i).fn0 = s.fn0 := rfl
@[simp] theorem State.stopTimer_fn1 (k : TimerKind) (i : Nat) : (s.stopTimer k i).fn1 = s.fn1 := rfl
@[simp] theorem State.stopTimer_vecMem (k : TimerKind) (i : Nat) : (s.stopTimer k i).vecMem = s.vecMem := rfl
@[simp] theorem State.stopTimer_irqLow (k : TimerKind) (i : Nat) : (s.stopTimer k i).irqLow = s.irqLow := rfl
@[simp] theorem State.stopTimer_quiet (k : TimerKind) (i : Nat) : (s.stopTimer k i).quiet = s.quiet := rfl
@[simp] theorem State.stopTimer_leafAt (k : TimerKind) (i : Nat) : (s.stopTimer k i).leafAt = s.leafAt := rfl
@[simp] theorem State.stopTimer_dies (k : TimerKind) (i : Nat) : (s.stopTimer k i).dies = s.dies := rfl
@[simp] theorem State.stopTimer_ports (k : TimerKind) (i : Nat) : (s.stopTimer k i).ports = s.ports := rfl
@[simp] theorem State.stopTimer_frames (k : TimerKind) (i : Nat) : (s.stopTimer k i).frames = s.frames := rfl
@[simp] theorem State.stopTimer_flight (k : TimerKind) (i : Nat) : (s.stopTimer k i).flight = s.flight := rfl
@[simp] theorem State.stopTimer_crcAt (k : TimerKind) (i : Nat) : (s.stopTimer k i).crcAt = s.crcAt := rfl
@[simp] theorem State.stopTimer_limWas (k : TimerKind) (i : Nat) : (s.stopTimer k i).limWas = s.limWas := rfl
@[simp] theorem State.stopTimer_slot (k : TimerKind) (i : Nat) : (s.stopTimer k i).slot = s.slot := rfl
@[simp] theorem State.stopTimer_cnt (k : TimerKind) (i : Nat) : (s.stopTimer k i).cnt = s.cnt := rfl
@[simp] theorem State.stopTimer_lately (k : TimerKind) (i : Nat) : (s.stopTimer k i).lately = s.lately := rfl
@[simp] theorem State.stopTimer_frozen (k : TimerKind) (i : Nat) : (s.stopTimer k i).frozen = s.frozen := rfl
@[simp] theorem State.stopTimer_shadow (k : TimerKind) (i : Nat) : (s.stopTimer k i).shadow = s.shadow := rfl
@[simp] theorem State.stopTimer_snap (k : TimerKind) (i : Nat) : (s.stopTimer k i).snap = s.snap := rfl
@[simp] theorem State.stopTimer_homes (k : TimerKind) (i : Nat) : (s.stopTimer k i).homes = s.homes := rfl
@[simp] theorem State.stopTimer_rings (k : TimerKind) (i : Nat) : (s.stopTimer k i).rings = s.rings := rfl
@[simp] theorem State.stopTimer_fwStamps (k : TimerKind) (i : Nat) : (s.stopTimer k i).fwStamps = s.fwStamps := rfl
@[simp] theorem State.stopTimer_rqSince (k : TimerKind) (i : Nat) : (s.stopTimer k i).rqSince = s.rqSince := rfl
@[simp] theorem State.stopTimer_escans (k : TimerKind) (i : Nat) : (s.stopTimer k i).escans = s.escans := rfl
@[simp] theorem State.stopTimer_scanEnd (k : TimerKind) (i : Nat) : (s.stopTimer k i).scanEnd = s.scanEnd := rfl
@[simp] theorem State.stopTimer_calLanes (k : TimerKind) (i : Nat) : (s.stopTimer k i).calLanes = s.calLanes := rfl
@[simp] theorem State.stopTimer_movesSec (k : TimerKind) (i : Nat) : (s.stopTimer k i).movesSec = s.movesSec := rfl
@[simp] theorem State.stopTimer_calNext (k : TimerKind) (i : Nat) : (s.stopTimer k i).calNext = s.calNext := rfl
@[simp] theorem State.stopTimer_params (k : TimerKind) (i : Nat) : (s.stopTimer k i).params = s.params := rfl
@[simp] theorem State.stopTimer_dplls (k : TimerKind) (i : Nat) : (s.stopTimer k i).dplls = s.dplls := rfl
@[simp] theorem State.stopTimer_pairs (k : TimerKind) (i : Nat) : (s.stopTimer k i).pairs = s.pairs := rfl
@[simp] theorem State.stopTimer_refAt (k : TimerKind) (i : Nat) : (s.stopTimer k i).refAt = s.refAt := rfl
@[simp] theorem State.stopTimer_slotHeard (k : TimerKind) (i : Nat) : (s.stopTimer k i).slotHeard = s.slotHeard := rfl
@[simp] theorem State.stopTimer_slotEvery (k : TimerKind) (i : Nat) : (s.stopTimer k i).slotEvery = s.slotEvery := rfl
@[simp] theorem State.stopTimer_slotEdges (k : TimerKind) (i : Nat) : (s.stopTimer k i).slotEdges = s.slotEdges := rfl
@[simp] theorem State.stopTimer_age (k : TimerKind) (i : Nat) : (s.stopTimer k i).age = s.age := rfl
@[simp] theorem State.stopTimer_dfine (k : TimerKind) (i : Nat) : (s.stopTimer k i).dfine = s.dfine := rfl
@[simp] theorem State.stopTimer_apllMove (k : TimerKind) (i : Nat) : (s.stopTimer k i).apllMove = s.apllMove := rfl
@[simp] theorem State.stopTimer_ckouts (k : TimerKind) (i : Nat) : (s.stopTimer k i).ckouts = s.ckouts := rfl
@[simp] theorem State.stopTimer_syncinAt (k : TimerKind) (i : Nat) : (s.stopTimer k i).syncinAt = s.syncinAt := rfl
@[simp] theorem State.stopTimer_divLoads (k : TimerKind) (i : Nat) : (s.stopTimer k i).divLoads = s.divLoads := rfl
@[simp] theorem State.stopTimer_relocks (k : TimerKind) (i : Nat) : (s.stopTimer k i).relocks = s.relocks := rfl
@[simp] theorem State.stopTimer_tsuLossAt (k : TimerKind) (i : Nat) : (s.stopTimer k i).tsuLossAt = s.tsuLossAt := rfl
@[simp] theorem State.stopTimer_gnss (k : TimerKind) (i : Nat) : (s.stopTimer k i).gnss = s.gnss := rfl
@[simp] theorem State.stopTimer_chans (k : TimerKind) (i : Nat) : (s.stopTimer k i).chans = s.chans := rfl
@[simp] theorem State.stopTimer_hbs (k : TimerKind) (i : Nat) : (s.stopTimer k i).hbs = s.hbs := rfl
@[simp] theorem State.stopTimer_hbSent (k : TimerKind) (i : Nat) : (s.stopTimer k i).hbSent = s.hbSent := rfl
@[simp] theorem State.stopTimer_clms (k : TimerKind) (i : Nat) : (s.stopTimer k i).clms = s.clms := rfl
@[simp] theorem State.stopTimer_gateDue (k : TimerKind) (i : Nat) : (s.stopTimer k i).gateDue = s.gateDue := rfl
@[simp] theorem State.stopTimer_slotBound (k : TimerKind) (i : Nat) : (s.stopTimer k i).slotBound = s.slotBound := rfl
@[simp] theorem State.stopTimer_power (k : TimerKind) (i : Nat) : (s.stopTimer k i).power = s.power := rfl
@[simp] theorem State.stopTimer_drainLimit (k : TimerKind) (i : Nat) : (s.stopTimer k i).drainLimit = s.drainLimit := rfl
@[simp] theorem State.stopTimer_restarts (k : TimerKind) (i : Nat) : (s.stopTimer k i).restarts = s.restarts := rfl
@[simp] theorem State.stopTimer_shadows (k : TimerKind) (i : Nat) : (s.stopTimer k i).shadows = s.shadows := rfl
@[simp] theorem State.stopTimer_starting (k : TimerKind) (i : Nat) : (s.stopTimer k i).starting = s.starting := rfl
@[simp] theorem State.stopTimer_boot (k : TimerKind) (i : Nat) : (s.stopTimer k i).boot = s.boot := rfl
@[simp] theorem State.stopTimer_flash (k : TimerKind) (i : Nat) : (s.stopTimer k i).flash = s.flash := rfl
@[simp] theorem State.stopTimer_staging (k : TimerKind) (i : Nat) : (s.stopTimer k i).staging = s.staging := rfl
@[simp] theorem State.stopTimer_sysMem (k : TimerKind) (i : Nat) : (s.stopTimer k i).sysMem = s.sysMem := rfl
@[simp] theorem State.stopTimer_spiNow (k : TimerKind) (i : Nat) : (s.stopTimer k i).spiNow = s.spiNow := rfl
@[simp] theorem State.stopTimer_fuses (k : TimerKind) (i : Nat) : (s.stopTimer k i).fuses = s.fuses := rfl
@[simp] theorem State.stopTimer_mbxQueue (k : TimerKind) (i : Nat) : (s.stopTimer k i).mbxQueue = s.mbxQueue := rfl
@[simp] theorem State.stopTimer_goAt (k : TimerKind) (i : Nat) : (s.stopTimer k i).goAt = s.goAt := rfl
@[simp] theorem State.stopTimer_psets (k : TimerKind) (i : Nat) : (s.stopTimer k i).psets = s.psets := rfl
@[simp] theorem State.stopTimer_cal (k : TimerKind) (i : Nat) : (s.stopTimer k i).cal = s.cal := rfl
@[simp] theorem State.stopTimer_neighbours (k : TimerKind) (i : Nat) : (s.stopTimer k i).neighbours = s.neighbours := rfl
@[simp] theorem State.stopTimer_lldpAt (k : TimerKind) (i : Nat) : (s.stopTimer k i).lldpAt = s.lldpAt := rfl
@[simp] theorem State.stopTimer_sweptAt (k : TimerKind) (i : Nat) : (s.stopTimer k i).sweptAt = s.sweptAt := rfl
@[simp] theorem State.stopTimer_snoop (k : TimerKind) (i : Nat) : (s.stopTimer k i).snoop = s.snoop := rfl
@[simp] theorem State.stopTimer_ptps (k : TimerKind) (i : Nat) : (s.stopTimer k i).ptps = s.ptps := rfl
@[simp] theorem State.stopTimer_bseq (k : TimerKind) (i : Nat) : (s.stopTimer k i).bseq = s.bseq := rfl
@[simp] theorem State.stopTimer_bseen (k : TimerKind) (i : Nat) : (s.stopTimer k i).bseen = s.bseen := rfl
@[simp] theorem State.stopTimer_bcount (k : TimerKind) (i : Nat) : (s.stopTimer k i).bcount = s.bcount := rfl
@[simp] theorem State.stopTimer_txTurn (k : TimerKind) (i : Nat) : (s.stopTimer k i).txTurn = s.txTurn := rfl
@[simp] theorem State.stopTimer_i2cLost (k : TimerKind) (i : Nat) : (s.stopTimer k i).i2cLost = s.i2cLost := rfl

/-! ## `emit` -/

@[simp] theorem State.emit_pending (o : Out) : (s.emit o).pending = s.pending := rfl
@[simp] theorem State.emit_regs (o : Out) : (s.emit o).regs = s.regs := rfl
@[simp] theorem State.emit_held (o : Out) : (s.emit o).held = s.held := rfl
@[simp] theorem State.emit_latched (o : Out) : (s.emit o).latched = s.latched := rfl
@[simp] theorem State.emit_member (o : Out) : (s.emit o).member = s.member := rfl
@[simp] theorem State.emit_gradeE (o : Out) : (s.emit o).gradeE = s.gradeE := rfl
@[simp] theorem State.emit_ticks (o : Out) : (s.emit o).ticks = s.ticks := rfl
@[simp] theorem State.emit_fine (o : Out) : (s.emit o).fine = s.fine := rfl
@[simp] theorem State.emit_fresh (o : Out) : (s.emit o).fresh = s.fresh := rfl
@[simp] theorem State.emit_tsuLockAt (o : Out) : (s.emit o).tsuLockAt = s.tsuLockAt := rfl
@[simp] theorem State.emit_timers (o : Out) : (s.emit o).timers = s.timers := rfl
@[simp] theorem State.emit_setLoad (o : Out) : (s.emit o).setLoad = s.setLoad := rfl
@[simp] theorem State.emit_caps (o : Out) : (s.emit o).caps = s.caps := rfl
@[simp] theorem State.emit_pulses (o : Out) : (s.emit o).pulses = s.pulses := rfl
@[simp] theorem State.emit_acts (o : Out) : (s.emit o).acts = s.acts := rfl
@[simp] theorem State.emit_actCmds (o : Out) : (s.emit o).actCmds = s.actCmds := rfl
@[simp] theorem State.emit_stepAt (o : Out) : (s.emit o).stepAt = s.stepAt := rfl
@[simp] theorem State.emit_aligns (o : Out) : (s.emit o).aligns = s.aligns := rfl
@[simp] theorem State.emit_powered (o : Out) : (s.emit o).powered = s.powered := rfl
@[simp] theorem State.emit_counting (o : Out) : (s.emit o).counting = s.counting := rfl
@[simp] theorem State.emit_doms (o : Out) : (s.emit o).doms = s.doms := rfl
@[simp] theorem State.emit_fn0 (o : Out) : (s.emit o).fn0 = s.fn0 := rfl
@[simp] theorem State.emit_fn1 (o : Out) : (s.emit o).fn1 = s.fn1 := rfl
@[simp] theorem State.emit_vecMem (o : Out) : (s.emit o).vecMem = s.vecMem := rfl
@[simp] theorem State.emit_irqLow (o : Out) : (s.emit o).irqLow = s.irqLow := rfl
@[simp] theorem State.emit_quiet (o : Out) : (s.emit o).quiet = s.quiet := rfl
@[simp] theorem State.emit_leafAt (o : Out) : (s.emit o).leafAt = s.leafAt := rfl
@[simp] theorem State.emit_dies (o : Out) : (s.emit o).dies = s.dies := rfl
@[simp] theorem State.emit_ports (o : Out) : (s.emit o).ports = s.ports := rfl
@[simp] theorem State.emit_frames (o : Out) : (s.emit o).frames = s.frames := rfl
@[simp] theorem State.emit_flight (o : Out) : (s.emit o).flight = s.flight := rfl
@[simp] theorem State.emit_crcAt (o : Out) : (s.emit o).crcAt = s.crcAt := rfl
@[simp] theorem State.emit_limWas (o : Out) : (s.emit o).limWas = s.limWas := rfl
@[simp] theorem State.emit_slot (o : Out) : (s.emit o).slot = s.slot := rfl
@[simp] theorem State.emit_cnt (o : Out) : (s.emit o).cnt = s.cnt := rfl
@[simp] theorem State.emit_lately (o : Out) : (s.emit o).lately = s.lately := rfl
@[simp] theorem State.emit_frozen (o : Out) : (s.emit o).frozen = s.frozen := rfl
@[simp] theorem State.emit_shadow (o : Out) : (s.emit o).shadow = s.shadow := rfl
@[simp] theorem State.emit_snap (o : Out) : (s.emit o).snap = s.snap := rfl
@[simp] theorem State.emit_homes (o : Out) : (s.emit o).homes = s.homes := rfl
@[simp] theorem State.emit_rings (o : Out) : (s.emit o).rings = s.rings := rfl
@[simp] theorem State.emit_fwStamps (o : Out) : (s.emit o).fwStamps = s.fwStamps := rfl
@[simp] theorem State.emit_rqSince (o : Out) : (s.emit o).rqSince = s.rqSince := rfl
@[simp] theorem State.emit_escans (o : Out) : (s.emit o).escans = s.escans := rfl
@[simp] theorem State.emit_scanEnd (o : Out) : (s.emit o).scanEnd = s.scanEnd := rfl
@[simp] theorem State.emit_calLanes (o : Out) : (s.emit o).calLanes = s.calLanes := rfl
@[simp] theorem State.emit_movesSec (o : Out) : (s.emit o).movesSec = s.movesSec := rfl
@[simp] theorem State.emit_calNext (o : Out) : (s.emit o).calNext = s.calNext := rfl
@[simp] theorem State.emit_params (o : Out) : (s.emit o).params = s.params := rfl
@[simp] theorem State.emit_dplls (o : Out) : (s.emit o).dplls = s.dplls := rfl
@[simp] theorem State.emit_pairs (o : Out) : (s.emit o).pairs = s.pairs := rfl
@[simp] theorem State.emit_refAt (o : Out) : (s.emit o).refAt = s.refAt := rfl
@[simp] theorem State.emit_slotHeard (o : Out) : (s.emit o).slotHeard = s.slotHeard := rfl
@[simp] theorem State.emit_slotEvery (o : Out) : (s.emit o).slotEvery = s.slotEvery := rfl
@[simp] theorem State.emit_slotEdges (o : Out) : (s.emit o).slotEdges = s.slotEdges := rfl
@[simp] theorem State.emit_age (o : Out) : (s.emit o).age = s.age := rfl
@[simp] theorem State.emit_dfine (o : Out) : (s.emit o).dfine = s.dfine := rfl
@[simp] theorem State.emit_apllMove (o : Out) : (s.emit o).apllMove = s.apllMove := rfl
@[simp] theorem State.emit_ckouts (o : Out) : (s.emit o).ckouts = s.ckouts := rfl
@[simp] theorem State.emit_syncinAt (o : Out) : (s.emit o).syncinAt = s.syncinAt := rfl
@[simp] theorem State.emit_divLoads (o : Out) : (s.emit o).divLoads = s.divLoads := rfl
@[simp] theorem State.emit_relocks (o : Out) : (s.emit o).relocks = s.relocks := rfl
@[simp] theorem State.emit_tsuLossAt (o : Out) : (s.emit o).tsuLossAt = s.tsuLossAt := rfl
@[simp] theorem State.emit_gnss (o : Out) : (s.emit o).gnss = s.gnss := rfl
@[simp] theorem State.emit_chans (o : Out) : (s.emit o).chans = s.chans := rfl
@[simp] theorem State.emit_hbs (o : Out) : (s.emit o).hbs = s.hbs := rfl
@[simp] theorem State.emit_hbSent (o : Out) : (s.emit o).hbSent = s.hbSent := rfl
@[simp] theorem State.emit_clms (o : Out) : (s.emit o).clms = s.clms := rfl
@[simp] theorem State.emit_gateDue (o : Out) : (s.emit o).gateDue = s.gateDue := rfl
@[simp] theorem State.emit_slotBound (o : Out) : (s.emit o).slotBound = s.slotBound := rfl
@[simp] theorem State.emit_power (o : Out) : (s.emit o).power = s.power := rfl
@[simp] theorem State.emit_drainLimit (o : Out) : (s.emit o).drainLimit = s.drainLimit := rfl
@[simp] theorem State.emit_restarts (o : Out) : (s.emit o).restarts = s.restarts := rfl
@[simp] theorem State.emit_shadows (o : Out) : (s.emit o).shadows = s.shadows := rfl
@[simp] theorem State.emit_starting (o : Out) : (s.emit o).starting = s.starting := rfl
@[simp] theorem State.emit_boot (o : Out) : (s.emit o).boot = s.boot := rfl
@[simp] theorem State.emit_flash (o : Out) : (s.emit o).flash = s.flash := rfl
@[simp] theorem State.emit_staging (o : Out) : (s.emit o).staging = s.staging := rfl
@[simp] theorem State.emit_sysMem (o : Out) : (s.emit o).sysMem = s.sysMem := rfl
@[simp] theorem State.emit_spiNow (o : Out) : (s.emit o).spiNow = s.spiNow := rfl
@[simp] theorem State.emit_fuses (o : Out) : (s.emit o).fuses = s.fuses := rfl
@[simp] theorem State.emit_mbxQueue (o : Out) : (s.emit o).mbxQueue = s.mbxQueue := rfl
@[simp] theorem State.emit_goAt (o : Out) : (s.emit o).goAt = s.goAt := rfl
@[simp] theorem State.emit_psets (o : Out) : (s.emit o).psets = s.psets := rfl
@[simp] theorem State.emit_cal (o : Out) : (s.emit o).cal = s.cal := rfl
@[simp] theorem State.emit_neighbours (o : Out) : (s.emit o).neighbours = s.neighbours := rfl
@[simp] theorem State.emit_lldpAt (o : Out) : (s.emit o).lldpAt = s.lldpAt := rfl
@[simp] theorem State.emit_sweptAt (o : Out) : (s.emit o).sweptAt = s.sweptAt := rfl
@[simp] theorem State.emit_snoop (o : Out) : (s.emit o).snoop = s.snoop := rfl
@[simp] theorem State.emit_ptps (o : Out) : (s.emit o).ptps = s.ptps := rfl
@[simp] theorem State.emit_bseq (o : Out) : (s.emit o).bseq = s.bseq := rfl
@[simp] theorem State.emit_bseen (o : Out) : (s.emit o).bseen = s.bseen := rfl
@[simp] theorem State.emit_bcount (o : Out) : (s.emit o).bcount = s.bcount := rfl
@[simp] theorem State.emit_txTurn (o : Out) : (s.emit o).txTurn = s.txTurn := rfl
@[simp] theorem State.emit_i2cLost (o : Out) : (s.emit o).i2cLost = s.i2cLost := rfl

end Sys2Proof.Machine
end

