-- ==== Sys2Proof/Machine/Pins.lean ====
section
/-!
DEFINITION. Pins.lean: the pins and supplies (R471 to R483): what each signal pin carries in each condition, read off the state,
where its ball lies, and what the other balls and the rails are.
-/
namespace Sys2Proof.Machine

/-- The signal pins of R473. `n` is the leg N of a pair, `b` the port GSB (else GSA), `g` a global lane, `lf` a Leaf and `m` a
cage group. -/
inductive Signal where
  | porn | warmn | bootsel (i : Nat) | irqn
  | spisCsn | spisSck | spisMosi | spisMiso
  | i2cScl | i2cSda | i2cA (i : Nat)
  | qspiCsn | qspiSck | qspiIo (x : Nat)
  | pmbScl | pmbSda | pmbAlertn
  | perstn | pcieRefclk (n : Bool) | pcieTx (q : Nat) (n : Bool) | pcieRx (q : Nat) (n : Bool)
  | tck | trstn | tms | tdi | tdo
  | xo (n : Bool) | xt32In | xt32Out
  | refin (x : Nat) (n : Bool) | ppsin (x : Nat) | syncin | extts (x : Nat)
  | ppsout (x : Nat) | tpo (x : Nat) | ckout (j : Nat) (n : Bool)
  | gsClk (b : Bool) | gsI (b : Bool) (k : Nat) | gsQ (b : Bool) (k : Nat) | gsPwren (b : Bool)
  | svcRx (i : Nat) (n : Bool) | svcTx (i : Nat) (n : Bool)
  | laneRx (g : Nat) (n : Bool) | laneTx (g : Nat) (n : Bool)
  | cagePrs (lf m i : Nat) | cageRst (lf m i : Nat) | cageInt (lf m i : Nat) | cageLpm (lf m i : Nat)
  | cageScl (lf m : Nat) | cageSda (lf m : Nat)
  deriving DecidableEq, Repr

/-- What a lane's transmitter sends (R82). -/
inductive LaneSends where
  | idle | pages | probes | training | pcsIdle | idleAndExchange | frames
  deriving DecidableEq, Repr

/-- The states of a pin (R471), and those of R473's last column: a level, an interface that drives it as its own rules say,
and a transmitter. -/
inductive PinState where
  | z | input | off | idle | oscillating | low | high | serves
  | sends (t : LaneSends)
  deriving DecidableEq, Repr

/-- The four conditions of R471. -/
inductive PinCondition where
  | unpowered | reset | boot | running
  deriving DecidableEq, Repr

/-- The condition the part is in. A state whose `powered` is false has PORn low; the part without supplies is no state of the
model, and its column is `Signal.unpowered` (log entry 141).
(DESIGN CHOICE, log entry 141) -/
def State.pinCondition (s : State) : PinCondition :=
  if !s.powered then .reset
  else if s.bootState = bootRunning ∨ s.bootState = bootUpdating then .running
  else .boot

/-- The pins that only receive, in every condition. -/
def Signal.receives : Signal → Bool
  | .porn | .warmn | .bootsel _ | .spisCsn | .spisSck | .spisMosi | .i2cA _ | .pmbAlertn | .perstn | .pcieRefclk _ | .tck
  | .trstn | .tms | .tdi | .xo _ | .refin _ _ | .ppsin _ | .syncin | .extts _ | .gsClk _ | .gsI _ _ | .gsQ _ _
  | .cagePrs _ _ _ | .cageInt _ _ _ => true
  | _ => false

/-- The pairs of the lanes and of PCIe, off where their supply is. -/
def Signal.isPair : Signal → Bool
  | .pcieTx _ _ | .pcieRx _ _ | .svcRx _ _ | .svcTx _ _ | .laneRx _ _ | .laneTx _ _ => true
  | _ => false

/-- The column "absent or unpowered" of R473. -/
def Signal.unpowered (x : Signal) : PinState :=
  if x.receives then .input
  else if x.isPair then .off
  else match x with
    | .xt32In | .xt32Out => .input
    | _ => .z

/-- The column "reset" of R473. -/
def Signal.inReset (x : Signal) : PinState :=
  if x.receives then .input
  else match x with
    | .pcieTx _ _ => .idle
    | .xt32In | .xt32Out => .oscillating
    | _ => if x.isPair then .off else .z

/-- A PCIe pair: the link trains and runs while SP_HOST is on (R357, R364), and is off in KEEP (R332). -/
def State.pciePin (s : State) : PinState := if s.domOn 4 then .serves else .off

/-- The column "BOOT and HELD" of R473. The QSPI master's data pins serve its reads; the buses rest between transactions. -/
def State.pinInBoot (s : State) (x : Signal) : PinState :=
  if x.receives then .input
  else match x with
    | .qspiCsn => .high
    | .qspiSck => .low
    | .qspiIo _ => .serves
    | .pcieTx _ _ | .pcieRx _ _ => s.pciePin
    | .xt32In | .xt32Out => .oscillating
    | _ => if x.isPair then .off else .z

/-- What lane g's transmitter sends (R82, R93). -/
def State.laneSends (s : State) (g : Nat) : LaneSends :=
  match s.portOfLane g with
  | none => .idle
  | some p =>
    match s.fld (Fld.LANE_STATE_STATE p) with
    | 1 =>
      if s.fld (Fld.LANE_CTRL_MEDIA p) = 1 then
        if s.running .backoff p then .idle
        else if s.laneRate g ≠ 0 ∧ s.on (Fld.LANE_CTRL_AN_EN p) then .pages else .probes
      else .pcsIdle
    | 2 => .training
    | 3 => .pcsIdle
    | 4 => .idleAndExchange
    | 5 => .frames
    | _ => .idle

/-- A lane's pair: off without power, else a terminated receiver, or what the transmitter sends. -/
def State.lanePin (s : State) (g : Nat) (tx : Bool) : PinState :=
  if !s.lanePowered g then .off else if tx then .sends (s.laneSends g) else .serves

/-- The level of a pulse output: inactive but in a pulse; muted at the level of MUTE_HIZ while the TSU PLL is out of lock
(R59, R60, R63). -/
def State.pulsePin (s : State) (j : Nat) : PinState :=
  let level := fun (b : Bool) => if b != s.on (Fld.TIME_PULSE_CTRL_POL j) then PinState.high else PinState.low
  if s.on (Fld.TIME_PULSE_STAT_MUTED j) && s.pulseMode j != 0 then
    if s.on (Fld.TIME_PULSE_CTRL_MUTE_HIZ j) then .z else level false
  else level ((s.pulse j).busyTo.any (fun t => decide (s.now < t)))

/-- A clock output: its clock while it runs, the rest of its last high phase, low between a load and its new edge, else the
level of MUTE_HIZ (R277, R280, R285). -/
def State.ckoutPin (s : State) (j : Nat) (n : Bool) : PinState :=
  let format := s.fld (Fld.OUT_CFG_FORMAT j)
  let x := s.ckout j
  if s.outState j = 4 then (if n ∧ format = 3 then .low else .serves)
  else if s.ticks < x.high then (if n then .low else .high)
  else if !x.low && s.on (Fld.OUT_CFG_MUTE_HIZ j) then .z
  else if n ∧ (format ≤ 2 ∨ format = 5) then .high
  else .low

/-- A pin that drives a module: high-impedance while its Leaf is off (R413, R473). -/
def State.cagePin (s : State) (lf : Nat) : PinState := if s.domOn (8 + lf) then .serves else .z

/-- The column "running" of R473. -/
def State.pinRunning (s : State) (x : Signal) : PinState :=
  if x.receives then .input
  else match x with
    | .irqn => if s.irqLow then .low else .z
    | .qspiCsn => .high
    | .qspiSck => .low
    | .qspiIo _ => .input
    | .pcieTx _ _ | .pcieRx _ _ => s.pciePin
    | .xt32In | .xt32Out => .oscillating
    | .ppsout j => s.pulsePin j
    | .tpo j => s.pulsePin (4 + j)
    | .ckout j n => s.ckoutPin j n
    | .gsPwren b => if s.on (Fld.GNSS_PORT_STAT_PWREN (if b then 1 else 0)) then .high else .low
    | .svcRx i _ => s.lanePin (256 + i) false
    | .svcTx i _ => s.lanePin (256 + i) true
    | .laneRx g _ => s.lanePin g false
    | .laneTx g _ => s.lanePin g true
    | .cageRst lf _ _ | .cageLpm lf _ _ | .cageScl lf _ | .cageSda lf _ => s.cagePin lf
    | _ => .z

/-- What a signal pin carries between commands (R471, R473).
(DESIGN CHOICE, log entry 141) -/
def State.pin (s : State) (x : Signal) : PinState :=
  match s.pinCondition with
  | .unpowered => x.unpowered
  | .reset => x.inReset
  | .boot => s.pinInBoot x
  | .running => s.pinRunning x

/-- The presence input of a lane (R475). -/
def presencePin (g : Nat) : Signal := .cagePrs (g / 32) (g % 32 / 8) (g % 8 / 4)

/-! ## The ball map (R473, R479 to R482) -/

/-- G and C of a member (R479). -/
def Member.grid : Member → Nat
  | .d2 => 51
  | .d4 => 61
  | .d8 => 76
def Member.centre : Member → Nat
  | .d2 => 26
  | .d4 => 31
  | .d8 => 38

/-- Whether a position carries a ball: the four corners do not (R479).
(DEDUCED, log entry 142) -/
def Member.hasBall (m : Member) (row col : Nat) : Bool :=
  decide (1 ≤ row ∧ row ≤ m.grid ∧ 1 ≤ col ∧ col ≤ m.grid) && !((row == 1 || row == m.grid) && (col == 1 || col == m.grid))

/-- The offset of a ball from the centre ball (R473); the lanes and the cage groups have none. -/
def Signal.offset : Signal → Option (Int × Int)
  | .porn => some (8, 8)
  | .warmn => some (8, 10)
  | .bootsel i => some (9, 8 + 2 * i)
  | .irqn => some (7, 12)
  | .spisCsn => some (2, 4)
  | .spisSck => some (2, 6)
  | .spisMosi => some (2, 8)
  | .spisMiso => some (2, 10)
  | .i2cScl => some (5, 4)
  | .i2cSda => some (5, 6)
  | .i2cA i => some (5, 8 + 2 * i)
  | .qspiCsn => some (3, 2)
  | .qspiSck => some (3, 4)
  | .qspiIo x => some (3, 6 + 2 * x)
  | .pmbScl => some (6, 4)
  | .pmbSda => some (6, 6)
  | .pmbAlertn => some (6, 8)
  | .perstn => some (7, 8)
  | .pcieRefclk n => some (if n then 8 else 7, -12)
  | .pcieTx q n => some (if n then 8 else 7, -8 + 4 * q)
  | .pcieRx q n => some (if n then 10 else 9, -8 + 4 * q)
  | .tck => some (10, 8)
  | .trstn => some (7, 10)
  | .tms => some (10, 10)
  | .tdi => some (10, 12)
  | .tdo => some (8, 12)
  | .xo n => some (if n then -3 else -4, 6)
  | .xt32In => some (-4, 10)
  | .xt32Out => some (-3, 10)
  | .refin x n => some (if n then -3 else -4, -12 + 4 * x)
  | .ppsin x => some (-7, 4 + 2 * x)
  | .syncin => some (-7, 8)
  | .extts x => some (-6, -12 + 2 * x)
  | .ppsout x => some (-7, -12 + 2 * x)
  | .tpo x => some (-7, -4 + 2 * x)
  | .ckout j n => some (if n then -9 else -10, -12 + 2 * j)
  | .gsClk b => some (if b then 5 else 2, -12)
  | .gsI b k => some (if b then 5 else 2, -4 - 2 * k)
  | .gsQ b k => some (if b then 6 else 3, -4 - 2 * k)
  | .gsPwren b => some (if b then 6 else 3, -12)
  | .svcRx i n => some (if n then 0 else -1, -12 + 8 * i)
  | .svcTx i n => some (if n then 0 else -1, -8 + 8 * i)
  | _ => none

/-- The edges of R480. -/
inductive Edge where
  | north | east | south | west
  deriving DecidableEq, Repr

/-- The edge of number e and the edge and slot of a Leaf (R480). -/
def edgeOf (e : Nat) : Edge :=
  if e = 0 then .north else if e = 1 then .east else if e = 2 then .south else .west
def Member.edgeSlot (m : Member) (lf : Nat) : Edge × Nat :=
  match m with
  | .d2 => (if lf = 0 then .north else .south, 0)
  | .d4 => (edgeOf lf, 0)
  | .d8 => (edgeOf (lf / 2), lf % 2)

/-- The ball at depth d and place t of an edge (R480). -/
def Member.onEdge (m : Member) (e : Edge) (d t : Nat) : Nat × Nat :=
  match e with
  | .north => (d, t)
  | .east => (t, m.grid + 1 - d)
  | .south => (m.grid + 1 - d, m.grid + 1 - t)
  | .west => (m.grid + 1 - t, d)

/-- The depth and place of a position from an edge: `onEdge` undone. -/
def Member.fromEdge (m : Member) (e : Edge) (row col : Nat) : Nat × Nat :=
  match e with
  | .north => (row, col)
  | .east => (m.grid + 1 - col, row)
  | .south => (m.grid + 1 - row, m.grid + 1 - col)
  | .west => (col, m.grid + 1 - row)

/-- The Leaf, depth and place along its strip of a lane's or cage group's ball (R480, R481).
(DEDUCED, log entry 142) -/
def Signal.strip : Signal → Option (Nat × Nat × Nat)
  | .laneRx g n => some (g / 32, (if n then 2 else 1) + 6 * (g % 32 / 16), 2 * (g % 16) + 1)
  | .laneTx g n => some (g / 32, (if n then 5 else 4) + 6 * (g % 32 / 16), 2 * (g % 16) + 1)
  | .cagePrs lf m i => some (lf, 13 + i, 13 + 4 * m)
  | .cageRst lf m i => some (lf, 13 + i, 14 + 4 * m)
  | .cageInt lf m i => some (lf, 13 + i, 15 + 4 * m)
  | .cageLpm lf m i => some (lf, 13 + i, 16 + 4 * m)
  | .cageScl lf m => some (lf, 15, 13 + 4 * m)
  | .cageSda lf m => some (lf, 15, 14 + 4 * m)
  | _ => none

/-- The ball of a signal, row and column (R479 to R481). -/
def Member.ball (m : Member) (x : Signal) : Option (Nat × Nat) :=
  match x.offset, x.strip with
  | some (dr, dc), _ => some (((m.centre : Int) + dr).toNat, ((m.centre : Int) + dc).toNat)
  | none, some (lf, d, t) =>
    if lf < m.leaves then
      let (e, slot) := m.edgeSlot lf
      some (m.onEdge e d (32 * slot + t))
    else none
  | none, none => none

/-- Every signal of a member. -/
def Member.signals (m : Member) : List Signal :=
  let legs := [false, true]
  [.porn, .warmn, .irqn, .spisCsn, .spisSck, .spisMosi, .spisMiso, .i2cScl, .i2cSda, .qspiCsn, .qspiSck, .pmbScl, .pmbSda,
    .pmbAlertn, .perstn, .tck, .trstn, .tms, .tdi, .tdo, .xt32In, .xt32Out, .syncin] ++
  (List.range 3).map .bootsel ++ (List.range 2).map .i2cA ++ (List.range 4).map .qspiIo ++ legs.map .pcieRefclk ++
  (List.range 4).flatMap (fun q => legs.flatMap (fun n => [.pcieTx q n, .pcieRx q n, .refin q n])) ++ legs.map .xo ++
  (List.range 2).map .ppsin ++ (List.range 4).flatMap (fun x => [.extts x, .ppsout x, .tpo x]) ++
  (List.range 12).flatMap (fun j => legs.map (.ckout j)) ++
  legs.flatMap (fun b => .gsClk b :: .gsPwren b :: (List.range 4).flatMap (fun k => [.gsI b k, .gsQ b k])) ++
  (List.range 2).flatMap (fun i => legs.flatMap (fun n => [.svcRx i n, .svcTx i n])) ++
  (List.range (32 * m.leaves)).flatMap (fun g => legs.flatMap (fun n => [.laneRx g n, .laneTx g n])) ++
  (List.range m.leaves).flatMap (fun lf => (List.range 4).flatMap (fun c =>
    .cageScl lf c :: .cageSda lf c :: (List.range 2).flatMap (fun i =>
      [.cagePrs lf c i, .cageRst lf c i, .cageInt lf c i, .cageLpm lf c i])))

/-! ## The supplies (R482, R483) -/

/-- The supply rails of R483, and ground. -/
inductive Rail where
  | vss | vddAon | vddSp | vddaXo | vddio1v8 | vddio3v3 | vddioT | vddoA | vddoB
  | vddFab | vddaSvc | vddHost | vddGnss | vddaSyn (i : Nat) | vddL (lf : Nat) | vddaL (lf : Nat) | vddhL (lf : Nat)
  deriving DecidableEq, Repr

/-- A rail's nominal values in mV, its tolerance in percent, whether it stands, the requester whose domain it serves (where
one does), and its maximum current in units of 10 mA (R483). -/
structure RailData where
  millivolts : List Nat
  percent : Nat := 3
  standing : Bool := false
  serves : Option Nat := none
  maxCurrent : Nat
  deriving DecidableEq, Repr

/-- The table of R483; ground is no row of it. -/
def Member.rail (m : Member) : Rail → Option RailData
  | .vss => none
  | .vddAon => some { millivolts := [800], standing := true, maxCurrent := 5 }
  | .vddSp => some { millivolts := [750], standing := true, maxCurrent := 1600 }
  | .vddaXo => some { millivolts := [1800], standing := true, maxCurrent := 25 }
  | .vddio1v8 => some { millivolts := [1800], percent := 5, standing := true, maxCurrent := 30 }
  | .vddio3v3 => some { millivolts := [3300], percent := 5, standing := true, maxCurrent := 20 }
  | .vddioT => some { millivolts := [1800, 2500, 3300], percent := 5, standing := true, maxCurrent := 20 }
  | .vddoA | .vddoB => some { millivolts := [1800, 2500, 3300], percent := 5, standing := true, maxCurrent := 50 }
  | .vddFab => some { millivolts := [750], serves := some 5, maxCurrent := if m = .d2 then 1600 else if m = .d4 then 2400 else 4000 }
  | .vddaSvc => some { millivolts := [900], serves := some 5, maxCurrent := 80 }
  | .vddHost => some { millivolts := [800], serves := some 4, maxCurrent := 450 }
  | .vddGnss => some { millivolts := [800], serves := some 3, maxCurrent := 250 }
  | .vddaSyn i => some { millivolts := [1000], percent := 2, serves := some i, maxCurrent := 150 }
  | .vddL lf => some { millivolts := [750], serves := some (8 + lf), maxCurrent := 3500 }
  | .vddaL lf => some { millivolts := [900], serves := some (8 + lf), maxCurrent := 2400 }
  | .vddhL lf => some { millivolts := [1200], serves := some (8 + lf), maxCurrent := 600 }

/-- The rail of a central position whose column offset is even (R482). -/
def centralRail (dr dc : Int) : Rail :=
  if dr = -8 then (if dc ≤ 0 then .vddoA else .vddoB)
  else if dr = -5 then .vddioT
  else if dr = -4 ∨ dr = -3 then (if dc < -4 then .vddaSyn 0 else if dc ≤ 4 then .vddaSyn 1 else .vddaSyn 2)
  else if dr = -2 then (if dc ≤ 0 then .vddaXo else .vddAon)
  else if dr = 1 then (if dc ≤ 0 then .vddaSvc else .vddio1v8)
  else if dr = 4 then (if dc ≤ 0 then .vddGnss else .vddio3v3)
  else if 7 ≤ dr ∧ dc ≤ 4 then .vddHost
  else .vss

/-- Whether a position lies within its edge's half of the grid, the middle row or column included.
(DEDUCED, log entry 143) -/
def Member.inHalf (m : Member) (e : Edge) (row col : Nat) : Bool :=
  match e with
  | .north => decide (row ≤ m.centre)
  | .east => decide (m.centre ≤ col)
  | .south => decide (m.centre ≤ row)
  | .west => decide (col ≤ m.centre)

/-- What Leaf lf's area gives a position, where it lies in it (R482).
(DEDUCED, log entry 143) -/
def Member.leafRail (m : Member) (lf row col : Nat) : Option Rail :=
  let (e, slot) := m.edgeSlot lf
  let (d, t) := m.fromEdge e row col
  if t < 32 * slot + 1 ∨ 32 * slot + 32 < t then none
  else if d ≤ 15 then some .vss
  else if d = 16 then some (.vddhL lf)
  else if d ≤ 18 then some (.vddaL lf)
  else if m.inHalf e row col then some (.vddL lf)
  else none

/-- The ground or supply of a position that no signal takes, the first row of R482's table that applies. -/
def Member.supplyAt (m : Member) (row col : Nat) : Rail :=
  let dr := (row : Int) - m.centre
  let dc := (col : Int) - m.centre
  if dr.natAbs ≤ 10 ∧ dc.natAbs ≤ 12 then (if dc % 2 ≠ 0 then .vss else centralRail dr dc)
  else if (row + col) % 2 = 0 then .vss
  else match (List.range m.leaves).findSome? (fun lf => m.leafRail lf row col) with
    | some r => r
    | none => if dr.natAbs ≤ 12 ∧ dc.natAbs ≤ 14 then .vddSp else .vddFab

/-- What a ball carries. -/
def Member.ballCarries (m : Member) (row col : Nat) : Option (Signal ⊕ Rail) :=
  if !m.hasBall row col then none
  else match m.signals.find? (fun x => m.ball x == some (row, col)) with
    | some x => some (.inl x)
    | none => some (.inr (m.supplyAt row col))

end Sys2Proof.Machine
end

