-- ==== Sys2Proof/Machine/Board.lean ====
section
/-!
DEFINITION. Board.lean: what the board and the package are held to (R472 to R478, R484 to R489): banks, board resistors, levels,
drives of the reference oscillator, the power-up sequence, ratings, thermal limits and dimensions. No command acts on these
values; they are the tables of the spec as data and the conditions it puts on them as tests.
-/
namespace Sys2Proof.Machine

/-! ## Banks (R472, R473, R476) -/

/-- The bank of a signal pin (R473). -/
def Signal.bank : Signal → Rail
  | .irqn | .i2cScl | .i2cSda | .i2cA _ | .pmbScl | .pmbSda | .pmbAlertn | .perstn | .cagePrs _ _ _ | .cageRst _ _ _
  | .cageInt _ _ _ | .cageLpm _ _ _ | .cageScl _ _ | .cageSda _ _ => .vddio3v3
  | .pcieRefclk _ | .pcieTx _ _ | .pcieRx _ _ => .vddHost
  | .xo _ | .refin _ _ => .vddaXo
  | .xt32In | .xt32Out => .vddAon
  | .ppsin _ | .syncin | .extts _ | .ppsout _ | .tpo _ => .vddioT
  | .ckout j _ => if j ≤ 5 then .vddoA else .vddoB
  | .svcRx _ _ | .svcTx _ _ => .vddaSvc
  | .laneRx g _ | .laneTx g _ => .vddaL (g / 32)
  | _ => .vddio1v8

/-- The banks whose pins are fail-safe (R472). -/
def Rail.failSafe : Rail → Bool
  | .vddio1v8 | .vddio3v3 | .vddioT | .vddoA | .vddoB => true
  | _ => false

/-- What a fail-safe pin of an unpowered bank tolerates, in mV, and passes at most, in µA (R472, R486). -/
def Rail.toleratedMax : Rail → Option Nat
  | .vddio1v8 => some 2100
  | .vddio3v3 | .vddioT | .vddoA | .vddoB => some 3900
  | _ => none
def failSafeCurrent : Nat := 10

/-- Input levels of a bank at a supply, in mV: V_IL at most and V_IH at least (R476). -/
def Rail.inputLevels (b : Rail) (supply : Nat) : Option (Nat × Nat) :=
  match b with
  | .vddio1v8 => some (630, 1170)
  | .vddio3v3 => some (800, 2000)
  | .vddioT => some (supply * 35 / 100, (supply * 65 + 99) / 100)
  | _ => none

/-- The level an input reads at a voltage in mV: none between the two limits, where the spec gives none (R476). -/
def Rail.reads (b : Rail) (supply v : Nat) : Option Bool :=
  match b.inputLevels supply with
  | some (il, ih) => if v ≤ il then some false else if ih ≤ v then some true else none
  | none => none

/-- Output levels of a bank at a supply: V_OL at most and V_OH at least in mV, at a current in mA (R476); an open drain has no
V_OH. -/
structure OutputLevels where
  low : Nat
  high : Option Nat
  milliamps : Nat
  deriving DecidableEq, Repr

/-- The output levels of R476 and of R477's LVCMOS formats. -/
def Rail.outputLevels (b : Rail) (supply : Nat) (openDrain : Bool) : Option OutputLevels :=
  match b with
  | .vddio1v8 => some ⟨450, some 1350, 4⟩
  | .vddio3v3 => some (if openDrain then ⟨400, none, 6⟩ else ⟨400, some 2400, 4⟩)
  | .vddioT => some ⟨200, some (supply - 200), 8⟩
  | .vddoA | .vddoB => some ⟨400, some (supply - 400), 8⟩
  | _ => none

/-- Leakage in µA and pin capacitance in pF at most (R476). -/
def pinLeakage : Nat := 10
def pinCapacitance : Nat := 4

/-- Set-up and hold times in ps about the sampling edge: the GNSS data pins and SPIS_MOSI (R476). -/
def gnssSetupHold : Nat × Nat := (1500, 1000)
def spiSetupHold : Nat × Nat := (3000, 3000)
/-- When SPIS_MISO changes after the falling edge of SPIS_SCK, in ps (R476). -/
def spiMisoDelay : Nat × Nat := (2000, 8000)
/-- The highest GNSS sample clock in Hz and its duty cycle in percent (R476). -/
def gnssClockMax : Nat := 81840000
def gnssClockDuty : Nat × Nat := (45, 55)
/-- Whether a flash meets the QSPI budget: clock to output, and the one-way board delay, in ps (R476). -/
def qspiOk (clockToOut board : Nat) : Bool := decide (clockToOut + 2 * board ≤ 6000)

/-! ## Board resistors (R473, R474, R477) -/

/-- What a board fits at a pin (R473). A level that the strap or the address chooses is `strap`. -/
inductive BoardPart where
  | none | toRail (ohm : Nat) (r : Rail) | toHost (ohm : Nat) | toFlash (ohm : Nat) | strap (ohm : Nat) | tied | series (nF : Nat)
  | crystalOrTied | unusedTied
  deriving DecidableEq, Repr

/-- The last column of R473's table, and R477's of a clock output of a format. -/
def Signal.boardPart (x : Signal) (format : Nat) : BoardPart :=
  match x with
  | .porn | .spisSck | .spisMosi | .qspiSck | .perstn | .tck | .trstn | .ppsin _ | .syncin | .extts _ | .ppsout _ | .tpo _
  | .gsPwren _ => .toRail 10000 .vss
  | .warmn | .spisCsn | .spisMiso | .tms | .tdi => .toRail 10000 .vddio1v8
  | .bootsel _ => .strap 4700
  | .irqn => .toHost 4700
  | .i2cScl | .i2cSda | .pmbScl | .pmbSda | .cageScl _ _ | .cageSda _ _ => .toRail 2200 .vddio3v3
  | .i2cA _ => .tied
  | .qspiCsn | .qspiIo _ => .toFlash 10000
  | .pmbAlertn | .cagePrs _ _ _ | .cageInt _ _ _ | .cageLpm _ _ _ => .toRail 4700 .vddio3v3
  | .cageRst _ _ _ => .toRail 4700 .vss
  | .pcieTx _ _ => .series 220
  | .xt32In | .xt32Out => .crystalOrTied
  | .gsClk _ | .gsI _ _ | .gsQ _ _ => .unusedTied
  | .ckout _ n =>
    match format with
    | 0 | 2 => if n then .toRail 10000 x.bank else .toRail 10000 .vss
    | 1 => .none
    | 3 => if n then .none else .toRail 10000 .vss
    | _ => .toRail 10000 .vss
  | _ => .none

/-- The tolerance of the board's resistors in percent (R474). -/
def boardTolerance : Nat := 5
/-- The heaviest I2C or PMBus bus of the pull-ups: capacitance in pF and rate in kHz (R474). -/
def busLoad : Nat × Nat := (200, 400)

/-- Whether a pin left unused may be left open: an output, or a REFIN pair (R474). -/
def Signal.mayFloat (x : Signal) : Bool :=
  !x.receives || (match x with
    | .refin _ _ => true
    | _ => false)

/-- Whether a bank at a supply in mV carries a CKOUT format: LVDS and CML need 2.5 or 3.3 V (R477). -/
def formatSupplyOk (format supply : Nat) : Bool :=
  (supply == 2500 || supply == 3300) || (supply == 1800 && format != 0 && format != 2)

/-- The swing of a differential CKOUT format, least and most, in mV: LVDS |V_OD|, HCSL high, CML peak-to-peak (R477). -/
def formatSwing (format : Nat) : Option (Nat × Nat) :=
  match format with
  | 0 => some (250, 450)
  | 1 => some (650, 850)
  | 2 => some (600, 900)
  | _ => none
/-- The common-mode range of LVDS in mV (R477). -/
def lvdsCommonMode : Nat × Nat := (1125, 1375)

/-! ## The reference oscillator (R478) -/

/-- An oscillator: its error in parts per 10^9, duty cycle and spurs in dBc, and its phase noise in dBc/Hz at 10 Hz, 100 Hz,
1 kHz, 10 kHz and 100 kHz, scaled to 50 MHz. -/
structure Oscillator where
  errorPpb : Int
  duty : Nat
  spurs : Int
  noise : List Int
  deriving DecidableEq, Repr

/-- The limits of phase noise at 50 MHz (R478). -/
def noiseLimits : List Int := [-90, -120, -140, -150, -155]

/-- Whether an oscillator meets R478. -/
def Oscillator.ok (x : Oscillator) : Bool :=
  decide (x.errorPpb.natAbs ≤ 20000) && decide (40 ≤ x.duty ∧ x.duty ≤ 60) && decide (x.spurs ≤ -90) &&
    x.noise.length == 5 && (List.zipWith (fun a b => decide (a ≤ b)) x.noise noiseLimits).all id

/-- Whether a drive of XO or REFIN is in range: peak to peak in mV, differential or single-ended (R478). -/
def clockDriveOk (differential : Bool) (mV : Nat) : Bool :=
  if differential then decide (200 ≤ mV ∧ mV ≤ 1600) else decide (800 ≤ mV)

/-! ## Power-up and operation (R484, R485, R487) -/

/-- Whether a rail's voltage in mV lies within its tolerance of a nominal value (R483). -/
def Member.railWithin (m : Member) (r : Rail) (mV : Nat) : Bool :=
  match m.rail r with
  | some d => d.millivolts.any (fun v => decide (v * (100 - d.percent) ≤ 100 * mV) && decide (100 * mV ≤ v * (100 + d.percent)))
  | none => mV == 0

/-- Whether PORn may be released: every standing rail within tolerance for at least 1 ms, and the XO running for at least
2 ms, both in µs (R484). -/
def mayRelease (railsFor xoFor : Nat) : Bool := decide (1000 ≤ railsFor) && decide (2000 ≤ xoFor)

/-- The limits of a standing rail's 10 to 90 % ramp, in µs (R484), and the lead of PORn over an orderly power-down (R485). -/
def rampLimits : Nat × Nat := (100, 10000)
def powerDownLead : Nat := 10

/-- The share of its maximum that a domain gated inside the device draws at most, in percent (R484). -/
def gatedShare : Nat := 3

/-- The rails of Leaf n in the order they come up (R484). -/
def leafRailOrder (n : Nat) : List Rail := [.vddL n, .vddaL n, .vddhL n]

/-- The absolute maximum of a rail, in mV; the least is −0.3 V (R486). -/
def Rail.absMax : Rail → Option Nat
  | .vss => none
  | .vddAon | .vddSp | .vddFab | .vddHost | .vddGnss | .vddL _ => some 950
  | .vddaL _ | .vddaSvc => some 1100
  | .vddaSyn _ => some 1200
  | .vddhL _ => some 1400
  | .vddaXo | .vddio1v8 => some 2100
  | .vddio3v3 | .vddioT | .vddoA | .vddoB => some 3900
def absMin : Int := -300

/-- Lane and PCIe inputs in mV differential, junction and storage temperatures in °C, ESD in V (HBM and CDM), and reflow in °C
(R486). -/
def inputMax : Nat := 1200
def junctionMax : Int := 125
def storageRange : Int × Int := (-55, 125)
def esdLimits : Nat × Nat := (1000, 250)
def reflowPeak : Nat := 260

/-- Whether a part of grade -E, or else -C, operates within this manual: the junction in its grade's range, every rail and
the oscillator in theirs (R2, R487). -/
def withinSpec (gradeE : Bool) (junction : Int) (railsIn : Bool) (xo : Oscillator) : Bool :=
  decide ((if gradeE then -40 else 0) ≤ junction ∧ junction ≤ 105) && railsIn && xo.ok

/-! ## Package (R488, R489) -/

/-- A member's package: thermal resistances in m°C/W to the lid and the board, the lid's static load in N, the body and the
ball grid's span in 0.1 mm, the seated height at most in 0.1 mm, and the lid's side in mm (R488, R489). -/
structure Package where
  thetaJc : Nat
  thetaJb : Nat
  load : Nat
  body : Nat
  span : Nat
  height : Nat
  lid : Nat
  deriving DecidableEq, Repr

/-- The tables of R488 and R489. -/
def Member.package : Member → Package
  | .d2 => ⟨90, 1600, 400, 525, 500, 41, 46⟩
  | .d4 => ⟨60, 1100, 500, 625, 600, 44, 56⟩
  | .d8 => ⟨35, 700, 700, 775, 750, 48, 71⟩

/-- The rise of the hottest junction above the lid, in m°C, at a dissipation in W (R488). -/
def Member.lidRise (m : Member) (watts : Nat) : Nat := m.package.thetaJc * watts

/-- What the cooling holds a monitor at or below, in °C, while the dissipation equals the written ceiling (R488). -/
def coolingLimit : Int := 105

/-- Balls before reflow in 0.01 mm and their coplanarity (R489). -/
def ballSize : Nat := 60
def coplanarity : Nat := 20

end Sys2Proof.Machine
end

