-- ==== Sys2Proof/WellFormed.lean ====
section
/-!
DEFINITION. WellFormed.lean: the ranges the spec gives the numbers that commands carry. A command with a number out of range
names nothing.
-/
namespace Sys2Proof

/-- What a number in a command counts. -/
inductive Range where
  /-- Leaves (R1). -/
  | leaf
  /-- Port numbers (R26). -/
  | port
  /-- Lanes of ports (R76). -/
  | lane
  /-- Timed-action entries (R64). -/
  | entry
  /-- Command interfaces, by world (R64, R154). -/
  | iface
  /-- Table codes (R145). -/
  | table
  /-- Bank pairs (R160). -/
  | pair
  /-- Pipelines of a Leaf (R132). -/
  | pipe
  /-- The Leaves and the Spine. -/
  | die
  /-- Crossing queues of a link (R172). -/
  | xqueue
  /-- Slots of a crossbar round (R175). -/
  | slot
  /-- Classes (R166). -/
  | cls
  /-- Reference slots (R236). -/
  | refSlot
  /-- DPLLs (R247). -/
  | dpll
  /-- APLLs (R272). -/
  | apll
  /-- Bands (R274). -/
  | band
  /-- Clock outputs (R278). -/
  | output
  /-- Sample ports (R293). -/
  | sampleClk
  /-- GNSS channels (R299). -/
  | chan
  /-- Claim domains (R317). -/
  | dom
  /-- Peers of a domain (R317). -/
  | path
  /-- Device serials (R317). -/
  | serial
  /-- Requesters (R336). -/
  | requester
  /-- Regulators (R346). -/
  | regulator
  /-- Octets of lanes (R340). -/
  | octet
  /-- Strap values (R353). -/
  | bootsel
  /-- Image slots: A, B and the staging memory (R355). -/
  | imgSlot
  /-- IMG pages (R358). -/
  | page
  /-- Debug scopes (R368). -/
  | scope
  /-- PCIe functions (R376). -/
  | fn
  /-- Mailboxes (R385). -/
  | mailbox
  /-- Message vectors (R391). -/
  | vector
  /-- Ring directions (R394). -/
  | ringDir
  /-- Rings of a direction (R394). -/
  | ring
  /-- VLANs (R135). -/
  | vlan
  /-- Calibration items (R433). -/
  | item
  /-- Calibration instances (R433). -/
  | inst
  /-- Monitors (R441, R442). -/
  | monitor
  /-- Snapshot targets (R74). -/
  | target
  /-- Control words of a sampler (R454). -/
  | smpWord
  /-- Words of EVENT masks (R464). -/
  | evtWord
  /-- Event sources (R460). -/
  | source
  /-- Equaliser taps (R101). -/
  | tap
  /-- Stitch modules of a link (R173). -/
  | module
  /-- PTP instances (R426). -/
  | ptpInst
  /-- Pulse channels (R59). -/
  | pulse
  /-- Capture channels (R56). -/
  | capture
  /-- Places in a tick, in 2^-16 ns (R49). -/
  | sub
  /-- I2C register pointers (R384). -/
  | pointer
  /-- One byte of a code. -/
  | byte
  deriving DecidableEq, Repr

/-- How many there are. -/
def Range.limit : Range → Nat
  | .leaf => 8
  | .port => 260
  | .lane => 258
  | .entry => 256
  | .iface => 2
  | .table => 16
  | .pair => 3
  | .pipe => 4
  | .die => 9
  | .xqueue => 10
  | .slot => 64
  | .cls => 8
  | .refSlot => 16
  | .dpll => 3
  | .apll => 3
  | .band => 256
  | .output => 12
  | .sampleClk => 2
  | .chan => 64
  | .dom => 16
  | .path => 2
  | .serial => 4096
  | .requester => 176
  | .regulator => 16
  | .octet => 32
  | .bootsel => 8
  | .imgSlot => 3
  | .page => 16
  | .scope => 4
  | .fn => 2
  | .mailbox => 8
  | .vector => 32
  | .ringDir => 2
  | .ring => 16
  | .vlan => 4096
  | .item => 16
  | .inst => 512
  | .monitor => 27
  | .target => 512
  | .smpWord => 4
  | .evtWord => 3
  | .source => 96
  | .tap => 4
  | .module => 4
  | .ptpInst => 4
  | .pulse => 8
  | .capture => 6
  | .sub => 81920
  | .pointer => 256
  | .byte => 256

/-- The numbers a command carries, each with what it counts. -/
def Instr.numbers : Instr → List (Range × Nat)
  | .registerWrite _ _ _ _ _ _ _ => []
  | .wideValueRead _ _ _ => []
  | .readClear _ _ _ => []
  | .stitchModuleRemoval _ l q => [(.leaf, l), (.module, q)]
  | .drainComplete _ n => [(.leaf, n)]
  | .drainLimitExpiry _ n => [(.leaf, n)]
  | .restoreComplete _ n => [(.leaf, n)]
  | .leafAligned _ n => [(.leaf, n)]
  | .alignTimeout _ n => [(.leaf, n)]
  | .timeSetWrite _ _ _ => []
  | .setCancel _ _ => []
  | .timeSetLoad _ => []
  | .leafAlignExchange _ n _ => [(.leaf, n)]
  | .leafResidWarn _ n => [(.leaf, n)]
  | .captureEdge _ i _ sub => [(.capture, i), (.sub, sub)]
  | .captureRead _ _ i => [(.capture, i)]
  | .captureFlush _ _ i => [(.capture, i)]
  | .pulseCtrlWrite _ _ j _ => [(.pulse, j)]
  | .pulseParamWrite _ _ j _ _ => [(.pulse, j)]
  | .pulseEdge _ j => [(.pulse, j)]
  | .actPartWrite _ _ _ => []
  | .actCmdWrite _ _ w index _ => [(.iface, w), (.entry, index)]
  | .actCmdRead _ _ w index _ => [(.iface, w), (.entry, index)]
  | .actCmdCancel _ _ w index _ => [(.iface, w), (.entry, index)]
  | .actArm _ e => [(.entry, e)]
  | .pulseAction _ e => [(.entry, e)]
  | .snapshotAction _ e => [(.entry, e)]
  | .swapVlanBank _ e => [(.entry, e)]
  | .swapGroupBank _ e => [(.entry, e)]
  | .swapStreamBank _ e => [(.entry, e)]
  | .swapGcl _ e => [(.entry, e)]
  | .portEnable _ e => [(.entry, e)]
  | .portDisable _ e => [(.entry, e)]
  | .phaseStep _ e => [(.entry, e)]
  | .paramCommitAction _ e => [(.entry, e)]
  | .dividerSync _ e => [(.entry, e)]
  | .claimDrill _ e => [(.entry, e)]
  | .raiseEvent _ e => [(.entry, e)]
  | .laneCtrlWrite _ _ g _ => [(.lane, g)]
  | .laneRestart _ _ g => [(.lane, g)]
  | .partnerDetected _ p _ => [(.port, p)]
  | .terminationProbe _ p _ => [(.port, p)]
  | .anPageExchange _ p _ => [(.port, p)]
  | .anTimeout _ p _ => [(.port, p)]
  | .trainComplete _ p _ => [(.port, p)]
  | .trainFail _ p _ => [(.port, p)]
  | .trainTimeout _ p => [(.port, p)]
  | .blockLock _ h _ => [(.lane, h.lane)]
  | .lockTimeout _ p => [(.port, p)]
  | .clause37Negotiation _ p _ => [(.port, p)]
  | .exchWaitExpiry _ p => [(.port, p)]
  | .lockLoss _ h => [(.lane, h.lane)]
  | .signalLost _ p _ => [(.port, p)]
  | .modulePresenceLost _ p => [(.port, p)]
  | .backoffEnd _ p => [(.port, p)]
  | .laneTimersWrite _ _ g _ _ => [(.lane, g)]
  | .laneAdaptWrite _ _ g _ => [(.lane, g)]
  | .ffeApply _ _ g _ => [(.lane, g)]
  | .equaliserWrite _ _ g _ _ => [(.lane, g)]
  | .adaptationStep _ g tap _ => [(.lane, g), (.tap, tap)]
  | .adaptWindowEnd _ p _ => [(.port, p)]
  | .escanStart _ _ g _ => [(.lane, g)]
  | .escanAbort _ _ g => [(.lane, g)]
  | .escanPointComplete _ g _ => [(.lane, g)]
  | .portModeWrite _ _ p _ => [(.port, p)]
  | .frameReceive _ p _ _ => [(.port, p)]
  | .pauseFrame _ p _ => [(.port, p)]
  | .pfcFrame _ p vec _ => [(.port, p), (.byte, vec)]
  | .pauseExpiry _ p => [(.port, p)]
  | .mmCtrlWrite _ _ p _ => [(.port, p)]
  | .verifySend _ p => [(.port, p)]
  | .verifyResponse _ p => [(.port, p)]
  | .fragmentReceive _ p _ _ _ _ _ => [(.port, p)]
  | .txStampRead _ _ p => [(.port, p)]
  | .txStampFlush _ _ p => [(.port, p)]
  | .tdcServingChange _ p => [(.port, p)]
  | .tdcSelfCheckFail _ p _ => [(.port, p)]
  | .frameLookup _ n m => [(.leaf, n), (.pipe, m)]
  | .learnEngine _ n => [(.leaf, n)]
  | .movesReset _ => []
  | .tableRead _ _ n w t _ _ => [(.leaf, n), (.iface, w), (.table, t)]
  | .tableWrite _ _ n w t _ _ => [(.leaf, n), (.iface, w), (.table, t)]
  | .tableInsert _ _ n w t _ _ => [(.leaf, n), (.iface, w), (.table, t)]
  | .tableDelete _ _ n w t _ _ => [(.leaf, n), (.iface, w), (.table, t)]
  | .tableSearch _ _ n w t _ _ => [(.leaf, n), (.iface, w), (.table, t)]
  | .tableReadClearHit _ _ n w t _ _ => [(.leaf, n), (.iface, w), (.table, t)]
  | .tableTestAndDelete _ _ n w t _ _ => [(.leaf, n), (.iface, w), (.table, t)]
  | .bankSwapWrite _ _ n _ => [(.leaf, n)]
  | .bankRetentionEnd _ n pair => [(.leaf, n), (.pair, pair)]
  | .ageingSweep _ n => [(.leaf, n)]
  | .bufLimitWrite _ _ p _ _ => [(.port, p)]
  | .crossbarSlot _ => []
  | .cellArrival _ d _ => [(.die, d)]
  | .crossDeadlineExpiry _ l j => [(.die, l), (.xqueue, j)]
  | .replicationSkip _ l d _ => [(.die, l), (.die, d)]
  | .xbarCalWrite _ _ l i _ => [(.die, l), (.slot, i)]
  | .frameTransmit _ p _ _ => [(.port, p)]
  | .gateChange _ p => [(.port, p)]
  | .gateNoFit _ p c => [(.port, p), (.cls, c)]
  | .gclSwapWrite _ _ p => [(.port, p)]
  | .gclRetentionEnd _ p => [(.port, p)]
  | .holdPoint _ p => [(.port, p)]
  | .ladleDeparture _ p _ _ => [(.port, p)]
  | .delayReq _ n m => [(.leaf, n), (.pipe, m)]
  | .delayResp _ d => [(.die, d)]
  | .linkPhaseSample _ p _ _ => [(.port, p)]
  | .linkPhaseRead _ _ p => [(.port, p)]
  | .tcxSend _ p _ => [(.port, p)]
  | .tcxReceive _ p _ _ => [(.port, p)]
  | .tcxPeerTimeout _ p => [(.port, p)]
  | .tcxCommit _ _ p => [(.port, p)]
  | .peerRead _ _ p => [(.port, p)]
  | .ptpSyncSend _ i p => [(.ptpInst, i), (.port, p)]
  | .ptpAnnounceSend _ i p => [(.ptpInst, i), (.port, p)]
  | .ptpMessage _ => []
  | .ptpManagement _ => []
  | .refSlotCfgWrite _ _ i _ _ => [(.refSlot, i)]
  | .forceQual _ _ i => [(.refSlot, i)]
  | .activityFault _ e => [(.refSlot, e.slot)]
  | .activityFaultClear _ e => [(.refSlot, e.slot)]
  | .frequencyReading _ _ => []
  | .holdoffExpiry _ i => [(.refSlot, i)]
  | .restoreExpiry _ i => [(.refSlot, i)]
  | .dpllReevaluation _ d => [(.dpll, d)]
  | .switchEnd _ d _ => [(.dpll, d)]
  | .slewEnd _ d => [(.dpll, d)]
  | .dpllLock _ d => [(.dpll, d)]
  | .dpllLockLoss _ d => [(.dpll, d)]
  | .bandwidthStep _ d => [(.dpll, d)]
  | .dpllModeWrite _ _ d _ => [(.dpll, d)]
  | .pstepAtSecond _ _ d => [(.dpll, d)]
  | .pstepSlew _ _ d => [(.dpll, d)]
  | .pstepApply _ d => [(.dpll, d)]
  | .freqSwWrite _ _ d _ => [(.dpll, d)]
  | .pdComparison _ d _ _ _ _ => [(.dpll, d)]
  | .holdoverRecompute _ d => [(.dpll, d)]
  | .tempStale _ d => [(.dpll, d)]
  | .ageFit _ _ _ => []
  | .returnStep _ _ d => [(.dpll, d)]
  | .returnSlew _ _ d => [(.dpll, d)]
  | .returnHold _ _ d => [(.dpll, d)]
  | .apllCtrlWrite _ _ a _ => [(.apll, a)]
  | .bandWrite _ _ a b _ => [(.apll, a), (.band, b)]
  | .apllLock _ a => [(.apll, a)]
  | .apllLockFail _ a => [(.apll, a)]
  | .apllRetry _ a => [(.apll, a)]
  | .apllLoss _ a => [(.apll, a)]
  | .apllMoveEnd _ a => [(.apll, a)]
  | .outCfgWrite _ _ j _ => [(.output, j)]
  | .outputAlign _ j => [(.output, j)]
  | .syncinEdge _ _ sub _ => [(.sub, sub)]
  | .syncinArm _ _ _ => []
  | .divNextWrite _ _ j _ => [(.output, j)]
  | .dividerUpdate _ _ _ => []
  | .dividerLoad _ => []
  | .leafPllLoss _ n _ => [(.leaf, n)]
  | .leafPllRelockAttempt _ n _ => [(.leaf, n)]
  | .relockAttemptTimeout _ n _ => [(.leaf, n)]
  | .leafPllRelocked _ n _ => [(.leaf, n)]
  | .tsuPllLoss _ => []
  | .tsuPllRetry _ => []
  | .tsuPllRelock _ => []
  | .sampleClockLoss _ x => [(.sampleClk, x)]
  | .sampleClockRestore _ x => [(.sampleClk, x)]
  | .gnssFmeas _ x _ => [(.sampleClk, x)]
  | .acqRequest _ _ _ => []
  | .acqCaptureStart _ => []
  | .acqComplete _ _ _ _ => []
  | .acqResultRead _ _ => []
  | .channelStart _ _ c _ => [(.chan, c)]
  | .channelStop _ _ c _ => [(.chan, c)]
  | .pullInDone _ c => [(.chan, c)]
  | .integrationDump _ c _ _ _ _ _ => [(.chan, c)]
  | .channelLoss _ c => [(.chan, c)]
  | .gnssOwnerChange _ _ _ => []
  | .kettlePowerRequest _ => []
  | .burstStart _ => []
  | .wakingReacquired _ c _ _ => [(.chan, c)]
  | .burstMiss _ c => [(.chan, c)]
  | .burstSkip _ => []
  | .burstEnd _ => []
  | .measurementEpoch _ _ => []
  | .epochComplete _ => []
  | .navRecord _ c _ _ _ => [(.chan, c)]
  | .navRead _ _ => []
  | .navFlush _ _ _ => []
  | .timeSolution _ _ _ => []
  | .jumpConfirm _ => []
  | .surveyDone _ _ _ _ => []
  | .ephemerisRenewal _ c _ _ => [(.chan, c)]
  | .heartbeatSend _ p _ => [(.port, p)]
  | .heartbeatReceive _ p _ _ => [(.port, p)]
  | .heardClaimLapse _ p => [(.port, p)]
  | .acceptedClaimUpdate _ d => [(.dom, d)]
  | .candGating _ => []
  | .witnessAdmit _ d i => [(.dom, d), (.path, i)]
  | .aloneExpiry _ d _ => [(.dom, d)]
  | .clmDepose _ _ d m => [(.dom, d), (.serial, m)]
  | .clmAdmit _ _ d m => [(.dom, d), (.serial, m)]
  | .drillEnd _ d => [(.dom, d)]
  | .powerRequestKeep _ _ => []
  | .powerRequestReady _ _ => []
  | .wakeAt _ => []
  | .readyEntry _ => []
  | .arbiterRound _ => []
  | .domainPowerUp _ r => [(.requester, r)]
  | .regulatorFail _ i _ => [(.regulator, i)]
  | .pipelineRelease _ o => [(.octet, o)]
  | .budgetWrite _ _ _ => []
  | .throttleRise _ n => [(.die, n)]
  | .throttleFall _ n => [(.die, n)]
  | .leafTcrit _ n => [(.leaf, n)]
  | .spineTcrit _ => []
  | .regulatorPoll _ _ => []
  | .pmbAlert _ _ => []
  | .porRelease _ bootsel _ => [(.bootsel, bootsel)]
  | .pornAssert _ => []
  | .warmResetPin _ bootsel => [(.bootsel, bootsel)]
  | .supplyFault _ => []
  | .aonClockSelect _ _ => []
  | .slotValidation _ slot _ => [(.imgSlot, slot)]
  | .imgGo _ _ page => [(.page, page)]
  | .imageStart _ => []
  | .firmwareRunning _ => []
  | .firmwareStartTimeout _ => []
  | .updateTimeout _ => []
  | .challengeResponseAttempt _ _ scope _ => [(.scope, scope)]
  | .passwordAttempt _ _ scope _ => [(.scope, scope)]
  | .jtagDebugUnlock _ _ scope _ _ => [(.scope, scope)]
  | .dbgStatRead _ _ => []
  | .functionLevelReset _ f => [(.fn, f)]
  | .spiRead _ _ _ => []
  | .spiWrite _ _ _ _ => []
  | .i2cTransaction _ ptr _ _ => [(.pointer, ptr)]
  | .mailboxSubmit _ _ m => [(.mailbox, m)]
  | .mailboxRelease _ _ m => [(.mailbox, m)]
  | .mailboxTransportError _ m => [(.mailbox, m)]
  | .msixPendingSend _ v _ _ _ => [(.vector, v)]
  | .tailWrite _ _ q r _ => [(.ringDir, q), (.ring, r)]
  | .descriptorFetch _ _ _ => []
  | .txWriteback _ r => [(.ring, r)]
  | .tsTimeout _ r => [(.ring, r)]
  | .ringDisable _ _ q r => [(.ringDir, q), (.ring, r)]
  | .dmaPcieError _ q r => [(.ringDir, q), (.ring, r)]
  | .rxDelivery _ _ => []
  | .ringSignalTimer _ q r => [(.ringDir, q), (.ring, r)]
  | .sysInfo _ m => [(.mailbox, m)]
  | .leafDrain _ m => [(.mailbox, m)]
  | .leafStart _ m => [(.mailbox, m)]
  | .leafStop _ m => [(.mailbox, m)]
  | .leafWrite _ m => [(.mailbox, m)]
  | .paramGet _ m => [(.mailbox, m)]
  | .paramStage _ m => [(.mailbox, m)]
  | .paramCommit _ m => [(.mailbox, m)]
  | .paramDiscard _ m => [(.mailbox, m)]
  | .paramList _ m => [(.mailbox, m)]
  | .paramStatus _ m => [(.mailbox, m)]
  | .tableOp _ m => [(.mailbox, m)]
  | .tableFlushPort _ m => [(.mailbox, m)]
  | .bankCopy _ m => [(.mailbox, m)]
  | .portMode _ m => [(.mailbox, m)]
  | .portAdmin _ m => [(.mailbox, m)]
  | .portStatus _ m _ => [(.mailbox, m)]
  | .moduleRead _ m _ _ _ => [(.mailbox, m)]
  | .moduleWrite _ m _ _ _ => [(.mailbox, m)]
  | .moduleReady _ p => [(.port, p)]
  | .lldpNeighbour _ m => [(.mailbox, m)]
  | .timeGet _ m => [(.mailbox, m)]
  | .timeSet _ m => [(.mailbox, m)]
  | .actWrite _ m => [(.mailbox, m)]
  | .actRead _ m => [(.mailbox, m)]
  | .actCancel _ m => [(.mailbox, m)]
  | .actBroadcast _ m => [(.mailbox, m)]
  | .refStatus _ m => [(.mailbox, m)]
  | .dpllStatus _ m => [(.mailbox, m)]
  | .dpllReturn _ m => [(.mailbox, m)]
  | .synStatus _ m => [(.mailbox, m)]
  | .bandCal _ m => [(.mailbox, m)]
  | .gnssStatus _ m => [(.mailbox, m)]
  | .gnssSurvey _ m => [(.mailbox, m)]
  | .claimStatus _ m => [(.mailbox, m)]
  | .claimNotice _ m => [(.mailbox, m)]
  | .powerStatus _ m => [(.mailbox, m)]
  | .pmbusXfer _ m _ => [(.mailbox, m)]
  | .flashErase _ m _ => [(.mailbox, m)]
  | .flashWrite _ m _ => [(.mailbox, m)]
  | .flashRead _ m _ => [(.mailbox, m)]
  | .imageCheck _ m _ => [(.mailbox, m)]
  | .imageActivate _ m _ => [(.mailbox, m)]
  | .secStatus _ m => [(.mailbox, m)]
  | .warmReset _ m => [(.mailbox, m)]
  | .snapshot _ m => [(.mailbox, m)]
  | .freeze _ m => [(.mailbox, m)]
  | .userWindow _ m => [(.mailbox, m)]
  | .calRun _ m => [(.mailbox, m)]
  | .calStatus _ m => [(.mailbox, m)]
  | .broadcastReceive _ => []
  | .lldpTransmit _ p => [(.port, p)]
  | .lldpReceive _ => []
  | .snoopReport _ => []
  | .snoopQuery _ vid _ => [(.vlan, vid)]
  | .snoopMemberTimeout _ => []
  | .calRequest _ _ w item inst => [(.iface, w), (.item, item), (.inst, inst)]
  | .calSchedule _ item inst => [(.item, item), (.inst, inst)]
  | .calRunStart _ => []
  | .calRunComplete _ item inst _ _ _ => [(.item, item), (.inst, inst)]
  | .monitorConversion _ _ m _ => [(.monitor, m)]
  | .freezeWrite _ _ _ => []
  | .snapReq _ _ target => [(.target, target)]
  | .snapshotSwap _ => []
  | .samplerCtrlWrite _ _ n e _ => [(.leaf, n), (.smpWord, e)]
  | .samplerFlush _ _ n => [(.leaf, n)]
  | .samplerRead _ _ n => [(.leaf, n)]
  | .evtRouteWrite _ _ i _ => [(.source, i)]
  | .evtEnableWrite _ _ k _ => [(.evtWord, k)]
  | .ptpDelayReqSend _ i p => [(.ptpInst, i), (.port, p)]
  | .announceReceiptTimeout _ i p => [(.ptpInst, i), (.port, p)]
  | .lldpTtlExpiry _ p => [(.port, p)]
  | .feLeadPwrenHigh _ => []

/-- Whether every number a command carries lies in its range. -/
def Instr.wellFormed (i : Instr) : Bool := i.numbers.all (fun (e : Range × Nat) => decide (e.2 < e.1.limit))

end Sys2Proof
end

