-- ==== Sys2Proof/Tests/Slice0.lean ====
section
/-! SUPPORT. Tests: worked examples of the spec, ill-formed commands, and the states and operands that meet the hypotheses of the statements. -/

namespace Sys2Proof.Tests
open Sys2Proof Sys2Proof.Machine
set_option maxRecDepth 20000

/-- A command, and a state whose clock stands as the command finds it, that meets a condition on the command. -/
abbrev Meets (_ : Nat → Instr) (H : State → Prop) (s : State) : Prop := H (s.later 0)

theorem none_all {α : Type} {o : Option α} {P : α → Prop} (h : o = none) : ∀ x, o = some x → P x := by
  intro x hx; rw [h] at hx; cases hx

theorem some_all {α : Type} {o : Option α} {P : α → Prop} (y : α) (h : o = some y) (hy : P y) : ∀ x, o = some x → P x := by
  intro x hx; rw [h] at hx; cases hx; exact hy

/-- A member with eight Leaves in service, its firmware running, at second 100. -/
def up : State :=
  { ((State.reset.setFld Fld.SYS_BOOT_STATUS_STATE 5).set Reg.SYS_LEAF_STATE 0x44444444#32) with
    powered := true, counting := true, doms := List.range 176, fine := 100 * secU * 2 ^ 34, ticks := 8000000 }

/-- That member with entry e of the action table armed for this instant. -/
def armed (e code target arg : Nat) : State :=
  { up with acts := [(e, { words := timeWords up.now ++ [BitVec.ofNat 32 (target * 65536 + code), BitVec.ofNat 32 arg, 0#32, 0#32, 0#32],
                           state := .armed })] }

/-- A port with a mode, its first lane in a state of R82. -/
def lane (p mode st : Nat) (s : State) : State :=
  (s.setFld (Fld.PORT_MODE_MODE p) mode).setFld (Fld.LANE_STATE_STATE p) st

/-- The least frame with its FCS right. -/
def leastFrame : List Byte := zeros 60 ++ leBytes (crc32 (zeros 60)) 4

/-- A PTP Delay_Req of domain 0 over Ethernet. -/
def delayReqFrame : List Byte := ethFrame ptpMac 0x020000000001 0x88F7 (beBytes 0x0102002C00000000 8 ++ zeros 38)

/-- A frame that waits in a crossing queue for a destination. -/
def waiting (d : Nat) : XFrame := { f := { bytes := zeros 60 }, links := [d], entered := 0 }

/-- A copy of the least frame, and a copy held by the Ladle for port 0. -/
def copy : Copy := { f := { bytes := zeros 60 }, cls := 7 }
def held (t : Nat) : Held := { c := copy, port := 0, release := t, send := true, entered := 0 }

/-- A timing capability exchange message. -/
def tcxFrame : List Byte :=
  let b := beBytes tcxDa 6 ++ zeros 6 ++ beBytes 0x88B7 2 ++ beBytes tcxCid 3 ++ beBytes 0x01010101 4 ++ beBytes 64 2 ++ zeros 64
  b ++ leBytes (crc32 b) 4

/-- Port 0 up, in PTP instance 0 over Ethernet, in a portState; frames trapped to port 259. -/
def ptpUp (st : Nat) (l : List Frame) : State :=
  { (lane 0 9 5 up).setQueue 259 0 (l.map (fun f => { f := f })) with
    params := [(pkey 0x20 0 1, 1), (pkey 0x20 0 4, 0), (pkey 0x21 0 1, 1)], ptps := [(ptpKey 0 0, { state := st })], ticks := 8000000000 }

/-- A PTP message of a type over Ethernet. -/
def ptpFrame (type : Nat) : Frame :=
  { bytes := ethFrame ptpMac 0x020000000001 0x88F7 (beBytes (type * 2 ^ 56 + 0x0002002C00000000) 8 ++ zeros 46), inPort := 0 }

/-- A part whose GNSS firmware service is on, in a fixed position, with parameters in force. -/
def gnssUp (more : KMap Int) : State := { up with gnss := { params := [(pkey 10 0 1, 1)] ++ more ++ [(pkey 10 0 0x10, 1)], solved := none } }

/-- Bursts on, a channel tracking in bursts. -/
def burstUp (c : Nat) : State :=
  ((up.setFld Fld.KETTLE_CTRL_EN 1).setFld (Fld.GNSS_CH_STAT_STATE c) 2).setFld (Fld.GNSS_CH_CTRL_BURST c) 1

/-- A heartbeat, and claims on at port 0. -/
def hbFrame : List Byte :=
  let b := beBytes tcxDa 6 ++ zeros 6 ++ beBytes 0x88B7 2 ++ beBytes tcxCid 3 ++ beBytes 0x01020102 4 ++ beBytes 110 2 ++ zeros 106
  b ++ leBytes (crc32 b) 4
def clmUp : State := (lane 0 9 5 up).setFld Fld.CLM_CTRL_EN 1

/-- What a Delay_Req at the head of a header queue meets, with its responder's answer any. -/
abbrev DelayReqAt (n m : Nat) (f : Frame) (rest : List Frame) (s : State) : Prop :=
  let u := ((s.setHdr n m rest).unstage n m f.id).modDie n (fun d => { d with admitAt := some (s.ticks, m) })
  let g := (u.classify n f).1
  let v := u.entry n (u.bankFor n 0 g.stamp g.flags) g.vid
  s.pipesRun n = true ∧ s.turnOf n m = true ∧ s.headIsDelayReq n m = true ∧ s.hdr n m = f :: rest ∧
    (u.die n).cyc = none ∧ (f.flags % 2 = 0 → f.inPort < 258 → u.portDisabled f.inPort = false) ∧
    isDelayReq g.bytes (u.classify n f).2 = true ∧ (u.responder n { g with fid := v.f 8 4 12 } (u.classify n f).2).isSome = true

theorem delayReq_case (n m : Nat) (f : Frame) (rest : List Frame) (s : State) (hm : m < 4) (h : DelayReqAt n m f rest (s.later 0)) :
    ∃ n m f rest t, ∃ s : State, m < 4 ∧ Meets (fun dt => .delayReq dt n m) (fun s =>
      let u := ((s.setHdr n m rest).unstage n m f.id).modDie n (fun d => { d with admitAt := some (s.ticks, m) })
      let g := (u.classify n f).1
      let v := u.entry n (u.bankFor n 0 g.stamp g.flags) g.vid
      s.pipesRun n = true ∧ s.turnOf n m = true ∧ s.headIsDelayReq n m = true ∧ s.hdr n m = f :: rest ∧
      (∀ c, (u.die n).cyc = some c → c.tick ≠ u.ticks) ∧ ¬ (f.flags % 2 = 0 ∧ f.inPort < 258 ∧ u.portDisabled f.inPort) ∧
      isDelayReq g.bytes (u.classify n f).2 = true ∧ u.responder n { g with fid := v.f 8 4 12 } (u.classify n f).2 = some t) s := by
  obtain ⟨h1, h2, h3, h4, h5, h6, h7, h8⟩ := h
  obtain ⟨t, h8⟩ := Option.isSome_iff_exists.1 h8
  exact ⟨n, m, f, rest, t, s, hm, h1, h2, h3, h4, none_all h5, fun h => by simp [h6 h.1 h.2.1] at h, h7, h8⟩

theorem delayReq_holds : DelayReqAt 0 0 { bytes := delayReqFrame, inPort := 0 } []
    (State.later (((((lane 0 9 5 up).setFld (Fld.RESP_PORT_CFG_CLAIM_GATE 0) 0).setFld (Fld.RESP_PORT_CFG_DOM_EN 0) 1).setFld
      (Fld.RESP_PORT_CFG_L2 0) 1).modDie 0 (fun d => { d with hdr := [(0, [{ bytes := delayReqFrame, inPort := 0 }])] })) 0) := by
  decide

/-- A commit record in force, and a part that judges flash with one in a slot. -/
def commitBytes : List Byte :=
  let r := [0x43#8, 0x4D#8, 0x49#8, 0x54#8] ++ zeros 24
  r ++ leBytes (crc32 r) 4
def slotted (slot : Nat) : State :=
  { up.setFld Fld.SYS_BOOT_STATUS_STATE 1 with
    flash := (List.range 32).map (fun i => (slot * slotBytes + commitAt + i, commitBytes[i]?.getD 0#8)) }

/-- The device in a power state, and a part in a boot state. -/
def inPower (st : Nat) : State := up.setFld Fld.PWR_STATE_STATE st
def inBoot (st : Nat) : State := up.setFld Fld.SYS_BOOT_STATUS_STATE st

/-- Mailbox m holds a request of an opcode with a payload of words, the only one accepted. -/
def mail (m op : Nat) (l : List Nat) (s : State) : State :=
  let ws := [op, 4 * l.length, 0, 0] ++ l
  (List.range ws.length).foldl (fun s i => s.set (Reg.MBX_REQ m i) (BitVec.ofNat 32 (ws[i]?.getD 0))) { s with mbxQueue := [m] }

/-- An SPI read and an SPI write of the word at 0. -/
def spiRd : List Byte := beBytes 0x400000000000 6 ++ beBytes (crc16 (beBytes 0x400000000000 6)) 2
def spiWr : List Byte := beBytes 0x80000000000000000001 10 ++ beBytes (crc16 (beBytes 0x80000000000000000001 10)) 2

theorem write_case (src : Src) (a : Nat) (w : Word) (took : Nat) (fault : Bool) (s : State) (ha : a < bar2)
    (h : (ruleOf src a w took fault).isSome = true) (hs : (s.later 0).access src a = .ok) :
    ∃ src a w took fault f, ∃ s : State, a < bar2 ∧ ruleOf src a w took fault = some f ∧
      Meets (fun dt => .registerWrite dt src a w true took fault) (fun s => s.access src a = .ok) s := by
  obtain ⟨f, hf⟩ := Option.isSome_iff_exists.1 h
  exact ⟨src, a, w, took, fault, f, s, ha, hf, hs⟩

/-- The words of an entry that marks user event 15, one second from now. -/
def entryWords : List Nat := (timeWords (up.now + secU)).map (·.toNat) ++ [15 * 65536 + 13, 0, 0, 0, 0]

theorem stage_case (m : Nat) (s : State) (h : (let s := s.later 0
      let (i, k) := (s.arg m 0, s.arg m 1)
      AtRequest m 0x0202 16 s ∧ (worldOf m = 0 → s.keySecure k = false) ∧ s.psetForeign i (worldOf m) = false ∧
      s.keyAbsent k = false ∧ i < 16 ∧ (paramSpec k).any (fun p => p.inRange (paramValue p (s.arg m 2) (s.arg m 3))) = true ∧
      s.setLocked i = false ∧ ((s.pset i).entries.length < 512 ∨ (kfind (s.pset i).entries k).isSome = true))) :
    ∃ m p, ∃ s : State, Meets (fun dt => .paramStage dt m) (fun s =>
      let (i, k) := (s.arg m 0, s.arg m 1)
      AtRequest m 0x0202 16 s ∧ (worldOf m = 0 → s.keySecure k = false) ∧ s.psetForeign i (worldOf m) = false ∧
      s.keyAbsent k = false ∧ paramSpec k = some p ∧ i < 16 ∧ p.inRange (paramValue p (s.arg m 2) (s.arg m 3)) = true ∧
      s.setLocked i = false ∧ ((s.pset i).entries.length < 512 ∨ (kfind (s.pset i).entries k).isSome = true)) s := by
  obtain ⟨h1, h2, h3, h4, h5, h6, h7, h8⟩ := h
  obtain ⟨p, hp, hr⟩ := Option.any_eq_true _ _ |>.1 h6
  exact ⟨m, p, s, h1, h2, h3, h4, hp, h5, hr, h7, h8⟩

/-- A frame in the queue of port 259, and frames for three services: a broadcast, LLDP, an IGMP report. -/
def at259 (b : List Byte) (s : State) : State := s.setQueue 259 0 [{ f := { bytes := b, inPort := 255 } }]
def bcFrame : List Byte := ethFrame tcxDa 0x020000000001 0x88B7 (beBytes tcxCid 3 ++ beBytes 0x0103 2 ++ zeros 59)
def lldpIn : List Byte :=
  ethFrame tcxDa 0x020000000001 0x88CC (lldpTlv 1 (beBytes 4 1 ++ zeros 6) ++ lldpTlv 2 (beBytes 7 1 ++ zeros 1) ++
    lldpTlv 3 (beBytes 120 2) ++ zeros 2)
def igmpIn : List Byte :=
  ethFrame 0x01005E010203 0x020000000001 0x0800 (beBytes 0x4500001C00000000010200000A000001EF010203 20 ++
    beBytes 0x16000000EF010203 8 ++ zeros 18)

theorem svc_case (svc : Nat) (s : State) (P : State → Prop) (hp : P (s.later 0))
    (h : ((s.later 0).dropUnserved.svcTake svc).isSome = true) :
    ∃ f t, ∃ s : State, P (s.later 0) ∧ (s.later 0).dropUnserved.svcTake svc = some (f, t) := by
  obtain ⟨x, hx⟩ := Option.isSome_iff_exists.1 h
  exact ⟨x.1, x.2, s, hp, hx⟩

theorem lldp_case (s : State) (h1 : (s.later 0).fwRuns = true) (h : ((s.later 0).dropUnserved.svcTake 4).any (fun e =>
      (lldpParse (e.1.bytes.drop (parseFrame true e.1.bytes).body) e.2.ticks).isSome && decide (2 ≤ e.2.lldpAdmin e.1.inPort)) = true) :
    ∃ f t x, ∃ s : State, Meets (fun dt => .lldpReceive dt) (fun s => s.fwRuns = true ∧ s.dropUnserved.svcTake 4 = some (f, t) ∧
      lldpParse (f.bytes.drop (parseFrame true f.bytes).body) t.ticks = some x ∧ 2 ≤ t.lldpAdmin f.inPort) s := by
  obtain ⟨e, he, hx⟩ := (Option.any_eq_true _ _).1 h
  obtain ⟨hx, hy⟩ := (Bool.and_eq_true _ _ ▸ hx : _ ∧ _)
  obtain ⟨x, hx⟩ := Option.isSome_iff_exists.1 hx
  exact ⟨e.1, e.2, x, s, h1, he, hx, of_decide_eq_true hy⟩

/-! ## Worked examples of the spec -/

/-- The words of the headline switch's trigger (spec/02, example after R75): second 1,750,000,037, nanosecond 500,000,000. -/
theorem test_time_words : timeWords ((1750000037 * secU + 500000000 * nsU : Nat)) = [0x65000000#32, 0xE1A51DCD#32, 0x684E#32] := by decide

/-- R15's carries (spec/00, example): 999,999,100.5 ns and 1,500 ns are 600.5 ns of the next second. -/
theorem test_time_carry : timeWords (7 * secU + 999999100 * nsU + 0x8000 + 1500 * nsU) = timeWords (8 * secU + 600 * nsU + 0x8000) ∧
    timeWords (8 * secU + 600 * nsU + 0x8000) = [BitVec.ofNat 32 (600 * 65536 + 0x8000), 0x80000#32, 0#32] := by decide

/-- A time whose nanoseconds exceed 999,999,999 is invalid (R14). -/
theorem test_time_invalid : timeOfRaw (1000000000 * 2 ^ 16) = none ∧ (timeOfRaw (999999999 * 2 ^ 16)).isSome = true := by decide

/-- Port 200's registers (spec/01, example after R41). -/
theorem test_lane_address : Reg.LANE_CTRL 200 = 0x02848000 ∧ Reg.PORT_MODE 200 = 0x02888000 ∧ Reg.TSU_TDC 200 / 0x400 * 0x400 = 0x028C2000 ∧
    Reg.LANE_CTRL 201 = 0x02849000 := by decide

/-- The CRC-32 of IEEE 802.3 over the digits 1 to 9 (its published check value). -/
theorem test_crc32 : crc32 (asciiBytes "123456789") = 0xCBF43926 := by decide

/-! ## Reset -/

/-- SYS.ID0 of a D8 of grade C (R3): family 0xDA, stepping 0xB0, 8 Leaves, grade 0, all Leaves present. -/
theorem test_identity : State.reset.get Reg.SYS_ID0 = 0xDAB080FF#32 := by decide

/-- LOCKOUT and attempts of the debug unlock at reset, and MSI-X vectors masked. -/
theorem test_secure_reset : State.reset.get Reg.SEC_DBG_STAT = 0x700#32 ∧ State.reset.get (Reg.MSIX_VCTRL1 7) = 1#32 := by decide

/-- A D8's budget at reset (R335): CEILING 5,400 and GUARD 270 tokens. -/
theorem test_budget_reset : State.reset.get Reg.PWR_BUDGET = 0x10E1518#32 := by decide

/-- The sums that R336 states: every requester granted, every lane at 106.25 Gb/s. -/
def peakSum (m : Member) : Nat :=
  standingTokens + ((List.range 48).map (rqPeak m)).foldl (· + ·) 0 + m.leaves * 16 * 18
theorem test_peak_sums : peakSum .d2 = 1456 ∧ peakSum .d4 = 2612 ∧ peakSum .d8 = 4924 := by decide

/-! ## One step each -/

/-- Whether a command's outcome is a next state of which something holds. -/
def runs (c : Instr) (s : State) (p : State → Bool) : Bool :=
  match step { s with pending := [c] } with
  | .next t => p t
  | _ => false

/-- Words staged in the non-secure interface of the timed-action engine. -/
def staged (l : List Nat) (s : State) : State :=
  s.forAll (List.range 8) (fun i s => s.set (Reg.TIME_ACT_ENTRY 0 i) (BitVec.ofNat 32 (l[i]?.getD 0)))

/-- The headline switch (spec/02, example after R75): at second 1,750,000,000 both writes answer OK, in the lowest
entry outside the secure share of 16 and in its own. -/
def atShow : State := { up with fine := 1750000000 * secU * 2 ^ 34 }
theorem test_headline_swap :
    runs (.actCmdWrite 0 .pf0 0 20 0) (staged [0x65000000, 0xE1A51DCD, 0x684E, 0x00FF0005, 2, 0, 0, 0] atShow)
      (fun t => t.fld (Fld.TIME_ACT_STAT_RESULT 0) == resOk && (t.act 20).state == .pending &&
        (t.act 20).trigger == 1750000037 * secU + 500000000 * nsU && t.pending == []) = true := by decide
theorem test_headline_snapshot :
    runs (.actCmdWrite 0 .pf0 0 21 0) (staged [0x65000000, 0xE1A51DCD, 0x684E, 0x01FF0002, 0x23, 0, 0, 0] atShow)
      (fun t => t.fld (Fld.TIME_ACT_STAT_RESULT 0) == resOk) = true := by decide
/-- Entry 15 lies in the secure share (R64, R68). -/
theorem test_headline_world :
    runs (.actCmdWrite 0 .pf0 0 15 0) (staged [0x65000000, 0xE1A51DCD, 0x684E, 0x00FF0005, 2, 0, 0, 0] atShow)
      (fun t => t.fld (Fld.TIME_ACT_STAT_RESULT 0) == resWorld && (t.act 15).state == .free) = true := by decide

/-- The bands of APLL-0 at 12.288 GHz (spec/11, example of the media clocks): 195 is taken. -/
def bandOf (b lo hi : Nat) (s : State) : State :=
  ((s.setFld (Fld.SYN_BAND_VALID 0 b) 1).setFld (Fld.SYN_BAND_LO_MHZ 0 b) lo).setFld (Fld.SYN_BAND_HI_MHZ 0 b) hi
def fohPll : State :=
  bandOf 194 12253 12294 (bandOf 195 12266 12309 (bandOf 196 12282 12322
    ((up.set (Reg.APLL_FVCO0 0) 0#32).set (Reg.APLL_FVCO0 0 + 4) 0x2DC6C#32)))
theorem test_band_eligible : fohPll.fvco 0 = 12288000000 * 65536 ∧ fohPll.bandOk 0 194 = false ∧
    fohPll.bandOk 0 195 = true ∧ fohPll.bandOk 0 196 = false := by decide

/-- The cue descriptor of node N09 (spec/15, example of a timed cue): accepted, its launch time second 1,750,000,041. -/
def cue : List Word := [0x23456000#32, 1#32, 0x4200C4#32, 0xF6000#32, 0#32, 0xE1A90000#32, 0x684E#32, 0#32]
theorem test_cue_launch : dw cue 2 0 14 = 196 ∧ dw cue 2 16 16 = 0x42 ∧ descLaunch cue = some (1750000041 * secU) ∧
    dw cue 3 12 3 = 6 := by decide

/-- The SPI frame that reads DPLL-T's T0 (spec/15, example of one parameter over SPI): 28 bytes with its CRC. -/
def spiParam : List Byte :=
  let b := beBytes 0x80000110000400070201 10 ++ beBytes 0x0000000400000000 8 ++ beBytes 0x0000000007000001 8
  b ++ beBytes (crc16 b) 2
theorem test_spi_words : spiParam.length = 28 ∧ runs (.spiWrite 0 spiParam 0 false) up (fun t =>
    t.get (Reg.MBX_REQ 0 0) == 0x70201#32 && t.get (Reg.MBX_REQ 0 1) == 4#32 && t.get (Reg.MBX_REQ 0 2) == 0#32 &&
    t.get (Reg.MBX_REQ 0 4) == 0x7000001#32) = true := by decide

/-- Two word clocks (spec/10, example after R243): slots 0 and 1 apart, slot 0 with the majority. -/
def clocks : State :=
  [(0, 2, 310), (1, 2, -240), (4, 1, 290)].foldl (fun s x =>
    (((s.setFld (Fld.REF_SLOT_STAT_STATE x.1) 1).setFld (Fld.REF_SLOT_CFG_RANK x.1) x.2.1).setFld
      (Fld.REF_SLOT_FOFF_PPB x.1) (unsigned 32 x.2.2)).setBit (Fld.REF_SLOT_STAT_DISPUTED x.1) (decide (x.1 < 2))) { up with pairs := [{ a := 0, b := 1 }] }
theorem test_clocks_apart : clocks.apart 0 4 = false ∧ clocks.apart 1 4 = true ∧ clocks.apart 0 1 = true := by decide
theorem test_clocks_majority : clocks.backers 0 = 1 ∧ clocks.backers 1 = 0 := by decide

/-! ## Pins (spec/20, example after R482) -/

theorem test_balls_port200 :
    [Signal.laneRx 200 false, .laneRx 200 true, .laneTx 200 false, .laneTx 200 true, .laneTx 203 true].map Member.d8.ball =
      [some (60, 1), some (60, 2), some (60, 4), some (60, 5), some (54, 5)] := by decide
theorem test_balls_cage : presencePin 200 = .cagePrs 6 1 0 ∧
    [Signal.cagePrs 6 1 0, .cageRst 6 1 0, .cageInt 6 1 0, .cageLpm 6 1 0, .cageScl 6 1, .cageSda 6 1].map Member.d8.ball =
      [some (60, 13), some (59, 13), some (58, 13), some (57, 13), some (60, 15), some (59, 15)] := by decide
theorem test_ball_pps : Member.d2.ball (.ppsout 0) = some (19, 14) := by decide
/-- The balls of a member are those of the grid but its corners (R479). -/
theorem test_ball_counts : [Member.d2, .d4, .d8].map (fun m => m.grid ^ 2 - 4) = [2597, 3717, 5772] := by decide
/-- In reset a PCIe transmitter idles, and the clock outputs and IRQn are high-impedance (R363, R473). -/
theorem test_pins_reset : State.reset.pin (.pcieTx 0 false) = .idle ∧ State.reset.pin (.ckout 11 true) = .z ∧
    State.reset.pin .irqn = .z ∧ State.reset.pin .xt32In = .oscillating := by decide
/-- A muted output holds low, N high in a differential format, once MUTE_HIZ is 0 (R280). -/
theorem test_pins_muted : let s := up.setFld (Fld.OUT_CFG_MUTE_HIZ 3) 0
    s.pin (.ckout 3 false) = .low ∧ s.pin (.ckout 3 true) = .high ∧ (s.setFld (Fld.OUT_CFG_FORMAT 3) 3).pin (.ckout 3 true) = .low := by
  decide

/-! ## Ill-formed commands: for each range, the first number beyond it, and the last within it -/

theorem test_illformed_leaf : (Instr.stitchModuleRemoval 0 8 0).wellFormed = false ∧
    (Instr.stitchModuleRemoval 0 7 0).wellFormed = true := by decide
theorem test_illformed_module : (Instr.stitchModuleRemoval 0 0 4).wellFormed = false ∧
    (Instr.stitchModuleRemoval 0 0 3).wellFormed = true := by decide
theorem test_illformed_capture : (Instr.captureEdge 0 6 false 0).wellFormed = false ∧
    (Instr.captureEdge 0 5 false 0).wellFormed = true := by decide
theorem test_illformed_sub : (Instr.captureEdge 0 0 false 81920).wellFormed = false ∧
    (Instr.captureEdge 0 0 false 81919).wellFormed = true := by decide
theorem test_illformed_pulse : (Instr.pulseCtrlWrite 0 .core 8 0#32).wellFormed = false ∧
    (Instr.pulseCtrlWrite 0 .core 7 0#32).wellFormed = true := by decide
theorem test_illformed_iface : (Instr.actCmdWrite 0 .core 2 0 0).wellFormed = false ∧
    (Instr.actCmdWrite 0 .core 1 0 0).wellFormed = true := by decide
theorem test_illformed_entry : (Instr.actCmdWrite 0 .core 0 256 0).wellFormed = false ∧
    (Instr.actCmdWrite 0 .core 0 255 0).wellFormed = true := by decide
theorem test_illformed_lane : (Instr.laneCtrlWrite 0 .core 258 0#32).wellFormed = false ∧
    (Instr.laneCtrlWrite 0 .core 257 0#32).wellFormed = true := by decide
theorem test_illformed_port : (Instr.partnerDetected 0 260 0).wellFormed = false ∧
    (Instr.partnerDetected 0 259 0).wellFormed = true := by decide
theorem test_illformed_tap : (Instr.adaptationStep 0 0 4 false).wellFormed = false ∧
    (Instr.adaptationStep 0 0 3 false).wellFormed = true := by decide
theorem test_illformed_byte : (Instr.pfcFrame 0 0 256 []).wellFormed = false ∧
    (Instr.pfcFrame 0 0 255 []).wellFormed = true := by decide
theorem test_illformed_pipe : (Instr.frameLookup 0 0 4).wellFormed = false ∧
    (Instr.frameLookup 0 0 3).wellFormed = true := by decide
theorem test_illformed_table : (Instr.tableRead 0 .core 0 0 16 false 0).wellFormed = false ∧
    (Instr.tableRead 0 .core 0 0 15 false 0).wellFormed = true := by decide
theorem test_illformed_pair : (Instr.bankRetentionEnd 0 0 3).wellFormed = false ∧
    (Instr.bankRetentionEnd 0 0 2).wellFormed = true := by decide
theorem test_illformed_die : (Instr.cellArrival 0 9 false).wellFormed = false ∧
    (Instr.cellArrival 0 8 false).wellFormed = true := by decide
theorem test_illformed_xqueue : (Instr.crossDeadlineExpiry 0 0 10).wellFormed = false ∧
    (Instr.crossDeadlineExpiry 0 0 9).wellFormed = true := by decide
theorem test_illformed_slot : (Instr.xbarCalWrite 0 .core 0 64 0#32).wellFormed = false ∧
    (Instr.xbarCalWrite 0 .core 0 63 0#32).wellFormed = true := by decide
theorem test_illformed_cls : (Instr.gateNoFit 0 0 8).wellFormed = false ∧
    (Instr.gateNoFit 0 0 7).wellFormed = true := by decide
theorem test_illformed_ptpInst : (Instr.ptpSyncSend 0 4 0).wellFormed = false ∧
    (Instr.ptpSyncSend 0 3 0).wellFormed = true := by decide
theorem test_illformed_refSlot : (Instr.refSlotCfgWrite 0 .core 16 0#32 false).wellFormed = false ∧
    (Instr.refSlotCfgWrite 0 .core 15 0#32 false).wellFormed = true := by decide
theorem test_illformed_dpll : (Instr.dpllReevaluation 0 3).wellFormed = false ∧
    (Instr.dpllReevaluation 0 2).wellFormed = true := by decide
theorem test_illformed_apll : (Instr.apllCtrlWrite 0 .core 3 0#32).wellFormed = false ∧
    (Instr.apllCtrlWrite 0 .core 2 0#32).wellFormed = true := by decide
theorem test_illformed_band : (Instr.bandWrite 0 .core 0 256 0#32).wellFormed = false ∧
    (Instr.bandWrite 0 .core 0 255 0#32).wellFormed = true := by decide
theorem test_illformed_output : (Instr.outCfgWrite 0 .core 12 0#32).wellFormed = false ∧
    (Instr.outCfgWrite 0 .core 11 0#32).wellFormed = true := by decide
theorem test_illformed_sampleClk : (Instr.sampleClockLoss 0 2).wellFormed = false ∧
    (Instr.sampleClockLoss 0 1).wellFormed = true := by decide
theorem test_illformed_chan : (Instr.channelStart 0 .core 64 0#32).wellFormed = false ∧
    (Instr.channelStart 0 .core 63 0#32).wellFormed = true := by decide
theorem test_illformed_dom : (Instr.acceptedClaimUpdate 0 16).wellFormed = false ∧
    (Instr.acceptedClaimUpdate 0 15).wellFormed = true := by decide
theorem test_illformed_path : (Instr.witnessAdmit 0 0 2).wellFormed = false ∧
    (Instr.witnessAdmit 0 0 1).wellFormed = true := by decide
theorem test_illformed_serial : (Instr.clmDepose 0 .core 0 4096).wellFormed = false ∧
    (Instr.clmDepose 0 .core 0 4095).wellFormed = true := by decide
theorem test_illformed_requester : (Instr.domainPowerUp 0 176).wellFormed = false ∧
    (Instr.domainPowerUp 0 175).wellFormed = true := by decide
theorem test_illformed_regulator : (Instr.regulatorFail 0 16 false).wellFormed = false ∧
    (Instr.regulatorFail 0 15 false).wellFormed = true := by decide
theorem test_illformed_octet : (Instr.pipelineRelease 0 32).wellFormed = false ∧
    (Instr.pipelineRelease 0 31).wellFormed = true := by decide
theorem test_illformed_bootsel : (Instr.porRelease 0 8 {}).wellFormed = false ∧
    (Instr.porRelease 0 7 {}).wellFormed = true := by decide
theorem test_illformed_imgSlot : (Instr.slotValidation 0 3 false).wellFormed = false ∧
    (Instr.slotValidation 0 2 false).wellFormed = true := by decide
theorem test_illformed_page : (Instr.imgGo 0 .core 16).wellFormed = false ∧
    (Instr.imgGo 0 .core 15).wellFormed = true := by decide
theorem test_illformed_scope : (Instr.challengeResponseAttempt 0 .core 4 0).wellFormed = false ∧
    (Instr.challengeResponseAttempt 0 .core 3 0).wellFormed = true := by decide
theorem test_illformed_fn : (Instr.functionLevelReset 0 2).wellFormed = false ∧
    (Instr.functionLevelReset 0 1).wellFormed = true := by decide
theorem test_illformed_pointer : (Instr.i2cTransaction 0 256 none 0).wellFormed = false ∧
    (Instr.i2cTransaction 0 255 none 0).wellFormed = true := by decide
theorem test_illformed_mailbox : (Instr.mailboxSubmit 0 .core 8).wellFormed = false ∧
    (Instr.mailboxSubmit 0 .core 7).wellFormed = true := by decide
theorem test_illformed_vector : (Instr.msixPendingSend 0 32 false false false).wellFormed = false ∧
    (Instr.msixPendingSend 0 31 false false false).wellFormed = true := by decide
theorem test_illformed_ringDir : (Instr.tailWrite 0 .core 2 0 0#32).wellFormed = false ∧
    (Instr.tailWrite 0 .core 1 0 0#32).wellFormed = true := by decide
theorem test_illformed_ring : (Instr.tailWrite 0 .core 0 16 0#32).wellFormed = false ∧
    (Instr.tailWrite 0 .core 0 15 0#32).wellFormed = true := by decide
theorem test_illformed_vlan : (Instr.snoopQuery 0 4096 false).wellFormed = false ∧
    (Instr.snoopQuery 0 4095 false).wellFormed = true := by decide
theorem test_illformed_item : (Instr.calRequest 0 .core 0 16 0).wellFormed = false ∧
    (Instr.calRequest 0 .core 0 15 0).wellFormed = true := by decide
theorem test_illformed_inst : (Instr.calRequest 0 .core 0 0 512).wellFormed = false ∧
    (Instr.calRequest 0 .core 0 0 511).wellFormed = true := by decide
theorem test_illformed_monitor : (Instr.monitorConversion 0 false 27 0).wellFormed = false ∧
    (Instr.monitorConversion 0 false 26 0).wellFormed = true := by decide
theorem test_illformed_target : (Instr.snapReq 0 .core 512).wellFormed = false ∧
    (Instr.snapReq 0 .core 511).wellFormed = true := by decide
theorem test_illformed_smpWord : (Instr.samplerCtrlWrite 0 .core 0 4 0#32).wellFormed = false ∧
    (Instr.samplerCtrlWrite 0 .core 0 3 0#32).wellFormed = true := by decide
theorem test_illformed_source : (Instr.evtRouteWrite 0 .core 96 0#32).wellFormed = false ∧
    (Instr.evtRouteWrite 0 .core 95 0#32).wellFormed = true := by decide
theorem test_illformed_evtWord : (Instr.evtEnableWrite 0 .core 3 0#32).wellFormed = false ∧
    (Instr.evtEnableWrite 0 .core 2 0#32).wellFormed = true := by decide

/-! ## Witnesses: for each statement that a command completes, a state and operands that meet the hypotheses of each clause -/

theorem witness_TimeSetAndLeafTimebaseComplete :
  (∃ src w x, ∃ s : State, Meets (fun dt => .timeSetWrite dt src w)
      (fun s => s.access src Reg.TIME_SET0 = .ok ∧ timeOfRaw (s.wideValue Reg.TIME_SET0 3 w) = some x) s) ∧
  (∃ src, ∃ s : State, Meets (fun dt => .setCancel dt src)
      (fun s => s.access src Reg.TIME_CTRL = .ok) s) ∧
  (∃ v sec, ∃ s : State, Meets (fun dt => .timeSetLoad dt)
      (fun s => s.setLoad = some (v, sec) ∧ sec < s.now / secU) s) ∧
  (∃ n q resid, ∃ s : State, n < 8 ∧ residAligned resid = true ∧ Meets (fun dt => .leafAlignExchange dt n resid)
      (fun s => (s.leaf n = 3 ∨ s.leaf n = 4) ∧ s.alignModule n = some q ∧
      ∀ x, kfind s.aligns n = some x → x.at_ + 1024 ≤ s.ticks) s) ∧
  (∃ n q resid, ∃ s : State, n < 8 ∧ residAligned resid = false ∧ Meets (fun dt => .leafAlignExchange dt n resid)
      (fun s => (s.leaf n = 3 ∨ s.leaf n = 4) ∧ s.alignModule n = some q ∧
      ∀ x, kfind s.aligns n = some x → x.at_ + 1024 ≤ s.ticks) s) ∧
  (∃ n, ∃ s : State, n < 8 ∧ Meets (fun dt => .leafResidWarn dt n)
      (fun s => s.inService n = true ∧ s.due .residOut n = true) s) :=
  ⟨⟨.core, 0, 0, up, by decide⟩,
   ⟨.core, up, by decide⟩,
   ⟨5, 3, { up with setLoad := some (5, 3) }, by decide⟩,
   ⟨0, 1, 3, up.setFld (Fld.XBAR_LINK_STAT_MODULES_UP 0) 2, by exact ⟨by decide, by decide, by decide, by decide, none_all (by decide)⟩⟩,
   ⟨7, 3, -900, up.setFld (Fld.XBAR_LINK_STAT_MODULES_UP 7) 8, by exact ⟨by decide, by decide, by decide, by decide, none_all (by decide)⟩⟩,
   ⟨3, up.startTimer .residOut 3 0, by decide⟩⟩

theorem witness_CaptureComplete :
  (∃ i rising sub, ∃ s : State, i < 6 ∧ sub < tickUnits ∧ Meets (fun dt => .captureEdge dt i rising sub)
      (fun s => s.powered = true ∧ s.on (Fld.TIME_CAP_CTRL_EN i) = true ∧
      s.fldBit (Fld.TIME_CAP_CTRL_EDGE i) (if rising then 0 else 1) = true ∧ (s.cap i).fifo.length < 16 ∧
      ∀ l, (s.cap i).last = some l → l + 100 * nsU ≤ s.ticks * tickUnits + sub) s) ∧
  (∃ src i st rest, ∃ s : State, i < 6 ∧ Meets (fun dt => .captureRead dt src i)
      (fun s => s.access src (Reg.TIME_CAP_TS0 i) = .ok ∧ (s.cap i).fifo = st :: rest) s) ∧
  (∃ src i, ∃ s : State, i < 6 ∧ Meets (fun dt => .captureRead dt src i)
      (fun s => s.access src (Reg.TIME_CAP_TS0 i) = .ok ∧ (s.cap i).fifo = []) s) ∧
  (∃ src i, ∃ s : State, i < 6 ∧ Meets (fun dt => .captureFlush dt src i)
      (fun s => s.access src (Reg.TIME_CAP_CTRL i) = .ok) s) :=
  ⟨⟨5, false, 3, { (up.setFld (Fld.TIME_CAP_CTRL_EN 5) 1).setFld (Fld.TIME_CAP_CTRL_EDGE 5) 2 with caps := [(5, { last := some 7 })] }, by exact ⟨by decide, by decide, by decide, by decide, by decide, by decide, fun l h => by cases h; decide⟩⟩,
   ⟨.core, 5, ⟨7, true, true⟩, [], { up with caps := [(5, { fifo := [⟨7, true, true⟩] })] }, by decide⟩,
   ⟨.core, 0, up, by decide⟩,
   ⟨.core, 5, up, by decide⟩⟩

theorem witness_PulseComplete :
  (∃ src j w, ∃ s : State, j < 8 ∧ Meets (fun dt => .pulseCtrlWrite dt src j w)
      (fun s => s.access src (Reg.TIME_PULSE_CTRL j) = .ok ∧ s.onceOver j = false ∧ s.pulseMode j = bitsOf w 0 2 ∧
      s.on (Fld.TIME_PULSE_STAT_RUNNING j) = true) s) ∧
  (∃ src j w, ∃ s : State, j < 8 ∧ Meets (fun dt => .pulseCtrlWrite dt src j w)
      (fun s =>
      let t := ((s.pulseShow j).setFld (Fld.TIME_PULSE_CTRL_POL j) (bitsOf w 2 1)).setFld (Fld.TIME_PULSE_CTRL_MUTE_HIZ j)
        (bitsOf w 3 1)
      s.access src (Reg.TIME_PULSE_CTRL j) = .ok ∧
      ((s.pulseShow j).pulseMode j ≠ bitsOf w 0 2 ∨ (s.pulseShow j).on (Fld.TIME_PULSE_STAT_RUNNING j) = false) ∧
      (bitsOf w 0 2 = 1 → onceOk (t.pulseWidth j) = true ∧ t.now + usU ≤ t.pulseStart j) ∧
      (bitsOf w 0 2 = 2 → periodicOk (t.pulsePeriod j) (t.pulseWidth j) = true)) s) ∧
  (∃ src j w x, ∃ s : State, j < 8 ∧ Meets (fun dt => .pulseParamWrite dt src j .start w)
      (fun s => s.access src (Reg.TIME_PULSE_START0 j) = .ok ∧ timeOfRaw (s.wideValue (Reg.TIME_PULSE_START0 j) 3 w) = some x) s) ∧
  (∃ src j w, ∃ s : State, j < 8 ∧ Meets (fun dt => .pulseParamWrite dt src j .period w)
      (fun s => s.access src (Reg.TIME_PULSE_PERIOD0 j) = .ok) s) ∧
  (∃ src j w, ∃ s : State, j < 8 ∧ Meets (fun dt => .pulseParamWrite dt src j .width w)
      (fun s => s.access src (Reg.TIME_PULSE_WIDTH0 j) = .ok) s) ∧
  (∃ j t, ∃ s : State, j < 8 ∧ Meets (fun dt => .pulseEdge dt j)
      (fun s => s.powered = true ∧ (s.pulse j).next = some t ∧ t < s.now + tickUnits ∧ s.pulseMode j = 1) s) ∧
  (∃ j t, ∃ s : State, j < 8 ∧ Meets (fun dt => .pulseEdge dt j)
      (fun s => s.powered = true ∧ (s.pulse j).next = some t ∧ t < s.now + tickUnits ∧ s.pulseMode j = 2 ∧
      ∀ at1, (s.pulse j).attempt = some at1 → t < at1) s) ∧
  (∃ j t at1, ∃ s : State, j < 8 ∧ Meets (fun dt => .pulseEdge dt j)
      (fun s => s.powered = true ∧ (s.pulse j).next = some t ∧ t < s.now + tickUnits ∧ s.pulseMode j = 2 ∧
      (s.pulse j).attempt = some at1 ∧ at1 ≤ t) s) ∧
  (∃ e, ∃ s : State, Meets (fun dt => .pulseAction dt e)
      (fun s => Fires e 0x01 s ∧ s.pulseMode (s.act e).target = 3) s) :=
  ⟨⟨.core, 7, 2, (up.setFld (Fld.TIME_PULSE_STAT_RUNNING 7) 1).setFld (Fld.TIME_PULSE_CTRL_MODE 7) 2, by decide⟩,
   ⟨.core, 0, 0, up, by decide⟩,
   ⟨.core, 7, 0, 0, up, by decide⟩,
   ⟨.core, 7, 0, up, by decide⟩,
   ⟨.core, 7, 0, up, by decide⟩,
   ⟨0, 4, { up.setFld (Fld.TIME_PULSE_CTRL_MODE 0) 1 with pulses := [(0, { next := some 4 })] }, by decide⟩,
   ⟨7, 4, { up.setFld (Fld.TIME_PULSE_CTRL_MODE 7) 2 with pulses := [(7, { next := some 4 })] }, by exact ⟨by decide, by decide, by decide, by decide, by decide, none_all (by decide)⟩⟩,
   ⟨7, 4, 4, { up.setFld (Fld.TIME_PULSE_CTRL_MODE 7) 2 with pulses := [(7, { next := some 4, attempt := some 4 })] }, by decide⟩,
   ⟨255, (armed 255 1 7 1).setFld (Fld.TIME_PULSE_CTRL_MODE 7) 3, by decide⟩⟩

theorem witness_ActionTableComplete :
  (∃ src w, ∃ s : State, Meets (fun dt => .actPartWrite dt src w)
      (fun s => s.access src Reg.TIME_ACT_PART = .ok ∧ bitsOf w 0 9 ≤ 256 ∧
      ∀ e, e < 256 → (e < s.secureEntries ↔ ¬ e < bitsOf w 0 9) → (s.act e).state = .free) s) ∧
  (∃ src w e took, ∃ s : State, w < 2 ∧ e < 256 ∧ took ≠ 0 ∧ Meets (fun dt => .actCmdWrite dt src w e took)
      (fun s => s.access src (Reg.TIME_ACT_CMD w) = .ok ∧ s.waiting .actBusy w = false) s) ∧
  (∃ src w e, ∃ s : State, w < 2 ∧ e < 256 ∧ Meets (fun dt => .actCmdWrite dt src w e 0)
      (fun s =>
      let u := ((s.setFld (Fld.TIME_ACT_CMD_OP w) 1).setFld (Fld.TIME_ACT_CMD_INDEX w) e).startTimer .actBusy w 0
      s.access src (Reg.TIME_ACT_CMD w) = .ok ∧ s.waiting .actBusy w = false ∧ u.actWorld e = w ∧
      u.actWriteResult e s.now { words := u.actStaged w } = resOk) s) ∧
  (∃ src w e took, ∃ s : State, w < 2 ∧ e < 256 ∧ took ≠ 0 ∧ Meets (fun dt => .actCmdRead dt src w e took)
      (fun s => s.access src (Reg.TIME_ACT_CMD w) = .ok ∧ s.waiting .actBusy w = false) s) ∧
  (∃ src w e, ∃ s : State, w < 2 ∧ e < 256 ∧ Meets (fun dt => .actCmdRead dt src w e 0)
      (fun s =>
      let u := ((s.setFld (Fld.TIME_ACT_CMD_OP w) 2).setFld (Fld.TIME_ACT_CMD_INDEX w) e).startTimer .actBusy w 0
      s.access src (Reg.TIME_ACT_CMD w) = .ok ∧ s.waiting .actBusy w = false ∧ u.actWorld e = w) s) ∧
  (∃ src w e took, ∃ s : State, w < 2 ∧ e < 256 ∧ took ≠ 0 ∧ Meets (fun dt => .actCmdCancel dt src w e took)
      (fun s => s.access src (Reg.TIME_ACT_CMD w) = .ok ∧ s.waiting .actBusy w = false) s) ∧
  (∃ src w e, ∃ s : State, w < 2 ∧ e < 256 ∧ Meets (fun dt => .actCmdCancel dt src w e 0)
      (fun s =>
      let u := ((s.setFld (Fld.TIME_ACT_CMD_OP w) 3).setFld (Fld.TIME_ACT_CMD_INDEX w) e).startTimer .actBusy w 0
      s.access src (Reg.TIME_ACT_CMD w) = .ok ∧ s.waiting .actBusy w = false ∧ u.actWorld e = w ∧
      (s.act e).state = .pending) s) ∧
  (∃ e, ∃ s : State, e < 256 ∧ Meets (fun dt => .actArm dt e)
      (fun s => (s.act e).state = .pending ∧ (s.act e).trigger ≤ s.now + 10 * usU) s) ∧
  (∃ e, ∃ s : State, Meets (fun dt => .raiseEvent dt e)
      (Fires e 0x0D) s) :=
  ⟨⟨.core, 256#32, up, by exact ⟨by decide, by decide, fun e _ _ => rfl⟩⟩,
   ⟨.core, 0, 255, 160, up, by decide⟩,
   ⟨.core, 0, 255, (up.set (Reg.TIME_ACT_ENTRY 0 2) 1#32).set (Reg.TIME_ACT_ENTRY 0 3) 0xD#32, by decide⟩,
   ⟨.core, 1, 0, 160, up, by decide⟩,
   ⟨.core, 1, 0, up, by decide⟩,
   ⟨.core, 0, 255, 1, up, by decide⟩,
   ⟨.core, 0, 255, { up with acts := [(255, { state := .pending })] }, by decide⟩,
   ⟨255, { up with acts := [(255, { state := .pending })] }, by decide⟩,
   ⟨0, armed 0 13 15 0, by decide⟩⟩

theorem witness_DataPathActionsComplete :
  (∃ e, ∃ s : State, Meets (fun dt => .snapshotAction dt e)
      (fun s => Fires e 0x02 s ∧ (s.actWorld e == 0 && s.snapSecure (s.act e).target) = false ∧ s.snapOpen = true ∧ s.snapSkips (s.act e).target = []) s) ∧
  (∃ e, ∃ s : State, Meets (fun dt => .swapVlanBank dt e)
      (fun s =>
      let l := s.allLeaves.filter (fun n => (s.act e).target / 2 ^ n % 2 == 1)
      Fires e 0x03 s ∧ (∀ n ∈ l, s.inService n = true) ∧ (s.actWorld e = 0 → ∀ n ∈ l, s.bankSecure n 0 = false)) s) ∧
  (∃ e, ∃ s : State, Meets (fun dt => .swapGroupBank dt e)
      (fun s =>
      let l := s.allLeaves.filter (fun n => (s.act e).target / 2 ^ n % 2 == 1)
      Fires e 0x04 s ∧ (∀ n ∈ l, s.inService n = true) ∧ (s.actWorld e = 0 → ∀ n ∈ l, s.bankSecure n 1 = false)) s) ∧
  (∃ e, ∃ s : State, Meets (fun dt => .swapStreamBank dt e)
      (fun s =>
      let l := s.allLeaves.filter (fun n => (s.act e).target / 2 ^ n % 2 == 1)
      Fires e 0x05 s ∧ (∀ n ∈ l, s.inService n = true) ∧ (s.actWorld e = 0 → ∀ n ∈ l, s.bankSecure n 2 = false)) s) ∧
  (∃ e, ∃ s : State, Meets (fun dt => .swapGcl dt e)
      (fun s =>
      let p := (s.act e).target
      Fires e 0x06 s ∧ s.worldBars e (Reg.EGR_PORT_GCL_CTRL p) = false ∧ s.portSkipped p = false ∧
      (s.gclSwap p (s.act e).arg (s.actTime (s.act e))).1 = false) s) ∧
  (∃ e, ∃ s : State, Meets (fun dt => .portEnable dt e)
      (fun s => Fires e 0x07 s ∧ s.worldBars e (portHome (s.act e).target) = false ∧ s.portSkipped (s.act e).target = false) s) ∧
  (∃ e, ∃ s : State, Meets (fun dt => .portDisable dt e)
      (fun s => Fires e 0x08 s ∧ s.worldBars e (portHome (s.act e).target) = false ∧ s.portSkipped (s.act e).target = false) s) :=
  ⟨⟨200, armed 200 2 511 1, by decide⟩,
   ⟨200, armed 200 3 255 0, by decide⟩,
   ⟨200, armed 200 4 1 1, by decide⟩,
   ⟨15, armed 15 5 128 2, by decide⟩,
   ⟨200, armed 200 6 255 0, by decide⟩,
   ⟨200, armed 200 7 259 0, by decide⟩,
   ⟨200, armed 200 8 0 0, by decide⟩⟩

theorem witness_ClockActionsComplete :
  (∃ d, ∃ s : State, d < 3 ∧ Meets (fun dt => .pstepApply dt d)
      (fun s => s.phaseActionDue d = false ∧ ((s.stepDue (s.dpll d).pstep).isSome ∨ (s.stepDue (s.dpll d).rstep).isSome)) s) ∧
  (∃ e, ∃ s : State, Meets (fun dt => .phaseStep dt e)
      (fun s => Fires e 0x09 s ∧ s.worldBars e (Reg.DPLL_PSTEP_CTRL (s.act e).target) = false) s) ∧
  (∃ e, ∃ s : State, Meets (fun dt => .paramCommitAction dt e)
      (fun s => Fires e 0x0A s ∧ s.psetForeign (s.act e).target (s.actWorld e) = false ∧
      s.commitFails (s.pset (s.act e).target).entries = none) s) ∧
  (∃ e, ∃ s : State, Meets (fun dt => .dividerSync dt e)
      (fun s => Fires e 0x0B s ∧ s.worldBars e Reg.SYN_UPDATE = false) s) ∧
  (∃ e, ∃ s : State, Meets (fun dt => .claimDrill dt e)
      (fun s => Fires e 0x0C s ∧ s.worldBars e (Reg.CLM_DOM_CFG (s.act e).target) = false ∧
      (clmDrill (s.act e).target (s.act e).arg s).1 = false) s) :=
  ⟨⟨2, { up with dplls := [(2, { pstep := some (7, 3) })] }, by decide⟩,
   ⟨200, armed 200 9 2 5, by decide⟩,
   ⟨200, { armed 200 10 15 0 with psets := [(15, { entries := [(pkey 0x25 7 1, 0)] })] }, by decide⟩,
   ⟨200, armed 200 11 4095 0, by decide⟩,
   ⟨200, (armed 200 12 15 1).setFld (Fld.CLM_CTRL_EN) 1, by decide⟩⟩

theorem witness_LaneSettingsComplete :
  (∃ src g w, ∃ s : State, bitsOf w 4 2 ≠ 3 ∧ bitsOf w 10 2 ≠ 3 ∧ Meets (fun dt => .laneCtrlWrite dt src g w)
      (fun s => s.laneExists g = true ∧ s.access src (Reg.LANE_CTRL g) = .ok) s) ∧
  (∃ src g, ∃ s : State, Meets (fun dt => .laneRestart dt src g)
      (fun s => s.laneExists g = true ∧ s.access src (Reg.LANE_CTRL g) = .ok ∧ s.portOfLane g = some g ∧ s.portState g ≠ 0) s) ∧
  (∃ src g w, ∃ s : State, 100 ≤ bitsOf w 20 12 ∧ bitsOf w 20 12 ≤ 3000 ∧ 10 ≤ bitsOf w 10 10 ∧ bitsOf w 10 10 ≤ 1000 ∧ 10 ≤ bitsOf w 0 10 ∧ bitsOf w 0 10 ≤ 1000 ∧ Meets (fun dt => .laneTimersWrite dt src g false w)
      (fun s => s.laneExists g = true ∧ s.access src (Reg.LANE_TIMERS g) = .ok) s) ∧
  (∃ src g w, ∃ s : State, 1 ≤ bitsOf w 8 8 ∧ bitsOf w 4 4 ≤ 10 ∧ 1 ≤ bitsOf w 24 8 ∧ 1 ≤ bitsOf w 16 8 ∧ Meets (fun dt => .laneTimersWrite dt src g true w)
      (fun s => s.laneExists g = true ∧ s.access src (Reg.LANE_RETRY g) = .ok) s) ∧
  (∃ src g w, ∃ s : State, bitsOf w 0 16 < bitsOf w 16 16 ∧ Meets (fun dt => .laneAdaptWrite dt src g w)
      (fun s => s.laneExists g = true ∧ s.access src (Reg.LANE_ADAPT g) = .ok) s) ∧
  (∃ src g w, ∃ s : State, Meets (fun dt => .ffeApply dt src g w)
      (fun s =>
      let t := s.set (Reg.LANE_FFE_P2 g) (w &&& 0xFF#32)
      s.laneExists g = true ∧ s.access src (Reg.LANE_FFE_P2 g) = .ok ∧ t.on (Fld.LANE_CTRL_FFE_SRC g) = true ∧
      ffeOk (t.get (Reg.LANE_FFE g)) w = true) s) ∧
  (∃ src g w, ∃ s : State, Meets (fun dt => .equaliserWrite dt src g true w)
      (fun s => s.laneExists g = true ∧ s.access src (Reg.LANE_CTLE g) = .ok) s) ∧
  (∃ src g w, ∃ s : State, Meets (fun dt => .equaliserWrite dt src g false w)
      (fun s => s.laneExists g = true ∧ s.access src (Reg.LANE_DFE g) = .ok) s) :=
  ⟨⟨.core, 257, 0, up, by decide⟩,
   ⟨.core, 255, lane 255 2 1 up, by decide⟩,
   ⟨.core, 0, 0x06402C0A#32, up, by decide⟩,
   ⟨.core, 255, 0x010101A0#32, up, by decide⟩,
   ⟨.core, 256, 0x00010000#32, up, by decide⟩,
   ⟨.core, 0, 0, up.setFld (Fld.LANE_CTRL_FFE_SRC 0) 1, by decide⟩,
   ⟨.core, 255, 5, up, by decide⟩,
   ⟨.core, 255, 5, up, by decide⟩⟩

theorem witness_BringUpComplete :
  (∃ p signal, ∃ s : State, Meets (fun dt => .partnerDetected dt p signal)
      (fun s => s.detecting p = true ∧ s.partnerFound p signal = true) s) ∧
  (∃ p found, ∃ s : State, Meets (fun dt => .terminationProbe dt p found)
      (fun s => s.detecting p = true ∧ s.media p = 1 ∧ s.negotiates p = false ∧
      ∀ t, (s.port p).probeAt = some t → t + 10 * msT ≤ s.ticks) s) ∧
  (∃ p techs fecs, ∃ s : State, Meets (fun dt => .anPageExchange dt p ⟨techs, fecs⟩)
      (fun s => s.detecting p = true ∧ s.negotiates p = true ∧ s.portMode p ∈ techs ∧
      (s.fld (Fld.PORT_MODE_FEC p) = 0 ∨ s.fld (Fld.PORT_MODE_FEC p) ∈ fecs)) s) ∧
  (∃ p techs fecs, ∃ s : State, Meets (fun dt => .anPageExchange dt p ⟨techs, fecs⟩)
      (fun s => s.detecting p = true ∧ s.negotiates p = true ∧ (s.portMode p ∉ techs ∨
      (s.fld (Fld.PORT_MODE_FEC p) ≠ 0 ∧ s.fld (Fld.PORT_MODE_FEC p) ∉ fecs))) s) ∧
  (∃ p signal, ∃ s : State, Meets (fun dt => .anTimeout dt p signal)
      (fun s => s.detecting p = true ∧ s.negotiates p = true ∧ (s.port p).anOk = false ∧
      secT ≤ min signal (s.ticks - (s.port p).detectAt)) s) ∧
  (∃ p reqs, ∃ s : State, Meets (fun dt => .trainComplete dt p reqs)
      (fun s => s.namesPort p = true ∧ s.portState p = 2) s) ∧
  (∃ p lanes, ∃ s : State, Meets (fun dt => .trainFail dt p lanes)
      (fun s => s.namesPort p = true ∧ s.portState p = 2 ∧ ∃ g, g ∈ lanes ∧ g ∈ s.lanesOf p) s) ∧
  (∃ p, ∃ s : State, Meets (fun dt => .trainTimeout dt p)
      (fun s => s.portState p = 2 ∧ s.due .train p = true) s) ∧
  (∃ g seen skew p, ∃ s : State, Meets (fun dt => .blockLock dt ⟨g, seen⟩ skew)
      (fun s => s.portOfLane g = some p ∧ s.portState p = 3 ∧ s.locks p seen = true) s) ∧
  (∃ p, ∃ s : State, Meets (fun dt => .lockTimeout dt p)
      (fun s => s.portState p = 3 ∧ s.due .lock p = true) s) :=
  ⟨⟨252, 8000000, { lane 252 9 1 up with ports := [(252, { modReady := true })] }, by decide⟩,
   ⟨0, true, (lane 0 4 1 up).setFld (Fld.LANE_CTRL_MEDIA 0) 1, by exact ⟨by decide, by decide, by decide, none_all (by decide)⟩⟩,
   ⟨0, [9], [2], ((lane 0 9 1 up).setFld (Fld.LANE_CTRL_AN_EN 0) 1).setFld (Fld.LANE_CTRL_MEDIA 0) 1 |>.setFld (Fld.PORT_MODE_FEC 0) 2, by decide⟩,
   ⟨0, [9], [1], ((lane 0 9 1 up).setFld (Fld.LANE_CTRL_AN_EN 0) 1).setFld (Fld.LANE_CTRL_MEDIA 0) 1 |>.setFld (Fld.PORT_MODE_FEC 0) 2, by decide⟩,
   ⟨0, 800000000, { ((lane 0 4 1 up).setFld (Fld.LANE_CTRL_MEDIA 0) 1).setFld (Fld.LANE_CTRL_AN_EN 0) 1 with ticks := 800000000 }, by decide⟩,
   ⟨0, [], lane 0 9 2 up, by decide⟩,
   ⟨4, [7], lane 4 9 2 up, by exact ⟨by decide, by decide, 7, by decide, by decide⟩⟩,
   ⟨4, (lane 4 9 2 up).startTimer .train 4 0, by decide⟩,
   ⟨0, List.replicate 64 true, 180000, 0, lane 0 9 3 up, by decide⟩,
   ⟨4, (lane 4 9 3 up).startTimer .lock 4 0, by decide⟩⟩

theorem witness_LinkLossComplete :
  (∃ p, ∃ s : State, Meets (fun dt => .clause37Negotiation dt p true)
      (fun s => s.portState p = 4 ∧ s.portMode p = 1 ∧ s.on (Fld.LANE_CTRL_AN_EN p) = true) s) ∧
  (∃ p, ∃ s : State, Meets (fun dt => .clause37Negotiation dt p false)
      (fun s => s.portState p = 4 ∧ s.portMode p = 1 ∧ s.on (Fld.LANE_CTRL_AN_EN p) = true) s) ∧
  (∃ p, ∃ s : State, Meets (fun dt => .exchWaitExpiry dt p)
      (fun s => s.portState p = 4 ∧ s.due .exch p = true) s) ∧
  (∃ g seen p, ∃ s : State, Meets (fun dt => .lockLoss dt ⟨g, seen⟩)
      (fun s => s.portOfLane g = some p ∧ (s.portState p = 4 ∨ s.portState p = 5) ∧ s.unlocks p seen = true) s) ∧
  (∃ g seen p, ∃ s : State, Meets (fun dt => .lockLoss dt ⟨g, seen⟩)
      (fun s => s.portOfLane g = some p ∧ s.portState p = 3 ∧ s.unlocks p seen = true) s) ∧
  (∃ p lanes, ∃ s : State, Meets (fun dt => .signalLost dt p lanes)
      (fun s => s.namesPort p = true ∧ 3 ≤ s.portState p ∧ ∃ g, g ∈ lanes ∧ g ∈ s.lanesOf p) s) ∧
  (∃ p, ∃ s : State, Meets (fun dt => .modulePresenceLost dt p)
      (fun s => s.namesPort p = true) s) ∧
  (∃ p, ∃ s : State, Meets (fun dt => .backoffEnd dt p)
      (fun s => s.portState p = 1 ∧ s.due .backoff p = true) s) :=
  ⟨⟨4, (lane 4 1 4 up).setFld (Fld.LANE_CTRL_AN_EN 4) 1, by decide⟩,
   ⟨4, (lane 4 1 4 up).setFld (Fld.LANE_CTRL_AN_EN 4) 1, by decide⟩,
   ⟨4, (lane 4 9 4 up).startTimer .exch 4 0, by decide⟩,
   ⟨0, List.replicate 16 false, 0, lane 0 9 5 up, by decide⟩,
   ⟨0, List.replicate 16 false, 0, lane 0 9 3 up, by decide⟩,
   ⟨4, [4], lane 4 9 3 up, by exact ⟨by decide, by decide, 4, by decide, by decide⟩⟩,
   ⟨4, lane 4 9 0 up, by decide⟩,
   ⟨4, (lane 4 9 1 up).startTimer .backoff 4 0, by decide⟩⟩

theorem witness_AdaptationAndEyeScanComplete :
  (∃ g up, ∃ s : State, Meets (fun dt => .adaptationStep dt g 0 up)
      (fun s => s.laneExists g = true ∧ s.adapting g = true ∧ s.scanStepped g = false ∧
      ∀ t, kfind (s.port ((s.portOfLane g).getD g)).stepAt (4 * (g % 32)) = some t → t + msT ≤ s.ticks) s) ∧
  (∃ g tap up, ∃ s : State, 1 ≤ tap ∧ tap ≤ 3 ∧ Meets (fun dt => .adaptationStep dt g tap up)
      (fun s => s.laneExists g = true ∧ s.adapting g = true ∧ s.scanStepped g = false ∧ 3 ≤ s.fld (Fld.LANE_STATE_RATE g) ∧
      ∀ t, kfind (s.port ((s.portOfLane g).getD g)).stepAt (4 * (g % 32) + tap) = some t → t + 100 * usT ≤ s.ticks) s) ∧
  (∃ p units, ∃ s : State, Meets (fun dt => .adaptWindowEnd dt p units)
      (fun s => s.namesPort p = true ∧ (s.portState p = 4 ∨ s.portState p = 5) ∧
      (s.port p).winAt + windowTicks (s.portMode p) ≤ s.ticks) s) ∧
  (∃ src g w, ∃ s : State, Meets (fun dt => .escanStart dt src g w)
      (fun s => s.laneExists g = true ∧ s.access src (Reg.LANE_ESCAN_CTRL g) = .ok ∧ s.escanRefusal g w = 0) s) ∧
  (∃ src g x, ∃ s : State, Meets (fun dt => .escanAbort dt src g)
      (fun s => s.laneExists g = true ∧ s.access src (Reg.LANE_ESCAN_CTRL g) = .ok ∧ kfind s.escans g = some x) s) ∧
  (∃ g errs x, ∃ s : State, Meets (fun dt => .escanPointComplete dt g errs)
      (fun s => s.due .escan g = true ∧ kfind s.escans g = some x) s) :=
  ⟨⟨4, true, lane 4 9 5 up, by exact ⟨by decide, by decide, by decide, none_all (by decide)⟩⟩,
   ⟨4, 3, false, (lane 4 9 5 up).setFld (Fld.LANE_STATE_RATE 4) 3, by exact ⟨by decide, by decide, by decide, by decide, by decide, by decide, none_all (by decide)⟩⟩,
   ⟨4, 3, lane 4 9 4 up, by decide⟩,
   ⟨.core, 4, 0x0A000000#32, lane 4 9 5 up, by decide⟩,
   ⟨.core, 4, ⟨10, 3⟩, { lane 4 9 5 up with escans := [(4, ⟨10, 3⟩)] }, by decide⟩,
   ⟨4, 5, ⟨10, 3⟩, { lane 4 9 5 up with escans := [(4, ⟨10, 3⟩)] }.startTimer .escan 4 0, by decide⟩⟩

theorem witness_PortComplete :
  (∃ src p w fec, ∃ s : State, Meets (fun dt => .portModeWrite dt src p w)
      (fun s => s.laneExists p = true ∧ s.access src (Reg.PORT_MODE p) = .ok ∧ (s.portOfLane p).getD p = p ∧
      s.modeOk p (bitsOf w 0 6) = true ∧ s.fecAfter p (bitsOf w 0 6) (bitsOf w 8 3) = some fec) s) ∧
  (∃ p full i, ∃ s : State, Meets (fun dt => .frameReceive dt p full i)
      (fun s =>
      let u := s.fecCount p i
      s.linkUp p = true ∧ isTcx full = false ∧ isHb full = false ∧ u.drainedAt p (s.rxPhys p i) = false ∧
      u.macReason p full i (s.rxPhys p i) = none ∧ beAt (full.take (full.length - 4)) 12 2 ≠ 0x8808) s) ∧
  (∃ p quanta, ∃ s : State, Meets (fun dt => .pauseFrame dt p quanta)
      (fun s => s.namesPort p = true ∧ s.portState p = 5) s) ∧
  (∃ p vec quanta, ∃ s : State, Meets (fun dt => .pfcFrame dt p vec quanta)
      (fun s => s.namesPort p = true ∧ s.portState p = 5) s) ∧
  (∃ p, ∃ s : State, Meets (fun dt => .pauseExpiry dt p)
      (fun s => s.namesPort p = true) s) ∧
  (∃ src p w, ∃ s : State, bitsOf w 8 8 ≠ 0 ∧ bitsOf w 8 8 ≤ 128 ∧ Meets (fun dt => .mmCtrlWrite dt src p w)
      (fun s => s.namesPort p = true ∧ s.access src (Reg.PORT_MM_CTRL p) = .ok) s) ∧
  (∃ p, ∃ s : State, Meets (fun dt => .verifySend dt p)
      (fun s => s.namesPort p = true ∧ s.portState p = 5 ∧
      (s.fld (Fld.PORT_MM_STAT_VERIFY p) = 1 ∨ s.fld (Fld.PORT_MM_STAT_VERIFY p) = 2) ∧ (s.port p).verifyTries < 3 ∧
      ∀ t, (s.port p).verifyAt = some t → t + s.fld (Fld.PORT_MM_CTRL_VERIFY_TIME p) * msT ≤ s.ticks) s) ∧
  (∃ p, ∃ s : State, Meets (fun dt => .verifyResponse dt p)
      (fun s => s.namesPort p = true ∧ s.portState p = 5 ∧ s.fld (Fld.PORT_MM_STAT_VERIFY p) = 2) s) ∧
  (∃ p count final b i, ∃ s : State, Meets (fun dt => .fragmentReceive dt p true count final b i)
      (fun s => s.namesPort p = true ∧ s.portState p = 5 ∧ s.on (Fld.PORT_MM_CTRL_EN p) = true ∧
      ((s.fecCount p i).port p).reasm = none) s) ∧
  (∃ p final b i r, ∃ s : State, Meets (fun dt => .fragmentReceive dt p false r.want final b i)
      (fun s => s.namesPort p = true ∧ s.portState p = 5 ∧ s.on (Fld.PORT_MM_CTRL_EN p) = true ∧
      ((s.fecCount p i).port p).reasm = some r) s) ∧
  (∃ p count final b i r, ∃ s : State, count ≠ r.want ∧ Meets (fun dt => .fragmentReceive dt p false count final b i)
      (fun s => s.namesPort p = true ∧ s.portState p = 5 ∧ s.on (Fld.PORT_MM_CTRL_EN p) = true ∧
      ((s.fecCount p i).port p).reasm = some r) s) :=
  ⟨⟨.core, 255, 3#32, 0, up, by decide⟩,
   ⟨255, leastFrame, {}, lane 255 3 5 up, by decide⟩,
   ⟨256, 65535, lane 256 1 5 up, by decide⟩,
   ⟨0, 255, [65535], lane 0 9 5 up, by decide⟩,
   ⟨0, lane 0 9 1 up, by decide⟩,
   ⟨.core, 0, 0x8000#32, lane 0 9 1 up, by decide⟩,
   ⟨0, { (lane 0 9 5 up).setFld (Fld.PORT_MM_STAT_VERIFY 0) 1 with ports := [(0, { verifyTries := 2 })] }, by exact ⟨by decide, by decide, by decide, by decide, none_all (by decide)⟩⟩,
   ⟨0, (lane 0 9 5 up).setFld (Fld.PORT_MM_STAT_VERIFY 0) 2, by decide⟩,
   ⟨0, 0, true, leastFrame, {}, (lane 0 9 5 up).setFld (Fld.PORT_MM_CTRL_EN 0) 1, by decide⟩,
   ⟨0, true, leastFrame, {}, ⟨leastFrame, 3, 0, 0, 0, false, 0⟩, { (lane 0 9 5 up).setFld (Fld.PORT_MM_CTRL_EN 0) 1 with ports := [(0, { reasm := some ⟨leastFrame, 3, 0, 0, 0, false, 0⟩ })] }, by decide⟩,
   ⟨0, 2, true, leastFrame, {}, ⟨leastFrame, 3, 0, 0, 0, false, 0⟩, { (lane 0 9 5 up).setFld (Fld.PORT_MM_CTRL_EN 0) 1 with ports := [(0, { reasm := some ⟨leastFrame, 3, 0, 0, 0, false, 0⟩ })] }, by decide⟩⟩

theorem witness_TransmitStampComplete :
  (∃ src p x rest, ∃ s : State, Meets (fun dt => .txStampRead dt src p)
      (fun s => s.namesPort p = true ∧ s.laneExists p = true ∧ s.access src (Reg.TSU_TXQ_TS0 p) = .ok ∧
      (s.port p).stamps = x :: rest) s) ∧
  (∃ src p, ∃ s : State, Meets (fun dt => .txStampRead dt src p)
      (fun s => s.namesPort p = true ∧ s.laneExists p = true ∧ s.access src (Reg.TSU_TXQ_TS0 p) = .ok ∧ (s.port p).stamps = []) s) ∧
  (∃ src p, ∃ s : State, Meets (fun dt => .txStampFlush dt src p)
      (fun s => s.namesPort p = true ∧ s.access src (Reg.TSU_TXQ_STAT p) = .ok) s) ∧
  (∃ p, ∃ s : State, Meets (fun dt => .tdcServingChange dt p)
      (fun s => s.namesPort p = true ∧ (s.port p).twinReady = true) s) ∧
  (∃ p took, ∃ s : State, Meets (fun dt => .tdcSelfCheckFail dt p took)
      (fun s => s.namesPort p = true) s) :=
  ⟨⟨.core, 257, ⟨5, 1, 7⟩, [], { lane 257 1 1 up with ports := [(257, { stamps := [⟨5, 1, 7⟩] })] }, by decide⟩,
   ⟨.core, 0, lane 0 9 1 up, by decide⟩,
   ⟨.core, 0, lane 0 9 1 up, by decide⟩,
   ⟨0, { lane 0 9 1 up with ports := [(0, { twinReady := true })] }, by decide⟩,
   ⟨0, 5, lane 0 9 1 up, by decide⟩⟩

theorem witness_PipelineComplete :
  (∃ n m f rest, ∃ s : State, m < 4 ∧ Meets (fun dt => .frameLookup dt n m)
      (fun s => s.pipesRun n = true ∧ s.turnOf n m = true ∧ s.hdr n m = f :: rest) s) ∧
  (∃ n m f rest t, ∃ s : State, m < 4 ∧ Meets (fun dt => .delayReq dt n m)
      (fun s =>
      let u := ((s.setHdr n m rest).unstage n m f.id).modDie n (fun d => { d with admitAt := some (s.ticks, m) })
      let g := (u.classify n f).1
      let v := u.entry n (u.bankFor n 0 g.stamp g.flags) g.vid
      s.pipesRun n = true ∧ s.turnOf n m = true ∧ s.headIsDelayReq n m = true ∧ s.hdr n m = f :: rest ∧
      (∀ c, (u.die n).cyc = some c → c.tick ≠ u.ticks) ∧ ¬ (f.flags % 2 = 0 ∧ f.inPort < 258 ∧ u.portDisabled f.inPort) ∧
      isDelayReq g.bytes (u.classify n f).2 = true ∧ u.responder n { g with fid := v.f 8 4 12 } (u.classify n f).2 = some t) s) ∧
  (∃ d r rest, ∃ s : State, d ≤ 8 ∧ Meets (fun dt => .delayResp dt d)
      (fun s => s.waiting .respGap d = false ∧ (s.die d).resp = r :: rest) s) ∧
  (∃ n x rest, ∃ s : State, n < 8 ∧ Meets (fun dt => .learnEngine dt n)
      (fun s => s.leafOn n = true ∧ (s.die n).learns = x :: rest ∧ x.tick < s.ticks) s) ∧
  (∃ s : State, Meets (fun dt => .movesReset dt)
      (fun s => s.now / secU ≠ s.movesSec) s) :=
  ⟨⟨7, 3, {}, [{ id := 1 }], up.modDie 7 (fun d => { d with hdr := [(3, [{}, { id := 1 }])] }), by decide⟩,
   by
      exact delayReq_case 0 0 _ [] _ (by decide) delayReq_holds,
   ⟨8, { id := 1 }, [], up.modDie 8 (fun d => { d with resp := [{ id := 1 }] }), by decide⟩,
   ⟨7, ⟨1, 2, 3, 4⟩, [], up.modDie 7 (fun d => { d with learns := [⟨1, 2, 3, 4⟩] }), by decide⟩,
   ⟨up, by decide⟩⟩

theorem witness_TableCommandComplete :
  (let enter := fun (n w op t : Nat) (idx : Bool) (took : Nat) (s : State) =>
       (s.startTimer .fwdBusy (2 * n + w) (min took (if op = 5 then 12 * usT else usT))).set (Reg.FWD_CMD_CTRL n w)
         (BitVec.ofNat 32 (op * 2 ^ 24 + t * 2 ^ 16 + (if idx then 1 else 0)))
   let run := fun (n w op t : Nat) (idx : Bool) (took : Nat) (s : State) =>
       let u := enter n w op t idx took s
       u.tableOp n w op t idx (u.fld (Fld.FWD_CMD_INDEX_INDEX n w)) (u.staged n w)
   let ready := fun (src : Src) (n w op t : Nat) (idx : Bool) (took : Nat) (s : State) =>
       s.access src (Reg.FWD_CMD_CTRL n w) = .ok ∧ s.waiting .fwdBusy (2 * n + w) = false ∧ (run n w op t idx took s).1.code = tOk
   let answer := fun (n w op t : Nat) (idx : Bool) (took : Nat) (s : State) =>
       let r := run n w op t idx took s
       let u := match r.1.staged with
         | some e => r.2.stageEntry n w (r.2.showEntry n t r.1.idx e)
         | none => r.2
       (u.setFld (Fld.FWD_CMD_STAT_RESULT n w) tOk).setFld (Fld.FWD_CMD_STAT_FOUND_IDX n w) r.1.idx
   ∃ src n w t idx took, ∃ s : State, n < 8 ∧ w < 2 ∧ t < 16 ∧ Meets (fun dt => .tableRead dt src n w t idx took)
      (ready src n w 1 t idx took) s) ∧
  (let enter := fun (n w op t : Nat) (idx : Bool) (took : Nat) (s : State) =>
       (s.startTimer .fwdBusy (2 * n + w) (min took (if op = 5 then 12 * usT else usT))).set (Reg.FWD_CMD_CTRL n w)
         (BitVec.ofNat 32 (op * 2 ^ 24 + t * 2 ^ 16 + (if idx then 1 else 0)))
   let run := fun (n w op t : Nat) (idx : Bool) (took : Nat) (s : State) =>
       let u := enter n w op t idx took s
       u.tableOp n w op t idx (u.fld (Fld.FWD_CMD_INDEX_INDEX n w)) (u.staged n w)
   let ready := fun (src : Src) (n w op t : Nat) (idx : Bool) (took : Nat) (s : State) =>
       s.access src (Reg.FWD_CMD_CTRL n w) = .ok ∧ s.waiting .fwdBusy (2 * n + w) = false ∧ (run n w op t idx took s).1.code = tOk
   let answer := fun (n w op t : Nat) (idx : Bool) (took : Nat) (s : State) =>
       let r := run n w op t idx took s
       let u := match r.1.staged with
         | some e => r.2.stageEntry n w (r.2.showEntry n t r.1.idx e)
         | none => r.2
       (u.setFld (Fld.FWD_CMD_STAT_RESULT n w) tOk).setFld (Fld.FWD_CMD_STAT_FOUND_IDX n w) r.1.idx
   ∃ src n w t idx took, ∃ s : State, n < 8 ∧ w < 2 ∧ t < 16 ∧ Meets (fun dt => .tableWrite dt src n w t idx took)
      (ready src n w 2 t idx took) s) ∧
  (let enter := fun (n w op t : Nat) (idx : Bool) (took : Nat) (s : State) =>
       (s.startTimer .fwdBusy (2 * n + w) (min took (if op = 5 then 12 * usT else usT))).set (Reg.FWD_CMD_CTRL n w)
         (BitVec.ofNat 32 (op * 2 ^ 24 + t * 2 ^ 16 + (if idx then 1 else 0)))
   let run := fun (n w op t : Nat) (idx : Bool) (took : Nat) (s : State) =>
       let u := enter n w op t idx took s
       u.tableOp n w op t idx (u.fld (Fld.FWD_CMD_INDEX_INDEX n w)) (u.staged n w)
   let ready := fun (src : Src) (n w op t : Nat) (idx : Bool) (took : Nat) (s : State) =>
       s.access src (Reg.FWD_CMD_CTRL n w) = .ok ∧ s.waiting .fwdBusy (2 * n + w) = false ∧ (run n w op t idx took s).1.code = tOk
   let answer := fun (n w op t : Nat) (idx : Bool) (took : Nat) (s : State) =>
       let r := run n w op t idx took s
       let u := match r.1.staged with
         | some e => r.2.stageEntry n w (r.2.showEntry n t r.1.idx e)
         | none => r.2
       (u.setFld (Fld.FWD_CMD_STAT_RESULT n w) tOk).setFld (Fld.FWD_CMD_STAT_FOUND_IDX n w) r.1.idx
   ∃ src n w t idx took, ∃ s : State, n < 8 ∧ w < 2 ∧ t < 16 ∧ Meets (fun dt => .tableInsert dt src n w t idx took)
      (ready src n w 3 t idx took) s) ∧
  (let enter := fun (n w op t : Nat) (idx : Bool) (took : Nat) (s : State) =>
       (s.startTimer .fwdBusy (2 * n + w) (min took (if op = 5 then 12 * usT else usT))).set (Reg.FWD_CMD_CTRL n w)
         (BitVec.ofNat 32 (op * 2 ^ 24 + t * 2 ^ 16 + (if idx then 1 else 0)))
   let run := fun (n w op t : Nat) (idx : Bool) (took : Nat) (s : State) =>
       let u := enter n w op t idx took s
       u.tableOp n w op t idx (u.fld (Fld.FWD_CMD_INDEX_INDEX n w)) (u.staged n w)
   let ready := fun (src : Src) (n w op t : Nat) (idx : Bool) (took : Nat) (s : State) =>
       s.access src (Reg.FWD_CMD_CTRL n w) = .ok ∧ s.waiting .fwdBusy (2 * n + w) = false ∧ (run n w op t idx took s).1.code = tOk
   let answer := fun (n w op t : Nat) (idx : Bool) (took : Nat) (s : State) =>
       let r := run n w op t idx took s
       let u := match r.1.staged with
         | some e => r.2.stageEntry n w (r.2.showEntry n t r.1.idx e)
         | none => r.2
       (u.setFld (Fld.FWD_CMD_STAT_RESULT n w) tOk).setFld (Fld.FWD_CMD_STAT_FOUND_IDX n w) r.1.idx
   ∃ src n w t idx took, ∃ s : State, n < 8 ∧ w < 2 ∧ t < 16 ∧ Meets (fun dt => .tableDelete dt src n w t idx took)
      (ready src n w 4 t idx took) s) ∧
  (let enter := fun (n w op t : Nat) (idx : Bool) (took : Nat) (s : State) =>
       (s.startTimer .fwdBusy (2 * n + w) (min took (if op = 5 then 12 * usT else usT))).set (Reg.FWD_CMD_CTRL n w)
         (BitVec.ofNat 32 (op * 2 ^ 24 + t * 2 ^ 16 + (if idx then 1 else 0)))
   let run := fun (n w op t : Nat) (idx : Bool) (took : Nat) (s : State) =>
       let u := enter n w op t idx took s
       u.tableOp n w op t idx (u.fld (Fld.FWD_CMD_INDEX_INDEX n w)) (u.staged n w)
   let ready := fun (src : Src) (n w op t : Nat) (idx : Bool) (took : Nat) (s : State) =>
       s.access src (Reg.FWD_CMD_CTRL n w) = .ok ∧ s.waiting .fwdBusy (2 * n + w) = false ∧ (run n w op t idx took s).1.code = tOk
   let answer := fun (n w op t : Nat) (idx : Bool) (took : Nat) (s : State) =>
       let r := run n w op t idx took s
       let u := match r.1.staged with
         | some e => r.2.stageEntry n w (r.2.showEntry n t r.1.idx e)
         | none => r.2
       (u.setFld (Fld.FWD_CMD_STAT_RESULT n w) tOk).setFld (Fld.FWD_CMD_STAT_FOUND_IDX n w) r.1.idx
   ∃ src n w t idx took, ∃ s : State, n < 8 ∧ w < 2 ∧ t < 16 ∧ Meets (fun dt => .tableSearch dt src n w t idx took)
      (ready src n w 5 t idx took) s) ∧
  (let enter := fun (n w op t : Nat) (idx : Bool) (took : Nat) (s : State) =>
       (s.startTimer .fwdBusy (2 * n + w) (min took (if op = 5 then 12 * usT else usT))).set (Reg.FWD_CMD_CTRL n w)
         (BitVec.ofNat 32 (op * 2 ^ 24 + t * 2 ^ 16 + (if idx then 1 else 0)))
   let run := fun (n w op t : Nat) (idx : Bool) (took : Nat) (s : State) =>
       let u := enter n w op t idx took s
       u.tableOp n w op t idx (u.fld (Fld.FWD_CMD_INDEX_INDEX n w)) (u.staged n w)
   let ready := fun (src : Src) (n w op t : Nat) (idx : Bool) (took : Nat) (s : State) =>
       s.access src (Reg.FWD_CMD_CTRL n w) = .ok ∧ s.waiting .fwdBusy (2 * n + w) = false ∧ (run n w op t idx took s).1.code = tOk
   let answer := fun (n w op t : Nat) (idx : Bool) (took : Nat) (s : State) =>
       let r := run n w op t idx took s
       let u := match r.1.staged with
         | some e => r.2.stageEntry n w (r.2.showEntry n t r.1.idx e)
         | none => r.2
       (u.setFld (Fld.FWD_CMD_STAT_RESULT n w) tOk).setFld (Fld.FWD_CMD_STAT_FOUND_IDX n w) r.1.idx
   ∃ src n w t idx took, ∃ s : State, n < 8 ∧ w < 2 ∧ t < 16 ∧ Meets (fun dt => .tableReadClearHit dt src n w t idx took)
      (ready src n w 6 t idx took) s) ∧
  (let enter := fun (n w op t : Nat) (idx : Bool) (took : Nat) (s : State) =>
       (s.startTimer .fwdBusy (2 * n + w) (min took (if op = 5 then 12 * usT else usT))).set (Reg.FWD_CMD_CTRL n w)
         (BitVec.ofNat 32 (op * 2 ^ 24 + t * 2 ^ 16 + (if idx then 1 else 0)))
   let run := fun (n w op t : Nat) (idx : Bool) (took : Nat) (s : State) =>
       let u := enter n w op t idx took s
       u.tableOp n w op t idx (u.fld (Fld.FWD_CMD_INDEX_INDEX n w)) (u.staged n w)
   let ready := fun (src : Src) (n w op t : Nat) (idx : Bool) (took : Nat) (s : State) =>
       s.access src (Reg.FWD_CMD_CTRL n w) = .ok ∧ s.waiting .fwdBusy (2 * n + w) = false ∧ (run n w op t idx took s).1.code = tOk
   let answer := fun (n w op t : Nat) (idx : Bool) (took : Nat) (s : State) =>
       let r := run n w op t idx took s
       let u := match r.1.staged with
         | some e => r.2.stageEntry n w (r.2.showEntry n t r.1.idx e)
         | none => r.2
       (u.setFld (Fld.FWD_CMD_STAT_RESULT n w) tOk).setFld (Fld.FWD_CMD_STAT_FOUND_IDX n w) r.1.idx
   ∃ src n w t idx took, ∃ s : State, n < 8 ∧ w < 2 ∧ t < 16 ∧ Meets (fun dt => .tableTestAndDelete dt src n w t idx took)
      (ready src n w 7 t idx took) s) :=
  ⟨⟨.core, 7, 1, 8, true, 5, up, by decide⟩,
   ⟨.core, 0, 0, 1, false, 5, up, by decide⟩,
   ⟨.core, 0, 0, 0, false, 5, up, by decide⟩,
   ⟨.core, 0, 1, 2, false, 5, up, by decide⟩,
   ⟨.core, 0, 1, 2, true, 5, up.setEntry 0 2 4095 { xdata := 2 ^ 16 }, by decide⟩,
   ⟨.core, 7, 1, 0, true, 5, up, by decide⟩,
   ⟨.core, 7, 1, 0, true, 5, up.setEntry 7 0 0 { data := [0, 0, 2 ^ 16] }, by decide⟩⟩

theorem witness_BankAndAgeingComplete :
  (∃ src n w, ∃ s : State, n < 8 ∧ Meets (fun dt => .bankSwapWrite dt src n w)
      (fun s => s.access src (Reg.FWD_BANK n) = .ok) s) ∧
  (∃ n pair x, ∃ s : State, n < 8 ∧ Meets (fun dt => .bankRetentionEnd dt n pair)
      (fun s => x ∈ s.oldBanks n pair ∧ x.2.2 + 100 * usT ≤ s.ticks) s) ∧
  (∃ n, ∃ s : State, Meets (fun dt => .ageingSweep dt n)
      (fun s => s.fwRuns = true ∧ n < s.leaves ∧ s.inService n = true ∧ s.paramNat (pkey 0x25 n 1) = 1 ∧
      s.waiting .fwdBusy (2 * n + s.ageWorld n) = false ∧
      max (kget s.sweptAt n 0) (kget s.leafAt n 0) + s.paramNat (pkey 0x25 n 2) * secT ≤ s.ticks) s) :=
  ⟨⟨.core, 7, 0x700#32, up, by decide⟩,
   ⟨7, 2, (5, 1, 8), up.modDie 7 (fun d => { d with oldBank := [(2, [(5, 1, 8)])] }), by decide⟩,
   ⟨7, { up with params := [(pkey 0x25 7 1, 1), (pkey 0x25 7 2, 0)] }, by decide⟩⟩

theorem witness_CrossbarComplete :
  (∃ src p w, ∃ s : State, p < 260 ∧ Meets (fun dt => .bufLimitWrite dt src p none w)
      (fun s => s.access src (plimF p).addr = .ok ∧ bitsOf w 0 (if dieOf p < 8 then 17 else 15) ≤ poolCells (dieOf p)) s) ∧
  (∃ src p c w, ∃ s : State, p < 260 ∧ c < 8 ∧ Meets (fun dt => .bufLimitWrite dt src p (some c) w)
      (fun s => s.access src (qlimF p c).addr = .ok ∧ bitsOf w 0 (if dieOf p < 8 then 17 else 15) ≤ poolCells (dieOf p)) s) ∧
  (∃ src l i w, ∃ s : State, l < 9 ∧ i < 64 ∧ Meets (fun dt => .xbarCalWrite dt src l i w)
      (fun s => s.access src (Reg.XBAR_CAL l i) = .ok ∧ ∀ k, k < 9 → k ≠ l → s.calMask k i &&& bitsOf w 0 9 = 0) s) ∧
  (∃ s : State, Meets (fun dt => .crossbarSlot dt)
      (fun s => s.domOn 5 = true) s) ∧
  (∃ d c, ∃ s : State, Meets (fun dt => .cellArrival dt d true)
      (fun s =>
      let t := { s with flight := s.flight.eraseP (fun c => c.dst == d) }.returnCredit c.src d
      s.flight.find? (fun c => c.dst == d) = some c ∧ c.credit = true ∧ c.cut = false ∧ t.linkReceives d = true ∧ c.num = 0 ∧
      (t.die d).arriving.any (sameFrame c) = false) s) ∧
  (∃ d c, ∃ s : State, Meets (fun dt => .cellArrival dt d true)
      (fun s => s.flight.find? (fun c => c.dst == d) = some c ∧ c.credit = true ∧ c.cut = false ∧
      ({ s with flight := s.flight.eraseP (fun c => c.dst == d) }.returnCredit c.src d).linkReceives d = true ∧ c.num ≠ 0) s) ∧
  (∃ l j, ∃ s : State, l < 9 ∧ j < 10 ∧ Meets (fun dt => .crossDeadlineExpiry dt l j)
      (fun s => ∃ x, x ∈ (s.xq l j).sched ++ (s.xq l j).bulk ∧ s.crossLate l x = true) s) ∧
  (∃ l d x, ∃ s : State, l < 9 ∧ Meets (fun dt => .replicationSkip dt l d true)
      (fun s => s.xqHead l 9 true = some x ∧ d ∈ x.links ∧ s.credits l d = 0 ∧
      max x.headAt (kget (s.die l).gaveAt d 0) + skipTicks ≤ s.ticks) s) ∧
  (∃ l d x, ∃ s : State, l < 9 ∧ Meets (fun dt => .replicationSkip dt l d false)
      (fun s => s.xqHead l 9 false = some x ∧ d ∈ x.links ∧ s.credits l d = 0 ∧
      max x.headAt (kget (s.die l).gaveAt d 0) + skipTicks ≤ s.ticks) s) ∧
  (∃ l q, ∃ s : State, l < 8 ∧ q < 4 ∧ Meets (fun dt => .stitchModuleRemoval dt l q)
      (fun s => s.moduleUp l q = true) s) :=
  ⟨⟨.core, 259, 16384, up, by decide⟩,
   ⟨.core, 0, 7, 98304, up, by decide⟩,
   ⟨.core, 8, 63, 0x1FF, up, by exact ⟨by decide, by decide, by decide, by decide⟩⟩,
   ⟨up, by decide⟩,
   ⟨8, ⟨0, 8, {}, 0, true, 0, false⟩, { up with flight := [⟨0, 8, {}, 0, true, 0, false⟩] }, by decide⟩,
   ⟨7, ⟨0, 7, {}, 1, true, 0, false⟩, { up with flight := [⟨0, 7, {}, 1, true, 0, false⟩] }, by decide⟩,
   ⟨8, 9, (up.modDie 8 (fun d => { d with xq := [(9, { bulk := [waiting 3] })] })), by exact ⟨by decide, by decide, waiting 3, by decide, by decide⟩⟩,
   ⟨8, 3, waiting 3, up.modDie 8 (fun d => { d with xq := [(9, { sched := [waiting 3] })], used := [(3, 128)] }), by decide⟩,
   ⟨0, 3, waiting 3, up.modDie 0 (fun d => { d with xq := [(9, { bulk := [waiting 3] })], used := [(3, 128)] }), by decide⟩,
   ⟨7, 3, up.setFld (Fld.XBAR_LINK_STAT_MODULES_UP 7) 8, by decide⟩⟩

theorem witness_EgressComplete :
  (∃ p want pos c drr deficit h rest, ∃ s : State, Meets (fun dt => .frameTransmit dt p want pos)
      (fun s =>
      let t := (s.creditTo p).ladlePause p
      s.sends p = true ∧ s.inTick pos = true ∧ t.inFragment p = none ∧ t.ladleDue p pos = false ∧
      t.mediumFree p pos = true ∧ t.chooseClass p pos (t.port p).part.isSome = some (c, drr, deficit) ∧ t.queue p c = h :: rest) s) ∧
  (∃ p want pos x, ∃ s : State, Meets (fun dt => .frameTransmit dt p want pos)
      (fun s =>
      let t := (s.creditTo p).ladlePause p
      s.sends p = true ∧ s.inTick pos = true ∧ t.inFragment p = none ∧ t.ladleDue p pos = false ∧
      t.mediumFree p pos = true ∧ (t.port p).part = some x ∧ t.chooseClass p pos true = none ∧
      t.mayStart p x.c true (x.len - x.sent) pos = true) s) ∧
  (∃ p want pos x, ∃ s : State, Meets (fun dt => .frameTransmit dt p want pos)
      (fun s =>
      let t := (s.creditTo p).ladlePause p
      s.sends p = true ∧ s.inTick pos = true ∧ t.inFragment p = some x ∧
      (t.ladleDue p pos = true ∨ (t.chooseClass p pos true).isSome = true)) s) ∧
  (∃ p want pos, ∃ s : State, Meets (fun dt => .frameTransmit dt p want pos)
      (fun s =>
      let t := (s.creditTo p).ladlePause p
      s.sends p = true ∧ s.inTick pos = true ∧ t.inFragment p = none ∧ t.ladleDue p pos = true) s) ∧
  (∃ p, ∃ s : State, Meets (fun dt => .gateChange dt p)
      (fun s => s.namesPort p = true) s) ∧
  (∃ p c h rest, ∃ s : State, c < 8 ∧ Meets (fun dt => .gateNoFit dt p c)
      (fun s => s.namesPort p = true ∧ s.noFit p c = true ∧ s.queue p c = h :: rest) s) ∧
  (∃ src p, ∃ s : State, p < 258 ∧ Meets (fun dt => .gclSwapWrite dt src p)
      (fun s => s.access src (Reg.EGR_PORT_GCL_CTRL p) = .ok ∧ 1 - s.gclActive p ≠ s.gclActive p ∧
      s.listOk p (1 - s.gclActive p) s.now = true) s) ∧
  (∃ p, ∃ s : State, Meets (fun dt => .gclRetentionEnd dt p)
      (fun s => s.namesPort p = true ∧ s.retentionOver p = true) s) ∧
  (∃ p t, ∃ s : State, Meets (fun dt => .holdPoint dt p)
      (fun s => s.sends p = true ∧ s.on (Fld.PORT_MM_STAT_TX_ACTIVE p) = true ∧
      (s.protects p).find? (fun t => decide (s.now < t) && decide (t ≤ s.now + s.holdAdvance p)) = some t) s) ∧
  (∃ p pos h, ∃ s : State, Meets (fun dt => .ladleDeparture dt p pos pos)
      (fun s =>
      let t := (s.creditTo p).ladlePause p
      s.sends p = true ∧ s.inTick pos = true ∧ s.inFragment p = none ∧ t.ladleHead p = some h ∧ h.earliest ≤ pos ∧
      (pos < h.earliest + t.gapU p ∨ h.c.late = true) ∧ t.paused p h.c.cls = false ∧ t.mediumFree p pos = true) s) ∧
  (∃ p want pos h, ∃ s : State, Meets (fun dt => .ladleDeparture dt p want pos)
      (fun s =>
      let t := (s.creditTo p).ladlePause p
      s.sends p = true ∧ s.inTick pos = true ∧ s.inFragment p = none ∧ t.ladleHead p = some h ∧ h.earliest ≤ want ∧ want < pos ∧
      (want < h.earliest + t.gapU p ∨ h.c.late = true) ∧ t.paused p h.c.cls = false ∧ t.mediumFree p want = false ∧
      t.mediumFree p pos = true) s) :=
  ⟨⟨0, 0, up.now, 7, 8, [], copy, [], (lane 0 9 5 up).setQueue 0 7 [copy], by decide⟩,
   ⟨0, 0, up.now, { c := copy, len := 64 }, { lane 0 9 5 up with ports := [(0, { part := some { c := copy, len := 64 } })] }, by decide⟩,
   ⟨0, 0, up.now, { c := copy, len := 64, preempt := true }, { (lane 0 9 5 up).setQueue 0 7 [copy] with ports := [(0, { cur := some { c := copy, len := 64, preempt := true }, freeAt := 10 ^ 20 })] }, by decide⟩,
   ⟨0, 0, up.now, (lane 0 9 5 up).modDie 0 (fun d => { d with ladle := [held up.now] }), by decide⟩,
   ⟨257, lane 257 1 0 up, by decide⟩,
   ⟨0, 7, copy, [], ((lane 0 9 5 up).setFld (Fld.EGR_PORT_CTRL_GCL_EN 0) 1).setFld (Fld.EGR_GCL_GATES_GATES 0 0 0) 0x7F |>.setQueue 0 7 [copy], by decide⟩,
   ⟨.core, 257, up, by decide⟩,
   ⟨0, { lane 0 9 5 up with ports := [(0, { oldList := some (1, 0, 0) })] }, by decide⟩,
   ⟨0, up.now + 1, ((lane 0 9 5 up).setFld (Fld.PORT_MM_STAT_TX_ACTIVE 0) 1).modDie 0 (fun d => { d with ladle := [held (up.now + 1)] }), by decide⟩,
   ⟨0, up.now, { held up.now with judged := true }, (lane 0 9 5 up).modDie 0 (fun d => { d with ladle := [held up.now] }), by decide⟩,
   ⟨0, up.now, up.now + 1, { held up.now with judged := true }, { (lane 0 9 5 up).modDie 0 (fun d => { d with ladle := [held up.now] }) with ports := [(0, { freeAt := (lane 0 9 5 up).physOf (up.now + 1) - bytesD 9 7 })] }, by decide⟩⟩

theorem witness_LinkPhaseAndExchangeComplete :
  (∃ p rx tx, ∃ s : State, Meets (fun dt => .linkPhaseSample dt p rx tx)
      (fun s => s.namesPort p = true ∧ s.dieOn p = true ∧ s.on (Fld.LPH_CTRL_EN p) = true ∧ s.phaseOk p rx = true ∧
      s.phaseOk p tx = true ∧ (s.port p).lph.at_ + s.lphTicks p ≤ s.ticks) s) ∧
  (∃ src p, ∃ s : State, Meets (fun dt => .linkPhaseRead dt src p)
      (fun s => s.laneExists p = true ∧ s.access src (Reg.LPH_RX_PHASE p) = .ok ∧ s.namesPort p = true) s) ∧
  (∃ p pos, ∃ s : State, Meets (fun dt => .tcxSend dt p pos)
      (fun s =>
      let t := s.creditTo p
      s.namesPort p = true ∧ 4 ≤ s.portState p ∧ s.on (Fld.TCX_CTRL_EN p) = true ∧ s.inTick pos = true ∧ s.tcxDue p = true ∧
      t.inFragment p = none ∧ t.mediumFree p pos = true ∧
      ∀ h ∈ t.known p, pos + bytesU (t.portMode p) (1 + 87 + 12 + 8) ≤ h.release) s) ∧
  (∃ p pos x, ∃ s : State, Meets (fun dt => .tcxSend dt p pos)
      (fun s =>
      let t := s.creditTo p
      s.namesPort p = true ∧ 4 ≤ s.portState p ∧ s.on (Fld.TCX_CTRL_EN p) = true ∧ s.inTick pos = true ∧ s.tcxDue p = true ∧
      t.inFragment p = some x ∧ ∀ h ∈ t.known p, pos + bytesU (t.portMode p) (1 + 87 + 12 + 8) ≤ h.release) s) ∧
  (∃ p full i, ∃ s : State, Meets (fun dt => .tcxReceive dt p full i)
      (fun s =>
      let b := full.take (full.length - 4)
      s.linkUp p = true ∧ s.portState p = 4 ∧ isTcx full = true ∧ s.drainedAt p (s.rxPhys p i) = false ∧
      s.stampedDown p (s.rxStamp p i) (s.stampFlags p (s.rxPhys p i) false) = false ∧ s.portRefused p = false ∧
      s.on (Fld.TCX_CTRL_EN p) = true ∧ i.codeErr = false ∧ (i.uncorrectable = 0 ∨ s.fld (Fld.PORT_MODE_FEC p) = 0) ∧
      crc32 b = leAt full (full.length - 4) 4 ∧ daOf b = tcxDa ∧ byteAt b 19 = 1 ∧ byteAt b 20 = 1 ∧ 64 ≤ beAt b 21 2 ∧
      83 ≤ b.length) s) ∧
  (∃ p, ∃ s : State, Meets (fun dt => .tcxPeerTimeout dt p)
      (fun s => s.namesPort p = true ∧ 3 ≤ s.portState p ∧
      (s.on (Fld.TCX_STAT_PEER_VALID p) = true ∨ s.fld (Fld.TCX_STAT_XSTATE p) = 2 ∨
        4 ≤ s.portState p ∧ s.on (Fld.TCX_CTRL_EN p) = true) ∧
      max (s.port p).tcx.acceptedAt (s.port p).exchAt + s.fld (Fld.TCX_CTRL_TIMEOUT p) * 100 * msT ≤ s.ticks) s) ∧
  (∃ src p, ∃ s : State, Meets (fun dt => .tcxCommit dt src p)
      (fun s => s.namesPort p = true ∧ s.access src (Reg.TCX_CTRL p) = .ok ∧ asymOk (s.getWide (Reg.TCX_ASYM0 p) 2) = true) s) ∧
  (∃ src p, ∃ s : State, Meets (fun dt => .peerRead dt src p)
      (fun s => s.laneExists p = true ∧ s.access src (Reg.TCX_PEER_GEN p) = .ok ∧ s.namesPort p = true) s) :=
  ⟨⟨0, 0, 0, { lane 0 9 5 up with ticks := 800000000 }, by decide⟩,
   ⟨.core, 0, lane 0 9 5 up, by decide⟩,
   ⟨0, up.now, lane 0 9 4 up, by exact ⟨by decide, by decide, by decide, by decide, by decide, by decide, by decide, fun h hh => by cases hh⟩⟩,
   ⟨0, up.now, { c := copy, len := 64, preempt := true }, { lane 0 9 4 up with ports := [(0, { cur := some { c := copy, len := 64, preempt := true }, freeAt := 10 ^ 20 })] }, by exact ⟨by decide, by decide, by decide, by decide, by decide, by decide, fun h hh => by cases hh⟩⟩,
   ⟨0, tcxFrame, {}, lane 0 9 4 up, by decide⟩,
   ⟨0, { lane 0 9 4 up with ticks := 8000000000 }, by decide⟩,
   ⟨.core, 256, lane 256 3 0 up, by decide⟩,
   ⟨.core, 256, lane 256 3 0 up, by decide⟩⟩

theorem witness_PtpComplete :
  (∃ i p, ∃ s : State, Meets (fun dt => .ptpSyncSend dt i p)
      (fun s => s.ptpRuns i p = true ∧ (s.ptp i p).answer = none ∧ s.ptpState i p = 6 ∧
      s.fwStamp p 0 i (((s.ptp i p).seqSync + 65535) % 65536) = none ∧ s.passed (s.ptp i p).syncAt (s.ptpTicks p 2) = true) s) ∧
  (∃ i p st t, ∃ s : State, Meets (fun dt => .ptpSyncSend dt i p)
      (fun s => s.ptpRuns i p = true ∧ (s.ptp i p).answer = none ∧ s.ptpState i p = 6 ∧
      s.fwStamp p 0 i (((s.ptp i p).seqSync + 65535) % 65536) = some (st, t)) s) ∧
  (∃ i p, ∃ s : State, Meets (fun dt => .ptpAnnounceSend dt i p)
      (fun s => s.ptpRuns i p = true ∧ s.ptpState i p = 6 ∧ s.passed (s.ptp i p).annAt (s.ptpTicks p 3) = true) s) ∧
  (∃ i p, ∃ s : State, Meets (fun dt => .ptpDelayReqSend dt i p)
      (fun s => s.ptpRuns i p = true ∧ s.passed (s.ptp i p).delayAt (s.ptpTicks p 4) = true ∧
      (if peerProfile (s.ptpProfile i) then s.ptpState i p ≠ 3 else s.ptpState i p = 9)) s) ∧
  (∃ f t o i, ∃ s : State, Meets (fun dt => .ptpMessage dt)
      (fun s => s.fwRuns = true ∧ s.dropUnserved.svcTake 1 = some (f, t) ∧ f.inPort < 258 ∧
      ptpOffset (parseFrame true f.bytes) = some o ∧ (refusable (byteAt f.bytes o % 16) && t.portRefused f.inPort) = false ∧
      t.ptpInstFor f.inPort f.bytes (parseFrame true f.bytes) o = some i) s) ∧
  (∃ i p, ∃ s : State, Meets (fun dt => .announceReceiptTimeout dt i p)
      (fun s => s.ptpRuns i p = true ∧ s.ptpState i p ≠ 3 ∧
      (s.ptp i p).heardAt + (s.ptpPortOf p 5).toNat * s.ptpTicks p 3 ≤ s.ticks) s) ∧
  (∃ f t o i, ∃ s : State, Meets (fun dt => .ptpManagement dt)
      (fun s => s.fwRuns = true ∧ s.dropUnserved.svcTake 2 = some (f, t) ∧ f.inPort < 258 ∧
      ptpOffset (parseFrame true f.bytes) = some o ∧ t.ptpInstFor f.inPort f.bytes (parseFrame true f.bytes) o = some i ∧
      (byteAt f.bytes (o + 46) % 16 = 0 ∨ byteAt f.bytes (o + 46) % 16 = 1 ∨ byteAt f.bytes (o + 46) % 16 = 3)) s) :=
  ⟨⟨0, 0, ptpUp 6 [], by decide⟩,
   ⟨0, 0, ⟨0, 0, 0, 65535, 5, 1⟩, { ptpUp 6 [] with out := [] }, { ptpUp 6 [] with fwStamps := [⟨0, 0, 0, 65535, 5, 1⟩] }, by exact ⟨by decide, by decide, by decide, rfl⟩⟩,
   ⟨0, 0, ptpUp 6 [], by decide⟩,
   ⟨0, 0, ptpUp 9 [], by decide⟩,
   by
      refine ⟨ptpFrame 0, _, 14, 0, ptpUp 9 [ptpFrame 0], by decide, rfl, by decide, by decide, by decide, by decide⟩,
   ⟨0, 0, ptpUp 9 [], by decide⟩,
   by
      refine ⟨ptpFrame 13, _, 14, 0, ptpUp 9 [ptpFrame 13], by decide, rfl, by decide, by decide, by decide, Or.inl (by decide)⟩⟩

theorem witness_ReferenceSlotsComplete :
  (∃ src i w fault, ∃ s : State, i < 15 ∧ bitsOf w 31 1 = 1 ∧ bitsOf w 30 1 = 0 ∧ Meets (fun dt => .refSlotCfgWrite dt src i w fault)
      (fun s => s.access src (Reg.REF_SLOT_CFG i) = .ok ∧ s.slotCfgBad i w = false ∧ s.on (Fld.REF_SLOT_CFG_EN i) = false) s) ∧
  (∃ src i w fault, ∃ s : State, i < 16 ∧ bitsOf w 31 1 = 0 ∧ bitsOf w 30 1 = 0 ∧ Meets (fun dt => .refSlotCfgWrite dt src i w fault)
      (fun s => s.access src (Reg.REF_SLOT_CFG i) = .ok ∧ s.slotCfgBad i w = false ∧ s.on (Fld.REF_SLOT_CFG_EN i) = true) s) ∧
  (∃ src i, ∃ s : State, i < 16 ∧ Meets (fun dt => .forceQual dt src i)
      (fun s => s.access src (Reg.REF_SLOT_CFG i) = .ok ∧ s.slotState i = 4) s) ∧
  (∃ i runs, ∃ s : State, i < 15 ∧ Meets (fun dt => .activityFault dt ⟨i, runs⟩)
      (fun s => s.on (Fld.REF_SLOT_CFG_EN i) = true ∧ (s.takeEdges i runs).actFault i = true) s) ∧
  (∃ i runs, ∃ s : State, i < 15 ∧ Meets (fun dt => .activityFaultClear dt ⟨i, runs⟩)
      (fun s => s.on (Fld.REF_SLOT_CFG_EN i) = true ∧ (s.takeEdges i runs).actOver i = true) s) ∧
  (∃ i runs, ∃ s : State, i < 4 ∧ Meets (fun dt => .activityFaultClear dt ⟨i, runs⟩)
      (fun s => s.on (Fld.REF_SLOT_CFG_EN i) = true ∧ (s.takeEdges i runs).actOver i = false) s) ∧
  (∃ i, ∃ s : State, i < 16 ∧ Meets (fun dt => .holdoffExpiry dt i)
      (fun s => s.slotState i = 2 ∧ s.due .slotHold i = true) s) ∧
  (∃ i, ∃ s : State, i < 16 ∧ Meets (fun dt => .restoreExpiry dt i)
      (fun s => s.slotState i = 4 ∧ s.due .slotRestore i = true) s) ∧
  (∃ foffs, ∃ s : State, Meets (fun dt => .frequencyReading dt foffs)
      (fun s => s.powered = true ∧ s.refAt + secT ≤ s.ticks) s) :=
  ⟨⟨.core, 14, 0x80000000#32, false, up, by decide⟩,
   ⟨.core, 15, 0, false, up.setFld (Fld.REF_SLOT_CFG_EN 15) 1, by decide⟩,
   ⟨.core, 15, up.setFld (Fld.REF_SLOT_STAT_STATE 15) 4, by decide⟩,
   ⟨3, [], up.setFld (Fld.REF_SLOT_CFG_EN 3) 1, by decide⟩,
   ⟨0, [], { up.setFld (Fld.REF_SLOT_CFG_EN 0) 1 with slotEdges := [(0, { run := 0, last := 10 ^ 10 })], ticks := 10 ^ 10 }, by decide⟩,
   ⟨3, [], up.setFld (Fld.REF_SLOT_CFG_EN 3) 1, by decide⟩,
   ⟨15, (up.setFld (Fld.REF_SLOT_STAT_STATE 15) 2).startTimer .slotHold 15 0, by decide⟩,
   ⟨0, (up.setFld (Fld.REF_SLOT_STAT_STATE 0) 4).startTimer .slotRestore 0 0, by decide⟩,
   ⟨[], { up with ticks := 800000000 }, by decide⟩⟩

theorem witness_DpllTrackingComplete :
  (∃ d, ∃ s : State, d < 3 ∧ Meets (fun dt => .dpllReevaluation dt d)
      (fun s => s.powered = true) s) ∧
  (∃ d, ∃ s : State, d < 3 ∧ Meets (fun dt => .slewEnd dt d)
      (fun s => s.on (Fld.DPLL_STAT_SLEWING d) = true ∧ s.slewLeft d = 0) s) ∧
  (∃ d offset i, ∃ s : State, d < 3 ∧ Meets (fun dt => .switchEnd dt d offset)
      (fun s => s.dstate d = 4 ∧ s.selected d = some i ∧ (d = 0 → s.on Fld.TIME_STATUS_VALID = true) ∧
      s.on (Fld.DPLL_CTRL_ALIGN d) = true ∧
      (s.reduceOffset i offset).natAbs ≤ s.fld (Fld.DPLL_SLEW_THRESH_NS d) * nsU) s) ∧
  (∃ d offset i, ∃ s : State, d < 3 ∧ Meets (fun dt => .switchEnd dt d offset)
      (fun s => s.dstate d = 4 ∧ s.selected d = some i ∧ (d = 0 → s.on Fld.TIME_STATUS_VALID = true) ∧
      s.on (Fld.DPLL_CTRL_ALIGN d) = false) s) ∧
  (∃ d t, ∃ s : State, d < 3 ∧ Meets (fun dt => .dpllLock dt d)
      (fun s => s.dstate d = 1 ∧
      ((s.dpll d).profile = s.fld (Fld.DPLL_CTRL_BW d) ∨ s.on (Fld.DPLL_STAT_BW_LIMITED d) = true) ∧
      s.on (Fld.DPLL_STAT_SLEWING d) = false ∧ (s.dpll d).inSince = some t ∧
      t + dwellTicks (s.fld (Fld.DPLL_STAT_BW_NOW d)) ≤ s.ticks) s) ∧
  (∃ d t, ∃ s : State, d < 3 ∧ Meets (fun dt => .dpllLockLoss dt d)
      (fun s => s.dstate d = 2 ∧ (s.dpll d).outSince = some t ∧ t + secT ≤ s.ticks) s) ∧
  (∃ d t, ∃ s : State, d < 3 ∧ Meets (fun dt => .bandwidthStep dt d)
      (fun s => (s.dstate d = 1 ∨ s.dstate d = 2) ∧ s.fld (Fld.DPLL_CTRL_BW d) < (s.dpll d).profile ∧ (s.dpll d).inSince = some t ∧
      max t (s.dpll d).dwellAt + dwellTicks (s.fld (Fld.DPLL_STAT_BW_NOW d)) ≤ s.ticks) s) ∧
  (∃ d err valid stale word i, ∃ s : State, d < 3 ∧ Meets (fun dt => .pdComparison dt d err valid stale word)
      (fun s => s.compared d = some i ∧ (s.dpll d).pdAt + (s.slotTicks i).getD 0 ≤ s.ticks) s) :=
  ⟨⟨2, up, by decide⟩,
   ⟨2, up.setFld (Fld.DPLL_STAT_SLEWING 2) 1, by decide⟩,
   ⟨0, 0, 3, (((up.setFld (Fld.DPLL_STAT_STATE 0) 4).setFld Fld.TIME_STATUS_VALID 1).setFld (Fld.DPLL_CTRL_ALIGN 0) 1).setFld (Fld.DPLL_STAT_SEL_VALID 0) 1 |>.setFld (Fld.DPLL_STAT_SELECTED 0) 3, by decide⟩,
   ⟨2, 0, 3, ((up.setFld (Fld.DPLL_STAT_STATE 2) 4).setFld (Fld.DPLL_CTRL_ALIGN 2) 0).setFld (Fld.DPLL_STAT_SEL_VALID 2) 1 |>.setFld (Fld.DPLL_STAT_SELECTED 2) 3, by decide⟩,
   ⟨2, 5, { (up.setFld (Fld.DPLL_STAT_STATE 2) 1).setFld (Fld.DPLL_STAT_BW_LIMITED 2) 1 with dplls := [(2, { inSince := some 5 })], ticks := 10 ^ 15 }, by decide⟩,
   ⟨0, 0, { up.setFld (Fld.DPLL_STAT_STATE 0) 2 with dplls := [(0, { outSince := some 0 })], ticks := 800000000 }, by decide⟩,
   ⟨0, 5, { up.setFld (Fld.DPLL_STAT_STATE 0) 1 with dplls := [(0, { inSince := some 5, profile := 200 })], ticks := 10 ^ 15 }, by decide⟩,
   ⟨2, 5, true, false, 0, 3, (up.setFld (Fld.DPLL_STAT_STATE 2) 2).setFld (Fld.DPLL_STAT_SEL_VALID 2) 1 |>.setFld (Fld.DPLL_STAT_SELECTED 2) 3, by decide⟩⟩

theorem witness_DpllControlComplete :
  (∃ src d w, ∃ s : State, d < 3 ∧ bitsOf w 0 3 ≠ 7 ∧ ((d = 0 → bitsOf w 0 3 ≠ 6)) ∧ Meets (fun dt => .dpllModeWrite dt src d w)
      (fun s => s.access src (Reg.DPLL_CTRL d) = .ok ∧ s.bwOk (bitsOf w 24 8) = true) s) ∧
  (∃ src d, ∃ s : State, d < 3 ∧ Meets (fun dt => .pstepAtSecond dt src d)
      (fun s => s.access src (Reg.DPLL_PSTEP_CTRL d) = .ok) s) ∧
  (∃ src d, ∃ s : State, d < 3 ∧ Meets (fun dt => .pstepSlew dt src d)
      (fun s => s.access src (Reg.DPLL_PSTEP_CTRL d) = .ok) s) ∧
  (∃ src d w, ∃ s : State, d < 3 ∧ Meets (fun dt => .freqSwWrite dt src d w)
      (fun s => s.access src (Reg.DPLL_FREQ_SW0 d) = .ok ∧
      (signed 64 (s.wideValue (Reg.DPLL_FREQ_SW0 d) 2 w)).natAbs ≤ wordLimit) s) ∧
  (∃ d t0, ∃ s : State, d < 3 ∧ Meets (fun dt => .holdoverRecompute dt d)
      (fun s => (s.dpll d).hoAt = some t0 ∧ t0 + ((s.dpll d).hoDone + 1) * secT ≤ s.ticks) s) ∧
  (∃ d, ∃ s : State, d < 3 ∧ Meets (fun dt => .tempStale dt d)
      (fun s => s.powered = true ∧ ((s.dpll d).temps.head?).elim 0 (fun (e : Nat × Int) => e.1) + 10 * secT ≤ s.ticks ∧
      s.on (Fld.DPLL_STAT_TEMP_STALE d) = false) s) ∧
  (∃ up1 up2, ∃ s : State, Meets (fun dt => .ageFit dt up1 up2)
      (fun s => s.powered = true ∧ s.age.at_ + 86400 * secT ≤ s.ticks ∧ s.ageNote.age.span ≠ 0 ∧ s.param (pkey 7 0 0x14) = 1 ∧
      2 ≤ s.age.means.length) s) ∧
  (∃ up1 up2, ∃ s : State, Meets (fun dt => .ageFit dt up1 up2)
      (fun s => s.powered = true ∧ s.age.at_ + 86400 * secT ≤ s.ticks ∧ s.ageNote.age.span = 0 ∧ s.param (pkey 7 0 0x14) = 0) s) ∧
  (∃ src d, ∃ s : State, d < 3 ∧ Meets (fun dt => .returnStep dt src d)
      (fun s => s.access src (Reg.DPLL_RETURN d) = .ok ∧ s.on (Fld.DPLL_STAT_RETURN_PENDING d) = true) s) ∧
  (∃ src d, ∃ s : State, d < 3 ∧ Meets (fun dt => .returnSlew dt src d)
      (fun s => s.access src (Reg.DPLL_RETURN d) = .ok ∧ s.on (Fld.DPLL_STAT_RETURN_PENDING d) = true) s) ∧
  (∃ src d, ∃ s : State, d < 3 ∧ Meets (fun dt => .returnHold dt src d)
      (fun s => s.access src (Reg.DPLL_RETURN d) = .ok ∧ s.on (Fld.DPLL_STAT_RETURN_PENDING d) = true) s) :=
  ⟨⟨.core, 0, 0x18000005#32, up, by decide⟩,
   ⟨.core, 2, up, by decide⟩,
   ⟨.core, 0, up, by decide⟩,
   ⟨.core, 2, 0, up, by decide⟩,
   ⟨2, 0, { up with dplls := [(2, { hoAt := some 0 })], ticks := 800000000 }, by decide⟩,
   ⟨1, { up with dplls := [(1, { temps := [(0, 25)] })], ticks := 8000000000 }, by decide⟩,
   ⟨true, false, { up with params := [(pkey 7 0 0x14, 1)], age := { span := 1, means := [(0, 1), (1, 2)] }, ticks := 86400 * 800000000 }, by decide⟩,
   ⟨false, true, { up with params := [(pkey 7 0 0x14, 0)], ticks := 86400 * 800000000 }, by decide⟩,
   ⟨.core, 2, up.setFld (Fld.DPLL_STAT_RETURN_PENDING 2) 1, by decide⟩,
   ⟨.core, 0, up.setFld (Fld.DPLL_STAT_RETURN_PENDING 0) 1, by decide⟩,
   ⟨.core, 1, up.setFld (Fld.DPLL_STAT_RETURN_PENDING 1) 1, by decide⟩⟩

theorem witness_ApllComplete :
  (∃ src a w, ∃ s : State, a < 3 ∧ Meets (fun dt => .apllCtrlWrite dt src a w)
      (fun s => s.access src (Reg.APLL_CTRL a) = .ok ∧
      (s.on (Fld.APLL_CTRL_EN a) = false ∨ bitsOf w 1 1 = s.fld (Fld.APLL_CTRL_SRC a))) s) ∧
  (∃ src a b w, ∃ s : State, a < 3 ∧ b < 256 ∧ ((bitsOf w 31 1 = 1 → bitsOf w 0 14 < bitsOf w 14 14)) ∧ Meets (fun dt => .bandWrite dt src a b w)
      (fun s => s.access src (Reg.SYN_BAND a b) = .ok ∧ s.apllState a < 2) s) ∧
  (∃ a, ∃ s : State, a < 3 ∧ Meets (fun dt => .apllLock dt a)
      (fun s => s.apllState a = 2 ∧ s.waiting .apllTry a = true) s) ∧
  (∃ a, ∃ s : State, a < 3 ∧ Meets (fun dt => .apllLockFail dt a)
      (fun s => s.due .apllTry a = true) s) ∧
  (∃ a, ∃ s : State, a < 3 ∧ Meets (fun dt => .apllRetry dt a)
      (fun s => s.due .apllRetry a = true) s) ∧
  (∃ a, ∃ s : State, a < 3 ∧ Meets (fun dt => .apllLoss dt a)
      (fun s => s.apllState a = 3) s) ∧
  (∃ a, ∃ s : State, a < 3 ∧ Meets (fun dt => .apllMoveEnd dt a)
      (fun s => s.due .apllMove a = true) s) :=
  ⟨⟨.core, 2, 0x1#32, up, by decide⟩,
   ⟨.core, 2, 255, 0x80004000#32, up, by decide⟩,
   ⟨2, (up.setFld (Fld.APLL_STAT_STATE 2) 2).startTimer .apllTry 2 1, by decide⟩,
   ⟨2, up.startTimer .apllTry 2 0, by decide⟩,
   ⟨2, up.startTimer .apllRetry 2 0, by decide⟩,
   ⟨0, up.setFld (Fld.APLL_STAT_STATE 0) 3, by decide⟩,
   ⟨2, up.startTimer .apllMove 2 0, by decide⟩⟩

theorem witness_ClockOutputsComplete :
  (∃ src j w, ∃ s : State, j < 12 ∧ bitsOf w 8 3 < 6 ∧ bitsOf w 4 2 ≠ 3 ∧ bitsOf w 12 2 ≠ 3 ∧ Meets (fun dt => .outCfgWrite dt src j w)
      (fun s => s.access src (Reg.OUT_CFG j) = .ok ∧
      (s.on (Fld.OUT_CFG_EN j) = true → bitsOf w 4 2 = s.outSrc j ∧ bitsOf w 8 3 = s.fld (Fld.OUT_CFG_FORMAT j))) s) ∧
  (∃ j, ∃ s : State, j < 12 ∧ Meets (fun dt => .outputAlign dt j)
      (fun s =>
      let t := s.outTake j
      t.outState j = 2 ∧ t.outMayRun j = true ∧ t.outEdge j < t.otimeAfter (t.outSrc j) 1) s) ∧
  (∃ falling sub settled, ∃ s : State, sub < tickUnits ∧ Meets (fun dt => .syncinEdge dt falling sub settled)
      (fun s => s.powered = true ∧ s.syncinOk falling settled = true) s) ∧
  (∃ src w, ∃ s : State, Meets (fun dt => .syncinArm dt src w)
      (fun s => s.access src Reg.SYN_SYNCIN = .ok) s) ∧
  (∃ src j w, ∃ s : State, j < 12 ∧ Meets (fun dt => .divNextWrite dt src j w)
      (fun s =>
      let v := s.wideValue (Reg.OUT_DIV_NEXT0 j) 2 (w &&& 0x0FFF00FF#32)
      s.access src (Reg.OUT_DIV_NEXT0 j) = .ok ∧
      dividersOk (s.fvco (s.outSrc j)) (s.fld (Fld.OUT_CFG_FORMAT j)) (v % 256) (v / 2 ^ 32) = true) s) ∧
  (∃ src w, ∃ s : State, bitsOf w 31 1 = 1 ∧ Meets (fun dt => .dividerUpdate dt src w)
      (fun s => s.access src Reg.SYN_UPDATE = .ok) s) ∧
  (∃ l mask rest, ∃ s : State, Meets (fun dt => .dividerLoad dt)
      (fun s => s.divLoads = (l, mask) :: rest ∧ l ≤ s.ticks) s) :=
  ⟨⟨.core, 11, 0x500#32, up, by decide⟩,
   ⟨11, { ((up.setFld (Fld.OUT_CFG_EN 11) 1).setFld (Fld.APLL_STAT_STATE 0) 3).setFld (Fld.OUT_STAT_STATE 11) 2 with ckouts := [(11, { fixed := some 0 })] }, by decide⟩,
   ⟨false, 3, 5, up, by decide⟩,
   ⟨.core, 1, up, by decide⟩,
   ⟨.core, 11, 0x20#32, up, by decide⟩,
   ⟨.core, 0x80000FFF#32, up, by decide⟩,
   ⟨8000000, 5, [], { up with divLoads := [(8000000, 5)] }, by decide⟩⟩

theorem witness_DevicePllsComplete :
  (∃ n, ∃ s : State, Meets (fun dt => .leafPllLoss dt n false)
      (fun s => s.leafOn n = true ∧ s.on (Fld.LCTL_CLK_CORE_LOCK n) = true) s) ∧
  (∃ n, ∃ s : State, Meets (fun dt => .leafPllLoss dt n true)
      (fun s => s.leafOn n = true ∧ s.on (Fld.LCTL_CLK_MEM_LOCK n) = true) s) ∧
  (∃ n mem, ∃ s : State, Meets (fun dt => .leafPllRelockAttempt dt n mem)
      (fun s => s.fwRuns = true ∧ s.leafOn n = true ∧ s.leafPll n mem = false ∧
      kget s.relocks (2 * n + (if mem then 1 else 0)) 0 < 3 ∧ s.running .relock (2 * n + (if mem then 1 else 0)) = false) s) ∧
  (∃ n mem, ∃ s : State, Meets (fun dt => .relockAttemptTimeout dt n mem)
      (fun s => s.leafOn n = true ∧ s.due .relock (2 * n + (if mem then 1 else 0)) = true) s) ∧
  (∃ n mem, ∃ s : State, Meets (fun dt => .leafPllRelocked dt n mem)
      (fun s => s.leafOn n = true ∧ s.leafPll n mem = false ∧ s.due .relock (2 * n + (if mem then 1 else 0)) = true) s) ∧
  (∃ s : State, Meets (fun dt => .tsuPllLoss dt)
      (fun s => s.powered = true ∧ s.on Fld.TSU_PLL_LOCK = true) s) ∧
  (∃ s : State, Meets (fun dt => .tsuPllRetry dt)
      (fun s => s.powered = true ∧ s.on Fld.TSU_PLL_LOCK = false ∧ s.due .tsuRetry 0 = true) s) ∧
  (∃ s : State, Meets (fun dt => .tsuPllRelock dt)
      (fun s => s.powered = true ∧ s.on Fld.TSU_PLL_LOCK = false ∧ s.tsuLossAt + msT ≤ s.ticks) s) :=
  ⟨⟨7, up.setFld (Fld.LCTL_CLK_CORE_LOCK 7) 1, by decide⟩,
   ⟨0, up.setFld (Fld.LCTL_CLK_MEM_LOCK 0) 1, by decide⟩,
   ⟨7, true, { up with relocks := [(15, 2)] }, by decide⟩,
   ⟨7, false, up.startTimer .relock 14 0, by decide⟩,
   ⟨7, true, up.startTimer .relock 15 0, by decide⟩,
   ⟨up.setFld Fld.TSU_PLL_LOCK 1, by decide⟩,
   ⟨up.startTimer .tsuRetry 0 0, by decide⟩,
   ⟨up, by decide⟩⟩

theorem witness_GnssChannelsComplete :
  (∃ x, ∃ s : State, x < 2 ∧ Meets (fun dt => .sampleClockLoss dt x)
      (fun s => s.portRuns x = true ∧ s.on (Fld.GNSS_PORT_STAT_PWREN x) = true ∧ s.on (Fld.GNSS_PORT_STAT_CLK_OK x) = true) s) ∧
  (∃ x, ∃ s : State, x < 2 ∧ Meets (fun dt => .sampleClockRestore dt x)
      (fun s => s.portRuns x = true ∧ kget s.gnss.clkAt x 0 + msT ≤ s.ticks) s) ∧
  (∃ x ppb, ∃ s : State, x < 2 ∧ Meets (fun dt => .gnssFmeas dt x ppb)
      (fun s => s.portRuns x = true ∧ s.on (Fld.GNSS_PORT_STAT_CLK_OK x) = true ∧ kfind s.gnss.fmeasSec x ≠ some (s.now / secU)) s) ∧
  (∃ src c w, ∃ s : State, c < 64 ∧ bitsOf w 31 1 = 1 ∧ bitsOf w 30 1 = 0 ∧ prnOk (bitsOf w 16 3) (bitsOf w 0 8) = true ∧ Meets (fun dt => .channelStart dt src c w)
      (fun s => s.access src (Reg.GNSS_CH_CTRL c) = .ok ∧ (isSoftware src = true → s.on Fld.GNSS_CTRL_SW_OWN = true) ∧
      s.chanState c = 0 ∧ s.bandWithin (bitsOf w 16 3) = true) s) ∧
  (∃ src c w, ∃ s : State, c < 64 ∧ bitsOf w 30 1 = 1 ∧ Meets (fun dt => .channelStop dt src c w)
      (fun s => s.access src (Reg.GNSS_CH_CTRL c) = .ok ∧ (isSoftware src = true → s.on Fld.GNSS_CTRL_SW_OWN = true) ∧
      bitsOf w 16 3 = s.chanSignal c ∧ bitsOf w 0 8 = s.fld (Fld.GNSS_CH_CTRL_PRN c)) s) ∧
  (∃ c t, ∃ s : State, c < 64 ∧ Meets (fun dt => .pullInDone dt c)
      (fun s => s.chanState c = 1 ∧ (s.chan c).goodSince = some t ∧ t + 200 * msT ≤ s.ticks) s) ∧
  (∃ c i q sync half slip, ∃ s : State, c < 64 ∧ Meets (fun dt => .integrationDump dt c i q sync half slip)
      (fun s => s.domOn 3 = true ∧ (s.chanState c = 1 ∨ s.chanState c = 2) ∧ s.dumpDue c = true) s) ∧
  (∃ c, ∃ s : State, c < 64 ∧ Meets (fun dt => .channelLoss dt c)
      (fun s => (s.chanState c = 1 ∨ s.chanState c = 2) ∧ s.signalGone c = true) s) ∧
  (∃ src w, ∃ s : State, Meets (fun dt => .gnssOwnerChange dt src w)
      (fun s => s.access src Reg.GNSS_CTRL = .ok ∧ (bitsOf w 0 1 == 1) ≠ s.on Fld.GNSS_CTRL_SW_OWN) s) ∧
  (∃ src w, ∃ s : State, bitsOf w 31 1 = 1 ∧ Meets (fun dt => .acqRequest dt src w)
      (fun s => s.access src Reg.GNSS_ACQ_REQ0 = .ok ∧ (isSoftware src = true → s.on Fld.GNSS_CTRL_SW_OWN = true) ∧
      (s.storeRw Reg.GNSS_ACQ_REQ0 w).gnss.reqs.length < 16) s) ∧
  (∃ r rest, ∃ s : State, Meets (fun dt => .acqCaptureStart dt)
      (fun s => s.gnss.reqs = r :: rest ∧ s.gnss.capAt = none ∧ s.gnss.res.length < 16 ∧ s.acqValid = true ∧ s.acqPortUp = true) s) ∧
  (∃ code doppler cn0 r rest t, ∃ s : State, Meets (fun dt => .acqComplete dt code doppler cn0)
      (fun s => s.gnss.reqs = r :: rest ∧ s.gnss.res.length < 16 ∧ s.acqValid = true ∧ s.acqPortUp = true ∧
      s.gnss.capAt = some t ∧ t + s.acqCapture ≤ s.ticks ∧ s.acqOnGrid code doppler = true) s) ∧
  (∃ src r rest, ∃ s : State, Meets (fun dt => .acqResultRead dt src)
      (fun s => s.access src Reg.GNSS_ACQ_RES0 = .ok ∧ s.gnss.res = r :: rest) s) :=
  ⟨⟨1, ((up.setFld (Fld.GNSS_PORT_CFG_EN 1) 1).setFld (Fld.GNSS_PORT_STAT_PWREN 1) 1).setFld (Fld.GNSS_PORT_STAT_CLK_OK 1) 1, by decide⟩,
   ⟨1, up.setFld (Fld.GNSS_PORT_CFG_EN 1) 1, by decide⟩,
   ⟨0, 5, (up.setFld (Fld.GNSS_PORT_CFG_EN 0) 1).setFld (Fld.GNSS_PORT_STAT_CLK_OK 0) 1, by decide⟩,
   ⟨.core, 63, 0x80000020#32, up, by decide⟩,
   ⟨.core, 63, 0x40000001#32, up, by decide⟩,
   ⟨63, 5, { up.setFld (Fld.GNSS_CH_STAT_STATE 63) 1 with chans := [(63, { goodSince := some 5 })], ticks := 160000005 }, by decide⟩,
   ⟨63, [], [], true, false, false, up.setFld (Fld.GNSS_CH_STAT_STATE 63) 1, by decide⟩,
   ⟨63, { up.setFld (Fld.GNSS_CH_STAT_STATE 63) 2 with chans := [(63, { lowSince := some 5 })], ticks := 800000005 }, by decide⟩,
   ⟨.core, 1#32, up, by decide⟩,
   ⟨.core, 0x80000001#32, up, by decide⟩,
   ⟨[1#32, 0#32, 0#32, 0#32], [], { up.setFld (Fld.GNSS_PORT_CFG_EN 0) 1 |>.setFld (Fld.GNSS_PORT_STAT_CLK_OK 0) 1 with gnss := { reqs := [[1#32, 0#32, 0#32, 0#32]] } }, by decide⟩,
   ⟨512, 0, 40, [1#32, 0#32, 0#32, 0#32], [], 0, { up.setFld (Fld.GNSS_PORT_CFG_EN 0) 1 |>.setFld (Fld.GNSS_PORT_STAT_CLK_OK 0) 1 with gnss := { reqs := [[1#32, 0#32, 0#32, 0#32]], capAt := some 0 } }, by decide⟩,
   ⟨.core, [1#32], [], { up with gnss := { res := [[1#32]] } }, by decide⟩⟩

theorem witness_KettleComplete :
  (∃ s : State, Meets (fun dt => .kettlePowerRequest dt)
      (fun s => s.bursting = true ∧ s.nextBurst ≤ s.now + s.burstHalf + s.burstLead + msU) s) ∧
  (∃ s : State, Meets (fun dt => .feLeadPwrenHigh dt)
      (fun s => s.bursting = true ∧ s.on Fld.KETTLE_CTRL_FE_GATE = true ∧ s.domOn 3 = true ∧
      s.nextBurst ≤ s.now + s.burstHalf + s.burstLead) s) ∧
  (∃ s : State, Meets (fun dt => .burstStart dt)
      (fun s => s.burstDue = true ∧ s.burstGranted = true ∧ s.domOn 3 = true) s) ∧
  (∃ s : State, Meets (fun dt => .burstSkip dt)
      (fun s => s.burstDue = true ∧ s.burstGranted = false) s) ∧
  (∃ c cn0 found n miss fin, ∃ s : State, c < 64 ∧ Meets (fun dt => .wakingReacquired dt c cn0 found)
      (fun s => s.chanState c = 4 ∧ s.gnss.awake = some (n, miss, fin) ∧ s.ticks ≤ miss ∧
      (s.burstBegan + 4 * msT ≤ s.ticks ∧ 50 * s.fld Fld.KETTLE_CTRL_REACQ_CN0 ≤ cn0 ∨
        s.burstBegan + 8 * msT ≤ s.ticks ∧ found = true)) s) ∧
  (∃ c n miss fin, ∃ s : State, c < 64 ∧ Meets (fun dt => .burstMiss dt c)
      (fun s => s.chanState c = 4 ∧ s.gnss.awake = some (n, miss, fin) ∧ miss ≤ s.ticks) s) ∧
  (∃ n miss fin, ∃ s : State, Meets (fun dt => .burstEnd dt)
      (fun s => s.gnss.awake = some (n, miss, fin) ∧ fin ≤ s.ticks) s) ∧
  (∃ s : State, Meets (fun dt => .burstEnd dt)
      (fun s => s.gnss.awake = none ∧ s.kettleOn = true ∧ s.gnss.ended < s.burstS ∧ s.burstS ≤ s.now + secU - s.burstHalf) s) :=
  ⟨⟨burstUp 63, by decide⟩,
   ⟨(burstUp 0).setFld Fld.KETTLE_CTRL_FE_GATE 1, by decide⟩,
   ⟨{ (burstUp 5).setFld (Fld.PWR_RQ_STATE 3) 2 with ticks := 10 ^ 9 }, by decide⟩,
   ⟨burstUp 5, by decide⟩,
   ⟨63, 0, true, 0, 80000000, 60000000, { up.setFld (Fld.GNSS_CH_STAT_STATE 63) 4 with ticks := 80000000, gnss := { awake := some (0, 80000000, 60000000) } }, by decide⟩,
   ⟨63, 0, 8000000, 9, { up.setFld (Fld.GNSS_CH_STAT_STATE 63) 4 with gnss := { awake := some (0, 8000000, 9) } }, by decide⟩,
   ⟨0, 5, 8000000, { burstUp 0 with gnss := { awake := some (0, 5, 8000000) } }, by decide⟩,
   ⟨burstUp 0, by decide⟩⟩

theorem witness_GnssServiceComplete :
  (∃ ms, ∃ s : State, Meets (fun dt => .measurementEpoch dt ms)
      (fun s => s.powered = true ∧ s.counting = true ∧ s.gnss.recs = none ∧ s.now / secU ≠ s.gnss.epoch ∧
      (s.domOn 3 = true ∨ ∃ c ∈ allChans, s.chanState c = 3)) s) ∧
  (∃ t recs, ∃ s : State, Meets (fun dt => .epochComplete dt)
      (fun s => s.gnss.recs = some (t, recs)) s) ∧
  (∃ c t inverted prev raw, ∃ s : State, c < 64 ∧ Meets (fun dt => .navRecord dt c t inverted ⟨prev, raw⟩)
      (fun s => s.domOn 3 = true ∧ s.chanState c = 2 ∧ s.on (Fld.GNSS_CH_STAT_BIT_SYNC c) = true ∧ s.chanSignal c ≤ 2 ∧
      s.fld Fld.PWR_STATE_STATE ≠ 1 ∧ s.gnss.nav.length < 512 ∧ ∀ e ∈ s.gnss.nav, e.1 < s.ticks) s) ∧
  (∃ src r rest, ∃ s : State, Meets (fun dt => .navRead dt src)
      (fun s => s.access src (Reg.GNSS_NAV_REC 0) = .ok ∧ s.gnss.nav = r :: rest) s) ∧
  (∃ src w, ∃ s : State, Meets (fun dt => .navFlush dt src w)
      (fun s => s.access src Reg.GNSS_NAV_STAT = .ok) s) ∧
  (∃ sats up x, ∃ s : State, Meets (fun dt => .timeSolution dt sats up)
      (fun s =>
      let all := sats.filterMap (fun o => s.satOffset o)
      let used := excludeFar (s.gnssParam 5 * 65536) all.length all
      s.gnssService = true ∧ s.gnss.solved ≠ some (s.fld Fld.GNSS_EPOCH_STAT_SEQ) ∧ s.positionHeld = true ∧
      s.gnssParam 4 ≤ (used.length : Int) ∧ meanOf up used = x ∧
      (s.on Fld.TIME_STATUS_VALID = false ∨ (x.natAbs : Int) ≤ s.jumpLimit)) s) ∧
  (∃ sats up, ∃ s : State, Meets (fun dt => .timeSolution dt sats up)
      (fun s =>
      let all := sats.filterMap (fun o => s.satOffset o)
      s.gnssService = true ∧ s.gnss.solved ≠ some (s.fld Fld.GNSS_EPOCH_STAT_SEQ) ∧ s.positionHeld = true ∧
      ((excludeFar (s.gnssParam 5 * 65536) all.length all).length : Int) < s.gnssParam 4) s) ∧
  (∃ s : State, Meets (fun dt => .jumpConfirm dt)
      (fun s => s.gnssService = true ∧ s.jumpSure = true) s) ∧
  (∃ x y z, ∃ s : State, Meets (fun dt => .surveyDone dt x y z)
      (fun s => s.gnssService = true ∧ s.positionHeld = false ∧ s.gnss.surveyAt + (s.gnssParam 0x11).toNat * secT ≤ s.ticks) s) ∧
  (∃ c n, ∃ s : State, c < 64 ∧ Meets (fun dt => .ephemerisRenewal dt c false n)
      (fun s => s.gnssService = true ∧ s.fld Fld.PWR_STATE_STATE ≠ 1 ∧ s.burstCh c = true ∧
      kget s.gnss.ephs (s.satKey c) 0 ≤ s.ticks + 1800 * secT) s) ∧
  (∃ c n t0, ∃ s : State, c < 64 ∧ Meets (fun dt => .ephemerisRenewal dt c true n)
      (fun s => s.gnssService = true ∧ s.fld Fld.PWR_STATE_STATE ≠ 1 ∧ s.chanState c = 2 ∧ s.burstCh c = false ∧
      kfind s.gnss.renewing c = some t0 ∧ t0 + 36 * secT ≤ s.ticks) s) :=
  ⟨⟨[], up, by decide⟩,
   ⟨5, [], { up with gnss := { recs := some (5, []) } }, by decide⟩,
   ⟨63, 5, false, 0, [], (up.setFld (Fld.GNSS_CH_STAT_STATE 63) 2).setFld (Fld.GNSS_CH_STAT_BIT_SYNC 63) 1, by exact ⟨by decide, by decide, by decide, by decide, by decide, by decide, by decide, fun e he => by cases he⟩⟩,
   ⟨.core, (0, [1#32]), [], { up with gnss := { nav := [(0, [1#32])] } }, by decide⟩,
   ⟨.core, 0, up, by decide⟩,
   ⟨[{ a := 63 }], true, 19 * secU, { (gnssUp [(pkey 10 0 4, 1)]).set (Reg.GNSS_MEAS 0 63 7) 1#32 with gnss := { (gnssUp [(pkey 10 0 4, 1)]).gnss with ephs := [(up.satKey 63, 10 ^ 12)] } }, by decide⟩,
   ⟨[{ a := 63 }], false, gnssUp [], by decide⟩,
   ⟨{ gnssUp [] with ticks := 400 * 800000000, gnss := { (gnssUp []).gnss with withheld := [(400 * 800000000, 5), (0, 5)] } }, by decide⟩,
   ⟨1, 2, 3, { up with gnss := { params := [(pkey 10 0 1, 1), (pkey 10 0 0x10, 0)] }, ticks := 10 ^ 16 }, by decide⟩,
   ⟨5, 0, (gnssUp []).setFld (Fld.GNSS_CH_CTRL_BURST 5) 1, by decide⟩,
   ⟨63, 10, 0, { (gnssUp []).setFld (Fld.GNSS_CH_STAT_STATE 63) 2 with gnss := { (gnssUp []).gnss with renewing := [(63, 0)] }, ticks := 40 * 800000000 }, by decide⟩⟩

theorem witness_ClaimsComplete :
  (∃ p pos, ∃ s : State, Meets (fun dt => .heartbeatSend dt p pos)
      (fun s =>
      let t := s.creditTo p
      s.hbPort p = true ∧ s.inTick pos = true ∧ (s.fwRuns = true ∨ s.fld Fld.SYS_BOOT_STATUS_STATE = 7) ∧ (∀ x, kfind s.hbSent p = some x → x.2 + 990 * usT ≤ s.ticks) ∧
      t.inFragment p = none ∧ t.mediumFree p pos = true ∧
      ∀ h ∈ t.known p, pos + bytesU (t.portMode p) (1 + 133 + 12 + 8) ≤ h.release) s) ∧
  (∃ p full i, ∃ s : State, Meets (fun dt => .heartbeatReceive dt p full i)
      (fun s =>
      let b := full.take (full.length - 4)
      s.linkUp p = true ∧ isTcx full = false ∧ isHb full = true ∧ s.drainedAt p (s.rxPhys p i) = false ∧
      s.stampedDown p (s.rxStamp p i) (s.stampFlags p (s.rxPhys p i) false) = false ∧ s.clmOn = true ∧ s.portActive p = true ∧ i.codeErr = false ∧
      (i.uncorrectable = 0 ∨ s.fld (Fld.PORT_MODE_FEC p) = 0) ∧
      crc32 b = leAt full (full.length - 4) 4 ∧ daOf b = tcxDa ∧ byteAt b 19 = 1 ∧ byteAt b 20 = 2 ∧ 110 ≤ beAt b 21 2 ∧
      129 ≤ b.length) s) ∧
  (∃ p h, ∃ s : State, Meets (fun dt => .heardClaimLapse dt p)
      (fun s => kfind s.hbs p = some h ∧ s.heartbeat p = none) s) ∧
  (∃ d, ∃ s : State, d < 16 ∧ Meets (fun dt => .acceptedClaimUpdate dt d)
      (fun s => s.powered = true) s) ∧
  (∃ s : State, Meets (fun dt => .candGating dt)
      (fun s => s.fwRuns = true ∧ s.gateDue = true ∧ ∃ d ∈ allDoms, s.on (Fld.CLM_DOM_CFG_GATE_SLOTS d) = true) s) ∧
  (∃ d i, ∃ s : State, d < 16 ∧ i < 2 ∧ Meets (fun dt => .witnessAdmit dt d i)
      (fun s => s.mayAdmit d i = true) s) ∧
  (∃ d, ∃ s : State, d < 16 ∧ Meets (fun dt => .aloneExpiry dt d false)
      (fun s => s.alone d = true) s) ∧
  (∃ src d m, ∃ s : State, d < 16 ∧ m < 2 ^ 12 ∧ Meets (fun dt => .clmDepose dt src d m)
      (fun s =>
      let t := s.storeRw Reg.CLM_CMD (clmCmdWord 1 d m)
      s.access src Reg.CLM_CMD = .ok ∧ 2 ≤ t.role d ∧ (m = t.peer d 0 ∨ m = t.peer d 1)) s) ∧
  (∃ src d m, ∃ s : State, d < 16 ∧ m < 2 ^ 12 ∧ Meets (fun dt => .clmAdmit dt src d m)
      (fun s =>
      let t := s.storeRw Reg.CLM_CMD (clmCmdWord 2 d m)
      s.access src Reg.CLM_CMD = .ok ∧ 2 ≤ t.role d ∧ (m = t.peer d 0 ∨ m = t.peer d 1)) s) ∧
  (∃ d t, ∃ s : State, d < 16 ∧ Meets (fun dt => .drillEnd dt d)
      (fun s => (s.clm d).drillEnd = some t ∧ t ≤ s.ticks) s) :=
  ⟨⟨0, up.now, clmUp.setFld (Fld.CLM_HB_PORTS_PORTS 0) 1, by exact ⟨by decide, by decide, Or.inl (by decide), none_all (by decide), by decide, by decide, fun h hh => by cases hh⟩⟩,
   ⟨0, hbFrame, {}, clmUp, by decide⟩,
   ⟨0, { at_ := 0, serial := 5, sa := 0, member := 0, seen := 0, drill := 0, claims := [] }, { up with hbs := [(0, { at_ := 0, serial := 5, sa := 0, member := 0, seen := 0, drill := 0, claims := [] })] }, by decide⟩,
   ⟨15, up, by decide⟩,
   ⟨{ clmUp.setFld (Fld.CLM_DOM_CFG_GATE_SLOTS 15) 1 with gateDue := true }, by decide⟩,
   ⟨0, 1, { ((clmUp.setFld (Fld.CLM_DOM_CFG_ROLE 0) 2).setFld (Fld.CLM_DOM_PEERS_PEER1 0) 5) with hbs := [(0, { at_ := 8000000, serial := 5, sa := 0, member := 1, seen := 0, drill := 0, claims := [] })] }, by decide⟩,
   ⟨15, { ((up.setFld Fld.CLM_CTRL_EN 1).setFld (Fld.CLM_CTRL_ALONE) 1).setFld (Fld.CLM_DOM_CFG_ROLE 15) 1 |>.setFld (Fld.CLM_DOM_STAT_STATE 15) 1 with ticks := 800000000 }, by decide⟩,
   ⟨.core, 15, 4095, ((up.setFld Fld.CLM_CTRL_EN 1).setFld (Fld.CLM_DOM_CFG_ROLE 15) 2).setFld (Fld.CLM_DOM_PEERS_PEER1 15) 4095, by decide⟩,
   ⟨.core, 0, 4095, ((up.setFld Fld.CLM_CTRL_EN 1).setFld (Fld.CLM_DOM_CFG_ROLE 0) 3).setFld (Fld.CLM_DOM_PEERS_PEER0 0) 4095, by decide⟩,
   ⟨15, 8000000, { up with clms := [(15, { drillEnd := some 8000000 })] }, by decide⟩⟩

theorem witness_PowerStatesComplete :
  (∃ src, ∃ s : State, Meets (fun dt => .powerRequestKeep dt src)
      (fun s =>
      let t := s.storeRw Reg.PWR_REQ 0x80000001#32
      s.access src Reg.PWR_REQ = .ok ∧ t.wakeWithin (t.power.roundAt + 250 * usT - t.ticks) = false ∧
      t.on Fld.PWR_STATE_BUSY = false ∧ 2 ≤ t.pstate) s) ∧
  (∃ src, ∃ s : State, Meets (fun dt => .powerRequestKeep dt src)
      (fun s =>
      let t := s.storeRw Reg.PWR_REQ 0x80000001#32
      s.access src Reg.PWR_REQ = .ok ∧ t.wakeWithin (t.power.roundAt + 250 * usT - t.ticks) = true) s) ∧
  (∃ src, ∃ s : State, Meets (fun dt => .powerRequestReady dt src)
      (fun s =>
      let t := s.storeRw Reg.PWR_REQ 0x80000002#32
      s.access src Reg.PWR_REQ = .ok ∧ t.wakeWithin (t.power.roundAt + 250 * usT - t.ticks) = false ∧
      t.on Fld.PWR_STATE_BUSY = false ∧ t.pstate = 1) s) ∧
  (∃ x, ∃ s : State, Meets (fun dt => .wakeAt dt)
      (fun s => s.powered = true ∧ s.on Fld.PWR_WAKE_EN = true ∧ s.power.woke = false ∧ s.spineHot = false ∧
      timeOfRaw (s.getWide Reg.PWR_WAKE_AT0 3) = some x ∧ x ≤ s.now) s) ∧
  (∃ s : State, Meets (fun dt => .readyEntry dt)
      (fun s => s.on Fld.PWR_STATE_BUSY = true ∧ s.pstate < 2 ∧ s.domOn 4 = true ∧ s.domOn 5 = true) s) ∧
  (∃ n, ∃ s : State, n < 8 ∧ Meets (fun dt => .drainComplete dt n)
      (fun s => s.leaf n = 5 ∧ s.leafEmpty n = true) s) ∧
  (∃ n, ∃ s : State, n < 8 ∧ Meets (fun dt => .drainLimitExpiry dt n)
      (fun s => s.leaf n = 5 ∧ s.due .drain n = true) s) ∧
  (∃ n, ∃ s : State, n < 8 ∧ Meets (fun dt => .restoreComplete dt n)
      (fun s => s.fwRuns = true ∧ s.leaf n = 2 ∧ s.domOn (8 + n) = true) s) ∧
  (∃ n, ∃ s : State, n < 8 ∧ Meets (fun dt => .leafAligned dt n)
      (fun s => s.leaf n = 3 ∧ s.fldBit Fld.TIME_STATUS_LEAF_ALIGNED n = true) s) ∧
  (∃ n, ∃ s : State, n < 8 ∧ Meets (fun dt => .alignTimeout dt n)
      (fun s => s.leaf n = 3 ∧ s.due .leafAlign n = true) s) :=
  ⟨⟨.core, inPower 2, by decide⟩,
   ⟨.core, { (inPower 2).setFld Fld.PWR_WAKE_EN 1 with fine := 0 }, by decide⟩,
   ⟨.core, inPower 1, by decide⟩,
   ⟨0, up.setFld Fld.PWR_WAKE_EN 1, by decide⟩,
   ⟨((inPower 1).setFld Fld.PWR_STATE_BUSY 1).setFld Fld.PWR_STATE_TARGET 2, by decide⟩,
   ⟨7, up.setFld (leafField 7) 5, by decide⟩,
   ⟨7, (up.setFld (leafField 7) 5).startTimer .drain 7 0, by decide⟩,
   ⟨7, up.setFld (leafField 7) 2, by decide⟩,
   ⟨7, (up.setFld (leafField 7) 3).setFldBit Fld.TIME_STATUS_LEAF_ALIGNED 7 true, by decide⟩,
   ⟨7, (up.setFld (leafField 7) 3).startTimer .leafAlign 7 0, by decide⟩⟩

theorem witness_PowerBudgetComplete :
  (∃ r, ∃ s : State, r < 176 ∧ Meets (fun dt => .domainPowerUp dt r)
      (fun s => s.rq r = 2 ∧ s.domOn r = false ∧ kget s.power.grantAt r 0 + s.onDelay r ≤ s.ticks) s) ∧
  (∃ i tx r, ∃ s : State, i < 16 ∧ Meets (fun dt => .regulatorFail dt i tx)
      (fun s => s.regOf i = some r ∧ i ∈ s.regsOf r ∧ s.rq r = 2 ∧ s.domOn r = false ∧
      (tx = true ∨ kget s.power.grantAt r 0 + s.delayOf (s.regsUpTo r i) + s.fld (Fld.PWR_REG_TIME_PG_TMO i) * msT ≤ s.ticks)) s) ∧
  (∃ reads, ∃ s : State, Meets (fun dt => .regulatorPoll dt reads)
      (fun s => s.powered = true ∧ s.on Fld.PWR_PMB_CFG_EN = true ∧ s.power.pollAt + 100 * msT ≤ s.ticks) s) ∧
  (∃ reads, ∃ s : State, Meets (fun dt => .pmbAlert dt reads)
      (fun s => s.powered = true) s) ∧
  (∃ s : State, Meets (fun dt => .arbiterRound dt)
      (fun s => s.powered = true ∧ s.power.roundAt + 250 * usT ≤ s.ticks) s) ∧
  (∃ o, ∃ s : State, o < 32 ∧ Meets (fun dt => .pipelineRelease dt o)
      (fun s => s.due .pipeRelease o = true) s) ∧
  (∃ src w, ∃ s : State, bitsOf w 16 16 < bitsOf w 0 16 ∧ Meets (fun dt => .budgetWrite dt src w)
      (fun s => s.access src Reg.PWR_BUDGET = .ok ∧ bitsOf w 0 16 ≤ s.member.budget.1) s) ∧
  (∃ n, ∃ s : State, Meets (fun dt => .throttleRise dt n)
      (fun s => s.leafOn n = true ∧ s.throttle n < 2 ∧ s.heldFor s.power.hotAt n (10 * msT) = true ∧
      ∀ t, kfind s.power.roseAt n = some t → t + secT ≤ s.ticks) s) ∧
  (∃ n, ∃ s : State, Meets (fun dt => .throttleFall dt n)
      (fun s => s.leafOn n = true ∧ 0 < s.throttle n ∧ s.heldFor s.power.coldAt n (5 * secT) = true) s) ∧
  (∃ n, ∃ s : State, n < 8 ∧ Meets (fun dt => .leafTcrit dt n)
      (fun s => 2 ≤ s.leaf n ∧ s.leaf n ≤ 5 ∧ s.heldFor s.power.critAt n msT = true) s) ∧
  (∃ s : State, Meets (fun dt => .spineTcrit dt)
      (fun s => s.powered = true ∧ s.heldFor s.power.critAt 8 msT = true) s) :=
  ⟨⟨175, { up.setFld (Fld.PWR_RQ_STATE 175) 2 with doms := [] }, by decide⟩,
   ⟨15, true, 4, { (((up.setFld (Fld.PWR_REG_CFG_DOMAIN 15) 1).setFld Fld.PWR_PMB_CFG_EN 1).setFld (Fld.PWR_REG_CFG_VALID 15) 1).setFld (Fld.PWR_RQ_STATE 4) 2 with doms := [] }, by decide⟩,
   ⟨[], { up.setFld Fld.PWR_PMB_CFG_EN 1 with ticks := 80000000 }, by decide⟩,
   ⟨[], up, by decide⟩,
   ⟨up, by decide⟩,
   ⟨31, up.startTimer .pipeRelease 31 0, by decide⟩,
   ⟨.core, 1#32, up, by decide⟩,
   ⟨7, { up with power := { hotAt := [(7, 0)] } }, by exact ⟨by decide, by decide, by decide, none_all (by decide)⟩⟩,
   ⟨7, { up.setFld ⟨Reg.PWR_THROTTLE, 14, 2⟩ 1 with power := { coldAt := [(7, 0)] }, ticks := 4000000000 }, by decide⟩,
   ⟨7, { up with power := { critAt := [(7, 0)] } }, by decide⟩,
   ⟨{ up with power := { critAt := [(8, 0)] } }, by decide⟩⟩

theorem witness_ResetComplete :
  (∃ sel f, ∃ s : State, Meets (fun dt => .porRelease dt sel f)
      (fun s => s.powered = false) s) ∧
  (∃ s : State, Meets (fun dt => .pornAssert dt)
      (fun s => s.powered = true) s) ∧
  (∃ s : State, Meets (fun dt => .supplyFault dt)
      (fun s => s.powered = true) s) ∧
  (∃ sel, ∃ s : State, Meets (fun dt => .warmResetPin dt sel)
      (fun s => s.powered = true) s) ∧
  (∃ crystal, ∃ s : State, Meets (fun dt => .aonClockSelect dt crystal)
      (fun s => s.powered = true ∧ s.due .aonSelect 0 = true) s) :=
  ⟨⟨0, {}, State.reset, by decide⟩,
   ⟨up, by decide⟩,
   ⟨up, by decide⟩,
   ⟨3, up, by decide⟩,
   ⟨true, up.startTimer .aonSelect 0 0, by decide⟩⟩

theorem witness_BootComplete :
  (∃ slot, ∃ s : State, slot < 2 ∧ Meets (fun dt => .slotValidation dt slot true)
      (fun s => s.powered = true ∧ s.bootState = bootLoading ∧ slot ∉ s.boot.tried ∧ s.toJudge.head? = some slot) s) ∧
  (∃ s : State, Meets (fun dt => .slotValidation dt 2 true)
      (fun s => s.powered = true ∧ s.on Fld.IMG_STAT_BUSY = true) s) ∧
  (∃ src page, ∃ s : State, page < 16 ∧ Meets (fun dt => .imgGo dt src page)
      (fun s => s.access src Reg.IMG_CTRL = .ok ∧ s.on Fld.IMG_STAT_BUSY = false ∧ s.imgOpen = true) s) ∧
  (∃ s : State, Meets (fun dt => .imageStart dt)
      (fun s => s.powered = true ∧ s.bootState = bootStarting ∧ s.boot.started = false) s) ∧
  (∃ s : State, Meets (fun dt => .firmwareRunning dt)
      (fun s => s.powered = true ∧ s.bootState = bootStarting ∧ s.boot.started = true) s) ∧
  (∃ s : State, Meets (fun dt => .firmwareStartTimeout dt)
      (fun s => s.powered = true ∧ s.bootState = bootStarting ∧ s.due .fwStart 0 = true) s) ∧
  (∃ new prev, ∃ s : State, new < 2 ∧ Meets (fun dt => .updateTimeout dt)
      (fun s => s.powered = true ∧ s.bootState = bootUpdating ∧ s.due .fwStart 0 = true ∧ s.boot.update = some (new, prev)) s) :=
  ⟨⟨1, slotted 1, by decide⟩,
   ⟨up.setFld Fld.IMG_STAT_BUSY 1, by decide⟩,
   ⟨.pf1, 15, inBoot 2, by decide⟩,
   ⟨inBoot 4, by decide⟩,
   ⟨{ inBoot 4 with boot := { started := true } }, by decide⟩,
   ⟨(inBoot 4).startTimer .fwStart 0 0, by decide⟩,
   ⟨1, 0, { (inBoot 7).startTimer .fwStart 0 0 with boot := { update := some (1, 0) } }, by decide⟩⟩

theorem witness_DebugUnlockComplete :
  (∃ src scope took, ∃ s : State, scope < 4 ∧ Meets (fun dt => .challengeResponseAttempt dt src scope took)
      (fun s => s.access src Reg.SEC_DBG_CTRL = .ok ∧ s.waiting .dbgBusy 0 = false) s) ∧
  (∃ src scope took, ∃ s : State, scope < 4 ∧ Meets (fun dt => .passwordAttempt dt src scope took)
      (fun s => s.access src Reg.SEC_DBG_CTRL = .ok ∧ s.waiting .dbgBusy 0 = false) s) ∧
  (∃ password scope resp took, ∃ s : State, Meets (fun dt => .jtagDebugUnlock dt password scope resp took)
      (fun s => s.powered = true ∧ s.waiting .dbgBusy 0 = false) s) ∧
  (∃ src, ∃ s : State, Meets (fun dt => .dbgStatRead dt src)
      (fun s => s.access src Reg.SEC_DBG_STAT = .ok) s) :=
  ⟨⟨.pf1, 3, 5, up, by decide⟩,
   ⟨.pf1, 3, 5, up, by decide⟩,
   ⟨false, 3, [], 5, up, by decide⟩,
   ⟨.pf1, up, by decide⟩⟩

theorem witness_RegisterAccessComplete :
  (∃ src a w took fault f, ∃ s : State, a < bar2 ∧ ruleOf src a w took fault = some f ∧ Meets (fun dt => .registerWrite dt src a w true took fault)
      (fun s => s.access src a = .ok) s) ∧
  (∃ src a w took fault, ∃ s : State, a < bar2 ∧ ruleOf src a w took fault = none ∧ Meets (fun dt => .registerWrite dt src a w true took fault)
      (fun s => s.access src a = .ok) s) ∧
  (∃ src a r, ∃ s : State, a < pf1 ∧ a / 0x10000 ≠ 2 ∧ leafWin a = none ∧ readRule src a = none ∧ unmirror a = a ∧ viewOf a = none ∧ rowOf a = some r ∧ 1 < r.wide.2 ∧ r.wide.1 = 0 ∧ Meets (fun dt => .wideValueRead dt src a)
      (fun s => s.reaches src = true ∧ inSpace src a = true ∧ s.access src a = .ok ∧ s.noPortAt a = false) s) ∧
  (∃ src a r, ∃ s : State, a < pf1 ∧ a / 0x10000 ≠ 2 ∧ leafWin a = none ∧ readRule src a = none ∧ unmirror a = a ∧ viewOf a = none ∧ rowOf a = some r ∧ r.wide.2 ≤ 1 ∧ accMask [.rc] a < 2 ^ 32 ∧ accMask [.rc] a ≠ 0 ∧ Meets (fun dt => .readClear dt src a)
      (fun s => s.reaches src = true ∧ inSpace src a = true ∧ s.access src a = .ok ∧ s.noPortAt a = false) s) ∧
  (∃ b sent f, ∃ s : State, spiFrame b = some f ∧ f.op ≠ 2 ∧ Meets (fun dt => .spiRead dt b sent)
      (fun s => s.powered = true) s) ∧
  (∃ b took fault f, ∃ s : State, spiFrame b = some f ∧ f.op = 2 ∧ Meets (fun dt => .spiWrite dt b took fault)
      (fun s => s.powered = true ∧ s.spiStatus f = 0) s) ∧
  (∃ ptr n, ∃ s : State, ptr < 256 ∧ Meets (fun dt => .i2cTransaction dt ptr none n)
      (fun s => s.powered = true) s) ∧
  (∃ w n, ∃ s : State, Meets (fun dt => .i2cTransaction dt 0x40 (some w) n)
      (fun s => s.powered = true) s) ∧
  (∃ src i w, ∃ s : State, i < 96 ∧ Meets (fun dt => .evtRouteWrite dt src i w)
      (fun s => s.access src (Reg.EVT_ROUTE i) = .ok ∧ s.evtVisible src i = true ∧ s.routeOk src i w = true) s) ∧
  (∃ src k w, ∃ s : State, k < 3 ∧ Meets (fun dt => .evtEnableWrite dt src k w)
      (fun s => s.access src (Reg.EVT_ENABLE k) = .ok) s) :=
  ⟨by
      exact write_case .core Reg.PWR_BUDGET 1#32 0 false up (by decide) (by decide) (by decide),
   ⟨.core, Reg.SYS_RESET_CAUSE, 1#32, 0, false, up, by exact ⟨by decide, Option.isNone_iff_eq_none.1 (by decide), by decide⟩⟩,
   by
      obtain ⟨r, hr⟩ := Option.isSome_iff_exists.1 (show (rowOf Reg.TIME_SET0).isSome = true by decide)
      have h1 : 1 < ((rowOf Reg.TIME_SET0).getD ⟨0, [], (0, 0), []⟩).wide.2 ∧ ((rowOf Reg.TIME_SET0).getD ⟨0, [], (0, 0), []⟩).wide.1 = 0 := by decide
      rw [hr] at h1
      exact ⟨.core, Reg.TIME_SET0, r, up, by decide, by decide, by decide, Option.isNone_iff_eq_none.1 (by decide), by decide, by decide, hr, h1.1, h1.2, by decide⟩,
   by
      obtain ⟨r, hr⟩ := Option.isSome_iff_exists.1 (show (rowOf (Reg.HERR_STAT 0)).isSome = true by decide)
      have h1 : ((rowOf (Reg.HERR_STAT 0)).getD ⟨0, [], (0, 9), []⟩).wide.2 ≤ 1 := by decide
      rw [hr] at h1
      exact ⟨.core, Reg.HERR_STAT 0, r, up, by decide, by decide, by decide, Option.isNone_iff_eq_none.1 (by decide), by decide, by decide, hr, h1, by decide, by decide, by decide⟩,
   ⟨spiRd, 0, { op := 1, secure := false, addr := 0, words := 1, bytes := spiRd, format := true }, up, by decide⟩,
   ⟨spiWr, 0, false, { op := 2, secure := false, addr := 0, words := 1, bytes := spiWr, format := true }, up, by decide⟩,
   ⟨255, 0, up, by decide⟩,
   ⟨0#32, 0, up, by decide⟩,
   ⟨.core, 95, 0#32, up, by decide⟩,
   ⟨.core, 2, 0#32, up, by decide⟩⟩

theorem witness_MailboxAndMessagesComplete :
  (∃ src m, ∃ s : State, m < 8 ∧ Meets (fun dt => .mailboxSubmit dt src m)
      (fun s => s.access src (Reg.MBX_DOORBELL m) = .ok ∧ s.on (Fld.MBX_STATUS_BUSY m) = false ∧
      s.on (Fld.MBX_STATUS_RESP_READY m) = false) s) ∧
  (∃ src m, ∃ s : State, m < 8 ∧ Meets (fun dt => .mailboxRelease dt src m)
      (fun s => s.access src (Reg.MBX_STATUS m) = .ok) s) ∧
  (∃ m, ∃ s : State, Meets (fun dt => .mailboxTransportError dt m)
      (fun s => s.fwTakes m = true ∧ s.transportError m ≠ 0) s) ∧
  (∃ v en busMaster masked, ∃ s : State, v < 32 ∧ Meets (fun dt => .msixPendingSend dt v en busMaster masked)
      (fun s => s.domOn 4 = true) s) ∧
  (∃ f, ∃ s : State, f < 2 ∧ Meets (fun dt => .functionLevelReset dt f)
      (fun s => s.domOn 4 = true) s) :=
  ⟨⟨.pf1, 7, up, by decide⟩,
   ⟨.pf1, 7, up, by decide⟩,
   ⟨7, mail 7 0 [] up, by decide⟩,
   ⟨31, true, true, false, up, by decide⟩,
   ⟨1, up, by decide⟩⟩

theorem witness_RingsComplete :
  (∃ src q r w, ∃ s : State, q < 2 ∧ r < 16 ∧ Meets (fun dt => .tailWrite dt src q r w)
      (fun s => s.access src (Reg.RING_TAIL q r) = .ok ∧ bitsOf w 0 16 < s.ringSize q r) s) ∧
  (∃ src q r, ∃ s : State, q < 2 ∧ r < 16 ∧ Meets (fun dt => .ringDisable dt src q r)
      (fun s => s.access src (Reg.RING_CTRL q r) = .ok ∧ s.ringOn q r = true) s) ∧
  (∃ q r, ∃ s : State, q < 2 ∧ r < 16 ∧ Meets (fun dt => .dmaPcieError dt q r)
      (fun s => s.domOn 4 = true ∧ s.on (Fld.RING_STAT_STOPPED q r) = false) s) ∧
  (∃ q r, ∃ s : State, q < 2 ∧ r < 16 ∧ Meets (fun dt => .ringSignalTimer dt q r)
      (fun s => s.domOn 4 = true ∧ s.fld (Fld.RING_SIG_T q r) ≠ 0 ∧ 0 < (s.ring q r).unsignalled ∧
      (s.ring q r).since + s.fld (Fld.RING_SIG_T q r) * usT ≤ s.ticks) s) ∧
  (∃ d bytes r, ∃ s : State, dw d 3 18 1 = 0 ∧ Meets (fun dt => .descriptorFetch dt d bytes)
      (fun s => s.domOn 4 = true ∧ s.txPick = some r ∧ s.descBad d = false) s) ∧
  (∃ r x rest res, ∃ s : State, r < 16 ∧ Meets (fun dt => .txWriteback dt r)
      (fun s => s.domOn 4 = true ∧ (s.ring 0 r).fetched = x :: rest ∧ x.res = some res) s) ∧
  (∃ r, ∃ s : State, r < 16 ∧ Meets (fun dt => .tsTimeout dt r)
      (fun s => s.domOn 4 = true) s) ∧
  (∃ buf c x rest, ∃ s : State, Meets (fun dt => .rxDelivery dt buf)
      (fun s =>
      let t := s.setQueue 258 c rest
      s.domOn 4 = true ∧ s.rxClass = some c ∧ s.queue 258 c = x :: rest ∧ t.ringOn 1 (s.rxRing x.f) = true ∧
      (s.egressBytes x.f 258).length ≤ t.bufBytes (s.rxRing x.f)) s) :=
  ⟨⟨.pf0, 1, 15, 0#32, up, by decide⟩,
   ⟨.pf0, 1, 15, up.setFld (Fld.RING_CTRL_EN 1 15) 1, by decide⟩,
   ⟨1, 15, up.setFld (Fld.RING_STAT_STOPPED 1 15) 0, by decide⟩,
   ⟨1, 15, (up.setFld (Fld.RING_SIG_T 1 15) 1).modRing 1 15 (fun x => { x with unsignalled := 1 }), by decide⟩,
   ⟨[0#32, 0#32, 60#32, 0#32, 0#32, 0#32, 0#32, 0#32], [], 15, ((up.setFld (Fld.RING_CTRL_EN 0 15) 1).setFld (Fld.RING_LOG2_LOG2 0 15) 1).setFld (Fld.RING_TAIL_TAIL 0 15) 1, by decide⟩,
   ⟨15, { slot := 0, res := some (1, 2, 3, 4, 5) }, [], (1, 2, 3, 4, 5), up.modRing 0 15 (fun x => { x with fetched := [{ slot := 0, res := some (1, 2, 3, 4, 5) }] }), by decide⟩,
   ⟨15, up, by decide⟩,
   ⟨0, 7, copy, [], (((up.setFld (Fld.RING_CTRL_EN 1 0) 1).setFld (Fld.RING_LOG2_LOG2 1 0) 1).setFld (Fld.RING_TAIL_TAIL 1 0) 1).setQueue 258 7 [copy], by decide⟩⟩

theorem witness_SystemAndTimeRequestsComplete :
  (∃ m, ∃ s : State, Meets (fun dt => .sysInfo dt m)
      (fun s => AtRequest m 0x0101 0 s ∧ s.barred m Reg.SYS_ID0 = false) s) ∧
  (∃ m, ∃ s : State, Meets (fun dt => .leafDrain dt m)
      (fun s => AtRequest m 0x0102 12 s ∧ s.barred m Reg.SYS_LEAF_STATE = false ∧ s.arg m 0 < s.leaves ∧ s.arg m 0 < 8 ∧
      1000 ≤ s.arg m 1 ∧ s.arg m 1 ≤ 1000000 ∧ s.arg m 2 ≤ 1 ∧ (s.leaf (s.arg m 0) = 4 ∨ s.leaf (s.arg m 0) = 6)) s) ∧
  (∃ m, ∃ s : State, Meets (fun dt => .leafStart dt m)
      (fun s => AtRequest m 0x0103 4 s ∧ s.barred m Reg.SYS_LEAF_STATE = false ∧ s.arg m 0 < s.leaves ∧ s.arg m 0 < 8 ∧
      s.on Fld.PWR_STATE_BUSY = false ∧ s.leaf (s.arg m 0) = 1) s) ∧
  (∃ m, ∃ s : State, Meets (fun dt => .leafStop dt m)
      (fun s => AtRequest m 0x0104 4 s ∧ s.barred m Reg.SYS_LEAF_STATE = false ∧ s.arg m 0 < s.leaves ∧ s.arg m 0 < 8 ∧
      s.leaf (s.arg m 0) = 6) s) ∧
  (∃ m n, ∃ s : State, 1 ≤ n ∧ n ≤ 255 ∧ Meets (fun dt => .leafWrite dt m)
      (fun s => AtRequest m 0x0105 (4 + 8 * n) s ∧ s.arg m 0 = n ∧ ∀ e ∈ s.leafPairs m, s.barred m e.1 = false ∧
      s.absentAt e.1 = false ∧ s.laterLane e.1 = false ∧ leafWritable e.1 = true ∧ s.domainAt e.1 = true) s) ∧
  (∃ m, ∃ s : State, Meets (fun dt => .timeGet dt m)
      (fun s => AtRequest m 0x0501 0 s) s) ∧
  (∃ m v, ∃ s : State, Meets (fun dt => .timeSet dt m)
      (fun s => AtRequest m 0x0502 12 s ∧ timeOfRaw (s.arg96 m 0) = some v) s) ∧
  (∃ m e, ∃ s : State, Meets (fun dt => .actWrite dt m)
      (fun s =>
      let i := if s.arg m 0 = 0xFFFFFFFF then none else some (s.arg m 0)
      s.waiting .actBusy (worldOf m) = false ∧ AtRequest m 0x0601 36 s ∧ (s.arg m 0 < 256 ∨ s.arg m 0 = 0xFFFFFFFF) ∧
      (s.actCommand (worldOf m) i (s.entryArgs m 1)).1 = 0 ∧ (s.actCommand (worldOf m) i (s.entryArgs m 1)).2.2.1 = e) s) ∧
  (∃ m, ∃ s : State, Meets (fun dt => .actRead dt m)
      (fun s => s.waiting .actBusy (worldOf m) = false ∧ AtRequest m 0x0602 4 s ∧ s.arg m 0 < 256 ∧
      s.actWorld (s.arg m 0) = worldOf m) s) ∧
  (∃ m, ∃ s : State, Meets (fun dt => .actCancel dt m)
      (fun s => s.waiting .actBusy (worldOf m) = false ∧ AtRequest m 0x0603 4 s ∧ s.arg m 0 < 256 ∧
      s.actWorld (s.arg m 0) = worldOf m ∧
      (actCmd (worldOf m) 3 (s.arg m 0) 0 s).fld (Fld.TIME_ACT_STAT_RESULT (worldOf m)) = resOk) s) ∧
  (∃ m, ∃ s : State, Meets (fun dt => .actBroadcast dt m)
      (fun s => s.waiting .actBusy (worldOf m) = false ∧ AtRequest m 0x0604 40 s ∧ s.arg m 0 < 16 ∧ 1 ≤ s.arg m 1 ∧
      s.arg m 1 ≤ 15 ∧ (s.actCommand (worldOf m) none (s.entryArgs m 2)).1 = 0) s) :=
  ⟨⟨7, mail 7 0x0101 [] up, by decide⟩,
   ⟨7, mail 7 0x0102 [7, 1000, 1] up, by decide⟩,
   ⟨7, mail 7 0x0103 [7] (up.setFld (leafField 7) 1), by decide⟩,
   ⟨7, mail 7 0x0104 [7] (up.setFld (leafField 7) 6), by decide⟩,
   ⟨7, 1, mail 7 0x0105 [1, Reg.PORT_MODE 0, 9] up, by decide⟩,
   ⟨0, mail 0 0x0501 [] up, by decide⟩,
   ⟨7, 0, mail 7 0x0502 [0, 0, 0] up, by decide⟩,
   ⟨7, 0, mail 7 0x0601 (0 :: entryWords) up, by decide⟩,
   ⟨7, mail 7 0x0602 [15] up, by decide⟩,
   ⟨7, { mail 7 0x0603 [0] up with acts := [(0, { words := timeWords (up.now + secU) ++ [0xF000D#32, 0#32, 0#32, 0#32, 0#32], state := .pending })] }, by decide⟩,
   ⟨7, mail 7 0x0604 ([15, 15] ++ entryWords) up, by decide⟩⟩

theorem witness_ParameterRequestsComplete :
  (∃ m, ∃ s : State, Meets (fun dt => .paramGet dt m)
      (fun s => AtRequest m 0x0201 4 s ∧ (worldOf m = 0 → s.keySecure (s.arg m 0) = false) ∧ s.keyAbsent (s.arg m 0) = false ∧
      (paramSpec (s.arg m 0)).isSome = true) s) ∧
  (∃ m p, ∃ s : State, Meets (fun dt => .paramStage dt m)
      (fun s =>
      let (i, k) := (s.arg m 0, s.arg m 1)
      AtRequest m 0x0202 16 s ∧ (worldOf m = 0 → s.keySecure k = false) ∧ s.psetForeign i (worldOf m) = false ∧
      s.keyAbsent k = false ∧ paramSpec k = some p ∧ i < 16 ∧ p.inRange (paramValue p (s.arg m 2) (s.arg m 3)) = true ∧
      s.setLocked i = false ∧ ((s.pset i).entries.length < 512 ∨ (kfind (s.pset i).entries k).isSome = true)) s) ∧
  (∃ m, ∃ s : State, Meets (fun dt => .paramCommit dt m)
      (fun s => s.waiting .actBusy (worldOf m) = false ∧ AtRequest m 0x0203 28 s ∧ s.arg m 1 = 0 ∧ s.arg m 0 < 16 ∧
      s.psetForeign (s.arg m 0) (worldOf m) = false ∧ (s.commitStaged (s.arg m 0) (s.arg64 m 5) false).1 = none) s) ∧
  (∃ m e t, ∃ s : State, Meets (fun dt => .paramCommit dt m)
      (fun s => s.waiting .actBusy (worldOf m) = false ∧ AtRequest m 0x0203 28 s ∧ s.arg m 1 = 1 ∧ s.arg m 0 < 16 ∧
      s.psetForeign (s.arg m 0) (worldOf m) = false ∧ timeOfRaw (s.arg96 m 2) = some t ∧
      (s.actRequest (worldOf m) none (s.commitEntry m)).1 = 0 ∧ (s.actRequest (worldOf m) none (s.commitEntry m)).2.2.1 = e) s) ∧
  (∃ m, ∃ s : State, Meets (fun dt => .paramDiscard dt m)
      (fun s => AtRequest m 0x0204 4 s ∧ s.psetForeign (s.arg m 0) (worldOf m) = false ∧ s.arg m 0 < 16 ∧
      s.setLocked (s.arg m 0) = false) s) ∧
  (∃ m, ∃ s : State, worldOf m = 1 ∧ Meets (fun dt => .paramList dt m)
      (fun s => AtRequest m 0x0205 8 s ∧ s.arg m 0 < 256) s) ∧
  (∃ m, ∃ s : State, Meets (fun dt => .paramStatus dt m)
      (fun s => AtRequest m 0x0206 4 s ∧ s.psetForeign (s.arg m 0) (worldOf m) = false ∧ s.arg m 0 < 16) s) :=
  ⟨⟨7, mail 7 0x0201 [pkey 10 0 1] up, by decide⟩,
   by
      exact stage_case 7 (mail 7 0x0202 [15, pkey 10 0 1, 1, 0] up) (by decide),
   ⟨7, mail 7 0x0203 [15, 0, 0, 0, 0, 0, 0] up, by decide⟩,
   ⟨7, 0, 200 * secU, mail 7 0x0203 ([15, 1] ++ (timeWords (200 * secU)).map (·.toNat) ++ [0, 0]) up, by decide⟩,
   ⟨7, mail 7 0x0204 [15] up, by decide⟩,
   ⟨7, mail 7 0x0205 [255, 0] up, by decide⟩,
   ⟨7, mail 7 0x0206 [15] up, by decide⟩⟩

theorem witness_TableAndPortRequestsComplete :
  (∃ m, ∃ s : State, worldOf m = 1 ∧ Meets (fun dt => .tableOp dt m)
      (fun s =>
      let ctrl := s.arg m 1
      let l := s.maskLeaves (s.arg m 0)
      s.tablesIdle 1 = true ∧ AtRequest m 0x0301 48 s ∧ (∀ n ∈ l, s.leafOn n = true) ∧ l ≠ [] ∧ s.arg m 0 < 256 ∧
      ctrlOk ctrl = true ∧ (ctrl / 2 ^ 24 % 16 = 1 ∨ ctrl / 2 ^ 24 % 16 = 5 → l.length ≤ 1) ∧ s.groupHeld (s.arg m 2) = false) s) ∧
  (∃ m, ∃ s : State, worldOf m = 1 ∧ Meets (fun dt => .tableFlushPort dt m)
      (fun s =>
      let l := s.maskLeaves (s.arg m 0)
      AtRequest m 0x0302 12 s ∧ s.isPort (s.arg m 1) = true ∧ (∀ n ∈ l, s.leafOn n = true ∧ s.tableRefuses n 0 = false) ∧
      l ≠ [] ∧ s.arg m 0 < 256 ∧ s.arg m 2 ≤ 1) s) ∧
  (∃ m, ∃ s : State, worldOf m = 1 ∧ Meets (fun dt => .bankCopy dt m)
      (fun s =>
      let l := s.maskLeaves (s.arg m 0)
      AtRequest m 0x0303 8 s ∧ (∀ n ∈ l, s.leafOn n = true ∧
        ∀ i ∈ copyPairs (s.arg m 1), s.tableRefuses n (bankTable i (1 - s.bankBit n i)) = false) ∧
      l ≠ [] ∧ s.arg m 0 < 256 ∧ s.arg m 1 < 8) s) ∧
  (∃ m, ∃ s : State, worldOf m = 1 ∧ Meets (fun dt => .portMode dt m)
      (fun s =>
      let p := s.arg m 0
      AtRequest m 0x0401 12 s ∧ s.laneExists p = true ∧ (s.portOfLane p = none ∨ s.portOfLane p = some p) ∧
      s.dieOn p = true ∧ s.modeRefused p (s.arg m 1) (s.arg m 2) = false) s) ∧
  (∃ m, ∃ s : State, worldOf m = 1 ∧ Meets (fun dt => .portAdmin dt m)
      (fun s => AtRequest m 0x0402 8 s ∧ s.isPort (s.arg m 0) = true ∧ s.dieOn (s.arg m 0) = true ∧ s.arg m 1 ≤ 1) s) ∧
  (∃ m present, ∃ s : State, worldOf m = 1 ∧ Meets (fun dt => .portStatus dt m present)
      (fun s => AtRequest m 0x0403 4 s ∧ s.isPort (s.arg m 0) = true ∧ s.arg m 0 < 258 ∧ s.dieOn (s.arg m 0) = true) s) ∧
  (∃ m sff data, ∃ s : State, worldOf m = 1 ∧ Meets (fun dt => .moduleRead dt m true sff (some data))
      (fun s => AtRequest m 0x0404 20 s ∧ s.isPort (s.arg m 0) = true ∧ s.arg m 0 < 256 ∧ s.dieOn (s.arg m 0) = true ∧
      s.arg m 1 < 256 ∧ s.arg m 2 < 256 ∧ s.arg m 3 + s.arg m 4 ≤ 256 ∧ 1 ≤ s.arg m 4 ∧ s.arg m 4 ≤ 128 ∧
      (sff = true → s.arg m 1 = 0)) s) ∧
  (∃ m sff n, ∃ s : State, worldOf m = 1 ∧ Meets (fun dt => .moduleWrite dt m true sff true)
      (fun s => AtRequest m 0x0405 (20 + n) s ∧ s.isPort (s.arg m 0) = true ∧ s.arg m 0 < 256 ∧ s.dieOn (s.arg m 0) = true ∧
      s.arg m 1 < 256 ∧ s.arg m 2 < 256 ∧ s.arg m 3 + n ≤ 256 ∧ s.arg m 4 = n ∧ 1 ≤ n ∧ n ≤ 128 ∧ (sff = true → s.arg m 1 = 0)) s) ∧
  (∃ p, ∃ s : State, p < 256 ∧ Meets (fun dt => .moduleReady dt p)
      (fun s => s.fwRuns = true ∧ s.namesPort p = true ∧ s.dieOn p = true) s) ∧
  (∃ m x, ∃ s : State, Meets (fun dt => .lldpNeighbour dt m)
      (fun s => AtRequest m 0x0406 4 s ∧ s.namesPort (s.arg m 0) = true ∧ kfind s.neighbours (s.arg m 0) = some x) s) :=
  ⟨⟨7, mail 7 0x0301 [255, 0, 0, 0, 0, 0, 0, 0, 0, 0, 0, 0] up, by decide⟩,
   ⟨7, mail 7 0x0302 [255, 0, 1] (lane 0 9 5 up), by decide⟩,
   ⟨7, mail 7 0x0303 [255, 7] up, by decide⟩,
   ⟨7, mail 7 0x0401 [0, 9, 0] up, by decide⟩,
   ⟨7, mail 7 0x0402 [255, 1] (lane 255 9 5 up), by decide⟩,
   ⟨7, true, mail 7 0x0403 [255] (lane 255 9 5 up), by decide⟩,
   ⟨7, false, [], mail 7 0x0404 [255, 255, 255, 128, 128] (lane 255 9 5 up), by decide⟩,
   ⟨7, true, 4, mail 7 0x0405 [255, 0, 255, 252, 4, 0] (lane 255 9 5 up), by decide⟩,
   ⟨255, lane 255 9 5 up, by decide⟩,
   ⟨7, ⟨0, 120, [], [], []⟩, { mail 7 0x0406 [255] (lane 255 9 5 up) with neighbours := [(255, ⟨0, 120, [], [], []⟩)] }, by decide⟩⟩

theorem witness_ClockAndPowerRequestsComplete :
  (∃ m, ∃ s : State, worldOf m = 1 ∧ Meets (fun dt => .refStatus dt m)
      (AtRequest m 0x0701 0) s) ∧
  (∃ m, ∃ s : State, worldOf m = 1 ∧ Meets (fun dt => .dpllStatus dt m)
      (fun s => AtRequest m 0x0801 4 s ∧ s.arg m 0 < 3) s) ∧
  (∃ m, ∃ s : State, worldOf m = 1 ∧ Meets (fun dt => .dpllReturn dt m)
      (fun s => AtRequest m 0x0802 8 s ∧ s.arg m 0 < 3 ∧ 1 ≤ s.arg m 1 ∧ s.arg m 1 ≤ 3 ∧
      s.on (Fld.DPLL_STAT_RETURN_PENDING (s.arg m 0)) = true) s) ∧
  (∃ m, ∃ s : State, worldOf m = 1 ∧ Meets (fun dt => .synStatus dt m)
      (AtRequest m 0x0901 0) s) ∧
  (∃ m, ∃ s : State, worldOf m = 1 ∧ Meets (fun dt => .gnssStatus dt m)
      (AtRequest m 0x0A01 0) s) ∧
  (∃ m, ∃ s : State, worldOf m = 1 ∧ Meets (fun dt => .gnssSurvey dt m)
      (AtRequest m 0x0A02 0) s) ∧
  (∃ m, ∃ s : State, worldOf m = 1 ∧ Meets (fun dt => .claimStatus dt m)
      (fun s => AtRequest m 0x0B01 4 s ∧ s.arg m 0 < 16) s) ∧
  (∃ m, ∃ s : State, worldOf m = 1 ∧ Meets (fun dt => .claimNotice dt m)
      (fun s =>
      let (d, op, x) := (s.arg m 0, s.arg m 1, s.arg m 2)
      AtRequest m 0x0B02 12 s ∧ d < 16 ∧ (op = 1 ∨ op = 2) ∧ (x = s.peer d 0 ∨ x = s.peer d 1) ∧ 2 ≤ s.role d) s) ∧
  (∃ m, ∃ s : State, worldOf m = 1 ∧ Meets (fun dt => .powerStatus dt m)
      (AtRequest m 0x0C01 0) s) ∧
  (∃ m data n, ∃ s : State, worldOf m = 1 ∧ n ≤ 32 ∧ Meets (fun dt => .pmbusXfer dt m (some data))
      (fun s => AtRequest m 0x0C02 (20 + n) s ∧ s.arg m 0 < 128 ∧ s.arg m 1 < 256 ∧ s.arg m 2 < 256 ∧ s.arg m 3 = n ∧
      s.arg m 4 ≤ 32) s) ∧
  (∃ m, ∃ s : State, worldOf m = 1 ∧ Meets (fun dt => .snapshot dt m)
      (fun s => AtRequest m 0x0F01 12 s ∧ s.actValid 0x02 (s.arg m 0) (s.arg64 m 1) = true ∧ s.snapOpen = true) s) ∧
  (∃ m, ∃ s : State, worldOf m = 1 ∧ Meets (fun dt => .freeze dt m)
      (fun s => AtRequest m 0x0F02 4 s ∧ s.arg m 0 ≤ 1) s) ∧
  (∃ m, ∃ s : State, worldOf m = 1 ∧ Meets (fun dt => .userWindow dt m)
      (fun s => AtRequest m 0x0F03 8 s ∧ s.arg64 m 0 < 32) s) :=
  ⟨⟨7, mail 7 0x0701 [] up, by decide⟩,
   ⟨7, mail 7 0x0801 [2] up, by decide⟩,
   ⟨7, mail 7 0x0802 [2, 3] (up.setFld (Fld.DPLL_STAT_RETURN_PENDING 2) 1), by decide⟩,
   ⟨7, mail 7 0x0901 [] up, by decide⟩,
   ⟨7, mail 7 0x0A01 [] up, by decide⟩,
   ⟨7, mail 7 0x0A02 [] up, by decide⟩,
   ⟨7, mail 7 0x0B01 [15] up, by decide⟩,
   ⟨7, mail 7 0x0B02 [15, 2, 4095] ((up.setFld (Fld.CLM_DOM_CFG_ROLE 15) 2).setFld (Fld.CLM_DOM_PEERS_PEER1 15) 4095), by decide⟩,
   ⟨7, mail 7 0x0C01 [] up, by decide⟩,
   ⟨7, [], 4, mail 7 0x0C02 [127, 255, 255, 4, 32, 0] up, by decide⟩,
   ⟨7, mail 7 0x0F01 [511, 63, 0] up, by decide⟩,
   ⟨7, mail 7 0x0F02 [1] up, by decide⟩,
   ⟨7, mail 7 0x0F03 [31, 0] up, by decide⟩⟩

theorem witness_ImageAndCalibrationRequestsComplete :
  (∃ m, ∃ s : State, Meets (fun dt => .flashErase dt m true)
      (fun s => AtRequest m 0x0D01 12 s ∧ s.arg m 0 < 2 ∧ s.arg m 1 % 4096 = 0 ∧ s.arg m 2 % 4096 = 0 ∧
      s.arg m 1 + s.arg m 2 ≤ slotBytes ∧ s.slotRuns (s.arg m 0) = false) s) ∧
  (∃ m n, ∃ s : State, n % 4 = 0 ∧ 4 ≤ n ∧ n ≤ 4064 ∧ Meets (fun dt => .flashWrite dt m true)
      (fun s => AtRequest m 0x0D02 (8 + n) s ∧ s.arg m 0 < 2 ∧ s.arg m 1 + n ≤ slotBytes ∧ s.slotRuns (s.arg m 0) = false) s) ∧
  (∃ m, ∃ s : State, Meets (fun dt => .flashRead dt m true)
      (fun s => AtRequest m 0x0D03 12 s ∧ s.arg m 0 < 2 ∧ 4 ≤ s.arg m 2 ∧ s.arg m 2 ≤ 4072 ∧ s.arg m 1 + s.arg m 2 ≤ slotBytes) s) ∧
  (∃ m, ∃ s : State, Meets (fun dt => .imageCheck dt m true)
      (fun s => AtRequest m 0x0D04 4 s ∧ s.arg m 0 < 2) s) ∧
  (∃ m, ∃ s : State, Meets (fun dt => .imageActivate dt m true)
      (fun s => AtRequest m 0x0D05 4 s ∧ s.arg m 0 < 2 ∧ s.boot.activate = none ∧ s.bootState ≠ bootUpdating) s) ∧
  (∃ m, ∃ s : State, Meets (fun dt => .secStatus dt m)
      (AtRequest m 0x0E01 0) s) ∧
  (∃ m, ∃ s : State, Meets (fun dt => .warmReset dt m)
      (fun s => s.due .warmCmd 0 = false ∧ AtRequest m 0x0E02 0 s ∧ s.running .warmCmd 0 = false) s) ∧
  (∃ m, ∃ s : State, Meets (fun dt => .warmReset dt m)
      (fun s => s.due .warmCmd 0 = true) s) ∧
  (∃ m, ∃ s : State, worldOf m = 1 ∧ Meets (fun dt => .calRun dt m)
      (fun s => AtRequest m 0x1001 8 s ∧ s.calAbsent (s.arg m 0) (s.arg m 1) = false ∧
      s.calUnpowered (s.arg m 0) (s.arg m 1) = false ∧ s.calRefusal (s.arg m 0) (s.arg m 1) = 0) s) ∧
  (∃ m, ∃ s : State, worldOf m = 1 ∧ Meets (fun dt => .bandCal dt m)
      (fun s => AtRequest m 0x0902 4 s ∧ s.arg m 0 < 3 ∧ s.domOn (s.arg m 0) = true ∧ s.apllState (s.arg m 0) < 2 ∧
      s.calRefusal 3 (s.arg m 0) = 0) s) ∧
  (∃ m t0, ∃ s : State, worldOf m = 1 ∧ Meets (fun dt => .calStatus dt m)
      (fun s => AtRequest m 0x1002 8 s ∧ s.calAbsent (s.arg m 0) (s.arg m 1) = false ∧
      s.calKnown (s.arg m 0) (s.arg m 1) = true ∧ kfind s.cal.resAt (calKey (s.arg m 0) (s.arg m 1)) = some t0) s) :=
  ⟨⟨7, mail 7 0x0D01 [1, 0xFFF000, 4096] up, by decide⟩,
   ⟨7, 4, mail 7 0x0D02 [1, 0xFFFFFC, 0] up, by decide⟩,
   ⟨7, mail 7 0x0D03 [1, 0xFFFFFC, 4] up, by decide⟩,
   ⟨7, mail 7 0x0D04 [1] up, by decide⟩,
   ⟨7, mail 7 0x0D05 [1] up, by decide⟩,
   ⟨7, mail 7 0x0E01 [] up, by decide⟩,
   ⟨7, mail 7 0x0E02 [] up, by decide⟩,
   ⟨7, up.startTimer .warmCmd 0 0, by decide⟩,
   ⟨7, mail 7 0x1001 [6, 8] up, by decide⟩,
   ⟨7, mail 7 0x0902 [2] up, by decide⟩,
   ⟨7, 5, { mail 7 0x1002 [6, 8] up with cal := { resAt := [(calKey 6 8, 5)] } }, by decide⟩⟩

theorem witness_CalibrationComplete :
  (∃ src w item inst, ∃ s : State, w < 2 ∧ item < 16 ∧ inst < 512 ∧ Meets (fun dt => .calRequest dt src w item inst)
      (fun s =>
      let t := s.storeRw (Reg.CAL_REQ w) (BitVec.ofNat 32 (2 ^ 31 + item * 2 ^ 24 + inst))
      s.access src (Reg.CAL_REQ w) = .ok ∧ s.on (Fld.CAL_REQ_STAT_BUSY w) = false ∧ t.calRefusal item inst = 0) s) ∧
  (∃ item inst, ∃ s : State, Meets (fun dt => .calSchedule dt item inst)
      (fun s => s.powered = true ∧ s.calKnown item inst = true ∧ s.on (Fld.CAL_ITEM_CFG_PERIOD item) = true ∧
      kget s.cal.dueAt (calKey item inst) 0 + s.fld (Fld.CAL_ITEM_CFG_PERIOD item) * secT ≤ s.ticks) s) ∧
  (∃ r rest, ∃ s : State, Meets (fun dt => .calRunStart dt)
      (fun s => s.powered = true ∧ s.cal.runs.length < 8 ∧ s.cal.queue = r :: rest ∧
      (s.modCal (fun c => { c with queue := rest })).calPrecondition r.item r.inst = 0) s) ∧
  (∃ item inst dac el bands r m e v, ∃ s : State, Meets (fun dt => .calRunComplete dt item inst dac el bands)
      (fun s => s.cal.runs.find? (fun r => r.item == item && r.inst == inst) = some r ∧
      s.calResult r.item r.inst dac el bands = some (m, e, v)) s) ∧
  (∃ m value, ∃ s : State, m < 10 ∧ Meets (fun dt => .monitorConversion dt false m value)
      (fun s => s.monOn (tempInst m) = true ∧ calHas s.cal.runs 6 (tempInst m) = false) s) ∧
  (∃ v mv, ∃ s : State, v < 27 ∧ mv < 65536 ∧ Meets (fun dt => .monitorConversion dt true v (mv : Nat))
      (fun s => s.monOn (voltInst v) = true ∧ calHas s.cal.runs 6 (voltInst v) = false) s) :=
  ⟨⟨.core, 1, 6, 8, up, by decide⟩,
   ⟨6, 8, { up.setFld (Fld.CAL_ITEM_CFG_PERIOD 6) 1 with ticks := 800000000 }, by decide⟩,
   ⟨⟨6, 8, 2, 0⟩, [], { up with cal := { queue := [⟨6, 8, 2, 0⟩] } }, by decide⟩,
   ⟨6, 8, none, none, [], ⟨6, 8, 2, 0⟩, 3, 0, 0, { up with cal := { runs := [⟨6, 8, 2, 0⟩] } }, by decide⟩,
   ⟨9, -40, up, by decide⟩,
   ⟨26, 65535, up, by decide⟩⟩

theorem witness_TelemetryComplete :
  (∃ src on, ∃ s : State, Meets (fun dt => .freezeWrite dt src on)
      (fun s => s.access src Reg.TEL_CTRL = .ok) s) ∧
  (∃ src target, ∃ s : State, target < 512 ∧ Meets (fun dt => .snapReq dt src target)
      (fun s => s.access src Reg.TEL_SNAP_REQ = .ok ∧ groupsOk (s.getWide Reg.TEL_SNAP_MASK0 2) = true ∧ s.snapOpen = true) s) ∧
  (∃ x, ∃ s : State, Meets (fun dt => .snapshotSwap dt)
      (fun s => s.snap = some x) s) ∧
  (∃ src n w, ∃ s : State, n < 8 ∧ bitsOf w 28 2 ≠ 3 ∧ bitsOf w 30 1 = 0 ∧ bitsOf w 31 1 = 1 ∧ Meets (fun dt => .samplerCtrlWrite dt src n 0 w)
      (fun s => s.access src (Reg.SMP_CTRL n) = .ok ∧ s.on (Fld.SMP_CTRL_EN n) = false) s) ∧
  (∃ src n e w, ∃ s : State, n < 8 ∧ 1 ≤ e ∧ e < 4 ∧ ((e = 1 → w ≠ 0#32)) ∧ Meets (fun dt => .samplerCtrlWrite dt src n e w)
      (fun s => s.access src (Reg.SMP_CTRL n + 4 * e) = .ok ∧ s.on (Fld.SMP_CTRL_EN n) = false) s) ∧
  (∃ src n, ∃ s : State, n < 8 ∧ Meets (fun dt => .samplerFlush dt src n)
      (fun s => s.access src (Reg.SMP_CTRL n) = .ok) s) ∧
  (∃ src n r rest, ∃ s : State, n < 8 ∧ Meets (fun dt => .samplerRead dt src n)
      (fun s => s.access src (Reg.SMP_REC n 0) = .ok ∧ (s.die n).recs = r :: rest) s) :=
  ⟨⟨.core, true, up, by decide⟩,
   ⟨.core, 511, up.set Reg.TEL_SNAP_MASK0 63#32, by decide⟩,
   ⟨⟨0, 0, 63, 511, []⟩, { up with snap := some ⟨0, 0, 63, 511, []⟩ }, by decide⟩,
   ⟨.core, 7, 0x80000000#32, up, by decide⟩,
   ⟨.core, 7, 3, 0#32, up, by decide⟩,
   ⟨.core, 7, up, by decide⟩,
   ⟨.core, 7, [1#32], [], up.modDie 7 (fun d => { d with recs := [[1#32]] }), by decide⟩⟩

theorem witness_ServicesComplete :
  (∃ f t, ∃ s : State, Meets (fun dt => .broadcastReceive dt)
      (fun s => s.waiting .actBusy 0 = false ∧ s.fwRuns = true ∧ s.dropUnserved.svcTake 3 = some (f, t)) s) ∧
  (∃ p, ∃ s : State, Meets (fun dt => .lldpTransmit dt p)
      (fun s => s.fwRuns = true ∧ s.svcPort p = true ∧ s.lldpAdmin p % 2 = 1 ∧
      s.passed (kfind s.lldpAt p) (s.lldpEvery * secT) = true) s) ∧
  (∃ f t x, ∃ s : State, Meets (fun dt => .lldpReceive dt)
      (fun s => s.fwRuns = true ∧ s.dropUnserved.svcTake 4 = some (f, t) ∧
      lldpParse (f.bytes.drop (parseFrame true f.bytes).body) t.ticks = some x ∧ 2 ≤ t.lldpAdmin f.inPort) s) ∧
  (∃ p x, ∃ s : State, Meets (fun dt => .lldpTtlExpiry dt p)
      (fun s => s.fwRuns = true ∧ kfind s.neighbours p = some x ∧ x.at_ + x.ttl * secT ≤ s.ticks) s) ∧
  (∃ f t, ∃ s : State, Meets (fun dt => .snoopReport dt)
      (fun s => s.fwRuns = true ∧ s.dropUnserved.svcTake 5 = some (f, t)) s) ∧
  (∃ vid v6, ∃ s : State, vid < 4096 ∧ Meets (fun dt => .snoopQuery dt vid v6)
      (fun s => s.fwRuns = true ∧ s.snoopItem 1 = 1 ∧ s.snoopItem 2 = 1 ∧ (s.vlanAny vid).snoops = true ∧
      s.passed (kfind s.snoop.queryAt (vid * 2 + (if v6 then 1 else 0))) (s.snoopItem 3 * secT) = true) s) ∧
  (∃ x, ∃ s : State, Meets (fun dt => .snoopMemberTimeout dt)
      (fun s => s.fwRuns = true ∧ x ∈ s.snoop.members ∧ x.heard + s.snoopItem 4 * secT ≤ s.ticks) s) :=
  ⟨by
      obtain ⟨f, t, s, h, hs⟩ := svc_case 3 (at259 bcFrame up) (fun s => s.waiting .actBusy 0 = false ∧ s.fwRuns = true) (by decide) (by decide)
      exact ⟨f, t, s, h.1, h.2, hs⟩,
   ⟨255, { lane 255 9 5 up with params := [(pkey 0x23 0xFFF 1, 5), (pkey 0x23 255 1, 1)] }, by decide⟩,
   by
      exact lldp_case { at259 lldpIn up with params := [(pkey 0x23 255 1, 2)] } (by decide) (by decide),
   ⟨255, ⟨0, 0, [], [], []⟩, { up with neighbours := [(255, ⟨0, 0, [], [], []⟩)] }, by decide⟩,
   by
      exact svc_case 5 (at259 igmpIn up) (fun s => s.fwRuns = true) (by decide) (by decide),
   ⟨4095, true, { up.setEntry 0 1 4095 { xdata := 2 ^ 16 + 2 ^ 18 + 2 ^ 19 } with params := [(pkey 0x22 0 1, 1), (pkey 0x22 0 2, 1)], ticks := 10 ^ 14 }, by decide⟩,
   ⟨⟨5, false, 0, none, 0, 0⟩, { up with snoop := { members := [⟨5, false, 0, none, 0, 0⟩] }, ticks := 10 ^ 14 }, by decide⟩⟩

/-! ## The statements about the queue, the event controller, the register file and refusals -/

theorem witness_step_front : ({ up with pending := [.movesReset 0, .drillEnd 1 2] } : State).pending = .movesReset 0 :: [.drillEnd 1 2] := rfl
theorem witness_step_idle : State.reset.pending = [] := rfl
theorem witness_step_next : ∃ t, step State.reset = .next t := ⟨_, rfl⟩

theorem witness_frame_address :
    (∀ k, k < 3 → Reg.EVT_STAT ≠ Reg.EVT_RAW k ∧ Reg.EVT_STAT ≠ Reg.EVT_PEND k) ∧ Reg.EVT_STAT ≠ Reg.MSIX_PBA0 ∧
      Reg.EVT_STAT ≠ Reg.MSIX_PBA1 := by decide

theorem witness_fields_beside :
    (Fld.EVT_ROUTE_WORLD 95).lo + (Fld.EVT_ROUTE_WORLD 95).len ≤ 32 ∧ (Fld.EVT_ROUTE_MSIX 95).lo + (Fld.EVT_ROUTE_MSIX 95).len ≤ (Fld.EVT_ROUTE_WORLD 95).lo ∧
      (Fld.EVT_ROUTE_WORLD 95).addr = (Fld.EVT_ROUTE_MSIX 95).addr := by decide
theorem witness_canonical : RegsCanonical State.reset ∧ RegsCanonical (State.reset.set Reg.EVT_STAT 1#32) := by
  refine ⟨⟨rfl, by decide⟩, ⟨by decide, by decide⟩⟩

/-- Bits of each access type in registers of one word. -/
theorem witness_access_types :
    (∃ a r i, rowOf a = some r ∧ r.wide.2 ≤ 1 ∧ i < 32 ∧ (BitVec.ofNat 32 (accMask [.ws] a)).getLsbD i = true) ∧
    (∃ a r i, rowOf a = some r ∧ r.wide.2 ≤ 1 ∧ i < 32 ∧ (BitVec.ofNat 32 (accMask [.wc] a)).getLsbD i = true) ∧
    (∃ a r i, rowOf a = some r ∧ r.wide.2 ≤ 1 ∧ i < 32 ∧ (BitVec.ofNat 32 (accMask [.rw] a)).getLsbD i = true) ∧
    (∃ a r i, rowOf a = some r ∧ r.wide.2 ≤ 1 ∧ i < 32 ∧ (BitVec.ofNat 32 (accMask [.wo] a)).getLsbD i = true) :=
  ⟨⟨0x83004, _, 11, rfl, by decide, by decide, by decide⟩, ⟨0x83004, _, 17, rfl, by decide, by decide, by decide⟩,
   ⟨0x83004, _, 16, rfl, by decide, by decide, by decide⟩, ⟨Reg.IMG_CTRL, _, 31, rfl, by decide, by decide, by decide⟩⟩

/-- A member of four Leaves with nothing else on. -/
def d4off : State := { up with member := .d4, doms := [] }

theorem witness_refused_accesses :
    (d4off.later 0).access .core (Reg.FWD_BANK 0) ≠ .void ∧ (d4off.later 0).access .core 0x100000 = .err 1 ∧
    (d4off.later 0).access .spi (Reg.TIME_ACT_PART) = .err 2 ∧ (d4off.later 0).access .spi 0x20 = .err 3 ∧
    (d4off.later 0).access .spi (Reg.FWD_BANK 4) = .void ∧ (d4off.later 0).reaches .spi = true ∧
    inSpace .spi (Reg.FWD_BANK 4) = true ∧ inSpace .spi 0x20 = true := by decide

theorem witness_first_error : State.reset.fld (Fld.HERR_STAT_KIND 1) = 0 ∧ (State.reset.accessError .pf1 3 0).fld (Fld.HERR_STAT_KIND 1) ≠ 0 := by
  decide

theorem witness_table_refusals :
    (up.startTimer .fwdBusy 15 1).waiting .fwdBusy (2 * 7 + 1) = true ∧
    (up.setFldBit (Fld.FWD_WORLD_SECURE 7) 0 true).fwdSecure 7 0 = true ∧ up.fwdSecure 7 0 = false ∧
    opListed 8 0 false = false ∧ opListed 3 0 false = true ∧ opWrites 3 = true ∧
    (up.setFld (leafField 7) 2).tableRefuses 7 0 = true ∧
    opListed 1 0 true = true ∧ opWrites 1 = false ∧ tableSize 0 = 264192 ∧ tInvalid ∉ [tOk, tKeptHit] := by decide

/-- An invalid field of each kind, at its boundary: port 260, a source beside STAR, ID_MODE 4, GATE 0b11. -/
theorem witness_invalid_fields :
    up.tableRefuses 7 0 = false ∧ opListed 2 0 true = true ∧ opListed 3 5 false = true ∧ opListed 3 6 false = true ∧
    (let e : TEntry := { data := [0, 0, 260] }; tableKind 0 = 0 ∧ e.f 2 14 1 = 0 ∧ 259 < e.f 2 0 14) ∧
    (let e : TEntry := { data := [0, 0, 0, 0, 1], xdata := 2 ^ 13 }; tableKind 5 = 3 ∧ e.f 8 13 1 = 1 ∧ e.w 4 ≠ 0) ∧
    (let e : TEntry := { data := [0, 0, 0, 0, 2 ^ 30] }; tableKind 6 = 4 ∧ 3 < e.f 4 28 3) ∧
    (let e : TEntry := { data := [0, 0, 0, 0, 0, 3 * 2 ^ 26] }; tableKind 7 = 4 ∧ e.f 5 26 2 = 3) := by decide

/-- A VALID MAC entry: address 1, VLAN 1. -/
def macEntry : TEntry := { data := [1, 2 ^ 16, 2 ^ 16], xdata := 0 }
def macStaged : State := up.stageEntry 7 1 macEntry
theorem witness_insert_ok : isHashed 0 = true ∧ (macStaged.tableOp 7 1 3 0 false 0 (macStaged.staged 7 1)).1.code = tOk := by decide
theorem witness_insert_exists :
    let s := (macStaged.tableOp 7 1 3 0 false 0 (macStaged.staged 7 1)).2
    (s.tableOp 7 1 3 0 false 0 (s.staged 7 1)).1.code = tExists := by decide

theorem witness_other_world :
    up.waiting .actBusy 0 = false ∧ up.actWorld 15 ≠ 0 ∧ up.waiting .actBusy 1 = false ∧ up.actWorld 16 ≠ 1 ∧
    ∃ due, kfind ({ up with actCmds := [(1, ⟨3, 16, 8000000⟩)] } : State).actCmds 1 = some ⟨3, 16, due⟩ ∧ due ≤ up.ticks :=
  ⟨by decide, by decide, by decide, by decide, 8000000, rfl, by decide⟩
theorem witness_act_part :
    256 < bitsOf 257#32 0 9 ∧ bitsOf 256#32 0 9 ≤ 256 ∧
    ((armed 255 1 7 1).act 255).state ≠ .free ∧ ¬(255 < (armed 255 1 7 1).fld Fld.TIME_ACT_PART_SECURE_ENTRIES ↔ 255 < bitsOf 256#32 0 9) ∧
    (up.act 16).state = .free := by decide
theorem witness_act_part_taken : ∀ e, e < 256 → ¬(e < up.fld Fld.TIME_ACT_PART_SECURE_ENTRIES ↔ e < bitsOf 256#32 0 9) →
    (up.act e).state = .free := fun _ _ _ => rfl

/-- Capture channel 5 on, both edges, its last edge at instant 0. -/
def capUp (l : List CapStamp) (t : Nat) : State :=
  { (up.setFld (Fld.TIME_CAP_CTRL_EN 5) 1).setFld (Fld.TIME_CAP_CTRL_EDGE 5) 3 with
    caps := [(5, { last := some 0, fifo := l })], ticks := t }
theorem witness_edge_close : ∃ l, ((capUp [] 79).cap 5).last = some l ∧ 79 * tickUnits < l + 100 * nsU := ⟨0, by decide⟩
theorem witness_edge_full : (∀ l, ((capUp (List.replicate 16 ⟨0, true, true⟩) 80).cap 5).last = some l → ¬(80 * tickUnits + 0 < l + 100 * nsU)) ∧
    16 ≤ ((capUp (List.replicate 16 ⟨0, true, true⟩) 80).cap 5).fifo.length := by
  refine ⟨some_all 0 (by decide) (by decide), by decide⟩

theorem witness_edge_both : (∃ l, ((capUp (List.replicate 16 ⟨0, true, true⟩) 79).cap 5).last = some l ∧ 79 * tickUnits < l + 100 * nsU) ∧
    16 ≤ ((capUp (List.replicate 16 ⟨0, true, true⟩) 79).cap 5).fifo.length := ⟨⟨0, by decide⟩, by decide⟩

/-! Clauses of the completion statements that are not themselves about a command. -/

/-- A single pulse that is over at this instant. -/
theorem witness_pulse_over :
    let s : State := { up.setFld (Fld.TIME_PULSE_CTRL_MODE 7) 1 with pulses := [(7, { busyTo := some up.now })] }
    s.fld (Fld.TIME_PULSE_CTRL_MODE 7) = 1 ∧ (s.pulse 7).next = none ∧ (s.pulse 7).busyTo = some up.now := by decide

/-- Commands of the timed-action engine that complete in this cycle, and one that does so in the next. -/
theorem witness_act_complete :
    (let s : State := { (up.set (Reg.TIME_ACT_ENTRY 0 2) 1#32).set (Reg.TIME_ACT_ENTRY 0 3) 0xD#32 with actCmds := [(0, ⟨1, 255, 8000000⟩)] }
     kfind s.actCmds 0 = some ⟨1, 255, 8000000⟩ ∧ 8000000 ≤ s.ticks ∧ s.actWorld 255 = 0 ∧
      s.actWriteResult 255 (s.nowBefore (s.ticks - 8000000)) { words := s.actStaged 0 } = resOk) ∧
    (let s : State := { up with actCmds := [(1, ⟨2, 15, 7999999⟩)] }
     kfind s.actCmds 1 = some ⟨2, 15, 7999999⟩ ∧ 7999999 ≤ s.ticks ∧ s.actWorld 15 = 1) ∧
    (let s : State := { up with actCmds := [(0, ⟨3, 16, 0⟩)], acts := [(16, { state := .pending })] }
     kfind s.actCmds 0 = some ⟨3, 16, 0⟩ ∧ 0 ≤ s.ticks ∧ s.actWorld 16 = 0 ∧ (s.act 16).state = .pending) ∧
    (let s : State := { up with actCmds := [(0, ⟨1, 0, 8000001⟩)] }
     kfind s.actCmds 0 = some ⟨1, 0, 8000001⟩ ∧ s.ticks < 8000001) := by decide

theorem witness_software_taps : (up.setFld (Fld.LANE_CTRL_FFE_SRC 257) 1).on (Fld.LANE_CTRL_FFE_SRC 257) = true := by decide
theorem witness_no_write_this_cycle : ∀ c, (up.die 7).cyc = some c → c.tick ≠ up.ticks := none_all (by decide)

theorem witness_transport_errors :
    (up.set (Reg.MBX_REQ 0 1) 4081#32).transportError 0 = 0xFF01 ∧
    ((up.set (Reg.MBX_REQ 0 1) 4080#32).set (Reg.MBX_REQ 0 2) 1#32).transportError 0 = 0xFF02 ∧
    (mail 0 0x0D06 [] up).transportError 0 = 0xFF03 ∧ (mail 3 0x0D05 [] up).transportError 3 = 0xFF04 ∧
    (mail 4 0x0D05 [1] up).transportError 4 = 0 ∧ ((mail 0 0x0D06 [] up).later 0).fwTakes 0 = true ∧
    ((mail 0 0x0D06 [] up).later 0).transportError 0 ≠ 0 := by decide
theorem witness_reply : (mail 7 0 [] up).mbxQueue.head? = some 7 ∧ (mail 7 0 [] up).mbxQueue.Nodup ∧ (mail 7 0 [] up).boot.activate = none := by
  decide
theorem witness_overrun :
    ((up.setFld (Fld.MBX_STATUS_BUSY 3) 1).later 0).access .spi (Reg.MBX_DOORBELL 3) = .ok ∧
    ((up.setFld (Fld.MBX_STATUS_BUSY 3) 1).later 0).on (Fld.MBX_STATUS_BUSY 3) = true ∧
    ((up.setFld (Fld.MBX_STATUS_RESP_READY 3) 1).later 0).on (Fld.MBX_STATUS_RESP_READY 3) = true := by decide

theorem witness_route : (up.later 0).access .core (Reg.EVT_ROUTE 71) = .ok ∧ secureSrc .core = true ∧ evtFixed 71 = false ∧
    bitsOf 0x80010018#32 31 1 = 1 ∧ bitsOf 0x80010018#32 16 1 = 1 ∧ bitsOf 0x80010018#32 0 5 = 24 ∧ bitsOf 0x10018#32 0 5 = 24 := by decide

/-- A set of one parameter, with a value in its range and one outside. -/
def setOf (x : Int) : State := { up with psets := [(15, { world := 1, entries := [(pkey 10 0 1, x)] })] }
theorem witness_set_fails : krising ((setOf 2).pset 15).entries = true ∧
    ((setOf 2).putParams ((setOf 2).pset 15).entries).keyOk (pkey 10 0 1) = false := by decide
theorem witness_set_commits : krising ((setOf 1).pset 15).entries = true ∧
    ((setOf 1).putParams ((setOf 1).pset 15).entries).keyOk (pkey 10 0 1) = true := by decide

end Sys2Proof.Tests
end

section
/-!
PROOFS. The scope's statements (R8, R9, R6, R33, R35, R41, R380): the register file and writes by access types, the accesses that
the checks refuse, and the commands that access registers.
-/
namespace Sys2Proof.Machine

/-! ## The field masks of a register -/

/-- Whether the fields of a list stand beside each other, none over another's bits. -/
def fieldsApart (fs : List FieldSpec) : Bool :=
  fs.all (fun f => decide (f.lo ≤ f.hi)) && decide (fs.Pairwise (fun f g => f.hi < g.lo ∨ g.hi < f.lo))

/-- The bits that the fields of some access types cover: `accMask` of a row with these fields. -/
def fieldMask (acc : List Acc) : List FieldSpec → Nat
  | [] => 0
  | f :: fs => (if acc.contains f.acc then 2 ^ (f.hi + 1) - 2 ^ f.lo else 0) + fieldMask acc fs

/-- Whether some field of some access types covers bit i. -/
def fieldAt (acc : List Acc) (fs : List FieldSpec) (i : Nat) : Bool :=
  fs.any (fun f => acc.contains f.acc && (decide (f.lo ≤ i) && decide (i ≤ f.hi)))

theorem foldl_add_eq_fieldMask (acc : List Acc) (fs : List FieldSpec) (m : Nat) :
    fs.foldl (fun m f => if acc.contains f.acc then m + (2 ^ (f.hi + 1) - 2 ^ f.lo) else m) m = m + fieldMask acc fs := by
  induction fs generalizing m with
  | nil => rfl
  | cons f fs ih =>
    rw [List.foldl_cons, ih, fieldMask]
    split <;> omega

theorem accMask_eq_fieldMask {a : Nat} {r : RegRow} (acc : List Acc) (h : rowOf a = some r) :
    accMask acc a = fieldMask acc r.fields := by
  simp only [accMask, h]
  rw [foldl_add_eq_fieldMask, Nat.zero_add]

/-- The bits from lo to hi are a run of ones. -/
theorem bitRun_testBit {lo hi : Nat} (h : lo ≤ hi) (i : Nat) :
    (2 ^ (hi + 1) - 2 ^ lo).testBit i = (decide (lo ≤ i) && decide (i ≤ hi)) := by
  have hrun : 2 ^ (hi + 1) - 2 ^ lo = 2 ^ lo * (2 ^ (hi + 1 - lo) - 1) := by
    rw [Nat.mul_sub, ← pow_add, Nat.add_sub_cancel' (by omega), Nat.mul_one]
  rw [hrun, Nat.testBit_two_pow_mul, Nat.testBit_two_pow_sub_one, ← Bool.decide_and, ← Bool.decide_and]
  exact decide_eq_decide.2 (by omega)

/-- Fields that stand apart add up without a carry, so a bit of the mask is a bit of one of them. -/
theorem fieldMask_getLsbD (acc : List Acc) {fs : List FieldSpec} (h : fieldsApart fs = true) (i : Nat) :
    (BitVec.ofNat 32 (fieldMask acc fs)).getLsbD i = (decide (i < 32) && fieldAt acc fs i) := by
  induction fs generalizing i with
  | nil => simp [fieldMask, fieldAt]
  | cons f fs ih =>
    simp only [fieldsApart, List.all_cons, List.pairwise_cons, Bool.and_eq_true, decide_eq_true_eq] at h ih
    obtain ⟨⟨hle, hall⟩, hapart, hpair⟩ := h
    have hrest := ih ⟨hall, hpair⟩
    rw [fieldMask]
    by_cases hacc : acc.contains f.acc = true
    · have hrun (j : Nat) : (BitVec.ofNat 32 (2 ^ (f.hi + 1) - 2 ^ f.lo)).getLsbD j =
          (decide (j < 32) && (decide (f.lo ≤ j) && decide (j ≤ f.hi))) := by
        rw [BitVec.getLsbD_ofNat, bitRun_testBit hle]
      have hand : BitVec.ofNat 32 (2 ^ (f.hi + 1) - 2 ^ f.lo) &&& BitVec.ofNat 32 (fieldMask acc fs) = 0#32 := by
        apply BitVec.eq_of_getLsbD_eq
        intro j hj
        rw [BitVec.getLsbD_and, hrun, hrest, BitVec.getLsbD_zero, fieldAt, ← Bool.not_eq_true]
        simp only [Bool.and_eq_true, decide_eq_true_eq, List.any_eq_true]
        rintro ⟨⟨-, hlo, hhi⟩, -, g, hg, -, hglo, hghi⟩
        have := hapart g hg
        omega
      rw [if_pos hacc, BitVec.ofNat_add, BitVec.add_eq_or_of_and_eq_zero _ _ hand, BitVec.getLsbD_or, hrun, hrest, fieldAt,
        fieldAt, List.any_cons, hacc, Bool.true_and, ← Bool.and_or_distrib_left]
    · rw [if_neg hacc, Nat.zero_add, hrest, fieldAt, fieldAt, List.any_cons, Bool.eq_false_iff.2 hacc, Bool.false_and,
        Bool.false_or]

theorem fieldAt_append (l l' : List Acc) (fs : List FieldSpec) (i : Nat) :
    fieldAt (l ++ l') fs i = (fieldAt l fs i || fieldAt l' fs i) := by
  induction fs with
  | nil => rfl
  | cons f fs ih =>
    simp only [fieldAt, List.any_cons] at ih ⊢
    rw [ih, List.contains_append]
    grind

/-! ## The rows of the map -/

theorem spineRows_fieldsApart (hi : Nat) : (spineRows hi).all (fun r => fieldsApart r.fields) = true := by
  unfold spineRows
  split <;> decide

theorem leafRows_fieldsApart (off : Nat) : (leafRows off).all (fun r => fieldsApart r.fields) = true := by
  unfold leafRows
  repeat' split
  all_goals decide

theorem rows_pf1_fieldsApart : rows_pf1.all (fun r => fieldsApart r.fields) = true := by decide

theorem findRow_mem {rows : List RegRow} {a : Nat} {r : RegRow} (h : findRow rows a = some r) : r ∈ rows :=
  List.mem_of_find?_eq_some h

/-- The fields of every register stand apart (R8). -/
theorem rowOf_fieldsApart {a : Nat} {r : RegRow} (h : rowOf a = some r) : fieldsApart r.fields = true := by
  unfold rowOf at h
  split at h
  · exact List.all_eq_true.1 (spineRows_fieldsApart _) r (findRow_mem h)
  · split at h
    · exact List.all_eq_true.1 (leafRows_fieldsApart _) r (findRow_mem h)
    · split at h
      · exact List.all_eq_true.1 rows_pf1_fieldsApart r (findRow_mem h)
      · cases h

/-- A bit of an access mask is a bit of one of the register's fields of those types (R9). -/
theorem accMask_getLsbD (acc : List Acc) {a : Nat} {r : RegRow} (h : rowOf a = some r) {i : Nat} (hi : i < 32) :
    (BitVec.ofNat 32 (accMask acc a)).getLsbD i = fieldAt acc r.fields i := by
  rw [accMask_eq_fieldMask acc h, fieldMask_getLsbD acc (rowOf_fieldsApart h), decide_eq_true hi, Bool.true_and]

/-- A bit of a mask of more access types is a bit of one of their masks. -/
theorem accMask_append_getLsbD (l l' : List Acc) {a : Nat} {r : RegRow} (h : rowOf a = some r) {i : Nat} (hi : i < 32) :
    (BitVec.ofNat 32 (accMask (l ++ l') a)).getLsbD i =
      ((BitVec.ofNat 32 (accMask l a)).getLsbD i || (BitVec.ofNat 32 (accMask l' a)).getLsbD i) := by
  simp only [accMask_getLsbD _ h hi, fieldAt_append]

/-! ## Fields of a word, and bits of a field -/

/-- A word written leaves the fields of other words. -/
theorem State.fld_set_ne (s : State) {b : Nat} (w : Word) {g : FRef} (h : g.addr ≠ b) : (s.set b w).fld g = s.fld g := by
  simp only [State.fld, State.get_set_ne s w h]

/-- A field written leaves every field beside it as it was, in its word or in another. -/
theorem State.fld_setFld_beside (s : State) (f g : FRef) (v : Nat) (h : f.lo + f.len ≤ 32)
    (hd : g.addr ≠ f.addr ∨ g.lo + g.len ≤ f.lo ∨ f.lo + f.len ≤ g.lo) : (s.setFld f v).fld g = s.fld g := by
  by_cases ha : g.addr = f.addr
  · have hd := hd.resolve_left (not_not_intro ha)
    simp only [State.fld, State.setFld, ha, State.get_set_same]
    exact bitsOf_withBits_ne _ _ _ _ _ _ h hd
  · exact State.fld_setFld_ne s f g v ha

theorem State.fldBit_eq_testBit (s : State) (f : FRef) (i : Nat) : s.fldBit f i = (s.fld f).testBit i := by
  rw [State.fldBit, Nat.testBit_eq_decide_div_mod_eq]
  rfl

/-- A bit of a field written reads its value; the field's other bits stay. -/
theorem State.fldBit_setFldBit (s : State) (f : FRef) (b : Bool) {i j : Nat} (h : f.lo + f.len ≤ 32) (hi : i < f.len)
    (hj : j < f.len) : (s.setFldBit f i b).fldBit f j = if j = i then b else s.fldBit f j := by
  simp only [State.fldBit_eq_testBit, State.fld, State.setFldBit, State.setFld, State.get_set_same, bitsOf_testBit,
    decide_eq_true hj, Bool.true_and]
  rw [withBits_testBit _ _ _ _ _ (by omega)]
  by_cases hij : j = i
  · subst hij
    rw [if_pos (by omega), if_pos rfl, show j + f.lo - (f.lo + j) = 0 by omega]
    cases b <;> rfl
  · rw [if_neg (by omega), if_neg hij]

/-- A saturating count reads the sum, or its largest value. -/
theorem State.fld_bump (s : State) (f : FRef) (n : Nat) (h : f.lo + f.len ≤ 32) :
    (s.bump f n).fld f = min (s.fld f + n) (2 ^ f.len - 1) := by
  have := Nat.two_pow_pos f.len
  rw [State.bump, State.fld_setFld_same s f _ h, sat, Nat.mod_eq_of_lt (by omega)]

/-! ## Writes by access types -/

/-- What a write of a one-word register by its access types leaves there. -/
theorem plainWrite_get (a : Nat) (w : Word) (s : State) {r : RegRow} (h : rowOf a = some r) (hr : r.wide.2 ≤ 1) :
    (plainWrite a w s).get a =
      (((s.get a &&& ~~~(BitVec.ofNat 32 (accMask [.rw, .wo] a))) ||| (w &&& BitVec.ofNat 32 (accMask [.rw] a))) &&&
        ~~~(w &&& BitVec.ofNat 32 (accMask [.wc] a))) ||| (w &&& BitVec.ofNat 32 (accMask [.ws] a)) := by
  simp only [plainWrite, h, if_pos hr, State.get_set_same]

/-- Settles O52: the laws of the register file, and a write by access types bit by bit. -/
theorem registerFileLaws : Obligations.RegisterFileLaws := by
  refine ⟨fun s a w b => ?_, fun s f g v h => ⟨State.fld_setFld_same s f v h, State.fld_setFld_beside s f g v h⟩,
    fun s a w => regsCanonical_set a w, fun s a w r i h hr hi => ?_⟩
  · split
    · next hb => rw [hb, State.get_set_same]
    · next hb => exact State.get_set_ne s w hb
  · have hsplit := accMask_append_getLsbD [.rw] [.wo] h hi
    simp only [List.cons_append, List.nil_append] at hsplit
    simp only [plainWrite_get a w s h hr, BitVec.getLsbD_or, BitVec.getLsbD_and, BitVec.getLsbD_not, decide_eq_true hi,
      Bool.true_and, hsplit]
    grind

/-! ## What each outcome of the checks makes of an access -/

theorem State.writeAt_err {s : State} {src : Src} {a k : Nat} (w : Word) (took : Nat) (fault : Bool)
    (h : s.access src a = .err k) : s.writeAt src a w took fault = s.accessError src k a := by simp [State.writeAt, h]

theorem State.writeAt_void {s : State} {src : Src} {a : Nat} (w : Word) (took : Nat) (fault : Bool)
    (h : s.access src a = .void) : s.writeAt src a w took fault = s := by simp [State.writeAt, h]

theorem State.readAt_err {s : State} {src : Src} {a k : Nat} (h : s.access src a = .err k) :
    s.readAt src a = (s.accessError src k a).emit (.readData src [0#32]) := by simp [State.readAt, h]

theorem State.readAt_void {s : State} {src : Src} {a : Nat} (h : s.access src a = .void) :
    s.readAt src a = s.emit (.readData src [0#32]) := by simp [State.readAt, h]

/-- A write with every byte enable is the write of R380; so is one that the checks make void. -/
theorem exec_registerWrite_writeAt (dt : Nat) (src : Src) (a : Nat) (w : Word) (be : Bool) (took : Nat) (fault : Bool)
    (s : State) (h : be = true ∨ (s.later dt).access src (viewAddr src a) = .void) :
    exec (.registerWrite dt src a w be took fault) s =
      .next (s.after dt (fun u => u.writeAt src (viewAddr src a) w took fault)) :=
  effect_eq (if_pos (by simpa using h))

/-- A write without every byte enable is an error of kind 0, if the Leaf is present (R8). -/
theorem exec_registerWrite_byteEnables (dt : Nat) (src : Src) (a : Nat) (w : Word) (took : Nat) (fault : Bool) (s : State)
    (h : (s.later dt).access src (viewAddr src a) ≠ .void) :
    exec (.registerWrite dt src a w false took fault) s =
      .next (s.after dt (fun u => u.accessError src 0 (viewAddr src a))) :=
  effect_eq (if_neg (by simpa using h))

/-- A read over a path that is up, of an address its source has, is the read of that address. -/
theorem exec_wideValueRead_readAt (dt : Nat) (src : Src) (a : Nat) (s : State) (hr : (s.later dt).reaches src = true)
    (hs : inSpace src a = true) :
    exec (.wideValueRead dt src a) s = .next (s.after dt (fun u => u.readAt src (viewAddr src a))) :=
  effect_eq (onlyIf_true _ _ (by simp [hr, hs]))

/-! ## The record of an access error (R380) -/

/-- The state with what an access error leaves of its source and address: latched by the first one since every KIND bit was
clear, else only MULTI set. -/
def State.errorLatched (s : State) (src : Src) (a : Nat) : State :=
  if s.fld (Fld.HERR_STAT_KIND (herrOf src)) = 0 then
    (s.setFld (Fld.HERR_STAT_SOURCE (herrOf src)) (srcCode src)).set (Reg.HERR_ADDR (herrOf src)) (BitVec.ofNat 32 a)
  else s.raise (Fld.HERR_STAT_MULTI (herrOf src))

/-- An access error is latched, sets its KIND bit and counts. -/
theorem State.accessError_eq (s : State) (src : Src) (k a : Nat) :
    s.accessError src k a =
      ((s.errorLatched src a).setFldBit (Fld.HERR_STAT_KIND (herrOf src)) k true).bump (Fld.HERR_STAT_COUNT (herrOf src)) 1 := by
  simp only [State.accessError, State.errorLatched, beq_iff_eq]

theorem herrAddr_ne_herrStat (x : Nat) : Reg.HERR_ADDR x ≠ Reg.HERR_STAT x := by
  unfold Reg.HERR_ADDR Reg.HERR_STAT
  omega

theorem srcCode_lt (src : Src) : srcCode src < 2 ^ 3 := by cases src <;> decide

section
variable (s : State) (src : Src) (a : Nat)

theorem State.errorLatched_first (h : s.fld (Fld.HERR_STAT_KIND (herrOf src)) = 0) :
    s.errorLatched src a =
      (s.setFld (Fld.HERR_STAT_SOURCE (herrOf src)) (srcCode src)).set (Reg.HERR_ADDR (herrOf src)) (BitVec.ofNat 32 a) :=
  if_pos h

theorem State.errorLatched_later (h : s.fld (Fld.HERR_STAT_KIND (herrOf src)) ≠ 0) :
    s.errorLatched src a = s.raise (Fld.HERR_STAT_MULTI (herrOf src)) := if_neg h

/-- Latching leaves the bits of HERR.STAT beside SOURCE and MULTI. -/
theorem State.errorLatched_fld (lo len : Nat) (hmulti : lo + len ≤ 4 ∨ 5 ≤ lo) (hsource : lo + len ≤ 8 ∨ 11 ≤ lo) :
    (s.errorLatched src a).fld ⟨Reg.HERR_STAT (herrOf src), lo, len⟩ = s.fld ⟨Reg.HERR_STAT (herrOf src), lo, len⟩ := by
  by_cases h : s.fld (Fld.HERR_STAT_KIND (herrOf src)) = 0
  · rw [State.errorLatched_first s src a h, State.fld_set_ne _ _ (herrAddr_ne_herrStat _).symm]
    exact State.fld_setFld_beside _ _ _ _ (by simp [Fld.HERR_STAT_SOURCE]) (.inr hsource)
  · rw [State.errorLatched_later s src a h]
    exact State.fld_setFld_beside _ _ _ _ (by simp [Fld.HERR_STAT_MULTI]) (.inr hmulti)

theorem State.errorLatched_get {b : Nat} (hstat : b ≠ Reg.HERR_STAT (herrOf src)) (haddr : b ≠ Reg.HERR_ADDR (herrOf src)) :
    (s.errorLatched src a).get b = s.get b := by
  by_cases h : s.fld (Fld.HERR_STAT_KIND (herrOf src)) = 0
  · rw [State.errorLatched_first s src a h, State.get_set_ne _ _ haddr]
    exact State.get_setFld_ne _ _ _ hstat
  · rw [State.errorLatched_later s src a h]
    exact State.get_setFld_ne _ _ _ hstat

theorem State.errorLatched_frame : s.errorLatched src a = { s with regs := (s.errorLatched src a).regs } := by
  unfold State.errorLatched
  split <;> rfl

/-- Outside HERR.STAT an access error leaves what it latches. -/
theorem State.accessError_get (k : Nat) {b : Nat} (hstat : b ≠ Reg.HERR_STAT (herrOf src)) :
    (s.accessError src k a).get b = (s.errorLatched src a).get b := by
  rw [State.accessError_eq, State.bump, State.get_setFld_ne _ _ _ hstat, State.setFldBit, State.get_setFld_ne _ _ _ hstat]

theorem State.accessError_frame (k : Nat) : s.accessError src k a = { s with regs := (s.accessError src k a).regs } := by
  rw [State.accessError_eq, State.bump, State.setFld_frame, State.setFldBit, State.setFld_frame, State.errorLatched_frame]

variable {k : Nat} (hk : k < 4)
include hk

/-- A KIND bit set leaves the fields of HERR.STAT above KIND. -/
theorem State.fld_setKind (t : State) (x lo len : Nat) (hlo : 4 ≤ lo) :
    (t.setFldBit (Fld.HERR_STAT_KIND x) k true).fld ⟨Reg.HERR_STAT x, lo, len⟩ = t.fld ⟨Reg.HERR_STAT x, lo, len⟩ := by
  have hbit : (Fld.HERR_STAT_KIND x).lo + k + 1 ≤ 4 := by simp only [Fld.HERR_STAT_KIND]; omega
  exact State.fld_setFld_beside _ _ _ _ (hbit.trans (by decide)) (.inr (.inr (hbit.trans hlo)))

/-- Between KIND and COUNT an access error leaves what it latches. -/
theorem State.accessError_fld (lo len : Nat) (hlo : 4 ≤ lo) (hhi : lo + len ≤ 16) :
    (s.accessError src k a).fld ⟨Reg.HERR_STAT (herrOf src), lo, len⟩ =
      (s.errorLatched src a).fld ⟨Reg.HERR_STAT (herrOf src), lo, len⟩ := by
  rw [State.accessError_eq, State.bump, State.fld_setFld_beside _ _ _ _ (by simp [Fld.HERR_STAT_COUNT]) (.inr (.inl hhi)),
    State.fld_setKind hk _ _ _ _ hlo]

theorem State.accessError_kind {j : Nat} (hj : j < 4) :
    (s.accessError src k a).fldBit (Fld.HERR_STAT_KIND (herrOf src)) j =
      (j == k || s.fldBit (Fld.HERR_STAT_KIND (herrOf src)) j) := by
  have hlatched : (s.errorLatched src a).fld (Fld.HERR_STAT_KIND (herrOf src)) = s.fld (Fld.HERR_STAT_KIND (herrOf src)) :=
    State.errorLatched_fld s src a 0 4 (by decide) (by decide)
  have hcount (t : State) : (t.bump (Fld.HERR_STAT_COUNT (herrOf src)) 1).fld (Fld.HERR_STAT_KIND (herrOf src)) =
      t.fld (Fld.HERR_STAT_KIND (herrOf src)) :=
    State.fld_setFld_beside _ _ _ _ (by simp [Fld.HERR_STAT_COUNT]) (by simp [Fld.HERR_STAT_KIND, Fld.HERR_STAT_COUNT])
  have hbit := State.fldBit_setFldBit (s.errorLatched src a) (Fld.HERR_STAT_KIND (herrOf src)) true
    (by simp [Fld.HERR_STAT_KIND]) hk hj
  rw [State.fldBit, State.accessError_eq, hcount, ← State.fldBit, hbit, State.fldBit, hlatched, ← State.fldBit]
  by_cases hjk : j = k <;> simp [hjk]

theorem State.accessError_count : (s.accessError src k a).fld (Fld.HERR_STAT_COUNT (herrOf src)) =
    min (s.fld (Fld.HERR_STAT_COUNT (herrOf src)) + 1) (2 ^ (Fld.HERR_STAT_COUNT (herrOf src)).len - 1) := by
  have hkept : ((s.errorLatched src a).setFldBit (Fld.HERR_STAT_KIND (herrOf src)) k true).fld
      (Fld.HERR_STAT_COUNT (herrOf src)) = s.fld (Fld.HERR_STAT_COUNT (herrOf src)) :=
    (State.fld_setKind hk _ _ 16 16 (by decide)).trans (State.errorLatched_fld s src a 16 16 (by decide) (by decide))
  rw [State.accessError_eq, State.fld_bump _ _ _ (by simp [Fld.HERR_STAT_COUNT]), hkept]

theorem State.accessError_source : (s.accessError src k a).fld (Fld.HERR_STAT_SOURCE (herrOf src)) =
    (s.errorLatched src a).fld (Fld.HERR_STAT_SOURCE (herrOf src)) :=
  State.accessError_fld s src a hk 8 3 (by decide) (by decide)

theorem State.accessError_multi : (s.accessError src k a).fld (Fld.HERR_STAT_MULTI (herrOf src)) =
    (s.errorLatched src a).fld (Fld.HERR_STAT_MULTI (herrOf src)) :=
  State.accessError_fld s src a hk 4 1 (by decide) (by decide)

/-- The first error since every KIND bit was clear latches its source and address. -/
theorem State.accessError_first (h : s.fld (Fld.HERR_STAT_KIND (herrOf src)) = 0) :
    (s.accessError src k a).fld (Fld.HERR_STAT_SOURCE (herrOf src)) = srcCode src ∧
      (s.accessError src k a).get (Reg.HERR_ADDR (herrOf src)) = BitVec.ofNat 32 a ∧
      (s.accessError src k a).fld (Fld.HERR_STAT_MULTI (herrOf src)) = s.fld (Fld.HERR_STAT_MULTI (herrOf src)) := by
  have hne := herrAddr_ne_herrStat (herrOf src)
  rw [State.accessError_source s src a hk, State.accessError_multi s src a hk, State.accessError_get s src a k hne,
    State.errorLatched_first s src a h]
  refine ⟨?_, State.get_set_same _ _ _, ?_⟩
  · rw [State.fld_set_ne _ _ hne.symm, State.fld_setFld_same _ _ _ (by simp [Fld.HERR_STAT_SOURCE])]
    exact Nat.mod_eq_of_lt (srcCode_lt src)
  · rw [State.fld_set_ne _ _ hne.symm]
    exact State.fld_setFld_beside _ _ _ _ (by simp [Fld.HERR_STAT_SOURCE])
      (by simp [Fld.HERR_STAT_SOURCE, Fld.HERR_STAT_MULTI])

/-- A later error leaves the source and the address, and sets MULTI. -/
theorem State.accessError_later (h : s.fld (Fld.HERR_STAT_KIND (herrOf src)) ≠ 0) :
    (s.accessError src k a).fld (Fld.HERR_STAT_SOURCE (herrOf src)) = s.fld (Fld.HERR_STAT_SOURCE (herrOf src)) ∧
      (s.accessError src k a).get (Reg.HERR_ADDR (herrOf src)) = s.get (Reg.HERR_ADDR (herrOf src)) ∧
      (s.accessError src k a).fld (Fld.HERR_STAT_MULTI (herrOf src)) = 1 := by
  have hne := herrAddr_ne_herrStat (herrOf src)
  rw [State.accessError_source s src a hk, State.accessError_multi s src a hk, State.accessError_get s src a k hne,
    State.errorLatched_later s src a h]
  refine ⟨?_, State.get_setFld_ne _ _ _ hne, State.fld_setFld_same _ _ _ (by simp [Fld.HERR_STAT_MULTI])⟩
  exact State.fld_setFld_beside _ _ _ _ (by simp [Fld.HERR_STAT_MULTI])
    (by simp [Fld.HERR_STAT_SOURCE, Fld.HERR_STAT_MULTI])

end

/-- Settles O53: a refused access is recorded and does nothing else, and what the record holds. -/
theorem refusedAccessesOnlyRecorded : Obligations.RefusedAccessesOnlyRecorded := by
  refine ⟨fun dt src a w took fault s k h => ?_, fun dt src a w took fault s h => ?_,
    fun dt src a w be took fault s h => ?_, fun dt src a s hr hs => ⟨fun k h => ?_, fun h => ?_⟩, fun s src k a hk => ?_⟩
  · rw [exec_registerWrite_writeAt _ _ _ _ _ _ _ _ (.inl rfl)]
    exact effect_eq (State.writeAt_err w took fault h)
  · exact exec_registerWrite_byteEnables dt src a w took fault s h
  · rw [exec_registerWrite_writeAt _ _ _ _ _ _ _ _ (.inr h)]
    exact effect_eq (State.writeAt_void w took fault h)
  · rw [exec_wideValueRead_readAt dt src a s hr hs]
    exact effect_eq (State.readAt_err h)
  · rw [exec_wideValueRead_readAt dt src a s hr hs]
    exact effect_eq (State.readAt_void h)
  · refine ⟨fun j hj => State.accessError_kind s src a hk hj, State.accessError_count s src a hk, ?_,
      fun b hstat haddr => ?_, State.accessError_frame s src a k⟩
    · split
      · next h => exact State.accessError_first s src a hk h
      · next h => exact State.accessError_later s src a hk h
    · rw [State.accessError_get s src a k hstat, State.errorLatched_get s src a hstat haddr]

/-! ## What SPI wrote last -/

@[simp] theorem State.setWide_spiNow (s : State) (a n v : Nat) : (s.setWide a n v).spiNow = s.spiNow := by
  rw [State.setWide_frame]

theorem foldl_followVector_spiNow (p : Nat) (l : List Nat) (s : State) :
    (l.foldl (fun t v => t.followVector p v) s).spiNow = s.spiNow := by
  induction l generalizing s with
  | nil => rfl
  | cons v l ih => rw [List.foldl_cons, ih, State.followVector_frame]

/-- The event controller leaves what SPI wrote. -/
theorem settle_spiNow (s : State) : (settle s).spiNow = s.spiNow := by
  simp only [settle, State.setWide_spiNow, foldl_followVector_spiNow]

theorem State.after_spiNow (s : State) (dt : Nat) (f : State → State) : (s.after dt f).spiNow = (f (s.later dt)).spiNow :=
  settle_spiNow _

/-- A write by access types leaves what SPI wrote. -/
theorem plainWrite_spiNow (a : Nat) (w : Word) (s : State) : (plainWrite a w s).spiNow = s.spiNow := by
  unfold plainWrite
  dsimp only
  repeat' split
  all_goals simp [State.dropHeld]

/-- A write of a register that no rule governs acts by the access types, and counts as the last of its tick if SPI made it. -/
theorem State.writeAt_plain {s : State} {src : Src} {a : Nat} {w : Word} {took : Nat} {fault : Bool} (ha : a < bar2)
    (hrule : ruleOf src a w took fault = none) (hok : s.access src a = .ok) :
    s.writeAt src a w took fault = s.spiStands (plainWrite (unmirror a) w s) src (unmirror a) true := by
  have hsys : ¬sysBase ≤ a := Nat.not_le.2 (ha.trans (by decide))
  simp only [State.writeAt, hok, if_neg hsys, if_neg (Nat.not_le.2 ha), hrule]

/-- A powered part on which SPI has written nothing. -/
def beforeSpiWrite : State := { State.reset with powered := true }

/-- Refutes O35: its second clause gives every source the effect of the access types alone, but a write by SPI also leaves the
address among those that SPI wrote in this tick, by which a write over PCIe in the same tick does not undo it (R358, R383). Here
SPI writes SYS.RESET_CAUSE, which no rule of its block governs. -/
theorem not_registerAccessComplete : ¬ Obligations.RegisterAccessComplete := by
  rintro ⟨-, hplain, -⟩
  have hrule : ruleOf .spi Reg.SYS_RESET_CAUSE 1#32 0 false = none := Option.isNone_iff_eq_none.1 (by decide)
  have hok : (beforeSpiWrite.later 0).access .spi Reg.SYS_RESET_CAUSE = .ok := by decide
  have hsaid := hplain .spi Reg.SYS_RESET_CAUSE 1#32 0 false (by decide) hrule 0 beforeSpiWrite hok
  have hdone := exec_registerWrite_writeAt 0 .spi Reg.SYS_RESET_CAUSE 1#32 true 0 false beforeSpiWrite (.inl rfl)
  have hspi := congrArg State.spiNow (Host.Outcome.next.inj (hdone.symm.trans hsaid))
  rw [State.after_spiNow, State.after_spiNow, plainWrite_spiNow] at hspi
  change ((beforeSpiWrite.later 0).writeAt .spi Reg.SYS_RESET_CAUSE 1#32 0 false).spiNow = _ at hspi
  rw [State.writeAt_plain (by decide) hrule hok] at hspi
  exact absurd hspi (by decide)

end Sys2Proof.Machine
end

section
/-!
Proofs of the family of the Spine and the Leaves: entries that fire on the data path, the power states, and reset.
-/
namespace Sys2Proof.Machine

/-! ## Completion of a command, from its arm of exec -/

section
variable {c : Nat → Instr} {H : State → Prop}

/-- A command completes with any effect that equals its arm's on the states that meet the hypotheses. -/
theorem completes_of_effect {f g : State → State} (harm : ∀ dt s, exec (c dt) s = effect dt f s) (h : ∀ u, H u → f u = g u) :
    Completes c H g := fun dt s hs => (harm dt s).trans (effect_eq (h _ hs))

/-- A command whose arm waits for a condition completes where the hypotheses give the condition. -/
theorem completes_of_onlyIf {b : State → Bool} {f : State → State}
    (harm : ∀ dt s, exec (c dt) s = effect dt (fun u => onlyIf (b u) f u) s) (h : ∀ u, H u → b u = true) :
    Completes c H f := completes_of_effect harm (fun u hu => onlyIf_true f u (h u hu))

/-- A command that writes a register completes where the checks pass and the hypotheses give what the write makes. -/
theorem completes_of_guarded {src : Src} {a : Nat} {f g : State → State}
    (harm : ∀ dt s, exec (c dt) s = effect dt (fun u => u.guarded src a f) s)
    (h : ∀ u, H u → u.access src a = .ok ∧ f u = g u) : Completes c H g :=
  completes_of_effect harm (fun u hu => (State.guarded_ok f (h u hu).1).trans (h u hu).2)

/-- An entry that fires leaves what its action made, with its result recorded (R65, R73). -/
theorem fireEntry_of_fires {e code : Nat} {act : ActEntry → State → FireResult × State} {r : FireResult} {s t : State}
    (hf : Fires e code s) (hact : act (s.act e) s = (r, t)) : fireEntry e code act s = fired e r s t := by
  simp only [fireEntry, fired, if_pos hf, hact]

/-- The command of an action completes where the hypotheses give the firing and the action's result. -/
theorem completes_of_fires {e code : Nat} {act : ActEntry → State → FireResult × State} {r : FireResult} {f : State → State}
    (harm : ∀ dt s, exec (c dt) s = effect dt (fireEntry e code act) s)
    (h : ∀ u, H u → Fires e code u ∧ act (u.act e) u = (r, f u)) : Completes c H (fun u => fired e r u (f u)) :=
  completes_of_effect harm (fun u hu => fireEntry_of_fires (h u hu).1 (h u hu).2)

end

/-! ## Actions that take all their targets (R46, R73) -/

section
variable {s : State} {e : Nat} {a : ActEntry}

theorem snapshotAction_ok (hworld : (s.actWorld e == 0 && s.snapSecure a.target) = false) (hopen : s.snapOpen = true)
    (hskips : s.snapSkips a.target = []) :
    snapshotAction e a s = (.ok, snapBegin a.arg a.target (s.actTime a) s) := by
  simp [snapshotAction, hworld, hopen, hskips]

/-- With every Leaf of the mask in service and none of them barred, the banks of all of them swap. -/
theorem bankAction_ok (pair : Nat)
    (hserve : ∀ n ∈ s.allLeaves.filter (fun n => a.target / 2 ^ n % 2 == 1), s.inService n = true)
    (hworld : s.actWorld e = 0 → ∀ n ∈ s.allLeaves.filter (fun n => a.target / 2 ^ n % 2 == 1), s.bankSecure n pair = false) :
    bankAction pair e a s = (.ok, s.forAll (s.allLeaves.filter (fun n => a.target / 2 ^ n % 2 == 1))
      (fun n t => t.bankSwap n pair a.arg (s.actTime a))) := by
  have hon := List.filter_eq_self.2 hserve
  have hbar : ¬(s.actWorld e = 0 ∧
      (s.allLeaves.filter (fun n => a.target / 2 ^ n % 2 == 1)).any (fun n => s.bankSecure n pair) = true) := by
    rintro ⟨hw, hany⟩
    obtain ⟨n, hn, hsec⟩ := List.any_eq_true.1 hany
    exact absurd hsec (Bool.eq_false_iff.1 (hworld hw n hn))
  simp only [bankAction, if_neg hbar, hon, if_true]

theorem gclAction_ok (hworld : s.worldBars e (Reg.EGR_PORT_GCL_CTRL a.target) = false) (hskip : s.portSkipped a.target = false)
    (hswap : (s.gclSwap a.target a.arg (s.actTime a)).1 = false) :
    gclAction e a s = (.ok, (s.gclSwap a.target a.arg (s.actTime a)).2) := by
  simp [gclAction, hworld, hskip, hswap]

theorem portAction_ok (up : Bool) (hworld : s.worldBars e (portHome a.target) = false) (hskip : s.portSkipped a.target = false) :
    portAction up e a s = (.ok, s.portAdmin a.target (s.actTime a) up) := by
  simp [portAction, hworld, hskip]

end

/-- Settles O5: each action of the data path, taken whole. -/
theorem dataPathActionsComplete : Obligations.DataPathActionsComplete := by
  refine ⟨fun e => ?snapshot, fun e => ?vlan, fun e => ?group, fun e => ?stream, fun e => ?gcl, fun e => ?enable,
    fun e => ?disable⟩
  case snapshot =>
    exact completes_of_fires (fun _ _ => rfl) (fun _ ⟨hf, hworld, hopen, hskips⟩ => ⟨hf, snapshotAction_ok hworld hopen hskips⟩)
  case vlan => exact completes_of_fires (fun _ _ => rfl) (fun _ ⟨hf, hserve, hworld⟩ => ⟨hf, bankAction_ok 0 hserve hworld⟩)
  case group => exact completes_of_fires (fun _ _ => rfl) (fun _ ⟨hf, hserve, hworld⟩ => ⟨hf, bankAction_ok 1 hserve hworld⟩)
  case stream => exact completes_of_fires (fun _ _ => rfl) (fun _ ⟨hf, hserve, hworld⟩ => ⟨hf, bankAction_ok 2 hserve hworld⟩)
  case gcl =>
    exact completes_of_fires (fun _ _ => rfl) (fun _ ⟨hf, hworld, hskip, hswap⟩ => ⟨hf, gclAction_ok hworld hskip hswap⟩)
  case enable => exact completes_of_fires (fun _ _ => rfl) (fun _ ⟨hf, hworld, hskip⟩ => ⟨hf, portAction_ok true hworld hskip⟩)
  case disable => exact completes_of_fires (fun _ _ => rfl) (fun _ ⟨hf, hworld, hskip⟩ => ⟨hf, portAction_ok false hworld hskip⟩)

/-! ## Requests for a power state (R331 to R333) -/

section
variable {s t : State} {w : Word} (hstore : s.storeRw Reg.PWR_REQ w = t) (hgo : bitsOf w 31 1 = 1)
  (htarget : bitsOf w 0 2 = 1 ∨ bitsOf w 0 2 = 2)
include hstore hgo htarget

/-- GO with TARGET KEEP or READY, and no wake in this arbiter round, requests the state. -/
theorem pwrReqWrite_go (hwake : t.wakeWithin (t.power.roundAt + 250 * usT - t.ticks) = false) :
    pwrReqWrite w s = t.requestState (bitsOf w 0 2) t.limitOf := by
  simp [pwrReqWrite, hstore, hgo, htarget, hwake]

/-- A wake of the same arbiter round applies before the request. -/
theorem pwrReqWrite_wake (hwake : t.wakeWithin (t.power.roundAt + 250 * usT - t.ticks) = true) :
    pwrReqWrite w s = (wakeAt t).requestState (bitsOf w 0 2) (wakeAt t).limitOf := by
  simp [pwrReqWrite, hstore, hgo, htarget, hwake]

end

section
variable {s : State} (limit : Nat → Nat) (hbusy : s.on Fld.PWR_STATE_BUSY = false)
include hbusy

/-- From READY or SERVICE, with no transition running, KEEP begins. -/
theorem State.requestState_keep (h : 2 ≤ s.pstate) : s.requestState 1 limit = s.beginKeep limit := by
  have hne : ¬(s.pstate = 1 ∨ s.pstate = 0) := by omega
  simp [State.requestState, hbusy, hne]

/-- From KEEP, with no transition running, READY is approached. -/
theorem State.requestState_ready (h : s.pstate = 1) : s.requestState 2 limit = s.beginReady := by
  simp [State.requestState, hbusy, h]

end

/-- A wake is due once WAKE_AT has come, while it is armed and the Spine is not hot (R333, R345). -/
theorem State.wakeWithin_zero {s : State} {x : Nat} (hen : s.on Fld.PWR_WAKE_EN = true) (hwoke : s.power.woke = false)
    (hhot : s.spineHot = false) (hx : timeOfRaw (s.getWide Reg.PWR_WAKE_AT0 3) = some x) (hle : x ≤ s.now) :
    s.wakeWithin 0 = true := by
  simp [State.wakeWithin, hen, hwoke, hhot, hx, hle]

/-- A command on a Leaf that waits for one of the Leaf's states (R42) and for a condition completes where both hold. -/
theorem completes_of_leafState {c : Nat → Instr} {n st : Nat} {b : State → Bool} {f : State → State} (hn : n < 8)
    (harm : ∀ dt s, exec (c dt) s = effect dt (fun u => onlyIf (decide (n < 8) && u.leaf n == st && b u) f u) s) :
    Completes c (fun u => u.leaf n = st ∧ b u = true) f :=
  completes_of_onlyIf harm (fun u ⟨hleaf, hb⟩ => by simp [hn, hleaf, hb])

/-- Settles O30: the requests through what REQ asks for, the others through the condition each waits for. -/
theorem powerStatesComplete : Obligations.PowerStatesComplete := by
  refine ⟨fun src => ?keep, fun src => ?wakeThenKeep, fun src => ?ready, fun x => ?wake, ?readyEntry, fun n hn => ?drained,
    fun n hn => ?expired, fun n hn => ?restored, fun n hn => ?aligned, fun n hn => ?timeout⟩
  case keep =>
    refine completes_of_guarded (fun _ _ => rfl) (fun u ⟨hok, hwake, hbusy, hst⟩ => ⟨hok, ?_⟩)
    exact (pwrReqWrite_go rfl (by decide) (.inl (by decide)) hwake).trans (State.requestState_keep _ hbusy hst)
  case wakeThenKeep =>
    exact completes_of_guarded (fun _ _ => rfl) (fun u ⟨hok, hwake⟩ =>
      ⟨hok, pwrReqWrite_wake rfl (by decide) (.inl (by decide)) hwake⟩)
  case ready =>
    refine completes_of_guarded (fun _ _ => rfl) (fun u ⟨hok, hwake, hbusy, hst⟩ => ⟨hok, ?_⟩)
    exact (pwrReqWrite_go rfl (by decide) (.inr (by decide)) hwake).trans (State.requestState_ready _ hbusy hst)
  case wake =>
    refine completes_of_onlyIf (fun _ _ => rfl) (fun u ⟨hpow, hen, hwoke, hhot, hx, hle⟩ => ?_)
    rw [hpow, State.wakeWithin_zero hen hwoke hhot hx hle, Bool.and_true]
  case readyEntry =>
    refine completes_of_onlyIf (fun _ _ => rfl) (fun u ⟨hbusy, hst, hhost, hfab⟩ => ?_)
    simp [hbusy, hst, hhost, hfab]
  case drained => exact completes_of_leafState hn (fun _ _ => rfl)
  case expired => exact completes_of_leafState hn (fun _ _ => rfl)
  case restored => exact completes_of_onlyIf (fun _ _ => rfl) (fun u ⟨hfw, hleaf, hdom⟩ => by simp [hn, hfw, hleaf, hdom])
  case aligned => exact completes_of_leafState hn (fun _ _ => rfl)
  case timeout => exact completes_of_leafState hn (fun _ _ => rfl)

/-! ## Reset (R30, R351, R352, R485) -/

/-- Settles O32: PORn rises on a part without power; the others act on one that has it. -/
theorem resetComplete : Obligations.ResetComplete := by
  refine ⟨fun sel f => ?rise, ?fall, ?fault, fun sel => ?warm, fun crystal => ?clock⟩
  case rise => exact completes_of_onlyIf (fun _ _ => rfl) (fun u hoff => by rw [hoff, Bool.not_false])
  case fall => exact completes_of_onlyIf (fun _ _ => rfl) (fun _ => id)
  case fault => exact completes_of_onlyIf (fun _ _ => rfl) (fun _ => id)
  case warm => exact completes_of_onlyIf (fun _ _ => rfl) (fun _ => id)
  case clock =>
    exact completes_of_onlyIf (fun _ _ => rfl) (fun u ⟨hpow, hdue⟩ => by rw [hpow, hdue, Bool.and_true])

end Sys2Proof.Machine
end

section
/-!
Proofs of the family of network time and timed actions: the loads of network time and the Leaf timebases, the capture inputs, the
pulse outputs, the table of timed actions, the table banks, and the PLLs that clock the device.
-/
namespace Sys2Proof.Machine

/-! ## Completion of a command that waits for a condition or acts on one of several units -/

section
variable {c : Nat → Instr} {H : State → Prop}

/-- A command whose arm waits for a condition completes with an effect that equals its arm's, where the hypotheses give both. -/
theorem completes_of_onlyIf_eq {b : State → Bool} {f g : State → State}
    (harm : ∀ dt s, exec (c dt) s = effect dt (fun u => onlyIf (b u) f u) s) (h : ∀ u, H u → b u = true ∧ f u = g u) :
    Completes c H g :=
  completes_of_effect harm (fun u hu => (onlyIf_true f u (h u hu).1).trans (h u hu).2)

/-- A write of a register of one of several units completes where that unit exists, the checks pass and the hypotheses give what
the write makes. -/
theorem completes_of_indexed {p : Prop} [Decidable p] {src : Src} {a : Nat} {f g : State → State} (hp : p)
    (harm : ∀ dt s, exec (c dt) s = effect dt (onlyIf (decide p) (fun u => u.guarded src a f)) s)
    (h : ∀ u, H u → u.access src a = .ok ∧ f u = g u) : Completes c H g :=
  completes_of_effect harm (fun u hu =>
    (onlyIf_true _ u (decide_eq_true hp)).trans ((State.guarded_ok f (h u hu).1).trans (h u hu).2))

end

/-! ## Network time (R50 to R54) -/

/-- A write of the lowest word of a valid time arms the load (R51). -/
theorem timeSetWrite_valid {s : State} {w : Word} {x : Nat} (h : timeOfRaw (s.wideValue Reg.TIME_SET0 3 w) = some x) :
    timeSetWrite w s =
      { (s.dropHeld Reg.TIME_SET0 3).setWide Reg.TIME_SET0 3 (s.wideValue Reg.TIME_SET0 3 w) with
        setLoad := some (x, ((s.dropHeld Reg.TIME_SET0 3).setWide Reg.TIME_SET0 3 (s.wideValue Reg.TIME_SET0 3 w)).now / secU)
      }.raise Fld.TIME_STATUS_SET_PENDING := by
  simp only [timeSetWrite, h]

/-- A load whose second boundary has come takes the loaded time at that boundary. -/
theorem State.loadDue_of_boundary {s : State} {v sec : Nat} (h : s.setLoad = some (v, sec)) (hsec : sec < s.now / secU) :
    s.loadDue = some (v + (s.now - (sec + 1) * secU) / tickUnits * tickUnits) := by
  simp only [State.loadDue, h, if_pos hsec]

theorem timeSetLoad_of_due {s : State} {t : Nat} (h : s.loadDue = some t) :
    timeSetLoad s =
      ((((timeStep (t * 2 ^ 34) t { s with setLoad := none }).followStep ((t : Int) - s.now)).setFld
        Fld.TIME_STATUS_SET_PENDING 0).raise Fld.TIME_STATUS_VALID) := by
  simp only [timeSetLoad, h]

/-- An exchange with a Leaf in service or aligning may take place 1,024 ticks after the last one (R53). -/
theorem State.alignDue_of {s : State} {n q : Nat} (hn : n < 8) (hleaf : s.leaf n = 3 ∨ s.leaf n = 4)
    (hq : s.alignModule n = some q) (hat : ∀ x, kfind s.aligns n = some x → x.at_ + 1024 ≤ s.ticks) :
    s.alignDue n = true := by
  have hall : (kfind s.aligns n).all (fun x => decide (x.at_ + 1024 ≤ s.ticks)) = true := by
    rw [Option.all_eq_true]
    exact fun x hx => decide_eq_true (hat x hx)
  simp [State.alignDue, hn, hleaf, hq, hall]

/-- Settles O1: each write through what it stores, the load through its boundary, an exchange through its residual. -/
theorem timeSetAndLeafTimebaseComplete : Obligations.TimeSetAndLeafTimebaseComplete := by
  refine ⟨fun src w x => ?arm, fun src => ?cancel, fun v sec => ?load, fun n q resid hn hr => ?aligned,
    fun n q resid hn hr => ?unaligned, fun n hn => ?warn⟩
  case arm => exact completes_of_guarded (fun _ _ => rfl) (fun u ⟨hok, hx⟩ => ⟨hok, timeSetWrite_valid hx⟩)
  case cancel => exact completes_of_guarded (fun _ _ => rfl) (fun u hok => ⟨hok, rfl⟩)
  case load =>
    exact completes_of_effect (fun _ _ => rfl) (fun u ⟨hload, hsec⟩ =>
      timeSetLoad_of_due (State.loadDue_of_boundary hload hsec))
  case aligned =>
    refine completes_of_onlyIf_eq (fun _ _ => rfl) (fun u ⟨hleaf, hq, hat⟩ => ⟨State.alignDue_of hn hleaf hq hat, ?_⟩)
    simp only [leafAlignExchange, hr, hq, if_true, Option.getD_some]
  case unaligned =>
    refine completes_of_onlyIf_eq (fun _ _ => rfl) (fun u ⟨hleaf, hq, hat⟩ => ⟨State.alignDue_of hn hleaf hq hat, ?_⟩)
    simp only [leafAlignExchange, hr, hq, Option.getD_some, Bool.false_eq_true, if_false, Bool.or_eq_true, Bool.not_eq_true']
  case warn => exact completes_of_onlyIf (fun _ _ => rfl) (fun u ⟨hserve, hdue⟩ => by rw [hserve, hdue, Bool.and_true])

/-! ## Status bits -/

/-- A status bit that is raised when a condition holds. -/
def State.raiseIf (s : State) (p : Prop) [Decidable p] (f : FRef) : State := if p then s.raise f else s

section
variable (s : State) (p : Prop) [Decidable p] (f : FRef)

@[simp] theorem State.cap_setFld (s : State) (f : FRef) (v i : Nat) : (s.setFld f v).cap i = s.cap i := rfl

@[simp] theorem State.cap_raiseIf (i : Nat) : (s.raiseIf p f).cap i = s.cap i := by
  unfold State.raiseIf; split <;> rfl

theorem State.fld_raiseIf (hlen : f.len = 1) (h : f.lo + f.len ≤ 32) :
    (s.raiseIf p f).fld f = if p then 1 else s.fld f := by
  unfold State.raiseIf
  split
  · rw [State.raise, State.fld_setFld_same s f 1 h, hlen, Nat.pow_one]
  · rfl

/-- A count leaves the fields beside it. -/
theorem State.fld_bump_beside (n : Nat) (g : FRef) (h : f.lo + f.len ≤ 32)
    (hd : g.lo + g.len ≤ f.lo ∨ f.lo + f.len ≤ g.lo) : (s.bump f n).fld g = s.fld g :=
  State.fld_setFld_beside s f g _ h (.inr hd)

theorem State.fld_raiseIf_beside (g : FRef) (h : f.lo + f.len ≤ 32) (hd : g.lo + g.len ≤ f.lo ∨ f.lo + f.len ≤ g.lo) :
    (s.raiseIf p f).fld g = s.fld g := by
  unfold State.raiseIf
  split
  · exact State.fld_setFld_beside s f g 1 h (.inr hd)
  · rfl

end

/-! ## Capture inputs (R56 to R58) -/

/-- Whether EDGE of channel i selects an edge of a direction (R56). -/
abbrev State.edgeChosen (s : State) (i : Nat) (rising : Bool) : Bool :=
  s.fldBit (Fld.TIME_CAP_CTRL_EDGE i) (if rising then 0 else 1)

/-- Whether an edge comes less than 100 ns after the one before it on its channel (R57). -/
def State.edgeClose (s : State) (i sub : Nat) : Bool :=
  (s.cap i).last.any (fun l => decide (s.ticks * tickUnits + sub < l + 100 * nsU))

theorem State.edgeClose_iff (s : State) (i sub : Nat) :
    s.edgeClose i sub = true ↔ ∃ l, (s.cap i).last = some l ∧ s.ticks * tickUnits + sub < l + 100 * nsU := by
  simp [State.edgeClose, Option.any_eq_true]

theorem bitsOf_lt (w : Word) (lo len : Nat) : bitsOf w lo len < 2 ^ len := Nat.mod_lt _ (Nat.two_pow_pos _)

/-- The two bits of EDGE, as the machine reads them off. -/
theorem State.edgeChosen_eq (s : State) (i : Nat) (rising : Bool) :
    (if rising then s.fld (Fld.TIME_CAP_CTRL_EDGE i) % 2 == 1 else s.fld (Fld.TIME_CAP_CTRL_EDGE i) / 2 == 1) =
      s.edgeChosen i rising := by
  have hlt : s.fld (Fld.TIME_CAP_CTRL_EDGE i) < 2 ^ 2 := bitsOf_lt _ _ _
  cases rising with
  | true => simp [State.edgeChosen, State.fldBit]
  | false =>
    simp only [State.edgeChosen, State.fldBit, Bool.false_eq_true, if_false, Nat.pow_one]
    rw [Nat.mod_eq_of_lt (by omega)]

section
variable {s : State} {i sub : Nat} {rising : Bool} (hen : s.on (Fld.TIME_CAP_CTRL_EN i) = true)
  (hchosen : s.edgeChosen i rising = true)
include hen hchosen

/-- A chosen edge with room, 100 ns or more after the last one, queues a stamp (R56, R57). -/
theorem captureEdge_stamped (hclose : s.edgeClose i sub = false) (hroom : (s.cap i).fifo.length < 16) :
    captureEdge i rising sub s = s.setCap i
      { fifo := (s.cap i).fifo ++ [⟨s.now + sub, rising, s.on Fld.TIME_STATUS_TSU_LOCK⟩],
        last := some (s.ticks * tickUnits + sub) } := by
  simp only [State.edgeClose] at hclose
  simp [captureEdge, hen, State.edgeChosen_eq, hchosen, hclose, Nat.not_le.2 hroom]

/-- A chosen edge that is too close, or finds no room, sets the bit of each condition it meets and counts once (R57). -/
theorem captureEdge_unstamped (h : s.edgeClose i sub = true ∨ 16 ≤ (s.cap i).fifo.length) :
    captureEdge i rising sub s =
      (((s.setCap i { s.cap i with last := some (s.ticks * tickUnits + sub) }).raiseIf (s.edgeClose i sub = true)
        (Fld.TIME_CAP_STAT_TOO_CLOSE i)).raiseIf (16 ≤ (s.cap i).fifo.length) (Fld.TIME_CAP_STAT_OVERFLOW i)).bump
          (Fld.TIME_CAP_STAT_LOST i) 1 := by
  have hor : (s.edgeClose i sub || decide (16 ≤ (s.cap i).fifo.length)) = true := by simpa using h
  simp only [State.edgeClose] at hor
  simp only [captureEdge, hen, State.edgeChosen_eq, hchosen, hor]
  rfl

end

/-- Settles O2: the edge through its conditions, the read through what the queue holds. -/
theorem captureComplete : Obligations.CaptureComplete := by
  refine ⟨fun i rising sub hi hsub => ?edge, fun src i st rest hi => ?read, fun src i hi => ?readNone, fun src i hi => ?flush⟩
  case edge =>
    refine completes_of_onlyIf_eq (fun _ _ => rfl) (fun u ⟨hpow, hen, hchosen, hroom, hlast⟩ =>
      ⟨by simp [hpow, hi, hsub], ?_⟩)
    refine captureEdge_stamped hen hchosen (Bool.eq_false_iff.2 fun hclose => ?_) hroom
    obtain ⟨l, hl, hlt⟩ := (State.edgeClose_iff u i sub).1 hclose
    exact absurd (hlast l hl) (Nat.not_le.2 hlt)
  case read =>
    exact completes_of_indexed hi (fun _ _ => rfl) (fun u ⟨hok, hfifo⟩ => ⟨hok, by simp only [captureRead, hfifo]⟩)
  case readNone =>
    exact completes_of_indexed hi (fun _ _ => rfl) (fun u ⟨hok, hfifo⟩ => ⟨hok, by simp only [captureRead, hfifo]⟩)
  case flush => exact completes_of_indexed hi (fun _ _ => rfl) (fun u hok => ⟨hok, rfl⟩)

/-! ## Edges that are not stamped (R57) -/

/-- A channel's record reads back as it was written. -/
@[simp] theorem State.cap_setCap (s : State) (i : Nat) (c : CapCh) : (s.setCap i c).cap i = c := by
  simp [State.setCap, State.cap]

/-- Writing a channel's record leaves the bits of STAT above LEVEL. -/
theorem State.fld_setCap_stat (s : State) (i lo len : Nat) (c : CapCh) (hlo : 5 ≤ lo) :
    (s.setCap i c).fld ⟨Reg.TIME_CAP_STAT i, lo, len⟩ = s.fld ⟨Reg.TIME_CAP_STAT i, lo, len⟩ :=
  State.fld_setFld_beside _ (Fld.TIME_CAP_STAT_LEVEL i) _ _ (by simp [Fld.TIME_CAP_STAT_LEVEL]) (.inr (.inr hlo))


/-- What an edge that is not stamped leaves: the bits of the conditions it meets, one more in LOST, the stamps as they were
and the time of the edge (R57). -/
theorem captureEdge_unstamped_shows {s : State} {i sub : Nat} {rising : Bool} (hen : s.on (Fld.TIME_CAP_CTRL_EN i) = true)
    (hchosen : s.edgeChosen i rising = true) (h : s.edgeClose i sub = true ∨ 16 ≤ (s.cap i).fifo.length) :
    let t := captureEdge i rising sub s
    t.fld (Fld.TIME_CAP_STAT_TOO_CLOSE i) = (if s.edgeClose i sub = true then 1 else s.fld (Fld.TIME_CAP_STAT_TOO_CLOSE i)) ∧
    t.fld (Fld.TIME_CAP_STAT_OVERFLOW i) = (if 16 ≤ (s.cap i).fifo.length then 1 else s.fld (Fld.TIME_CAP_STAT_OVERFLOW i)) ∧
    t.fld (Fld.TIME_CAP_STAT_LOST i) = min (s.fld (Fld.TIME_CAP_STAT_LOST i) + 1) 65535 ∧
    t.cap i = { s.cap i with last := some (s.ticks * tickUnits + sub) } := by
  rw [captureEdge_unstamped hen hchosen h]
  simp only [Fld.TIME_CAP_STAT_TOO_CLOSE, Fld.TIME_CAP_STAT_OVERFLOW, Fld.TIME_CAP_STAT_LOST]
  refine ⟨?tooClose, ?overflow, ?lost, ?record⟩
  case tooClose =>
    simp (disch := simp) only [State.fld_bump_beside, State.fld_raiseIf_beside, State.fld_raiseIf, State.fld_setCap_stat]
  case overflow =>
    simp (disch := simp) only [State.fld_bump_beside, State.fld_raiseIf_beside, State.fld_raiseIf, State.fld_setCap_stat]
  case lost =>
    simp (disch := simp) only [State.fld_bump, State.fld_raiseIf_beside, State.fld_setCap_stat, Nat.reducePow, Nat.reduceSub]
  case record => simp [State.bump]

/-- Settles O57: an edge that is not stamped, through the bits it sets. -/
theorem edgesNotStamped : Obligations.EdgesNotStamped := by
  refine ⟨fun dt i rising sub s hpow hi hsub => ?_, fun i rising sub s hi hen hedge => ?_, fun i s hi => ?_⟩
  · exact effect_eq (onlyIf_true _ _ (by simp [hpow, hi, hsub]))
  · have hchosen : s.edgeChosen i rising = true := by cases rising <;> exact hedge
    intro at1 close full t hor
    have hclose : s.edgeClose i sub = true ↔ close := State.edgeClose_iff s i sub
    obtain ⟨htoo, hover, hlost, hcap⟩ := captureEdge_unstamped_shows hen hchosen (hor.imp_left hclose.2)
    refine ⟨fun hc => ?_, fun hc => ?_, fun hf => ?_, fun hf => ?_, hlost, ?_, ?_⟩
    · rw [htoo, if_pos (hclose.2 hc)]
    · rw [htoo, if_neg (mt hclose.1 hc)]
    · rw [hover, if_pos hf]
    · rw [hover, if_neg hf]
    · rw [hcap]
    · rw [hcap]
  · exact (State.fld_setFld_same _ (Fld.TIME_CAP_STAT_LOST i) 0 (by simp [Fld.TIME_CAP_STAT_LOST])).trans (Nat.zero_mod _)

/-! ## Table banks and the ageing service (R70, R157, R158, R160) -/

/-- A bank is released when its retention has ended for one of the swaps that left it (R70). -/
theorem State.retention_ended {s : State} {n pair : Nat} {x : Nat × Nat × Nat} (hx : x ∈ s.oldBanks n pair)
    (hend : x.2.2 + 100 * usT ≤ s.ticks) : (s.oldBanks n pair).any (fun y => !s.retained y) = true :=
  List.any_eq_true.2 ⟨x, hx, by simp [State.retained, hend]⟩

/-- Settles O15: a bank of each pair, the retention that has ended, a sweep through the interface of the table's world. -/
theorem bankAndAgeingComplete : Obligations.BankAndAgeingComplete := by
  refine ⟨fun src n w hn => ?swap, fun n pair x hn => ?release, fun n => ?sweep⟩
  case swap =>
    refine completes_of_indexed hn (fun _ _ => rfl) (fun u hok => ⟨hok, ?_⟩)
    simp only [bankSwapWrite, Bool.not_eq_true']
    rfl
  case release =>
    exact completes_of_onlyIf_eq (fun _ _ => rfl) (fun u ⟨hx, hend⟩ =>
      ⟨by rw [decide_eq_true hn, State.retention_ended hx hend, Bool.and_true], rfl⟩)
  case sweep =>
    refine completes_of_onlyIf (fun _ _ => rfl) (fun u ⟨hfw, hn, hserve, hon, hfree, hdue⟩ => ?_)
    simp [fwdBusy, hfw, hn, hserve, hon, hfree, hdue]

/-! ## PLLs that clock the device (R287 to R289) -/

/-- An attempt, of which fewer than three were made since the loss, begins while none runs (R288). -/
theorem relockAttempt_begins {s : State} (n : Nat) {i : Nat} (hk : kget s.relocks i 0 < 3) (hidle : s.running .relock i = false) :
    relockAttempt n i s =
      ({ s with relocks := kput s.relocks i (kget s.relocks i 0 + 1) }.setFld (Fld.LCTL_CLK_ATTEMPTS n)
        (kget s.relocks i 0 + 1)).startTimer .relock i (10 * msT) := by
  simp [relockAttempt, hidle, Nat.not_le.2 hk]

/-- Settles O25: a Leaf's PLL, then the PLL of the TSU. -/
theorem devicePllsComplete : Obligations.DevicePllsComplete := by
  refine ⟨fun n => ?coreLoss, fun n => ?memLoss, fun n mem => ?attempt, fun n mem => ?timeout, fun n mem => ?relocked,
    ?tsuLoss, ?tsuRetry, ?tsuRelock⟩
  case coreLoss => exact completes_of_onlyIf (fun _ _ => rfl) (fun u ⟨hon, hlock⟩ => by simp [State.leafPll, hon, hlock])
  case memLoss => exact completes_of_onlyIf (fun _ _ => rfl) (fun u ⟨hon, hlock⟩ => by simp [State.leafPll, hon, hlock])
  case attempt =>
    exact completes_of_onlyIf_eq (fun _ _ => rfl) (fun u ⟨hfw, hon, hlost, hk, hidle⟩ =>
      ⟨by simp [hfw, hon, hlost], relockAttempt_begins n hk hidle⟩)
  case timeout => exact completes_of_onlyIf (fun _ _ => rfl) (fun u ⟨hon, hdue⟩ => by rw [hon, hdue, Bool.and_true])
  case relocked => exact completes_of_onlyIf (fun _ _ => rfl) (fun u ⟨hon, hlost, hdue⟩ => by simp [hon, hlost, hdue])
  case tsuLoss => exact completes_of_onlyIf (fun _ _ => rfl) (fun u ⟨hpow, hlock⟩ => by rw [hpow, hlock, Bool.and_true])
  case tsuRetry => exact completes_of_onlyIf (fun _ _ => rfl) (fun u ⟨hpow, hlost, hdue⟩ => by simp [hpow, hlost, hdue])
  case tsuRelock => exact completes_of_onlyIf (fun _ _ => rfl) (fun u ⟨hpow, hlost, hheld⟩ => by simp [hpow, hlost, hheld])

/-! ## Pulse outputs (R59 to R63, R74) -/

/-- A channel whose single pulse is not over shows its registers as they are. -/
theorem State.pulseShow_of_not_over {s : State} {j : Nat} (h : s.onceOver j = false) : s.pulseShow j = s := by
  simp [State.pulseShow, h]

/-- The state with the fields of CTRL beside MODE as a write gives them. -/
def State.pulseCtrlStored (s : State) (j : Nat) (w : Word) : State :=
  (s.setFld (Fld.TIME_PULSE_CTRL_POL j) (bitsOf w 2 1)).setFld (Fld.TIME_PULSE_CTRL_MUTE_HIZ j) (bitsOf w 3 1)

section
variable {s : State} {j : Nat} {w : Word}

/-- A write that repeats the mode of a running schedule keeps the schedule. -/
theorem pulseCtrlWrite_repeated (hover : s.onceOver j = false) (hmode : s.pulseMode j = bitsOf w 0 2)
    (hrun : s.on (Fld.TIME_PULSE_STAT_RUNNING j) = true) : pulseCtrlWrite j w s = s.pulseCtrlStored j w := by
  simp [pulseCtrlWrite, State.pulseShow_of_not_over hover, hmode, hrun, State.pulseCtrlStored]

/-- A write of another mode, or to a channel that does not run, sets the mode (R59 to R61). -/
theorem pulseCtrlWrite_sets
    (h : (s.pulseShow j).pulseMode j ≠ bitsOf w 0 2 ∨ (s.pulseShow j).on (Fld.TIME_PULSE_STAT_RUNNING j) = false) :
    pulseCtrlWrite j w s = pulseMode j (bitsOf w 0 2) ((s.pulseShow j).pulseCtrlStored j w) := by
  have hne : ¬(bitsOf w 0 2 = (s.pulseShow j).pulseMode j ∧ (s.pulseShow j).on (Fld.TIME_PULSE_STAT_RUNNING j) = true) := by
    rintro ⟨hm, hr⟩
    rcases h with h | h
    · exact h hm.symm
    · rw [h] at hr
      exact Bool.noConfusion hr
  simp only [pulseCtrlWrite, State.pulseCtrlStored, if_neg hne]

/-- ONCE within its limits and in time starts the schedule of one pulse (R60, R61). -/
theorem pulseMode_once (hok : onceOk (s.pulseWidth j) = true) (hlate : s.now + usU ≤ s.pulseStart j) :
    pulseMode j 1 s = s.pulseRun j 1 (s.pulseStart j) := by
  simp [pulseMode, hok, Nat.not_lt.2 hlate]

/-- PERIODIC within its limits starts with the first edge a microsecond or more from now (R60, R61). -/
theorem pulseMode_periodic (hok : periodicOk (s.pulsePeriod j) (s.pulseWidth j) = true) :
    pulseMode j 2 s = s.pulseRun j 2 (scheduleAtOrAfter (s.pulseStart j) (s.pulsePeriod j) (s.now + usU)) := by
  simp [pulseMode, hok]

/-- A valid START is stored, and staged for a running PERIODIC channel (R62). -/
theorem pulseParamWrite_start {x : Nat} (h : timeOfRaw (s.wideValue (Reg.TIME_PULSE_START0 j) 3 w) = some x) :
    pulseParamWrite j .start w s = pulseAttempt j ((s.dropHeld (Reg.TIME_PULSE_START0 j) 3).setWide (Reg.TIME_PULSE_START0 j) 3
      (s.wideValue (Reg.TIME_PULSE_START0 j) 3 w)) := by
  simp [pulseParamWrite, h]

/-- ONCE returns to OFF when its pulse ends (R59). -/
theorem State.pulseMode_given {t : Nat} (hmode : s.fld (Fld.TIME_PULSE_CTRL_MODE j) = 1) (hnext : (s.pulse j).next = none)
    (hbusy : (s.pulse j).busyTo = some t) : s.pulseMode j = if t ≤ s.now then 0 else 1 := by
  simp [State.pulseMode, State.onceOver, hmode, hnext, hbusy]

/-- Staged values whose attempt has not come, or of which there are none, leave an edge as it was. -/
theorem State.applyStaged_before {t : Nat} (h : ∀ at1, (s.pulse j).attempt = some at1 → t < at1) : s.applyStaged j t = s := by
  cases hat : (s.pulse j).attempt with
  | none => simp only [State.applyStaged, hat]
  | some at1 => simp only [State.applyStaged, hat, if_pos (h at1 hat)]

section
variable {t : Nat} (hnext : (s.pulse j).next = some t) (hdue : t < s.now + tickUnits)
include hnext hdue

/-- ONCE gives its pulse, and has no further edge (R59, R60). -/
theorem pulseEdge_once (hmode : s.pulseMode j = 1) :
    pulseEdge j s = (s.givePulse j t (s.pulse j).width).setPulse j
      { (s.givePulse j t (s.pulse j).width).pulse j with next := none } := by
  simp only [pulseEdge, hnext, if_neg (Nat.not_le.2 hdue), if_pos hmode]

/-- PERIODIC gives a pulse of the values now in use and goes on: from the edge, or from the end of a pulse at which staged
values apply (R60, R62). -/
theorem pulseEdge_periodic (hmode : s.pulseMode j = 2) :
    pulseEdge j s =
      (let u := s.applyStaged j t
       let v := u.givePulse j t (u.pulse j).width
       v.setPulse j { v.pulse j with next := some (scheduleAtOrAfter (u.pulse j).start (u.pulse j).period
        (if (s.pulse j).attempt.any (fun a => decide (a ≤ t)) then t + (u.pulse j).width + pulseMin else t + 1)) }) := by
  have hne : ¬s.pulseMode j = 1 := by omega
  simp only [pulseEdge, hnext, if_neg (Nat.not_le.2 hdue), if_neg hne]

/-- Without a change of values the next edge is the next of the schedule. -/
theorem pulseEdge_periodic_unchanged (hmode : s.pulseMode j = 2) (h : ∀ at1, (s.pulse j).attempt = some at1 → t < at1) :
    pulseEdge j s =
      (let u := s.givePulse j t (s.pulse j).width
       u.setPulse j { u.pulse j with next := some (scheduleAtOrAfter (s.pulse j).start (s.pulse j).period (t + 1)) }) := by
  have hany : (s.pulse j).attempt.any (fun a => decide (a ≤ t)) = false := by
    rw [Option.any_eq_false]
    exact fun a ha => by simpa using h a ha
  simp only [pulseEdge_periodic hnext hdue hmode, State.applyStaged_before h, hany, Bool.false_eq_true, if_false]

/-- At the edge at which staged values apply the next one comes 2.5 ns or more after the pulse. -/
theorem pulseEdge_periodic_changed {at1 : Nat} (hmode : s.pulseMode j = 2) (hat : (s.pulse j).attempt = some at1)
    (hle : at1 ≤ t) :
    pulseEdge j s =
      (let u := s.applyStaged j t
       let v := u.givePulse j t (u.pulse j).width
       v.setPulse j { v.pulse j with next := some (scheduleAtOrAfter (u.pulse j).start (u.pulse j).period
        (t + (u.pulse j).width + pulseMin)) }) := by
  have hany : (s.pulse j).attempt.any (fun a => decide (a ≤ t)) = true := by simp [hat, hle]
  simp only [pulseEdge_periodic hnext hdue hmode, hany, if_true]

end

end

/-- A channel set up for actions gives the pulse its entry asks for (R74). -/
theorem pulseAction_ok {s : State} {a : ActEntry} (h : s.pulseMode a.target = 3) :
    pulseAction a s = (.ok, s.givePulse a.target (if a.carried.isSome then s.now else a.trigger) a.arg) := by
  simp only [pulseAction, if_pos h]

/-- Settles O3: a write of CTRL through the mode it sets, the parameters, an edge through the channel's mode, an action. -/
theorem pulseComplete : Obligations.PulseComplete := by
  refine ⟨fun src j w hj => ?repeated, fun src j w hj => ?sets, fun src j w x hj => ?start, fun src j w hj => ?period,
    fun src j w hj => ?width, fun j t hj => ?once, fun s j t => State.pulseMode_given, fun j t hj => ?periodic,
    fun j t at1 hj => ?changed, fun e => ?action⟩
  case repeated =>
    exact completes_of_indexed hj (fun _ _ => rfl) (fun u ⟨hok, hover, hmode, hrun⟩ =>
      ⟨hok, pulseCtrlWrite_repeated hover hmode hrun⟩)
  case sets =>
    refine completes_of_indexed hj (fun _ _ => rfl) (fun u ⟨hok, hne, honce, hperiodic⟩ =>
      ⟨hok, (pulseCtrlWrite_sets hne).trans ?_⟩)
    have hlt := bitsOf_lt w 0 2
    generalize bitsOf w 0 2 = m at *
    match m with
    | 0 => rfl
    | 1 => exact pulseMode_once (honce rfl).1 (honce rfl).2
    | 2 => exact pulseMode_periodic (hperiodic rfl)
    | 3 => rfl
    | m + 4 => omega
  case start => exact completes_of_indexed hj (fun _ _ => rfl) (fun u ⟨hok, hx⟩ => ⟨hok, pulseParamWrite_start hx⟩)
  case period => exact completes_of_indexed hj (fun _ _ => rfl) (fun u hok => ⟨hok, rfl⟩)
  case width => exact completes_of_indexed hj (fun _ _ => rfl) (fun u hok => ⟨hok, rfl⟩)
  case once =>
    exact completes_of_onlyIf_eq (fun _ _ => rfl) (fun u ⟨hpow, hnext, hdue, hmode⟩ =>
      ⟨by simp [hpow, hj], pulseEdge_once hnext hdue hmode⟩)
  case periodic =>
    exact completes_of_onlyIf_eq (fun _ _ => rfl) (fun u ⟨hpow, hnext, hdue, hmode, hat⟩ =>
      ⟨by simp [hpow, hj], pulseEdge_periodic_unchanged hnext hdue hmode hat⟩)
  case changed =>
    exact completes_of_onlyIf_eq (fun _ _ => rfl) (fun u ⟨hpow, hnext, hdue, hmode, hat, hle⟩ =>
      ⟨by simp [hpow, hj], pulseEdge_periodic_changed hnext hdue hmode hat hle⟩)
  case action => exact completes_of_fires (fun _ _ => rfl) (fun u ⟨hf, hmode⟩ => ⟨hf, pulseAction_ok hmode⟩)

/-! ## The table of timed actions (R64 to R68, R74) -/

/-- The state with a command stored in CMD of an interface, and the interface busy for the time it takes (R67). -/
def State.actTaken (s : State) (w op e took : Nat) : State :=
  ((s.setFld (Fld.TIME_ACT_CMD_OP w) op).setFld (Fld.TIME_ACT_CMD_INDEX w) e).startTimer .actBusy w took

/-- Taking a command leaves the boundary of the worlds and the staging words. -/
theorem State.actTaken_get (s : State) (w op e took : Nat) {a : Nat} (h : a ≠ Reg.TIME_ACT_CMD w) :
    (s.actTaken w op e took).get a = s.get a :=
  (State.get_setFld_ne (s.setFld (Fld.TIME_ACT_CMD_OP w) op) (Fld.TIME_ACT_CMD_INDEX w) e h).trans
    (State.get_setFld_ne s (Fld.TIME_ACT_CMD_OP w) op h)

theorem State.actTaken_act (s : State) (w op e took i : Nat) : (s.actTaken w op e took).act i = s.act i := rfl

theorem State.actTaken_actWorld (s : State) {w : Nat} (hw : w < 2) (op e took i : Nat) :
    (s.actTaken w op e took).actWorld i = s.actWorld i := by
  have hne : Reg.TIME_ACT_PART ≠ Reg.TIME_ACT_CMD w := by
    unfold Reg.TIME_ACT_PART Reg.TIME_ACT_CMD
    omega
  simp only [State.actWorld, State.secureEntries, State.fld, Fld.TIME_ACT_PART_SECURE_ENTRIES, State.actTaken_get s w op e took hne]
  rfl

section
variable {s : State} {w op e : Nat}

/-- The command in progress acts once its cycle has come, with the time of that cycle (R67). -/
theorem actComplete_due {d : Nat} (h : kfind s.actCmds w = some ⟨op, e, d⟩) (hd : d ≤ s.ticks) :
    actComplete w s = actRun w op e (s.nowBefore (s.ticks - d)) { s with actCmds := kdel s.actCmds w } := by
  simp only [actComplete, h, if_pos hd]

/-- It does not act before (R67). -/
theorem actComplete_waits {c : ActCmd} (h : kfind s.actCmds w = some c) (hc : s.ticks < c.due) : actComplete w s = s := by
  simp only [actComplete, h, if_neg (Nat.not_le.2 hc)]

theorem State.nowBefore_zero (s : State) : s.nowBefore 0 = s.now := by
  unfold State.nowBefore
  split
  · rw [Nat.zero_mul, Nat.sub_zero, State.now]
  · rfl

/-- A command taken by an interface that is not BUSY, and that takes time, is in progress. -/
theorem actCmd_begins {took : Nat} (hidle : s.waiting .actBusy w = false) (ht : took ≠ 0) :
    actCmd w op e took s =
      { s.actTaken w op e (min took 160) with actCmds := kput s.actCmds w ⟨op, e, s.ticks + min took 160⟩ } := by
  have hlt : s.ticks < s.ticks + min took 160 := by omega
  simp only [actCmd, hidle, Bool.false_eq_true, if_false]
  exact actComplete_waits (kfind_kput_same _ _ _) hlt

/-- One that takes no time acts at once. -/
theorem actCmd_acts (hidle : s.waiting .actBusy w = false) :
    actCmd w op e 0 s = actRun w op e s.now { s.actTaken w op e 0 with actCmds := kdel s.actCmds w } := by
  simp only [actCmd, hidle, Bool.false_eq_true, if_false, Nat.zero_min]
  rw [actComplete_due (kfind_kput_same _ _ _) (Nat.le_refl _)]
  simp only [Nat.add_zero, State.setFld_ticks, State.startTimer_ticks, Nat.sub_self, State.nowBefore_zero, kdel_kput_same]
  rfl

/-- A WRITE that nothing refuses puts the staged words onto the entry (R66). -/
theorem actRun_write {t : Nat} (hworld : s.actWorld e = w) (hok : s.actWriteResult e t { words := s.actStaged w } = resOk) :
    actRun w 1 e t s = (s.setAct e { words := s.actStaged w, state := .pending }).actShow w e resOk := by
  simp [actRun, hworld, actWrite, hok]

/-- A READ brings the entry into the staging words (R68). -/
theorem actRun_read {t : Nat} (hworld : s.actWorld e = w) : actRun w 2 e t s = (actRead w e s).actShow w e resOk := by
  simp [actRun, hworld]

/-- A CANCEL of a PENDING entry frees it (R68). -/
theorem actRun_cancel {t : Nat} (hworld : s.actWorld e = w) (hpending : (s.act e).state = .pending) :
    actRun w 3 e t s = (s.setAct e { s.act e with state := .free, carried := none }).actShow w e resOk := by
  simp [actRun, hworld, actCancel, hpending]

/-- Any command on an entry of the other world reports WORLD (R64, R68). -/
theorem actRun_world {t : Nat} (hworld : s.actWorld e ≠ w) : actRun w op e t s = s.actShow w e resWorld := by
  simp only [actRun, if_pos hworld]

end

/-! What a command reads of the state is not in the record of the commands in progress. -/

section
variable (s : State) (m : KMap ActCmd) (w e : Nat)

theorem State.actWorld_actCmds : { s with actCmds := m }.actWorld e = s.actWorld e := rfl

theorem State.actStaged_actCmds : { s with actCmds := m }.actStaged w = s.actStaged w := rfl

end

section
variable {s : State} {m : KMap ActCmd} {w e t : Nat} (hworld : s.actWorld e = w)
include hworld

theorem actRun_write_actCmds (hok : s.actWriteResult e t { words := s.actStaged w } = resOk) :
    actRun w 1 e t { s with actCmds := m } =
      ({ s with actCmds := m }.setAct e { words := s.actStaged w, state := .pending }).actShow w e resOk := by
  rw [← State.actStaged_actCmds s m] at hok ⊢
  exact actRun_write hworld hok

theorem actRun_read_actCmds :
    actRun w 2 e t { s with actCmds := m } = (actRead w e { s with actCmds := m }).actShow w e resOk :=
  actRun_read ((State.actWorld_actCmds s m e).trans hworld)

theorem actRun_cancel_actCmds (hpending : (s.act e).state = .pending) :
    actRun w 3 e t { s with actCmds := m } =
      ({ s with actCmds := m }.setAct e { { s with actCmds := m }.act e with state := .free, carried := none }).actShow w e
        resOk :=
  actRun_cancel ((State.actWorld_actCmds s m e).trans hworld) hpending

end

theorem mem_movedEntries {old new e : Nat} : e ∈ movedEntries old new ↔ e < 256 ∧ ¬(e < old ↔ e < new) := by
  rw [movedEntries, List.mem_filter, List.mem_range, bne_iff_ne, ne_eq, decide_eq_decide]

section
variable {s : State} {w : Word}

/-- The boundary of the worlds moves when every entry it moves is FREE (R64). -/
theorem actPartWrite_moves (hle : bitsOf w 0 9 ≤ 256)
    (hfree : ∀ e, e < 256 → ¬(e < s.secureEntries ↔ e < bitsOf w 0 9) → (s.act e).state = .free) :
    actPartWrite w s = s.setFld Fld.TIME_ACT_PART_SECURE_ENTRIES (bitsOf w 0 9) := by
  have hnone : (movedEntries s.secureEntries (bitsOf w 0 9)).any (fun e => (s.act e).state != .free) = false := by
    rw [List.any_eq_false]
    intro e he
    obtain ⟨hlt, hmoved⟩ := mem_movedEntries.1 he
    simp [hfree e hlt hmoved]
  simp only [actPartWrite, if_neg (Nat.not_lt.2 hle), hnone, Bool.false_eq_true, if_false]

/-- An entry it would move that is not FREE keeps it (R64). -/
theorem actPartWrite_inUse {e : Nat} (hle : bitsOf w 0 9 ≤ 256) (hlt : e < 256) (hused : (s.act e).state ≠ .free)
    (hmoved : ¬(e < s.secureEntries ↔ e < bitsOf w 0 9)) :
    actPartWrite w s = s.setFld (Fld.TIME_ACT_STAT_RESULT 1) resInUse := by
  have hany : (movedEntries s.secureEntries (bitsOf w 0 9)).any (fun e => (s.act e).state != .free) = true :=
    List.any_eq_true.2 ⟨e, mem_movedEntries.2 ⟨hlt, hmoved⟩, bne_iff_ne.2 hused⟩
  simp only [actPartWrite, if_neg (Nat.not_lt.2 hle), hany, if_true]

/-- A boundary above 256 is invalid (R64). -/
theorem actPartWrite_invalid (hgt : 256 < bitsOf w 0 9) :
    actPartWrite w s = s.setFld (Fld.TIME_ACT_STAT_RESULT 1) resInvalid := by
  simp only [actPartWrite, if_pos hgt]

theorem actPartWrite_acts : (actPartWrite w s).acts = s.acts := by
  unfold actPartWrite
  dsimp only
  split
  · rfl
  · split <;> rfl

end

/-- A command on an interface that exists, with an index that exists, completes as `actCmd` does. -/
theorem completes_of_actCmd {c : Nat → Instr} {H : State → Prop} {src : Src} {w op e took : Nat} {g : State → State}
    (hw : w < 2) (he : e < 256)
    (harm : ∀ dt s, exec (c dt) s = effect dt (onlyIf (decide (w < 2) && decide (e < 256))
      (fun u => u.guarded src (Reg.TIME_ACT_CMD w) (actCmd w op e took))) s)
    (h : ∀ u, H u → u.access src (Reg.TIME_ACT_CMD w) = .ok ∧ actCmd w op e took u = g u) : Completes c H g :=
  completes_of_effect harm (fun u hu => (onlyIf_true _ u (by simp [hw, he])).trans
    ((State.guarded_ok _ (h u hu).1).trans (h u hu).2))

/-- Settles O4: the boundary, the commands that begin, those that act at once or in their cycle, arming and the event. -/
theorem actionTableComplete : Obligations.ActionTableComplete := by
  refine ⟨fun src w => ?part, fun src w e took hw he ht => ?writeBegins, fun src w e hw he => ?writeActs,
    fun src w e took hw he ht => ?readBegins, fun src w e hw he => ?readActs, fun src w e took hw he ht => ?cancelBegins,
    fun src w e hw he => ?cancelActs, fun s w e d hc hd hworld hok => ?writeDue, fun s w e d hc hd hworld => ?readDue,
    fun s w e d hc hd hworld hpending => ?cancelDue, fun s w c => actComplete_waits, fun e he => ?arm, fun e => ?event⟩
  case part =>
    refine completes_of_guarded (fun _ _ => rfl) (fun u ⟨hok, hle, hfree⟩ => ⟨hok, ?_⟩)
    exact actPartWrite_moves hle (fun e he hmoved => hfree e he (by tauto))
  case writeBegins =>
    exact completes_of_actCmd hw he (fun _ _ => rfl) (fun u ⟨hok, hidle⟩ => ⟨hok, actCmd_begins hidle ht⟩)
  case readBegins =>
    exact completes_of_actCmd hw he (fun _ _ => rfl) (fun u ⟨hok, hidle⟩ => ⟨hok, actCmd_begins hidle ht⟩)
  case cancelBegins =>
    exact completes_of_actCmd hw he (fun _ _ => rfl) (fun u ⟨hok, hidle⟩ => ⟨hok, actCmd_begins hidle ht⟩)
  case writeActs =>
    exact completes_of_actCmd hw he (fun _ _ => rfl) (fun u ⟨hok, hidle, hworld, hwrite⟩ =>
      ⟨hok, (actCmd_acts hidle).trans (actRun_write_actCmds hworld hwrite)⟩)
  case readActs =>
    exact completes_of_actCmd hw he (fun _ _ => rfl) (fun u ⟨hok, hidle, hworld⟩ =>
      ⟨hok, (actCmd_acts hidle).trans (actRun_read_actCmds hworld)⟩)
  case cancelActs =>
    refine completes_of_actCmd hw he (fun _ _ => rfl) (fun u ⟨hok, hidle, hworld, hpending⟩ => ⟨hok, ?_⟩)
    rw [← State.actTaken_act u w 3 e 0 e] at hpending
    exact (actCmd_acts hidle).trans (actRun_cancel_actCmds hworld hpending)
  case writeDue => exact (actComplete_due hc hd).trans (actRun_write hworld hok)
  case readDue => exact (actComplete_due hc hd).trans (actRun_read hworld)
  case cancelDue => exact (actComplete_due hc hd).trans (actRun_cancel hworld hpending)
  case arm => exact completes_of_onlyIf (fun _ _ => rfl) (fun u ⟨hpending, hnear⟩ => by simp [he, hpending, hnear])
  case event => exact completes_of_fires (fun _ _ => rfl) (fun u hf => ⟨hf, rfl⟩)

/-! ## The worlds of the timed-action entries (R64, R68) -/

section
variable (s : State) (w e r : Nat)

@[simp] theorem State.actShow_acts : (s.actShow w e r).acts = s.acts := rfl

/-- Showing a result leaves every word but STAT. -/
theorem State.actShow_get {a : Nat} (h : a ≠ Reg.TIME_ACT_STAT w) : (s.actShow w e r).get a = s.get a := by
  simp only [State.actShow]
  rw [State.get_setFld_ne _ _ _ h, State.get_setFld_ne _ _ _ h, State.get_setFld_ne _ _ _ h, State.get_setFld_ne _ _ _ h]

/-- WORLD shows itself and zeros (R68). -/
theorem State.actShow_world :
    let t := s.actShow w e resWorld
    t.fld (Fld.TIME_ACT_STAT_RESULT w) = 2 ∧ t.fld (Fld.TIME_ACT_STAT_STATE w) = 0 ∧ t.fld (Fld.TIME_ACT_STAT_FIRES w) = 0 ∧
      t.fld (Fld.TIME_ACT_STAT_LAST_FIRE w) = 0 := by
  simp only [State.actShow, Fld.TIME_ACT_STAT_RESULT, Fld.TIME_ACT_STAT_STATE, Fld.TIME_ACT_STAT_FIRES, Fld.TIME_ACT_STAT_LAST_FIRE,
    if_true, resWorld]
  simp (disch := simp) only [State.fld_setFld_beside, State.fld_setFld_same]
  simp

end

/-- What a command on an entry of the other world leaves, from a state with the entries and staging words of s. -/
theorem actRun_world_shows {s u : State} {w op e t : Nat} (hworld : u.actWorld e ≠ w) (hacts : u.acts = s.acts)
    (hstaged : ∀ i, i < 8 → u.get (Reg.TIME_ACT_ENTRY w i) = s.get (Reg.TIME_ACT_ENTRY w i)) :
    let v := actRun w op e t u
    v.acts = s.acts ∧ v.fld (Fld.TIME_ACT_STAT_RESULT w) = 2 ∧ v.fld (Fld.TIME_ACT_STAT_STATE w) = 0 ∧
      v.fld (Fld.TIME_ACT_STAT_FIRES w) = 0 ∧ v.fld (Fld.TIME_ACT_STAT_LAST_FIRE w) = 0 ∧
      ∀ i, i < 8 → v.get (Reg.TIME_ACT_ENTRY w i) = s.get (Reg.TIME_ACT_ENTRY w i) := by
  obtain ⟨hresult, hstate, hfires, hlast⟩ := State.actShow_world u w e
  rw [actRun_world hworld]
  refine ⟨(State.actShow_acts u w e resWorld).trans hacts, hresult, hstate, hfires, hlast, fun i hi => ?_⟩
  rw [State.actShow_get u w e resWorld (by unfold Reg.TIME_ACT_ENTRY Reg.TIME_ACT_STAT; omega), hstaged i hi]

/-- A result stored in STAT leaves the boundary. -/
theorem State.boundary_setResult (s : State) (v : Nat) :
    (s.setFld (Fld.TIME_ACT_STAT_RESULT 1) v).fld Fld.TIME_ACT_PART_SECURE_ENTRIES = s.fld Fld.TIME_ACT_PART_SECURE_ENTRIES :=
  State.fld_setFld_ne _ _ _ _ (by decide)

/-- Settles O56: the addresses of the interfaces, the share of each world, a command on the other world's entry, the boundary. -/
theorem actionEntriesOfAnotherWorld : Obligations.ActionEntriesOfAnotherWorld := by
  refine ⟨fun s => ⟨rfl, rfl, rfl⟩, fun s e => rfl, fun w op e s t hw he hworld ht => ?command, fun s w => ?part⟩
  case command =>
    rcases ht with ⟨hidle, rfl⟩ | ⟨due, hc, hdue, rfl⟩
    · rw [actCmd_acts hidle]
      refine actRun_world_shows ((State.actTaken_actWorld s hw op e 0 e).trans_ne hworld) rfl (fun i hi => ?_)
      exact State.actTaken_get s w op e 0 (by unfold Reg.TIME_ACT_ENTRY Reg.TIME_ACT_CMD; omega)
    · rw [actComplete_due hc hdue]
      exact actRun_world_shows (u := { s with actCmds := kdel s.actCmds w }) hworld rfl (fun i hi => rfl)
  case part =>
    refine ⟨actPartWrite_acts, fun hgt => ?_, fun hle ⟨e, he, hused, hmoved⟩ => ?_, fun hle hfree => ?_⟩
    · rw [actPartWrite_invalid hgt]
      exact ⟨State.boundary_setResult s _, State.fld_setFld_same s _ _ (by decide)⟩
    · rw [actPartWrite_inUse hle he hused hmoved]
      exact ⟨State.boundary_setResult s _, State.fld_setFld_same s _ _ (by decide)⟩
    · rw [actPartWrite_moves hle (fun e he hmoved => hfree e he hmoved), State.fld_setFld_same s _ _ (by decide)]
      exact Nat.mod_eq_of_lt (bitsOf_lt w 0 9)

end Sys2Proof.Machine
end

section
/-!
Proofs of the family of network time and timed actions: the requests of the SYS, TIME, ACT, TABLE and PORT families that the
firmware serves.
-/
namespace Sys2Proof.Machine

/-! ## A request that no check refuses (R390, R407, R408) -/

/-- No check whose condition fails gives a status. -/
theorem firstStatus_of_none {l : List (Bool × Nat)} (h : ∀ c ∈ l, c.1 = false) : firstStatus l = 0 := by
  induction l with
  | nil => rfl
  | cons c l ih =>
    rw [firstStatus, h c (List.mem_cons_self ..), if_neg Bool.false_ne_true]
    exact ih (fun d hd => h d (List.mem_cons_of_mem c hd))

/-- A well-formed request of the right length that passes the checks has its effect. -/
theorem serve_passes {m op n : Nat} {lenOk : Nat → Bool} {checks : State → List (Bool × Nat)} {act : State → State}
    {s : State} (hreq : AtRequest m op n s) (hlen : lenOk n = true) (hpass : ∀ c ∈ checks s, c.1 = false) :
    serve m op lenOk checks act s = act s := by
  obtain ⟨htakes, hop, hform, hn⟩ := hreq
  simp [serve, htakes, hop, hform, hn, hlen, firstStatus_of_none hpass]

section
variable {c : Nat → Instr} {H : State → Prop} {m op len : Nat} {checks : State → List (Bool × Nat)} {act g : State → State}

/-- A request of a fixed length completes where the hypotheses give its form, the checks and its effect. -/
theorem completes_of_served (harm : ∀ dt s, exec (c dt) s = served dt m op len checks act s)
    (h : ∀ u, H u → AtRequest m op len u ∧ (∀ c ∈ checks u, c.1 = false) ∧ act u = g u) : Completes c H g :=
  completes_of_effect harm (fun u hu => by
    obtain ⟨hreq, hpass, heq⟩ := h u hu
    exact (serve_passes (lenOk := fun n => n == len) hreq (beq_self_eq_true len) hpass).trans heq)

/-- A request whose length is its own to judge, that waits for a condition, completes likewise. -/
theorem completes_of_serve {b : State → Bool} {lenOk : State → Nat → Bool}
    (harm : ∀ dt s, exec (c dt) s = effect dt (fun u => onlyIf (b u) (serve m op (lenOk u) checks act) u) s)
    (h : ∀ u, H u → b u = true ∧ AtRequest m op len u ∧ lenOk u len = true ∧ (∀ c ∈ checks u, c.1 = false) ∧
      act u = g u) : Completes c H g :=
  completes_of_onlyIf_eq harm (fun u hu => by
    obtain ⟨hb, hreq, hlen, hpass, heq⟩ := h u hu
    exact ⟨hb, (serve_passes hreq hlen hpass).trans heq⟩)

/-- A request of the ACT family waits until the interface of its world is not BUSY. -/
theorem completes_of_actServed (harm : ∀ dt s, exec (c dt) s = actServed dt m op len checks act s)
    (h : ∀ u, H u → u.waiting .actBusy (worldOf m) = false ∧ AtRequest m op len u ∧ (∀ c ∈ checks u, c.1 = false) ∧
      act u = g u) : Completes c H g :=
  completes_of_serve (lenOk := fun _ n => n == len) harm (fun u hu => by
    obtain ⟨hidle, hreq, hpass, heq⟩ := h u hu
    exact ⟨by rw [hidle, Bool.not_false], hreq, beq_self_eq_true len, hpass, heq⟩)

end

/-! ## The SYS, TIME and ACT families (R409 to R412, R424) -/

/-- A Leaf that the member has, named from a world that may (R35). -/
theorem leafChecks_pass {s : State} {m n : Nat} (hworld : s.barred m Reg.SYS_LEAF_STATE = false) (hn : n < s.leaves)
    (h8 : n < 8) : ∀ c ∈ s.leafChecks m n, c.1 = false := by
  simp [State.leafChecks, hworld, hn, h8]

/-- An entry of the request's own world. -/
theorem entryChecks_pass {s : State} {m : Nat} (he : s.arg m 0 < 256) (hworld : s.actWorld (s.arg m 0) = worldOf m) :
    ∀ c ∈ s.entryChecks m, c.1 = false := by
  simp [State.entryChecks, he, hworld]

/-- Settles O38: each request through its checks. -/
theorem systemAndTimeRequestsComplete : Obligations.SystemAndTimeRequestsComplete := by
  refine ⟨fun m => ?info, fun m => ?drain, fun m => ?start, fun m => ?stop, fun m n h1 h255 => ?write, fun m => ?timeGet,
    fun m v => ?timeSet, fun m e => ?actWrite, fun m => ?actRead, fun m => ?actCancel, fun m => ?broadcast⟩
  case info =>
    exact completes_of_served (fun _ _ => rfl) (fun u ⟨hreq, hworld⟩ => ⟨hreq, by simp [hworld], rfl⟩)
  case drain =>
    refine completes_of_served (fun _ _ => rfl) (fun u ⟨hreq, hworld, hn, h8, hlo, hhi, hflag, hst⟩ => ⟨hreq, ?_, rfl⟩)
    refine List.forall_mem_append.2 ⟨leafChecks_pass hworld hn h8, ?_⟩
    have hstate : (u.leaf (u.arg m 0) != 4 && u.leaf (u.arg m 0) != 6) = false := by
      rcases hst with h | h <;> rw [h] <;> rfl
    simp [hlo, hhi, hflag, hstate]
  case start =>
    refine completes_of_served (fun _ _ => rfl) (fun u ⟨hreq, hworld, hn, h8, hbusy, hoff⟩ => ⟨hreq, ?_, ?_⟩)
    · exact List.forall_mem_append.2 ⟨leafChecks_pass hworld hn h8, by simp [hbusy, hoff]⟩
    · simp only [State.leafStart, if_pos hoff]
  case stop =>
    refine completes_of_served (fun _ _ => rfl) (fun u ⟨hreq, hworld, hn, h8, hfault⟩ => ⟨hreq, ?_, rfl⟩)
    exact List.forall_mem_append.2 ⟨leafChecks_pass hworld hn h8, by simp [hfault]⟩
  case write =>
    refine completes_of_effect (fun _ _ => rfl) (fun u ⟨hreq, hn, hpairs⟩ => ?_)
    refine (serve_passes hreq (by simp [hn, h1, h255]) ?_).trans (by rw [hn])
    simp only [List.forall_mem_cons, List.any_map, List.all_map, List.any_eq_false, Bool.not_eq_eq_eq_not, Bool.not_false,
      List.all_eq_true, Function.comp_apply]
    refine ⟨fun e he => ?_, fun e he => ?_, fun e he => ?_, fun e he => ?_, by simp⟩
    all_goals
      obtain ⟨hworld, habsent, hlater, hrw, hpow⟩ := hpairs e he
      simp [hworld, habsent, hlater, hrw, hpow]
  case timeGet => exact completes_of_served (fun _ _ => rfl) (fun u hreq => ⟨hreq, by simp, rfl⟩)
  case timeSet =>
    exact completes_of_served (fun _ _ => rfl) (fun u ⟨hreq, hv⟩ =>
      ⟨hreq, by simp [hv], by simp only [hv, Option.getD_some]⟩)
  case actWrite =>
    refine completes_of_actServed (fun _ _ => rfl) (fun u ⟨hidle, hreq, hi, hst, he⟩ => ⟨hidle, hreq, ?_, ?_⟩)
    · rcases hi with h | h <;> simp [h]
    · simp only [hst, he, if_true]
  case actRead =>
    exact completes_of_actServed (fun _ _ => rfl) (fun u ⟨hidle, hreq, he, hworld⟩ =>
      ⟨hidle, hreq, entryChecks_pass he hworld, rfl⟩)
  case actCancel =>
    refine completes_of_actServed (fun _ _ => rfl) (fun u ⟨hidle, hreq, he, hworld, hok⟩ =>
      ⟨hidle, hreq, entryChecks_pass he hworld, ?_⟩)
    simp [hok, statusOfResult]
  case broadcast =>
    refine completes_of_actServed (fun _ _ => rfl) (fun u ⟨hidle, hreq, hd, hlo, hhi, hst⟩ => ⟨hidle, hreq, ?_, ?_⟩)
    · simp [hd, hhi, Nat.pos_iff_ne_zero.1 hlo]
    · simp only [hst, ne_eq, not_true_eq_false, if_false]

/-! ## The TABLE and PORT families (R410 to R413, R429) -/

/-- A secure mailbox may act on every register (R35). -/
theorem State.barred_of_secure (s : State) {m : Nat} (h : worldOf m = 1) (a : Nat) : s.barred m a = false := by
  simp [State.barred, h]

section
variable {s : State} {m : Nat} (hm : worldOf m = 1)
include hm

/-- A mask of Leaves whose tables a secure mailbox may reach. -/
theorem maskChecks_pass {l tables : List Nat} {bad : Bool} (hon : ∀ n ∈ l, s.leafOn n = true) (hne : l ≠ [])
    (hbad : bad = false) : ∀ c ∈ s.maskChecks m l tables bad, c.1 = false := by
  have hoff : l.any (fun n => !s.leafOn n) = false := List.any_eq_false.2 (fun n hn => by simp [hon n hn])
  simp [State.maskChecks, hm, hoff, hne, hbad]

theorem portChecks_pass {p : Nat} (hport : s.isPort p = true) (hon : s.dieOn p = true) :
    ∀ c ∈ s.portChecks m p, c.1 = false := by
  simp [State.portChecks, s.barred_of_secure hm, hport, hon]

theorem lanedChecks_pass {p : Nat} (hport : s.isPort p = true) (hp : p < 258) (hon : s.dieOn p = true) :
    ∀ c ∈ s.lanedChecks m p, c.1 = false := by
  simp [State.lanedChecks, s.barred_of_secure hm, hport, hon, hp]

/-- An access to a module that is present and answers, within the module's memory (R412, R413). -/
theorem moduleChecks_pass {sff : Bool} (hport : s.isPort (s.arg m 0) = true) (hp : s.arg m 0 < 256)
    (hon : s.dieOn (s.arg m 0) = true) (hbank : s.arg m 1 < 256) (hpage : s.arg m 2 < 256)
    (hend : s.arg m 3 + s.arg m 4 ≤ 256) (hlo : 1 ≤ s.arg m 4) (hhi : s.arg m 4 ≤ 128) (hsff : sff = true → s.arg m 1 = 0) :
    ∀ c ∈ s.moduleChecks m true sff true, c.1 = false := by
  refine List.forall_mem_append.2 ⟨lanedChecks_pass hm hport (by omega) hon, ?_⟩
  have hzero : (sff && s.arg m 1 != 0) = false := by
    cases sff with
    | false => rfl
    | true => simp [hsff rfl]
  simp [hp, hbank, hpage, hend, Nat.pos_iff_ne_zero.1 hlo, hhi, hzero]

end

theorem Member.leaves_le (x : Member) : x.leaves ≤ 8 := by cases x <;> decide

/-- A lane that exists is not a port without lanes (R76). -/
theorem State.lane_of_laneExists {s : State} {p : Nat} (h : s.laneExists p = true) : p < 258 := by
  have hports : s.nPorts ≤ 32 * 8 := Nat.mul_le_mul_left 32 (Member.leaves_le s.member)
  simp only [State.laneExists, Bool.or_eq_true, decide_eq_true_eq, beq_iff_eq] at h
  omega

/-! A copy of banks changes no request, so that a request read again during the copy asks for the same. -/

/-- Functions that agree where an invariant of theirs holds agree when applied in order. -/
theorem State.forAll_congr_of_kept {P : State → Prop} {f g : Nat → State → State} (heq : ∀ i t, P t → f i t = g i t)
    (hkeep : ∀ i t, P t → P (g i t)) (l : List Nat) {s : State} (hs : P s) : s.forAll l f = s.forAll l g := by
  induction l generalizing s with
  | nil => rfl
  | cons i l ih =>
    change (f i s).forAll l f = (g i s).forAll l g
    rw [heq i s hs]
    exact ih (hkeep i s hs)

/-- What every function of a list leaves, the list leaves. -/
theorem State.forAll_kept {α : Type} {v : State → α} {f : Nat → State → State} (hkeep : ∀ i t, v (f i t) = v t)
    (l : List Nat) (s : State) : v (s.forAll l f) = v s := by
  induction l generalizing s with
  | nil => rfl
  | cons i l ih => exact (ih (f i s)).trans (hkeep i s)

theorem State.bankCopy_arg (s : State) (n pair m i : Nat) : (s.bankCopy n pair).arg m i = s.arg m i := rfl

theorem State.forAll_bankCopy (u : State) (m i : Nat) (l : List Nat) :
    u.forAll l (fun n s => s.forAll (copyPairs (s.arg m i)) (fun k t => t.bankCopy n k)) =
      u.forAll l (fun n s => s.forAll (copyPairs (u.arg m i)) (fun k t => t.bankCopy n k)) := by
  refine State.forAll_congr_of_kept (P := fun t => t.arg m i = u.arg m i) (fun n t ht => ?_) (fun n t ht => ?_) l rfl
  · rw [ht]
  · exact (State.forAll_kept (v := fun t => t.arg m i) (fun k t => State.bankCopy_arg t n k m i) _ t).trans ht

/-- Settles O40: each request through its checks. -/
theorem tableAndPortRequestsComplete : Obligations.TableAndPortRequestsComplete := by
  refine ⟨fun m hm => ?tableOp, fun m hm => ?flush, fun m hm => ?bankCopy, fun m hm => ?mode, fun m hm => ?admin,
    fun m present hm => ?status, fun m sff data hm => ?read, fun m sff n hm => ?write, fun p hp => ?ready, fun m x => ?lldp⟩
  case tableOp =>
    refine completes_of_serve (lenOk := fun _ n => n == 48) (fun _ _ => rfl)
      (fun u ⟨hidle, hreq, hon, hne, hmask, hctrl, hone, hheld⟩ => ⟨by rw [hm, hidle], hreq, rfl, ?_, ?_⟩)
    · refine List.forall_mem_append.2 ⟨maskChecks_pass hm hon hne ?_, by simp [hheld]⟩
      simp only [hctrl, Bool.not_true, Bool.or_false, Bool.or_eq_false_iff, decide_eq_false_iff_not, not_le, hmask, true_and,
        Bool.and_eq_false_imp, Bool.or_eq_true, beq_iff_eq, not_lt]
      exact hone
    · rw [hm]
  case flush =>
    refine completes_of_served (fun _ _ => rfl) (fun u ⟨hreq, hport, hleaf, hne, hmask, hflag⟩ => ⟨hreq, ?_, rfl⟩)
    have hbusy : (u.maskLeaves (u.arg m 0)).any (fun n => u.tableRefuses n 0) = false :=
      List.any_eq_false.2 (fun n hn => by simp [(hleaf n hn).2])
    refine List.forall_mem_append.2 ⟨List.forall_mem_append.2 ⟨by simp [hm, hport], ?_⟩, by simp [hbusy]⟩
    exact maskChecks_pass hm (fun n hn => (hleaf n hn).1) hne (by simp [hmask, hflag])
  case bankCopy =>
    refine completes_of_served (fun _ _ => rfl) (fun u ⟨hreq, hleaf, hne, hmask, hpairs⟩ =>
      ⟨hreq, ?_, congrArg (fun t => t.answer m []) (State.forAll_bankCopy u m 1 _)⟩)
    have hbusy : (u.maskLeaves (u.arg m 0)).any (fun n => (copyPairs (u.arg m 1)).any (fun i =>
        u.tableRefuses n (bankTable i (1 - u.bankBit n i)))) = false :=
      List.any_eq_false.2 (fun n hn => by
        rw [Bool.not_eq_true]
        exact List.any_eq_false.2 (fun i hi => by simp [(hleaf n hn).2 i hi]))
    refine List.forall_mem_append.2 ⟨?_, by simp [hbusy]⟩
    exact maskChecks_pass hm (fun n hn => (hleaf n hn).1) hne (by simp [hmask, hpairs])
  case mode =>
    refine completes_of_served (fun _ _ => rfl) (fun u ⟨hreq, hlane, hfirst, hon, hmode⟩ => ⟨hreq, ?_, rfl⟩)
    have hlt := State.lane_of_laneExists hlane
    have hlanes : (u.arg m 0 == 258 || u.arg m 0 == 259) = false := by
      simp only [Bool.or_eq_false_iff, beq_eq_false_iff_ne]
      omega
    have hown : (u.portOfLane (u.arg m 0)).any (fun q => q != u.arg m 0) = false := by
      rcases hfirst with h | h <;> simp [h]
    simp [u.barred_of_secure hm, hlanes, hlane, hown, hon, hmode]
  case admin =>
    refine completes_of_served (fun _ _ => rfl) (fun u ⟨hreq, hport, hon, hflag⟩ => ⟨hreq, ?_, rfl⟩)
    exact List.forall_mem_append.2 ⟨portChecks_pass hm hport hon, by simp [hflag]⟩
  case status =>
    exact completes_of_served (fun _ _ => rfl) (fun u ⟨hreq, hport, hp, hon⟩ =>
      ⟨hreq, lanedChecks_pass hm hport hp hon, rfl⟩)
  case read =>
    exact completes_of_served (fun _ _ => rfl) (fun u ⟨hreq, hport, hp, hon, hbank, hpage, hend, hlo, hhi, hsff⟩ =>
      ⟨hreq, moduleChecks_pass hm hport hp hon hbank hpage hend hlo hhi hsff, rfl⟩)
  case write =>
    refine completes_of_effect (fun _ _ => rfl) (fun u ⟨hreq, hport, hp, hon, hbank, hpage, hend, hn, hlo, hhi, hsff⟩ => ?_)
    subst hn
    exact serve_passes hreq (beq_self_eq_true _) (moduleChecks_pass hm hport hp hon hbank hpage hend hlo hhi hsff)
  case ready =>
    exact completes_of_onlyIf (fun _ _ => rfl) (fun u ⟨hfw, hnames, hon⟩ => by simp [hfw, hp, hnames, hon])
  case lldp =>
    exact completes_of_served (fun _ _ => rfl) (fun u ⟨hreq, hnames, hx⟩ => ⟨hreq, by simp [hnames, hx], by simp only [hx]⟩)

end Sys2Proof.Machine
end

section
/-!
Proofs of the family of network time and timed actions: what reset leaves in the registers the spec gives reset values.
-/
namespace Sys2Proof.Machine

/-! ## Reset values of the register file (R8, R25, R39) -/

/-- A word that was never written reads its reset value. -/
theorem State.reset_get (a : Nat) : State.reset.get a = resetWord .d8 a := rfl

theorem State.reset_fldInt {f : FRef} {w : Word} (h : resetWord .d8 f.addr = w) :
    State.reset.fldInt f = signed f.len (bitsOf w f.lo f.len) := by
  rw [State.fldInt, State.fld, State.reset_get, h]

/-- From the results of calibration on, a register's reset value is that of its row, in every member. -/
theorem resetOverride_none (m : Member) {a : Nat} (h : Reg.CAL_RES 0 0 ≤ a) : resetOverride m a = none := by
  have hlow : ∀ {b : Nat}, b < Reg.CAL_RES 0 0 → a ≠ b := fun hb => Nat.ne_of_gt (hb.trans_le h)
  have hrq : ¬(Reg.PWR_RQ 0 ≤ a ∧ a < Reg.PWR_RQ 176 ∧ a % 4 = 0) :=
    fun ⟨_, hlt, _⟩ => absurd (hlt.trans_le (by decide)) (Nat.not_lt.2 h)
  have hroute : ¬(Reg.EVT_ROUTE 0 ≤ a ∧ a < Reg.EVT_ROUTE 96 ∧ a % 4 = 0) :=
    fun ⟨_, hlt, _⟩ => absurd (hlt.trans_le (by decide)) (Nat.not_lt.2 h)
  have hclamp : ¬(a = Reg.DPLL_CLAMP 1 ∨ a = Reg.DPLL_CLAMP 2) := not_or.2 ⟨hlow (by decide), hlow (by decide)⟩
  rw [resetOverride, if_neg (hlow (by decide)), if_neg (hlow (by decide)), if_neg hrq, if_neg (hlow (by decide)), if_neg hclamp,
    if_neg (hlow (by decide)), if_neg (hlow (by decide)), if_neg (hlow (by decide)), if_neg hroute, if_neg (hlow (by decide)),
    if_neg (hlow (by decide)), if_neg (hlow (by decide)), if_neg (hlow (by decide)), if_neg (hlow (by decide))]

/-- What a row of some rows gives the word at an address. -/
def rowsReset (rows : List RegRow) (a : Nat) : Word :=
  match findRow rows a with
  | some r => BitVec.ofNat 32 (fieldsReset r.fields)
  | none => 0#32

/-- The registers of a Leaf's block, whichever the Leaf (R39). -/
theorem rowOf_leaf {n off : Nat} (hn : n < 8) (hoff : off < 0x400000) :
    rowOf (leafBase n + off) = findRow (leafRows off) off := by
  have hspine : ¬leafBase n + off < 0x1000000 := by unfold leafBase; omega
  have hleaf : leafBase n + off < 0x3000000 := by unfold leafBase; omega
  have hmod : (leafBase n + off - 0x1000000) % 0x400000 = off := by unfold leafBase; omega
  rw [rowOf, if_neg hspine, if_pos hleaf]
  simp only [hmod]

theorem resetWord_leaf (m : Member) {n off : Nat} (hn : n < 8) (hoff : off < 0x400000) :
    resetWord m (leafBase n + off) = rowsReset (leafRows off) off := by
  rw [resetWord, resetOverride_none m (by unfold leafBase Reg.CAL_RES; omega), rowOf_leaf hn hoff]
  rfl

/-- A register of the Spine, from the results of calibration on. -/
theorem resetWord_spine (m : Member) {a : Nat} (hlo : Reg.CAL_RES 0 0 ≤ a) (hhi : a < 0x1000000) :
    resetWord m a = rowsReset (spineRows (a / 0x10000)) a := by
  rw [resetWord, resetOverride_none m hlo, rowOf, if_pos hhi]
  rfl

/-! ## Rows that end below an address -/

/-- How far the last word of a row lies from its first. -/
def dimsSpan (ds : List (Nat × Nat)) : Nat := (ds.map (fun d => d.1 * (d.2 - 1))).sum

/-- A word of a row lies no further than its last. -/
theorem le_dimsSpan_of_inDims {ds : List (Nat × Nat)} {off : Nat} (h : inDims off ds = true) : off ≤ dimsSpan ds := by
  induction ds generalizing off with
  | nil => exact Nat.le_of_eq (eq_of_beq h)
  | cons d ds ih =>
    obtain ⟨st, c⟩ := d
    rw [inDims, Bool.and_eq_true, decide_eq_true_eq] at h
    have hrest := ih h.2
    have hfirst : st * (off / st) ≤ st * (c - 1) := Nat.mul_le_mul_left st (by omega)
    have hsplit := Nat.div_add_mod off st
    simp only [dimsSpan, List.map_cons, List.sum_cons] at hrest ⊢
    omega

/-- Rows that end below an address do not hold it. -/
theorem findRow_append_of_below {l : List RegRow} (l' : List RegRow) {a : Nat} (h : ∀ r ∈ l, r.base + dimsSpan r.dims < a) :
    findRow (l ++ l') a = findRow l' a := by
  rw [findRow, List.find?_append, List.find?_eq_none.2, Option.none_or]
  · rfl
  · intro r hr hmatch
    rw [Bool.and_eq_true, decide_eq_true_eq] at hmatch
    have hle := le_dimsSpan_of_inDims hmatch.2
    have hlt := h r hr
    omega

/-! ## The registers of R95, R114, R169, R171, R440 -/

/-- A result of calibration says that none has been taken (R440). -/
theorem resetWord_calRes {i k : Nat} (hi : i < 7) (hk : k < 258) : resetWord .d8 (Reg.CAL_RES i k) = 0xF0000000#32 := by
  have hlo : Reg.CAL_RES 0 0 ≤ Reg.CAL_RES i k := by unfold Reg.CAL_RES; omega
  have hhi : Reg.CAL_RES i k < 0x1000000 := by unfold Reg.CAL_RES; omega
  have hblock : Reg.CAL_RES i k / 0x10000 = 0x0C := by unfold Reg.CAL_RES; omega
  have hlast : rows_spine0C =
      rows_spine0C.dropLast ++ [⟨0xc2000, [(0x800, 7), (0x4, 258)], (0, 1), [⟨31, 0, .ro, 0xf0000000⟩]⟩] := rfl
  have hbelow : ∀ r ∈ rows_spine0C.dropLast, r.base + dimsSpan r.dims < Reg.CAL_RES 0 0 := by decide
  have hoff : Reg.CAL_RES i k - 0xc2000 = 0x800 * i + 0x4 * k := by unfold Reg.CAL_RES; omega
  have hmod : (0x800 * i + 0x4 * k) % 0x800 = 0x4 * k := by omega
  have hin : inDims (0x800 * i + 0x4 * k) [(0x800, 7), (0x4, 258)] = true := by
    simp only [inDims, hmod, Bool.and_eq_true, decide_eq_true_eq, beq_iff_eq]
    omega
  have hrow : findRow (spineRows 0x0C) (Reg.CAL_RES i k) =
      some ⟨0xc2000, [(0x800, 7), (0x4, 258)], (0, 1), [⟨31, 0, .ro, 0xf0000000⟩]⟩ := by
    change findRow rows_spine0C _ = _
    rw [hlast, findRow_append_of_below _ (fun r hr => (hbelow r hr).trans_le hlo), findRow, List.find?_singleton,
      hoff, hin, decide_eq_true (show 0xc2000 ≤ Reg.CAL_RES i k from hlo)]
    rfl
  rw [resetWord_spine .d8 hlo hhi, hblock, rowsReset, hrow]
  decide

/-- The taps of R95 and the frame size of R114, in the 32 lanes of a Leaf block. -/
theorem rowsReset_laneBlock : ∀ k, k < 32 →
    rowsReset (leafRows (0x40028 + 0x1000 * k)) (0x40028 + 0x1000 * k) = 0x3F00#32 ∧
    rowsReset (leafRows (0x4002C + 0x1000 * k)) (0x4002C + 0x1000 * k) = 0#32 ∧
    bitsOf (rowsReset (leafRows (0x80004 + 0x1000 * k)) (0x80004 + 0x1000 * k)) 0 14 = 9216 := by decide

/-- The limits of R169, in the 32 ports of a Leaf block. -/
theorem rowsReset_portBlock : ∀ k, k < 32 →
    bitsOf (rowsReset (leafRows (0x180400 + 0x4 * k)) (0x180400 + 0x4 * k)) 0 17 = 3072 ∧
    ∀ c, c < 8 → bitsOf (rowsReset (leafRows (0x180000 + 0x20 * k + 0x4 * c)) (0x180000 + 0x20 * k + 0x4 * c)) 0 17 = 384 := by
  decide

/-- A lane's words of the Leaf block its lane lies in, or of the Spine's for the service ports (R29). -/
theorem resetWord_lane {g : Nat} (hg : g < 258) :
    resetWord .d8 (Reg.LANE_FFE_NOW g) = 0x3F00#32 ∧ resetWord .d8 (Reg.LANE_FFE_NOW_P2 g) = 0#32 ∧
    bitsOf (resetWord .d8 (Reg.PORT_MAC g)) 0 14 = 9216 := by
  rcases Nat.lt_or_ge g 256 with h | h
  · have hleaf (base : Nat) (hbase : base < 0xC0000) : resetWord .d8 (leafBase (g / 32) + (base + 0x1000 * (g % 32))) =
        rowsReset (leafRows (base + 0x1000 * (g % 32))) (base + 0x1000 * (g % 32)) :=
      resetWord_leaf .d8 (by omega) (by omega)
    have hnow : Reg.LANE_FFE_NOW g = leafBase (g / 32) + (0x40028 + 0x1000 * (g % 32)) := by
      simp only [Reg.LANE_FFE_NOW, laneBase, if_pos h]; omega
    have hnow2 : Reg.LANE_FFE_NOW_P2 g = leafBase (g / 32) + (0x4002C + 0x1000 * (g % 32)) := by
      simp only [Reg.LANE_FFE_NOW_P2, laneBase, if_pos h]; omega
    have hmac : Reg.PORT_MAC g = leafBase (g / 32) + (0x80004 + 0x1000 * (g % 32)) := by
      simp only [Reg.PORT_MAC, portBase, if_pos h]; omega
    rw [hnow, hnow2, hmac, hleaf _ (by decide), hleaf _ (by decide), hleaf _ (by decide)]
    exact rowsReset_laneBlock _ (Nat.mod_lt _ (by decide))
  · have hservice : g = 256 ∨ g = 257 := by omega
    rcases hservice with rfl | rfl <;> decide

/-- The limits of a front-panel port's buffer (R169). -/
theorem reset_leafLimits {p : Nat} (hp : p < 256) :
    State.reset.fld (plimF p) = 3072 ∧ ∀ c, c < 8 → State.reset.fld (qlimF p c) = 384 := by
  obtain ⟨hport, hclass⟩ := rowsReset_portBlock (p % 32) (Nat.mod_lt _ (by decide))
  have hleaf (off : Nat) (hoff : off < 0x400000) : resetWord .d8 (leafBase (p / 32) + off) = rowsReset (leafRows off) off :=
    resetWord_leaf .d8 (by omega) hoff
  refine ⟨?_, fun c hc => ?_⟩
  · have haddr : Reg.BUF_PLIM (p / 32) (p % 32) = leafBase (p / 32) + (0x180400 + 0x4 * (p % 32)) := Nat.add_assoc ..
    rw [plimF, if_pos hp, State.fld, State.reset_get, Fld.BUF_PLIM_CELLS, haddr, hleaf _ (by omega)]
    exact hport
  · have haddr : Reg.BUF_QLIM (p / 32) (p % 32) c = leafBase (p / 32) + (0x180000 + 0x20 * (p % 32) + 0x4 * c) := by
      unfold Reg.BUF_QLIM; omega
    rw [qlimF, if_pos hp, State.fld, State.reset_get, Fld.BUF_QLIM_CELLS, haddr, hleaf _ (by omega)]
    exact hclass c hc

/-- The limits of the Spine's ports (R171). -/
theorem reset_spineLimits {p : Nat} (hlo : 256 ≤ p) (hhi : p < 260) :
    State.reset.fld (plimF p) = 4096 ∧ ∀ c, c < 8 → State.reset.fld (qlimF p c) = 512 := by
  have hport : p = 256 ∨ p = 257 ∨ p = 258 ∨ p = 259 := by omega
  rcases hport with rfl | rfl | rfl | rfl <;> decide

theorem reset_outMute : ∀ j, j < 12 → State.reset.on (Fld.OUT_CFG_MUTE_HIZ j) = true := by decide

/-- The world of each source's default route (R460). -/
theorem reset_routeWorld : ∀ i, i < 96 →
    State.reset.fld (Fld.EVT_ROUTE_WORLD i) = (if i = 1 ∨ i = 2 ∨ (76 ≤ i ∧ i ≤ 79) then 1 else 0) := by decide

/-- Settles O48: each register through its row of the map, the tables through what was never written. -/
theorem resetValues : Obligations.ResetValues := by
  refine ⟨fun g hg => ?lanes, fun p hp => reset_leafLimits hp, fun p hhi hlo => reset_spineLimits hlo hhi,
    ?clampT, ?clampM, ?clampA, reset_outMute,
    fun i k hi hk => resetWord_calRes hi hk, ?enable0, ?enable1, ?enable2, reset_routeWorld, fun n t i => rfl,
    fun e => rfl, rfl, ?now, ?boot⟩
  case lanes =>
    obtain ⟨hnow, hnow2, hmac⟩ := resetWord_lane hg
    obtain ⟨h0, hm2, hm1, hp1, hp2⟩ : signed 8 (bitsOf 0x3F00#32 8 8) = 63 ∧ signed 8 (bitsOf 0x3F00#32 24 8) = 0 ∧
      signed 8 (bitsOf 0x3F00#32 16 8) = 0 ∧ signed 8 (bitsOf 0x3F00#32 0 8) = 0 ∧ signed 8 (bitsOf 0#32 0 8) = 0 := by decide
    exact ⟨(State.reset_fldInt hnow).trans h0, (State.reset_fldInt hnow).trans hm2, (State.reset_fldInt hnow).trans hm1,
      (State.reset_fldInt hnow).trans hp1, (State.reset_fldInt hnow2).trans hp2, hmac⟩
  all_goals decide

end Sys2Proof.Machine
end

section
/-!
Proofs of the family of the lanes: the writes of a lane's settings, the commands that bring a port up, those by which a port loses
its link, and those of adaptation and of the eye scan.
-/
namespace Sys2Proof.Machine

/-- A write of a register of a lane that exists completes where the checks pass and the hypotheses give what the write makes. -/
theorem completes_of_lane {c : Nat → Instr} {H : State → Prop} {src : Src} {g a : Nat} {f f' : State → State}
    (harm : ∀ dt s, exec (c dt) s = effect dt (fun u => onlyIf (u.laneExists g) (fun u => u.guarded src a f) u) s)
    (h : ∀ u, H u → u.laneExists g = true ∧ u.access src a = .ok ∧ f u = f' u) : Completes c H f' := by
  refine completes_of_onlyIf_eq harm (fun u hu => ?_)
  obtain ⟨hlane, hok, heq⟩ := h u hu
  exact ⟨hlane, (State.guarded_ok f hok).trans heq⟩

/-! ## LANE.CTRL (R83, R84, R96, R100) -/

/-- The state with CTRL stored: the preset back in use where software gave up the coefficients (R96), the written values in use
where adaptation is turned off (R100). -/
def State.laneCtrlStored (s : State) (g : Nat) (w : Word) : State :=
  let t := s.set (Reg.LANE_CTRL g) (w &&& 0xF31#32)
  let t := if s.on (Fld.LANE_CTRL_FFE_SRC g) then t.presetLane g else t
  if s.fld (Fld.LANE_CTRL_ADAPT_MODE g) ≠ 0 ∧ bitsOf w 10 2 = 0 then (t.asWritten g).eqStep g else t

/-- RESTART of a port that is not OFF sends it to DETECT, its failures forgotten (R84). -/
theorem State.restart_running {s : State} {p : Nat} (exit : Nat) (h : s.portState p ≠ 0) :
    s.restart p exit = (s.enterDetect p (fun _ => exit)).clearFails p := if_neg h

section
variable {s : State} {g p : Nat} {w : Word} (hmedia : bitsOf w 4 2 ≠ 3) (hadapt : bitsOf w 10 2 ≠ 3)
include hmedia hadapt

/-- On a lane in no port, the requests of its octet follow. -/
theorem laneCtrlWrite_portless (hport : (s.laneCtrlStored g w).portOfLane g = none) :
    laneCtrlWrite g w s =
      if g < 256 then (s.laneCtrlStored g w).followOctet (g / 8) else s.laneCtrlStored g w := by
  have hlegal : ¬(bitsOf w 4 2 = 3 ∨ bitsOf w 10 2 = 3) := not_or.2 ⟨hmedia, hadapt⟩
  simp only [State.laneCtrlStored] at hport ⊢
  simp only [laneCtrlWrite, if_neg hlegal, Bool.and_eq_true, bne_iff_ne, beq_iff_eq, hport]

/-- On a lane that is not the first of its port, nothing follows (R83). -/
theorem laneCtrlWrite_beside (hport : (s.laneCtrlStored g w).portOfLane g = some p) (hp : p ≠ g) :
    laneCtrlWrite g w s = s.laneCtrlStored g w := by
  have hlegal : ¬(bitsOf w 4 2 = 3 ∨ bitsOf w 10 2 = 3) := not_or.2 ⟨hmedia, hadapt⟩
  simp only [State.laneCtrlStored] at hport ⊢
  simp only [laneCtrlWrite, if_neg hlegal, Bool.and_eq_true, bne_iff_ne, beq_iff_eq, hport, hp, and_false, false_and, if_false]

/-- On the first lane of a port, LAST_EXIT clears as EN rises, the port's lanes follow, and RESTART acts on a port that was not
OFF (R83, R84). -/
theorem laneCtrlWrite_first (hport : (s.laneCtrlStored g w).portOfLane g = some g) :
    laneCtrlWrite g w s =
      (let t := s.laneCtrlStored g w
       let u := (if bitsOf w 0 1 == 1 && !s.on (Fld.LANE_CTRL_EN g) then t.laneFlds g Fld.LANE_STATE_LAST_EXIT 0
        else t).followLanes g
       if bitsOf w 1 1 = 1 ∧ t.portState g ≠ 0 then u.restart g 6 else u) := by
  have hlegal : ¬(bitsOf w 4 2 = 3 ∨ bitsOf w 10 2 = 3) := not_or.2 ⟨hmedia, hadapt⟩
  simp only [State.laneCtrlStored] at hport ⊢
  simp only [laneCtrlWrite, if_neg hlegal, Bool.and_eq_true, bne_iff_ne, beq_iff_eq, hport, and_true, true_and, if_true,
    Bool.not_eq_true', beq_eq_false_iff_ne]

end

/-! ## The other settings of a lane (R92, R95, R96, R99, R100, R103) -/

section
variable {s : State} {g : Nat} {w : Word}

/-- A write of TIMERS with every time-out in range stands (R92). -/
theorem laneTimersWrite_timers (htrain : 100 ≤ bitsOf w 20 12 ∧ bitsOf w 20 12 ≤ 3000)
    (hlock : 10 ≤ bitsOf w 10 10 ∧ bitsOf w 10 10 ≤ 1000) (hexch : 10 ≤ bitsOf w 0 10 ∧ bitsOf w 0 10 ≤ 1000) :
    laneTimersWrite g false w s = s.set (Reg.LANE_TIMERS g) w := by
  simp [laneTimersWrite, htrain, hlock, hexch]

/-- A write of RETRY with every field in range stands (R92). -/
theorem laneTimersWrite_retry (hbase : 1 ≤ bitsOf w 8 8) (hcap : bitsOf w 4 4 ≤ 10) (hslow : 1 ≤ bitsOf w 24 8)
    (hlimit : 1 ≤ bitsOf w 16 8) :
    laneTimersWrite g true w s = s.set (Reg.LANE_RETRY g) (w &&& 0xFFFFFFF0#32) := by
  simp [laneTimersWrite, hbase, hcap, hslow, hlimit]

/-- APPLY where software sets the coefficients and they keep R95 puts them in use (R96). -/
theorem ffeApply_used {t : State} (hstore : s.set (Reg.LANE_FFE_P2 g) (w &&& 0xFF#32) = t)
    (hsoft : t.on (Fld.LANE_CTRL_FFE_SRC g) = true) (hkeeps : ffeOk (t.get (Reg.LANE_FFE g)) w = true) :
    ffeApply g w s = t.useFfe g (t.get (Reg.LANE_FFE g)) w := by
  simp [ffeApply, hstore, hsoft, hkeeps]

/-- The start point of the CTLE is in use at once in OFF mode (R100). -/
theorem equaliserWrite_ctle :
    equaliserWrite g true w s =
      (let t := s.setFld (Fld.LANE_CTLE_PEAK g) (bitsOf w 0 5)
       if s.fld (Fld.LANE_CTRL_ADAPT_MODE g) = 0 then (t.setFld (Fld.LANE_CTLE_PEAK_NOW g) (bitsOf w 0 5)).eqStep g
       else t) := by
  simp only [equaliserWrite, if_true, beq_iff_eq]

/-- The start points of the DFE are in use at once in OFF mode, in PAM4 (R99, R100). -/
theorem equaliserWrite_dfe :
    equaliserWrite g false w s =
      (let t := s.set (Reg.LANE_DFE g) (w &&& 0xFFFFFF#32)
       if s.fld (Fld.LANE_CTRL_ADAPT_MODE g) = 0 ∧ 3 ≤ t.fld (Fld.LANE_STATE_RATE g) then
         (t.set (Reg.LANE_DFE_NOW g) (dfeUsed w)).eqStep g
       else t) := by
  simp only [equaliserWrite, Bool.false_eq_true, if_false, Bool.and_eq_true, beq_iff_eq, decide_eq_true_eq]

end

/-- Settles O7: CTRL through the lane's place in its port, the other registers through the ranges of their fields. -/
theorem laneSettingsComplete : Obligations.LaneSettingsComplete := by
  refine ⟨fun src g w hmedia hadapt => ?ctrl, fun src g => ?restart, fun src g w ht1 ht2 hl1 hl2 he1 he2 => ?timers,
    fun src g w hbase hcap hslow hlimit => ?retry, fun src g w hord => ?adapt, fun src g w => ?ffe, fun src g w => ?ctle,
    fun src g w => ?dfe⟩
  case ctrl =>
    refine completes_of_lane (fun _ _ => rfl) (fun u ⟨hlane, hok⟩ => ⟨hlane, hok, ?_⟩)
    change _ = (match (u.laneCtrlStored g w).portOfLane g with
      | none => _
      | some p => _)
    cases hport : (u.laneCtrlStored g w).portOfLane g with
    | none => exact laneCtrlWrite_portless hmedia hadapt hport
    | some p =>
      by_cases hp : p = g
      · subst hp
        exact (laneCtrlWrite_first hmedia hadapt hport).trans (if_pos rfl).symm
      · exact (laneCtrlWrite_beside hmedia hadapt hport hp).trans (if_neg hp).symm
  case restart =>
    exact completes_of_lane (fun _ _ => rfl) (fun u ⟨hlane, hok, hport, hrun⟩ =>
      ⟨hlane, hok, (if_pos hport).trans (State.restart_running 6 hrun)⟩)
  case timers =>
    exact completes_of_lane (fun _ _ => rfl) (fun u ⟨hlane, hok⟩ =>
      ⟨hlane, hok, laneTimersWrite_timers ⟨ht1, ht2⟩ ⟨hl1, hl2⟩ ⟨he1, he2⟩⟩)
  case retry =>
    exact completes_of_lane (fun _ _ => rfl) (fun u ⟨hlane, hok⟩ => ⟨hlane, hok, laneTimersWrite_retry hbase hcap hslow hlimit⟩)
  case adapt => exact completes_of_lane (fun _ _ => rfl) (fun u ⟨hlane, hok⟩ => ⟨hlane, hok, if_pos hord⟩)
  case ffe =>
    exact completes_of_lane (fun _ _ => rfl) (fun u ⟨hlane, hok, hsoft, hkeeps⟩ => ⟨hlane, hok, ffeApply_used rfl hsoft hkeeps⟩)
  case ctle => exact completes_of_lane (fun _ _ => rfl) (fun u ⟨hlane, hok⟩ => ⟨hlane, hok, equaliserWrite_ctle⟩)
  case dfe => exact completes_of_lane (fun _ _ => rfl) (fun u ⟨hlane, hok⟩ => ⟨hlane, hok, equaliserWrite_dfe⟩)

/-! ## Detection, training and lock (R81, R84, R87, R89 to R91, R96) -/

/-- Resolution needs the port's technology, and its FEC where one is configured (R87). -/
theorem State.anResolves_iff {s : State} {p : Nat} {techs fecs : List Nat} :
    s.anResolves p techs fecs = true ↔
      s.portMode p ∈ techs ∧ (s.fld (Fld.PORT_MODE_FEC p) = 0 ∨ s.fld (Fld.PORT_MODE_FEC p) ∈ fecs) := by
  simp [State.anResolves]

/-- A probe 10 ms or more after the last one counts (R81). -/
theorem terminationProbe_counts {s : State} {p : Nat} (found : Bool)
    (h : ∀ t, (s.port p).probeAt = some t → t + 10 * msT ≤ s.ticks) :
    terminationProbe p found s = s.setPort p
      { s.port p with probeAt := some s.ticks, probeHits := if found then (s.port p).probeHits + 1 else 0 } := by
  have hspaced : (s.port p).probeAt.any (fun t => decide (s.ticks < t + 10 * msT)) = false := by
    rw [Option.any_eq_false]
    exact fun t ht => by simpa using h t ht
  simp only [terminationProbe, hspaced, Bool.false_eq_true, if_false]

/-- Where software sets the coefficients no request updates one (R96). -/
theorem trainStep_held_ne_updated (init l : List Int) (r : TrainReq) : (trainStep true init l r).2 ≠ .updated := by
  cases r <;> simp [trainStep]

/-- Requests answered in order give an answer each, and none is UPDATED where no step answers so. -/
theorem foldl_answers {step : List Int → TrainReq → List Int × TrainAnswer} (hstep : ∀ l r, (step l r).2 ≠ .updated)
    (reqs : List TrainReq) (x : List Int × List TrainAnswer) (hx : .updated ∉ x.2) :
    let y := reqs.foldl (fun x r => ((step x.1 r).1, x.2 ++ [(step x.1 r).2])) x
    y.2.length = x.2.length + reqs.length ∧ .updated ∉ y.2 := by
  induction reqs generalizing x with
  | nil => exact ⟨rfl, hx⟩
  | cons r reqs ih =>
    have hnext : .updated ∉ x.2 ++ [(step x.1 r).2] := by simp [hx, (hstep x.1 r).symm]
    obtain ⟨hlen, hmem⟩ := ih ((step x.1 r).1, x.2 ++ [(step x.1 r).2]) hnext
    refine ⟨hlen.trans ?_, hmem⟩
    rw [List.length_append, List.length_singleton, List.length_cons]
    omega

/-- A lane whose coefficients software sets answers every request as at its limit, and keeps them (R96). -/
theorem State.trainLane_held {s : State} {g : Nat} (reqs : List TrainReq) (h : s.on (Fld.LANE_CTRL_FFE_SRC g) = true) :
    ∃ l, s.trainLane g reqs = s.emit (.train g l) ∧ l.length = reqs.length ∧ .updated ∉ l := by
  obtain ⟨hlen, hmem⟩ := foldl_answers (trainStep_held_ne_updated Config.ffeInit) reqs
    (ffeTaps (s.get (Reg.LANE_FFE_NOW g)) (s.get (Reg.LANE_FFE_NOW_P2 g)), []) List.not_mem_nil
  refine ⟨_, ?_, hlen.trans (Nat.zero_add _), hmem⟩
  simp only [State.trainLane, h, if_true]

/-- Lanes named record their own reason, the port's others that of another lane (R84). -/
theorem laneReason_eq (lanes : List Nat) (own : Nat) : laneReason lanes own = fun g => if g ∈ lanes then own else 7 := by
  funext g
  simp only [laneReason, List.contains_iff_mem]

/-- A condition named on lanes arises on the port where one of them is the port's. -/
theorem State.any_lanesOf {s : State} {p : Nat} {lanes : List Nat} (h : ∃ g, g ∈ lanes ∧ g ∈ s.lanesOf p) :
    lanes.any (fun g => (s.lanesOf p).contains g) = true := by
  simpa using h

/-- A lane's lock leads to EXCHANGE where every lane of the port is then locked and the skew is tolerable (R90). -/
theorem blockLock_eq (p g skew : Nat) (s : State) :
    blockLock p g skew s =
      (let t := s.modPort p (fun x =>
        { x with locked := if x.locked.contains g then x.locked else x.locked ++ [g], slip := x.slip || g == p })
       if skew ≤ maxSkew ∧ ∀ l ∈ t.lanesOf p, l ∈ (t.port p).locked then t.enterExchange p else t) := by
  simp only [blockLock, List.all_eq_true, List.contains_iff_mem]

/-- Settles O8: detection through the media's rule, the failures through the reason each lane records, training through the
requests of its lanes, lock through the lanes still hunting. -/
theorem bringUpComplete : Obligations.BringUpComplete := by
  refine ⟨fun p signal => ?found, fun p found => ?probe, fun p techs fecs => ?resolved, fun p techs fecs => ?unresolved,
    fun p signal => ?anTimeout, fun p reqs => ?trained, fun s g reqs => State.trainLane_held reqs, fun p lanes => ?trainFail,
    fun p => ?trainTimeout, fun g seen skew p => ?lock, fun p => ?lockTimeout⟩
  case found =>
    exact completes_of_onlyIf (fun _ _ => rfl) (fun u ⟨hdet, hfound⟩ => by rw [hdet, hfound, Bool.and_true])
  case probe =>
    exact completes_of_onlyIf_eq (fun _ _ => rfl) (fun u ⟨hdet, hmedia, hneg, hlast⟩ =>
      ⟨by simp [hdet, hmedia, hneg], terminationProbe_counts found hlast⟩)
  case resolved =>
    exact completes_of_onlyIf_eq (fun _ _ => rfl) (fun u ⟨hdet, hneg, hres⟩ =>
      ⟨by rw [hdet, hneg, Bool.and_true], if_pos (State.anResolves_iff.2 hres)⟩)
  case unresolved =>
    refine completes_of_onlyIf_eq (fun _ _ => rfl) (fun u ⟨hdet, hneg, hres⟩ =>
      ⟨by rw [hdet, hneg, Bool.and_true], if_neg (mt State.anResolves_iff.1 ?_)⟩)
    rwa [not_and_or, not_or]
  case anTimeout =>
    exact completes_of_onlyIf (fun _ _ => rfl) (fun u ⟨hdet, hneg, hnone, hlong⟩ => by simp [hdet, hneg, hnone, hlong])
  case trained => exact completes_of_onlyIf (fun _ _ => rfl) (fun u ⟨hname, hst⟩ => by simp [hname, hst])
  case trainFail =>
    exact completes_of_onlyIf_eq (fun _ _ => rfl) (fun u ⟨hname, hst, hlane⟩ =>
      ⟨by rw [hname, hst, State.any_lanesOf hlane]; rfl, by rw [laneReason_eq]⟩)
  case trainTimeout => exact completes_of_onlyIf (fun _ _ => rfl) (fun u ⟨hst, hdue⟩ => by simp [hst, hdue])
  case lock =>
    refine completes_of_effect (fun _ _ => rfl) (fun u ⟨hport, hst, hlocks⟩ => ?_)
    simp only [hport]
    exact (onlyIf_true _ u (by simp [hst, hlocks])).trans (blockLock_eq p g skew u)
  case lockTimeout => exact completes_of_onlyIf (fun _ _ => rfl) (fun u ⟨hst, hdue⟩ => by simp [hst, hdue])

/-! ## EXCHANGE, ACTIVE and back-off (R84, R87, R89, R93) -/

/-- Lock lost in EXCHANGE or ACTIVE is counted and raised, and the port returns to LOCK, where its other lanes keep theirs. -/
theorem lockLoss_returns {s : State} {p : Nat} (g : Nat) (h : s.portState p ≠ 3) :
    lockLoss p g s = (((s.bump (Fld.LANE_LOCK_LOSS_COUNT g) 1).raise (Fld.LANE_EVT_LOCK_LOSS g)).enterLock p).modPort p
      (fun x => { x with slip := x.slip || g == p, locked := (s.lanesOf p).filter (fun l => l != g) }) := by
  simp only [lockLoss, if_neg h]

/-- Lock lost in LOCK sends the lane to its hunt. -/
theorem lockLoss_hunts {s : State} {p : Nat} (g : Nat) (h : s.portState p = 3) :
    lockLoss p g s = s.modPort p
      (fun x => { x with slip := x.slip || g == p, locked := (s.port p).locked.filter (fun l => l != g) }) := by
  simp only [lockLoss, if_pos h]

/-- LOCK_LOSS completes on a port in LOCK, EXCHANGE or ACTIVE whose lane saw what loses lock. -/
theorem completes_lockLoss {g p : Nat} {seen : List Bool} {H : State → Prop} {f : State → State}
    (h : ∀ u, H u → u.portOfLane g = some p ∧ (3 ≤ u.portState p ∧ u.portState p ≤ 5) ∧ u.unlocks p seen = true ∧
      lockLoss p g u = f u) : Completes (fun dt => .lockLoss dt ⟨g, seen⟩) H f := by
  refine completes_of_effect (fun _ _ => rfl) (fun u hu => ?_)
  obtain ⟨hport, hst, hloses, heq⟩ := h u hu
  simp only [hport]
  exact (onlyIf_true _ u (by simp [hst, hloses])).trans heq

/-- A module lost sends a port with optics that is not OFF to DETECT (R84). -/
theorem State.restart_if_running (s : State) (q : Prop) [Decidable q] (p exit : Nat) :
    (if q ∧ s.portState p ≠ 0 then s.restart p exit else s) =
      if q ∧ s.portState p ≠ 0 then (s.enterDetect p (fun _ => exit)).clearFails p else s :=
  ite_congr rfl (fun h => State.restart_running exit h.2) (fun _ => rfl)

/-- Settles O9: Clause 37, the wait, lock lost by the port's state, signal, module and back-off. -/
theorem linkLossComplete : Obligations.LinkLossComplete := by
  refine ⟨fun p => ?done, fun p => ?failed, fun p => ?waited, fun g seen p => ?returns, fun g seen p => ?hunts,
    fun p lanes => ?signal, fun p => ?module, fun p => ?backoff⟩
  case done => exact completes_of_onlyIf (fun _ _ => rfl) (fun u ⟨hst, hmode, hen⟩ => by simp [hst, hmode, hen])
  case failed => exact completes_of_onlyIf (fun _ _ => rfl) (fun u ⟨hst, hmode, hen⟩ => by simp [hst, hmode, hen])
  case waited => exact completes_of_onlyIf (fun _ _ => rfl) (fun u ⟨hst, hdue⟩ => by simp [hst, hdue])
  case returns =>
    exact completes_lockLoss (fun u ⟨hport, hst, hloses⟩ =>
      ⟨hport, by omega, hloses, lockLoss_returns g (by omega)⟩)
  case hunts => exact completes_lockLoss (fun u ⟨hport, hst, hloses⟩ => ⟨hport, by omega, hloses, lockLoss_hunts g hst⟩)
  case signal =>
    exact completes_of_onlyIf_eq (fun _ _ => rfl) (fun u ⟨hname, hst, hlane⟩ =>
      ⟨by rw [hname, decide_eq_true hst, State.any_lanesOf hlane]; rfl, by rw [laneReason_eq]⟩)
  case module =>
    exact completes_of_onlyIf_eq (fun _ _ => rfl) (fun u hname => ⟨hname, State.restart_if_running _ _ p 5⟩)
  case backoff =>
    exact completes_of_onlyIf_eq (fun _ _ => rfl) (fun u ⟨hst, hdue⟩ => ⟨by simp [hst, hdue], rfl⟩)

/-! ## Adaptation (R101, R102, R108) -/

/-- The state with a code step noted: as the one step between two points of a scan (R108), and as the last one of its tap
(R101). -/
def State.stepNoted (s : State) (g tap : Nat) : State :=
  let t := { s with scanEnd := s.scanEnd.map (fun (e : Nat × Nat × Bool) => if e.1 = g then (g, e.2.1, true) else e) }
  t.modPort ((s.portOfLane g).getD g) (fun x => { x with stepAt := kput x.stepAt (4 * (g % 32) + tap) s.ticks })

section
variable {s : State} {g tap : Nat} {up : Bool}

/-- A step whose wait is over, and the first since a point ended, is taken: on the CTLE, or on a tap of the DFE. -/
theorem adaptationStep_steps (hfirst : s.scanStepped g = false)
    (hwait : ∀ t, kfind (s.port ((s.portOfLane g).getD g)).stepAt (4 * (g % 32) + tap) = some t →
      t + (if tap = 0 then msT else 100 * usT) ≤ s.ticks) :
    adaptationStep g tap up s =
      (let t := s.stepNoted g tap
       let v := t.fld (Fld.LANE_CTLE_PEAK_NOW g)
       let f : FRef := ⟨Reg.LANE_DFE_NOW g, 8 * (tap - 1), 8⟩
       (if tap = 0 then t.setFld (Fld.LANE_CTLE_PEAK_NOW g) (if up then min (v + 1) 31 else v - 1)
        else t.setFld f (tapStep (t.fld f) up)).eqStep g) := by
  cases hlast : kfind (s.port ((s.portOfLane g).getD g)).stepAt (4 * (g % 32) + tap) with
  | none => simp only [adaptationStep, hlast, hfirst, Bool.or_self, Bool.false_eq_true, if_false, State.stepNoted]
  | some t =>
    simp only [adaptationStep, hlast, hfirst, decide_eq_false (Nat.not_lt.2 (hwait t hlast)), Bool.or_self,
      Bool.false_eq_true, if_false, State.stepNoted]

end

/-! ## The eye scan (R106 to R108) -/

section
variable {s : State} {g : Nat} {w : Word} {x : Escan}

/-- A START that nothing refuses begins its point (R107). -/
theorem escanStart_begins (h : s.escanRefusal g w = 0) :
    escanStart g w s =
      (let t := s.set (Reg.LANE_ESCAN_CTRL g) (w &&& 0x3F30FF3F#32)
       let t := { t with escans := kput t.escans g ⟨bitsOf w 24 6, t.ticks⟩ }.raise (Fld.LANE_ESCAN_STAT_BUSY g)
       t.startTimer .escan g (escanTicks (bitsOf w 24 6) (t.fld (Fld.LANE_STATE_RATE g)))) := by
  simp only [escanStart, if_pos h]

/-- A running point that ends early keeps its counts, the mismatches a free value (R108). -/
theorem State.escanEnd_running (reason : Nat) (h : kfind s.escans g = some x) :
    s.escanEnd g reason =
      (let bits := min (2 ^ x.dwell) ((s.ticks - x.since) * rateKbd (s.fld (Fld.LANE_STATE_RATE g)) / 800000)
       let t := { s with fresh := s.fresh + 1 }
       let t := (t.setWide (Reg.LANE_ESCAN_BITS0 g) 2 bits).setWide (Reg.LANE_ESCAN_ERR0 g) 2
         ((Config.freeWord s.fresh).toNat % (bits + 1))
       let t := { t with escans := kdel t.escans g, scanEnd := kput t.scanEnd g (t.ticks, false) }.setFld
         (Fld.LANE_ESCAN_STAT_BUSY g) 0
       (t.raise (Fld.LANE_ESCAN_STAT_ABORTED g)).setFld (Fld.LANE_ESCAN_STAT_REASON g) reason) := by
  simp only [State.escanEnd, h, State.draw]

/-- A running point that completes shows its counts and DONE (R106). -/
theorem escanComplete_running (errs : Nat) (h : kfind s.escans g = some x) :
    escanComplete g errs s =
      (let t := (s.setWide (Reg.LANE_ESCAN_BITS0 g) 2 (2 ^ x.dwell)).setWide (Reg.LANE_ESCAN_ERR0 g) 2 (min errs (2 ^ x.dwell))
       ({ t with escans := kdel t.escans g, scanEnd := kput t.scanEnd g (t.ticks, false) }.setFld
         (Fld.LANE_ESCAN_STAT_BUSY g) 0).raise (Fld.LANE_ESCAN_STAT_DONE g)) := by
  simp only [escanComplete, h]

end

/-- Settles O10: a code step through its wait, a window through its end, a point through its start and its two ends. -/
theorem adaptationAndEyeScanComplete : Obligations.AdaptationAndEyeScanComplete := by
  refine ⟨fun g up => ?ctle, fun g tap up hlo hhi => ?dfe, fun p units => ?window, fun src g w => ?start, fun src g x => ?abort,
    fun g errs x => ?complete⟩
  case ctle =>
    exact completes_of_onlyIf_eq (fun _ _ => rfl) (fun u ⟨hlane, hadapt, hfirst, hwait⟩ =>
      ⟨by simp [hlane, hadapt], adaptationStep_steps hfirst hwait⟩)
  case dfe =>
    have htap : tap ≠ 0 := Nat.ne_of_gt hlo
    refine completes_of_onlyIf_eq (fun _ _ => rfl) (fun u ⟨hlane, hadapt, hfirst, hrate, hwait⟩ =>
      ⟨by simp [hlane, hadapt, hhi, hrate], (adaptationStep_steps hfirst ?_).trans ?_⟩)
    · rwa [if_neg htap]
    · simp only [if_neg htap]
      rfl
  case window =>
    exact completes_of_onlyIf (fun _ _ => rfl) (fun u ⟨hname, hst, hend⟩ => by simp [hname, hst, hend])
  case start =>
    exact completes_of_lane (fun _ _ => rfl) (fun u ⟨hlane, hok, hnone⟩ => ⟨hlane, hok, escanStart_begins hnone⟩)
  case abort =>
    exact completes_of_lane (fun _ _ => rfl) (fun u ⟨hlane, hok, hrun⟩ => ⟨hlane, hok, State.escanEnd_running 6 hrun⟩)
  case complete =>
    exact completes_of_onlyIf_eq (fun _ _ => rfl) (fun u ⟨hdue, hrun⟩ => ⟨hdue, escanComplete_running errs hrun⟩)

end Sys2Proof.Machine
end

section
/-!
Proofs of the family of the ports and the time stamps: the port registers, the receive MAC, pauses and the merge sublayer, then
the transmit stamps and the twin TDCs.
-/
namespace Sys2Proof.Machine

/-! ## Completion of a command of a port -/

/-- A write of a register of a number that names a port completes where the checks pass and the hypotheses give what it makes. -/
theorem completes_of_port {c : Nat → Instr} {H : State → Prop} {src : Src} {p a : Nat} {f f' : State → State}
    (harm : ∀ dt s, exec (c dt) s = effect dt (fun u => onlyIf (u.namesPort p) (fun u => u.guarded src a f) u) s)
    (h : ∀ u, H u → u.namesPort p = true ∧ u.access src a = .ok ∧ f u = f' u) : Completes c H f' := by
  refine completes_of_onlyIf_eq harm (fun u hu => ?_)
  obtain ⟨hname, hok, heq⟩ := h u hu
  exact ⟨hname, (State.guarded_ok f hok).trans heq⟩

/-- FRAGMENT_RECEIVE completes on an ACTIVE port with its merge sublayer on (R119). -/
theorem completes_fragmentReceive {p count : Nat} {start final : Bool} {b : List Byte} {i : RxInfo} {H : State → Prop}
    {f : State → State}
    (h : ∀ u, H u → (u.namesPort p = true ∧ u.portState p = 5 ∧ u.on (Fld.PORT_MM_CTRL_EN p) = true) ∧
      u.fragment p start count final b i = f u) :
    Completes (fun dt => .fragmentReceive dt p start count final b i) H f := by
  refine completes_of_onlyIf_eq (fun _ _ => rfl) (fun u hu => ?_)
  obtain ⟨⟨hname, hst, hmerge⟩, heq⟩ := h u hu
  exact ⟨by simp [hname, hst, hmerge], heq⟩

/-! ## Port modes (R111, R112) -/

/-- A mode that may stand is set with the FEC in force after the write: the old lanes lose their rate, the new ones take theirs,
and the codeword counts clear where there is no FEC (R111 to R113). -/
theorem portModeWrite_accepted {s : State} {p fec : Nat} {w : Word} (hfirst : (s.portOfLane p).getD p = p)
    (hmode : s.modeOk p (bitsOf w 0 6) = true) (hfec : s.fecAfter p (bitsOf w 0 6) (bitsOf w 8 3) = some fec) :
    portModeWrite p w s =
      (let m := bitsOf w 0 6
       let t := s.forAll (footprint p (s.portMode p)) (fun g s => s.setFld (Fld.LANE_STATE_RATE g) 0)
       let t := (t.set (Reg.PORT_MODE p) (BitVec.ofNat 32 (m + 2 ^ 8 * fec))).laneFlds p Fld.LANE_STATE_RATE (modeRate m)
       let t := t.forAll (footprint p m) (fun g s => if s.fld (Fld.LANE_CTRL_ADAPT_MODE g) = 0 then s.asWritten g else s)
       let t := if fec = 0 then (t.set (Reg.PORT_FEC_CW_CORR p) 0#32).set (Reg.PORT_FEC_CW_UNCORR p) 0#32 else t
       let t := t.setFld (Fld.PORT_STATUS_STATE p) (t.portState p)
       if p < 256 then t.poolShow (p / 32) else t) := by
  simp only [portModeWrite, if_neg (not_not_intro hfirst), if_pos hmode, hfec, State.forAll]

/-! ## The receive MAC (R113, R114) -/

section
variable {s : State} {p : Nat} {full : List Byte} {i : RxInfo} {stamp flags at1 : Nat}

/-- On a port whose link is up, a frame that is no message of the exchange and no heartbeat goes to the MAC with its stamp. -/
theorem State.receive_plain (hup : s.linkUp p = true) (htcx : isTcx full = false) (hhb : isHb full = false) :
    s.receive p full i =
      (s.fecCount p i).macTake p full i (s.rxStamp p i) (s.stampFlags p (s.rxPhys p i) false) (s.rxPhys p i) := by
  have hst : ¬s.portState p < 4 := by
    simp only [State.linkUp, Bool.and_eq_true, decide_eq_true_eq] at hup
    exact Nat.not_lt.2 hup.2
  simp only [State.receive, htcx, hhb, Bool.false_and, Bool.false_eq_true, if_false, if_neg hst, State.macReceive]

/-- A frame that the MAC accepts, and that is no MAC Control frame, is counted with its bytes and goes to lookup, unless its
stamp is VALID and finds its port disabled (R74, R114). -/
theorem State.macTake_accepted (hdrain : s.drainedAt p at1 = false) (hmac : s.macReason p full i at1 = none)
    (hctrl : beAt (full.take (full.length - 4)) 12 2 ≠ 0x8808) :
    s.macTake p full i stamp flags at1 =
      (let t := (s.countRx p 0 1 stamp flags).countRx p 1 full.length stamp flags
       if flags % 2 = 1 ∧ t.stampedDown p stamp flags then t.stage p at1 t.frames full.length false
       else t.toHeader { bytes := full.take (full.length - 4), inPort := p, stamp := stamp, flags := flags } at1) := by
  simp only [State.macTake, hdrain, Bool.false_eq_true, if_false, hmac, if_neg hctrl]

end

/-! ## The merge sublayer (R119 to R121) -/

/-- With no reassembly open there is no partial frame to discard. -/
theorem State.mergeErr_of_closed {s : State} {p : Nat} (h : (s.port p).reasm = none) : s.mergeErr p = s := by
  simp only [State.mergeErr, h]

section
variable {s : State} {p count : Nat} {b : List Byte} {i : RxInfo} {r : Reasm} (final : Bool)

/-- A start with no reassembly open is the whole frame, or opens one with the stamp of this fragment (R120, R122). -/
theorem State.fragment_start (h : ((s.fecCount p i).port p).reasm = none) :
    s.fragment p true count final b i =
      (let t := s.fecCount p i
       let at1 := t.rxPhys p i
       let fl := t.stampFlags p at1 true
       let r : Reasm := { bytes := b, want := 0, stamp := t.rxStamp p i, flags := fl, at_ := at1, codeErr := i.codeErr,
                          bad := i.uncorrectable }
       if final then t.macTake p b i r.stamp fl at1 else t.modPort p (fun x => { x with reasm := some r })) := by
  simp only [State.fragment, if_true, State.mergeErr_of_closed h]

/-- A continuation with the count expected ends the open reassembly, which the MAC takes whole, or extends it (R120). -/
theorem State.fragment_expected (h : ((s.fecCount p i).port p).reasm = some r) :
    s.fragment p false r.want final b i =
      (let t := s.fecCount p i
       if final then (t.modPort p (fun x => { x with reasm := none })).macTake p (r.bytes ++ b)
         { i with codeErr := r.codeErr || i.codeErr, uncorrectable := r.bad + i.uncorrectable } r.stamp r.flags r.at_
       else t.modPort p (fun x => { x with reasm := some (r.grow b i) })) := by
  simp only [State.fragment, Bool.false_eq_true, if_false, h, ne_eq, not_true_eq_false, Reasm.grow]

/-- A continuation with another count discards the partial frame (R120). -/
theorem State.fragment_unexpected (h : ((s.fecCount p i).port p).reasm = some r) (hcount : count ≠ r.want) :
    s.fragment p false count final b i = (s.fecCount p i).mergeErr p := by
  simp only [State.fragment, Bool.false_eq_true, if_false, h, if_pos hcount]

end

/-- A write of MM_CTRL within the range of VERIFY_TIME stands, and verification starts (R121). -/
theorem mmCtrlWrite_in_range {s : State} {p : Nat} {w : Word} (hlo : bitsOf w 8 8 ≠ 0) (hhi : bitsOf w 8 8 ≤ 128) :
    mmCtrlWrite p w s = (s.set (Reg.PORT_MM_CTRL p) (w &&& 0xFF33#32)).verifyStart p := by
  simp only [mmCtrlWrite, if_neg (not_or.2 ⟨hlo, Nat.not_lt.2 hhi⟩)]

/-- A verify frame goes VERIFY_TIME after the last one while fewer than three have gone (R121). -/
theorem verifySend_sends {s : State} {p : Nat} (htries : (s.port p).verifyTries < 3)
    (hlast : ∀ t, (s.port p).verifyAt = some t → t + s.fld (Fld.PORT_MM_CTRL_VERIFY_TIME p) * msT ≤ s.ticks) :
    verifySend p s =
      ((s.setPort p { s.port p with verifyTries := (s.port p).verifyTries + 1, verifyAt := some s.ticks }).setFld
        (Fld.PORT_MM_STAT_VERIFY p) 2).emit (.verify p) := by
  have hspaced : (s.port p).verifyAt.any
      (fun t => decide (s.ticks < t + s.fld (Fld.PORT_MM_CTRL_VERIFY_TIME p) * msT)) = false := by
    rw [Option.any_eq_false]
    exact fun t ht => by simpa using hlast t ht
  simp only [verifySend, hspaced, Bool.false_eq_true, if_false, if_pos htries]

/-- Settles O11: the mode through what may stand, a frame through the MAC, pauses through the port that honours them,
verification through its tries, a fragment through the reassembly it finds. -/
theorem portComplete : Obligations.PortComplete := by
  refine ⟨fun src p w fec => ?mode, fun p full i => ?frame, fun p quanta => ?pause, fun p vec quanta => ?pfc,
    fun p => ?expiry, fun src p w hlo hhi => ?mmCtrl, fun p => ?verify, fun p => ?response,
    fun p count final b i => ?start, fun p final b i r => ?expected, fun p count final b i r hcount => ?unexpected⟩
  case mode =>
    exact completes_of_lane (fun _ _ => rfl) (fun u ⟨hlane, hok, hfirst, hmode, hfec⟩ =>
      ⟨hlane, hok, portModeWrite_accepted hfirst hmode hfec⟩)
  case frame =>
    exact completes_of_onlyIf_eq (fun _ _ => rfl) (fun u ⟨hup, htcx, hhb, hdrain, hmac, hctrl⟩ =>
      ⟨by rw [State.macWorks, hup, Bool.true_or],
        (State.receive_plain hup htcx hhb).trans (State.macTake_accepted hdrain hmac hctrl)⟩)
  case pause =>
    exact completes_of_onlyIf_eq (fun _ _ => rfl) (fun u ⟨hname, hst⟩ => ⟨by simp [hname, hst], rfl⟩)
  case pfc =>
    exact completes_of_onlyIf_eq (fun _ _ => rfl) (fun u ⟨hname, hst⟩ => ⟨by simp [hname, hst], rfl⟩)
  case expiry => exact completes_of_onlyIf (fun _ _ => rfl) (fun _ => id)
  case mmCtrl =>
    exact completes_of_port (fun _ _ => rfl) (fun u ⟨hname, hok⟩ => ⟨hname, hok, mmCtrlWrite_in_range hlo hhi⟩)
  case verify =>
    exact completes_of_onlyIf_eq (fun _ _ => rfl) (fun u ⟨hname, hst, hphase, htries, hlast⟩ =>
      ⟨by simp [hname, hst, hphase], verifySend_sends htries hlast⟩)
  case response =>
    exact completes_of_onlyIf (fun _ _ => rfl) (fun u ⟨hname, hst, hphase⟩ => by simp [hname, hst, hphase])
  case start =>
    exact completes_fragmentReceive (fun u ⟨hname, hst, hmerge, hclosed⟩ =>
      ⟨⟨hname, hst, hmerge⟩, State.fragment_start final hclosed⟩)
  case expected =>
    exact completes_fragmentReceive (fun u ⟨hname, hst, hmerge, hopen⟩ =>
      ⟨⟨hname, hst, hmerge⟩, State.fragment_expected final hopen⟩)
  case unexpected =>
    exact completes_fragmentReceive (fun u ⟨hname, hst, hmerge, hopen⟩ =>
      ⟨⟨hname, hst, hmerge⟩, State.fragment_unexpected final hopen hcount⟩)

/-! ## Transmit stamps (R126) -/

section
variable {s : State} (src : Src) {p : Nat}

/-- A read takes the oldest stamp out of the queue and latches it with its flags and tag. -/
theorem txStampRead_oldest {x : TxStamp} {rest : List TxStamp} (h : (s.port p).stamps = x :: rest) :
    txStampRead src p s =
      (let t := ((s.modPort p (fun r => { r with stamps := rest })).stampShow p).setWide (Reg.TSU_TXQ_TS0 p) 3 (rawOfTime x.ts)
       let t := (t.setFld (Fld.TSU_TXQ_TAG_FLAGS p) x.flags).setFld (Fld.TSU_TXQ_TAG_TAG p) x.tag
       t.emit (.readData src [t.get (Reg.TSU_TXQ_TS0 p)])) := by
  simp only [txStampRead, h]

/-- A read of an empty queue leaves 0 in the stamp's words and in its tag. -/
theorem txStampRead_empty (h : (s.port p).stamps = []) :
    txStampRead src p s =
      ((s.setWide (Reg.TSU_TXQ_TS0 p) 3 0).set (Reg.TSU_TXQ_TAG p) 0#32).emit (.readData src [0#32]) := by
  simp only [txStampRead, h]

end

/-- TX_STAMP_READ completes where the number names a port and the checks pass. -/
theorem completes_txStampRead {src : Src} {p : Nat} {H : State → Prop} {f : State → State}
    (h : ∀ u, H u → (u.namesPort p = true ∧ u.laneExists p = true ∧ u.access src (Reg.TSU_TXQ_TS0 p) = .ok) ∧
      txStampRead src p u = f u) : Completes (fun dt => .txStampRead dt src p) H f := by
  refine completes_of_onlyIf_eq (fun _ _ => rfl) (fun u hu => ?_)
  obtain ⟨⟨hname, hlane, hok⟩, heq⟩ := h u hu
  exact ⟨hlane, by rw [State.guarded_ok _ hok, State.portRead, if_pos hname, heq]⟩

/-- Settles O12: a read through what the queue holds, the flush and the change through their port, a failure as the model
chooses to show it (SPEC.md, log entry 155). -/
theorem transmitStampComplete : Obligations.TransmitStampComplete := by
  refine ⟨fun src p x rest => ?read, fun src p => ?readEmpty, fun src p => ?flush, fun p => ?serving, fun p took => ?fails⟩
  case read =>
    exact completes_txStampRead (fun u ⟨hname, hlane, hok, hqueue⟩ =>
      ⟨⟨hname, hlane, hok⟩, txStampRead_oldest src hqueue⟩)
  case readEmpty =>
    exact completes_txStampRead (fun u ⟨hname, hlane, hok, hqueue⟩ =>
      ⟨⟨hname, hlane, hok⟩, txStampRead_empty src hqueue⟩)
  case flush => exact completes_of_port (fun _ _ => rfl) (fun u ⟨hname, hok⟩ => ⟨hname, hok, rfl⟩)
  case serving =>
    exact completes_of_onlyIf (fun _ _ => rfl) (fun u ⟨hname, hready⟩ => by rw [hname, hready, Bool.and_true])
  case fails => exact completes_of_onlyIf (fun _ _ => rfl) (fun _ => id)

end Sys2Proof.Machine
end

section
/-!
Proofs of the family of forwarding and learning: the commands of the pipelines, the commands on a Leaf's tables through their
interface, what these refuse, and an entry inserted.
-/
namespace Sys2Proof.Machine

/-! ## The pipelines (R133 to R151, R218 to R220) -/

/-- A local definition is what its body makes of its value. -/
theorem have_eq_of_body_eq {α β : Type} {v : α} {body : α → β} {t : β} (h : body v = t) : (have x := v; body x) = t := h

section
variable {s : State} {n m : Nat} {f : Frame} {rest : List Frame}

/-- A Leaf whose tables no command or learn has written in this tick has its lookup on the tables as they are (R156). -/
theorem State.beforeWrites_of_untouched (F : State → State) (h : ∀ c, (s.die n).cyc = some c → c.tick ≠ s.ticks) :
    s.beforeWrites n F = F s := by
  unfold State.beforeWrites
  split
  · rfl
  · next c hc => rw [if_pos (h c hc)]

/-- The head frame leaves its header queue and is looked up (R138). -/
theorem frameLookup_head (h : s.hdr n m = f :: rest) :
    frameLookup n m s =
      (((s.setHdr n m rest).unstage n m f.id).modDie n (fun d => { d with admitAt := some (s.ticks, m) })).beforeWrites n
        (fun s => s.lookup n f) := by
  simp only [frameLookup, h]

/-- A Delay_Req that the responder answers or drops goes no further (R218). The two local definitions are opened one at a time:
a goal in which `simp` has opened every one makes the kernel run the responder to see that it is the same goal. -/
theorem State.lookup_responder {t : State} (henabled : ¬(f.flags % 2 = 0 ∧ f.inPort < 258 ∧ s.portDisabled f.inPort))
    (hreq : isDelayReq (s.classify n f).1.bytes (s.classify n f).2 = true)
    (hresp :
      let g := (s.classify n f).1
      s.responder n { g with fid := (s.entry n (s.bankFor n 0 g.stamp g.flags) g.vid).f 8 4 12 } (s.classify n f).2 = some t) :
    s.lookup n f = t := by
  unfold State.lookup
  rw [if_neg henabled]
  split
  next g q hc =>
    rw [hc] at hreq hresp
    refine have_eq_of_body_eq (have_eq_of_body_eq ?_)
    generalize ho : (if isDelayReq _ q = true then _ else none) = o
    rw [if_pos hreq, hresp] at ho
    rw [← ho]

end

/-- The oldest response leaves its queue for its port (R219, R220). -/
theorem delayRespSend_oldest {s : State} {d : Nat} {r : Frame} {rest : List Frame} (h : (s.die d).resp = r :: rest) :
    delayRespSend d s =
      (let t := (s.modDie d (fun x => { x with resp := rest })).respShow d
       let t := (t.startTimer .respGap d 400).bump (Fld.RESP_CNT_ANSWERED_COUNT d) 1
       { t with frames := t.frames + 1 }.deliver { r with id := t.frames } (r.dest.headD 0)) := by
  simp only [delayRespSend, h]

/-- The oldest learn leaves the queue and is handled (R150). -/
theorem learnEngine_oldest {s : State} {n : Nat} {x : Learn} {rest : List Learn} (h : (s.die n).learns = x :: rest) :
    learnEngine n s = ((s.modDie n (fun d => { d with learns := rest })).learnShow n).learn n x := by
  simp only [learnEngine, h]

/-- Settles O13: a frame through the head of its queue, a Delay_Req through the responder, a response and a learn through the
head of theirs. -/
theorem pipelineComplete : Obligations.PipelineComplete := by
  refine ⟨fun n m f rest hm => ?lookup, fun s n F => State.beforeWrites_of_untouched F, fun n m f rest t hm => ?delayReq,
    fun d r rest hd => ?delayResp, fun n x rest hn => ?learn, ?moves⟩
  case lookup =>
    exact completes_of_onlyIf_eq (fun _ _ => rfl) (fun u ⟨hrun, hturn, hhead⟩ =>
      ⟨by simp [hrun, hturn, hm], frameLookup_head hhead⟩)
  case delayReq =>
    refine completes_of_onlyIf_eq (fun _ _ => rfl)
      (fun u ⟨hrun, hturn, hkind, hhead, huntouched, henabled, hreq, hresp⟩ => ⟨by simp [hrun, hturn, hkind, hm], ?_⟩)
    rw [frameLookup_head hhead, State.beforeWrites_of_untouched _ huntouched]
    exact State.lookup_responder henabled hreq hresp
  case delayResp =>
    exact completes_of_onlyIf_eq (fun _ _ => rfl) (fun u ⟨hgap, hqueue⟩ => ⟨by simp [hgap, hd], delayRespSend_oldest hqueue⟩)
  case learn =>
    exact completes_of_onlyIf_eq (fun _ _ => rfl) (fun u ⟨hon, hqueue, hbefore⟩ =>
      ⟨by simp [hn, hon, State.learnReady, hqueue, hbefore], learnEngine_oldest hqueue⟩)
  case moves => exact completes_of_onlyIf (fun _ _ => rfl) (fun u hsec => bne_iff_ne.2 hsec)

/-! ## The interface of a Leaf's tables (R154, R155) -/

/-- The state as the interface shows a command's answer: the staging words take an entry that it stages, RESULT and FOUND_IDX
follow it (R154). -/
def showAnswer (n w t : Nat) (r : TResult × State) : State :=
  let u := match r.1.staged with
    | some e => r.2.stageEntry n w (r.2.showEntry n t r.1.idx e)
    | none => r.2
  (u.setFld (Fld.FWD_CMD_STAT_RESULT n w) r.1.code).setFld (Fld.FWD_CMD_STAT_FOUND_IDX n w) r.1.idx

/-- A function of what the tables are asked: state, Leaf, interface, opcode, table, mode, index, staged entry. -/
abbrev TableFn (α : Type) := State → Nat → Nat → Nat → Nat → Bool → Nat → TEntry → α

/-- A function into pairs is a pair of functions. -/
theorem TableFn.exists_eq_pair {α β : Type} (f : TableFn (α × β)) :
    ∃ (g : TableFn α) (h : TableFn β), f = fun s n w op t idx i e => (g s n w op t idx i e, h s n w op t idx i e) :=
  ⟨fun s n w op t idx i e => (f s n w op t idx i e).1, fun s n w op t idx i e => (f s n w op t idx i e).2, rfl⟩

/-- The tables answer a command on the staging words in the state that CTRL shows it in. The function is unfolded before it is
applied, and the tables' answer is any pair of functions: else the kernel compares the two sides by running the tables. -/
theorem State.tableRun_eq {s u : State} {n w op t : Nat} {idx : Bool}
    (hu : s.set (Reg.FWD_CMD_CTRL n w) (BitVec.ofNat 32 (op * 2 ^ 24 + t * 2 ^ 16 + (if idx then 1 else 0))) = u) :
    s.tableRun n w op t idx =
      showAnswer n w t (u.tableOp n w op t idx (u.fld (Fld.FWD_CMD_INDEX_INDEX n w)) (u.staged n w)) := by
  generalize hrun : State.tableRun = run
  delta State.tableRun at hrun
  generalize State.tableOp = answers at hrun ⊢
  obtain ⟨result, next, rfl⟩ := TableFn.exists_eq_pair answers
  subst hrun hu
  rfl

/-- A command through an interface that is not BUSY acts at once; BUSY and CTRL show it (R154; SPEC.md, log entry 15). -/
theorem tableCmd_idle {s : State} {n w : Nat} (op t : Nat) (idx : Bool) (took : Nat)
    (hidle : s.waiting .fwdBusy (2 * n + w) = false) :
    tableCmd n w op t idx took s =
      (let u := (s.startTimer .fwdBusy (2 * n + w) (min took (if op = 5 then 12 * usT else usT))).set (Reg.FWD_CMD_CTRL n w)
        (BitVec.ofNat 32 (op * 2 ^ 24 + t * 2 ^ 16 + (if idx then 1 else 0)))
       showAnswer n w t (u.tableOp n w op t idx (u.fld (Fld.FWD_CMD_INDEX_INDEX n w)) (u.staged n w))) := by
  unfold tableCmd
  rw [fwdBusy, if_neg (Bool.eq_false_iff.1 hidle)]
  exact State.tableRun_eq rfl

/-- A table command through an interface of a Leaf completes where the checks pass and the hypotheses give what it makes. -/
theorem completes_of_tableRow {c : Nat → Instr} {H : State → Prop} {src : Src} {n w op t took : Nat} {idx : Bool}
    {g : State → State} (hn : n < 8) (hw : w < 2) (ht : t < 16)
    (harm : ∀ dt s, exec (c dt) s = tableRow dt src n w op t idx took s)
    (h : ∀ u, H u → u.access src (Reg.FWD_CMD_CTRL n w) = .ok ∧ tableCmd n w op t idx took u = g u) : Completes c H g :=
  completes_of_effect harm (fun u hu => (onlyIf_true _ u (by simp [hn, hw, ht])).trans
    ((State.guarded_ok _ (h u hu).1).trans (h u hu).2))

/-- Settles O14: the seven commands are one, with the opcode of their row; that it acts as GO is written is the model's choice
(SPEC.md, log entry 15). -/
theorem tableCommandComplete : Obligations.TableCommandComplete := by
  delta Obligations.TableCommandComplete
  intro enter run ready answer src n w t idx took hn hw ht
  have hshows (op : Nat) (u : State) (hidle : u.waiting .fwdBusy (2 * n + w) = false) :
      tableCmd n w op t idx took u = showAnswer n w t (run n w op t idx took u) := tableCmd_idle op t idx took hidle
  clear_value run
  have hacts (op : Nat) (u : State) (h : ready src n w op t idx took u) :
      u.access src (Reg.FWD_CMD_CTRL n w) = .ok ∧ tableCmd n w op t idx took u = answer n w op t idx took u := by
    obtain ⟨hpass, hidle, hok⟩ := h
    refine ⟨hpass, (hshows op u hidle).trans ?_⟩
    rw [showAnswer, hok] <;> rfl
  exact ⟨completes_of_tableRow hn hw ht (fun _ _ => rfl) (hacts 1), completes_of_tableRow hn hw ht (fun _ _ => rfl) (hacts 2),
    completes_of_tableRow hn hw ht (fun _ _ => rfl) (hacts 3), completes_of_tableRow hn hw ht (fun _ _ => rfl) (hacts 4),
    completes_of_tableRow hn hw ht (fun _ _ => rfl) (hacts 5), completes_of_tableRow hn hw ht (fun _ _ => rfl) (hacts 6),
    completes_of_tableRow hn hw ht (fun _ _ => rfl) (hacts 7)⟩

/-! ## The fields of an entry (R145 to R147) -/

/-- A number whose bits from lo on are replaced by the low len bits of v, as a sum of its parts. -/
theorem replaceBits_eq (x lo len v : Nat) :
    x - x / 2 ^ lo % 2 ^ len * 2 ^ lo + v % 2 ^ len * 2 ^ lo =
      2 ^ lo * (2 ^ len * (x / 2 ^ lo / 2 ^ len) + v % 2 ^ len) + x % 2 ^ lo := by
  have hparts : x = 2 ^ lo * (2 ^ len * (x / 2 ^ lo / 2 ^ len)) + 2 ^ lo * (x / 2 ^ lo % 2 ^ len) + x % 2 ^ lo := by
    rw [← Nat.mul_add, Nat.div_add_mod, Nat.div_add_mod]
  rw [Nat.mul_comm (x / 2 ^ lo % 2 ^ len), Nat.mul_comm (v % 2 ^ len), Nat.mul_add]
  omega

/-- The bits of a number some of which are replaced. -/
theorem replaceBits_testBit (x lo len v i : Nat) :
    (x - x / 2 ^ lo % 2 ^ len * 2 ^ lo + v % 2 ^ len * 2 ^ lo).testBit i =
      if lo ≤ i ∧ i < lo + len then v.testBit (i - lo) else x.testBit i := by
  rw [replaceBits_eq, Nat.testBit_two_pow_mul_add _ (Nat.mod_lt _ (Nat.two_pow_pos lo))]
  by_cases hlo : i < lo
  · rw [if_pos hlo, if_neg (by omega), Nat.testBit_mod_two_pow, decide_eq_true hlo, Bool.true_and]
  · rw [if_neg hlo, Nat.testBit_two_pow_mul_add _ (Nat.mod_lt _ (Nat.two_pow_pos len))]
    by_cases hhi : i - lo < len
    · rw [if_pos hhi, if_pos (by omega), Nat.testBit_mod_two_pow, decide_eq_true hhi, Bool.true_and]
    · rw [if_neg hhi, if_neg (by omega), Nat.testBit_div_two_pow, Nat.testBit_div_two_pow]
      congr 1
      omega

/-- The words of an entry with a field replaced. -/
theorem TEntry.w_setF (e : TEntry) (i : Nat) {j : Nat} (lo len v : Nat) (hj : j ≤ 8) :
    (e.setF i lo len v).w j =
      if j = i then e.w i - e.w i / 2 ^ lo % 2 ^ len * 2 ^ lo + v % 2 ^ len * 2 ^ lo else e.w j := by
  by_cases hi8 : i = 8
  · by_cases hj8 : j = 8
    · simp [TEntry.setF, TEntry.w, TEntry.f, hi8, hj8]
    · simp [TEntry.setF, TEntry.w, hi8, hj8]
  · by_cases hj8 : j = 8
    · simp [TEntry.setF, TEntry.w, hi8, hj8, Ne.symm hi8]
    · have hlt : j < 8 := by omega
      simp [TEntry.setF, TEntry.w, TEntry.f, hi8, hj8, List.getElem?_range hlt]

theorem TEntry.w_setF_ne (e : TEntry) {i j : Nat} (lo len v : Nat) (hj : j ≤ 8) (h : j ≠ i) :
    (e.setF i lo len v).w j = e.w j := by
  rw [TEntry.w_setF e i lo len v hj, if_neg h]

/-- The bits of a field. -/
theorem TEntry.f_testBit (e : TEntry) (i lo len b : Nat) :
    (e.f i lo len).testBit b = (decide (b < len) && (e.w i).testBit (b + lo)) := by
  rw [TEntry.f, Nat.testBit_mod_two_pow, Nat.testBit_div_two_pow]

/-- The field replaced reads its value. -/
theorem TEntry.f_setF_same (e : TEntry) {i : Nat} (lo len v : Nat) (hi : i ≤ 8) :
    (e.setF i lo len v).f i lo len = v % 2 ^ len := by
  apply Nat.eq_of_testBit_eq
  intro b
  rw [TEntry.f_testBit, TEntry.w_setF e i lo len v hi, if_pos rfl, replaceBits_testBit, Nat.testBit_mod_two_pow]
  by_cases hb : b < len
  · rw [if_pos (by omega), Nat.add_sub_cancel]
  · simp [hb]

/-- A field beside the one replaced, or of another word, stays. -/
theorem TEntry.f_setF_beside (e : TEntry) {i lo len v j lo' len' : Nat} (hj : j ≤ 8)
    (h : j ≠ i ∨ lo' + len' ≤ lo ∨ lo + len ≤ lo') : (e.setF i lo len v).f j lo' len' = e.f j lo' len' := by
  apply Nat.eq_of_testBit_eq
  intro b
  rw [TEntry.f_testBit, TEntry.f_testBit, TEntry.w_setF e i lo len v hj]
  by_cases hb : b < len'
  · split
    · next hij => rw [replaceBits_testBit, if_neg (by omega), hij]
    · rfl
  · simp [hb]

/-- An entry's words keep the bits that R147 lists. -/
theorem TEntry.w_listed (e : TEntry) (k : Nat) {i : Nat} (hi : i ≤ 8) :
    (e.listed k).w i = e.w i &&& ((entryBits k)[i]?).getD 0 := by
  by_cases hi8 : i = 8
  · simp [TEntry.listed, TEntry.w, hi8]
  · have hlt : i < 8 := by omega
    simp [TEntry.listed, TEntry.w, hi8, List.getElem?_range hlt]

/-- A field of which R147 lists every bit stays. -/
theorem TEntry.f_listed (e : TEntry) {k i lo len : Nat} (hi : i ≤ 8)
    (h : ((entryBits k)[i]?).getD 0 / 2 ^ lo % 2 ^ len = 2 ^ len - 1) : (e.listed k).f i lo len = e.f i lo len := by
  rw [TEntry.f, TEntry.w_listed e k hi, Nat.and_div_two_pow, Nat.and_mod_two_pow, h, Nat.and_two_pow_sub_one_eq_mod,
    Nat.mod_mod, TEntry.f]

/-- What a command stores keeps a field of which R147 lists every bit, but MOVES of a MAC entry (R155). -/
theorem TEntry.f_asStored (e : TEntry) {k i lo len : Nat} (hi : i ≤ 8)
    (h : ((entryBits k)[i]?).getD 0 / 2 ^ lo % 2 ^ len = 2 ^ len - 1) (hmoves : i ≠ 2 ∨ lo + len ≤ 24) :
    (asStored k e).f i lo len = e.f i lo len := by
  unfold asStored
  split
  · rw [TEntry.f_setF_beside _ hi (hmoves.imp_right .inl), TEntry.f_listed e hi h]
  · exact TEntry.f_listed e hi h

/-- A word of 32 bits that R147 lists whole stays as a command stores it. -/
theorem TEntry.w_asStored (e : TEntry) {k i : Nat} (hi : i ≤ 8) (h : ((entryBits k)[i]?).getD 0 = 2 ^ 32 - 1)
    (hmoves : i ≠ 2 ∨ k ≠ 0) (hw : e.w i < 2 ^ 32) : (asStored k e).w i = e.w i := by
  have hlisted : (e.listed k).w i = e.w i := by
    rw [TEntry.w_listed e k hi, h, Nat.and_two_pow_sub_one_of_lt_two_pow hw]
  unfold asStored
  split
  · rw [TEntry.w_setF_ne _ _ _ _ hi (by omega), hlisted]
  · exact hlisted

/-- The kinds of the hashed tables: MAC, IP multicast, stream (R145). -/
theorem kind_of_hashed {t : Nat} (h : isHashed t = true) : tableKind t = 0 ∨ tableKind t = 3 ∨ tableKind t = 4 := by
  simp only [isHashed, Bool.or_eq_true, beq_iff_eq] at h
  rcases h with ((rfl | rfl) | rfl) | rfl <;> decide

theorem validAt_word_le (k : Nat) : (validAt k).1 ≤ 8 := by
  unfold validAt
  split <;> decide

@[simp] theorem TEntry.valid_setValid (e : TEntry) (k : Nat) (b : Bool) : (e.setValid k b).valid k = b := by
  rw [TEntry.valid, TEntry.setValid, TEntry.f_setF_same e _ _ _ (validAt_word_le k)]
  cases b <;> rfl

section
variable (e : TEntry) {k : Nat} (hk : k = 0 ∨ k = 3 ∨ k = 4)
include hk

/-- VALID is no part of a key. -/
theorem TEntry.key_setValid (b : Bool) : (e.setValid k b).key k = e.key k := by
  rcases hk with rfl | rfl | rfl
  · simp (disch := decide) only [TEntry.key, TEntry.setValid, validAt, TEntry.f_setF_beside, TEntry.w_setF_ne]
  · simp (disch := decide) only [TEntry.key, TEntry.setValid, validAt, TEntry.f_setF_beside, TEntry.w_setF_ne, List.range_succ,
      List.range_zero, List.map_append, List.map_cons, List.map_nil]
  · simp (disch := decide) only [TEntry.key, TEntry.setValid, validAt, TEntry.f_setF_beside, TEntry.w_setF_ne, List.range_succ,
      List.range_zero, List.map_append, List.map_cons, List.map_nil]

/-- A command stores VALID as it is staged. -/
theorem TEntry.valid_asStored : (asStored k e).valid k = e.valid k := by
  rcases hk with rfl | rfl | rfl
  all_goals simp (disch := decide) only [TEntry.valid, validAt, TEntry.f_asStored]

/-- An entry whose words before VALID's have 32 bits is stored with its key: R147 lists the words that a key takes whole. -/
theorem TEntry.key_asStored (hw : ∀ j, j < (validAt k).1 → e.w j < 2 ^ 32) : (asStored k e).key k = e.key k := by
  rcases hk with rfl | rfl | rfl
  · have hword : (asStored 0 e).w 0 = e.w 0 := TEntry.w_asStored e (by decide) rfl (by decide) (hw 0 (by decide))
    simp (disch := decide) only [TEntry.key, TEntry.f_asStored, hword]
  · have hword : ∀ j ∈ List.range 8, (asStored 3 e).w j = e.w j := fun j hj => by
      have hj := List.mem_range.1 hj
      exact TEntry.w_asStored e hj.le (by interval_cases j <;> rfl) (.inr (by decide)) (hw j hj)
    simp (disch := decide) only [TEntry.key, TEntry.f_asStored, List.map_congr_left hword]
  · have hword : ∀ j ∈ List.range 4, (asStored 4 e).w j = e.w j := fun j hj => by
      have hj := List.mem_range.1 hj
      exact TEntry.w_asStored e (by omega) (by interval_cases j <;> rfl) (.inr (by decide)) (hw j hj)
    simp (disch := decide) only [TEntry.key, TEntry.f_asStored, List.map_congr_left hword]

end

/-- What an INSERT stores is VALID and has the key of the staged entry (R155). -/
theorem TEntry.inserted {e : TEntry} {k : Nat} (hk : k = 0 ∨ k = 3 ∨ k = 4) (hw : ∀ j, j < 8 → e.w j < 2 ^ 32) :
    (asStored k (e.setValid k true)).valid k = true ∧ (asStored k (e.setValid k true)).key k = e.key k := by
  have hword (j : Nat) (hj : j < (validAt k).1) : (e.setValid k true).w j = e.w j :=
    TEntry.w_setF_ne e _ _ _ (hj.le.trans (validAt_word_le k)) (Nat.ne_of_lt hj)
  rw [TEntry.valid_asStored _ hk, TEntry.valid_setValid, TEntry.key_asStored _ hk (fun j hj => ?_), TEntry.key_setValid _ hk]
  · exact ⟨rfl, rfl⟩
  · rw [hword j hj]
    exact hw j (hj.trans_le (validAt_word_le k))

/-! ## The tables in the state -/

theorem State.die_modDie (s : State) (n d : Nat) (f : Die → Die) :
    (s.modDie n f).die d = if d = n then f (s.die n) else s.die d := by
  by_cases h : d = n
  · simp [State.modDie, State.setDie, State.die, h]
  · simp [State.modDie, State.setDie, State.die, h, kget_kput_ne]

/-- A die changed but in its tables keeps every table. -/
theorem State.tbl_modDie_same (s : State) (n : Nat) {f : Die → Die} (h : (f (s.die n)).tables = (s.die n).tables) (n' t : Nat) :
    (s.modDie n f).tbl n' t = s.tbl n' t := by
  rw [State.tbl, State.die_modDie]
  split
  · next hn => rw [h, hn, State.tbl]
  · rfl

theorem State.tbl_setEntry (s : State) (n t i : Nat) (e : TEntry) (n' t' : Nat) :
    (s.setEntry n t i e).tbl n' t' = if n' = n ∧ t' = t then kput (s.tbl n t) i e else s.tbl n' t' := by
  rw [State.tbl, State.setEntry, State.die_modDie]
  by_cases hn : n' = n
  · by_cases ht : t' = t
    · simp [hn, ht, State.tbl]
    · simp [hn, ht, State.tbl, kget_kput_ne]
  · simp [hn, State.tbl]

/-- An entry stored by a command is the one entry of the tables that changes. -/
theorem State.tbl_store (s : State) (n t i : Nat) (e : TEntry) (n' t' : Nat) :
    (s.store n t i e).tbl n' t' =
      if n' = n ∧ t' = t then kput (s.tbl n t) i (asStored (tableKind t) e) else s.tbl n' t' := by
  have hwrite : (s.writeEntry n t i (asStored (tableKind t) e)).tbl n' t' =
      if n' = n ∧ t' = t then kput (s.tbl n t) i (asStored (tableKind t) e) else s.tbl n' t' := by
    rw [State.writeEntry, State.tbl_setEntry, State.tbl_modDie_same _ _ rfl, State.tbl_modDie_same _ _ rfl]
  unfold State.store
  split
  · rw [State.fillMeter, State.tbl_modDie_same _ _ rfl, hwrite]
  · exact hwrite

theorem State.entry_store_same (s : State) (n t i : Nat) (e : TEntry) :
    (s.store n t i e).entry n t i = asStored (tableKind t) e := by
  rw [State.entry, State.tbl_store, if_pos ⟨rfl, rfl⟩, kget_kput_same]

theorem State.entry_store_ne (s : State) {n t i : Nat} (e : TEntry) {n' t' j : Nat} (h : n' ≠ n ∨ t' ≠ t ∨ j ≠ i) :
    (s.store n t i e).entry n' t' j = s.entry n' t' j := by
  rw [State.entry, State.tbl_store]
  split
  · next hat =>
    obtain ⟨rfl, rfl⟩ := hat
    rw [kget_kput_ne _ _ _ (by simpa using h), State.entry]
  · rfl

/-- Storing an entry moves no key's bucket. -/
theorem State.places_store (s : State) (n t i : Nat) (e : TEntry) (n' t' : Nat) (key : List Nat) :
    (s.store n t i e).places n' t' key = s.places n' t' key := by
  have hfld (f : FRef) : (s.store n t i e).fld f = s.fld f := by
    unfold State.store
    split
    · rfl
    · rfl
  simp only [State.places, hfld]

/-! ## What a table command answers (R154, R155, R157, R161) -/

section
variable {s : State} {n w op t : Nat} {idx : Bool} {i : Nat} {e : TEntry}

theorem State.tableOp_world (hworld : s.fwdSecure n t = true ∧ w = 0) :
    s.tableOp n w op t idx i e = ({ code := tWorld }, s) := by
  simp only [State.tableOp, if_pos hworld]

theorem State.tableOp_unlisted (hworld : ¬(s.fwdSecure n t = true ∧ w = 0)) (hlisted : opListed op t idx = false) :
    s.tableOp n w op t idx i e = ({ code := tInvalid }, s) := by
  simp [State.tableOp, hworld, hlisted]

theorem State.tableOp_busy (hworld : ¬(s.fwdSecure n t = true ∧ w = 0)) (hlisted : opListed op t idx = true)
    (hwrites : opWrites op = true) (hrefuses : s.tableRefuses n t = true) :
    s.tableOp n w op t idx i e = ({ code := tBusy }, s) := by
  simp [State.tableOp, hworld, hlisted, hwrites, hrefuses]

/-- What the last checks refuse: an index outside the table, where the command takes one, or staged fields that no entry may
hold. -/
def BadOperand (op t : Nat) (idx : Bool) (i : Nat) (e : TEntry) : Prop :=
  ((idx = true ∨ isHashed t = false) ∧ tableSize t ≤ i) ∨
    ((op = 2 ∨ op = 3) ∧ entryOk (tableKind t) (if op = 3 then e.setValid (tableKind t) true else e) = false)

theorem badOperand_iff : BadOperand op t idx i e ↔ ((idx || !isHashed t) && decide (tableSize t ≤ i) ||
    (op == 2 || op == 3) && !entryOk (tableKind t) (if op = 3 then e.setValid (tableKind t) true else e)) = true := by
  simp [BadOperand]

section
variable (hworld : ¬(s.fwdSecure n t = true ∧ w = 0)) (hlisted : opListed op t idx = true)
  (hopen : (opWrites op && s.tableRefuses n t) = false)
include hworld hlisted hopen

/-- The checks of the index and of the staged fields come last (SPEC.md, log entry 49). -/
theorem State.tableOp_invalid (hbad : BadOperand op t idx i e) :
    s.tableOp n w op t idx i e = ({ code := tInvalid }, s) := by
  simp only [State.tableOp, if_neg hworld, hlisted, hopen, badOperand_iff.1 hbad]
  rfl

/-- A command that no check refuses searches, or acts by index or by key. -/
theorem State.tableOp_accepted (hgood : ¬BadOperand op t idx i e) :
    s.tableOp n w op t idx i e =
      if op = 5 then (s.search n t i, s) else if idx || !isHashed t then s.byIndex n t op i e else s.byKey n t op e := by
  simp only [State.tableOp, if_neg hworld, hlisted, hopen, if_neg (mt badOperand_iff.2 hgood)]
  rfl

end

end

/-- What a table command answers: a refusal that leaves the state, or what its search, its index or its key gives. -/
theorem State.tableOp_cases (s : State) (n w op t : Nat) (idx : Bool) (i : Nat) (e : TEntry) :
    let r := s.tableOp n w op t idx i e
    (r.2 = s ∧ (r.1.code = tWorld ∨ r.1.code = tInvalid ∨ r.1.code = tBusy)) ∨
      r = if op = 5 then (s.search n t i, s) else if idx || !isHashed t then s.byIndex n t op i e else s.byKey n t op e := by
  dsimp only
  by_cases hworld : s.fwdSecure n t = true ∧ w = 0
  · rw [State.tableOp_world hworld]
    exact .inl ⟨rfl, .inl rfl⟩
  by_cases hlisted : opListed op t idx = true
  · by_cases hopen : (opWrites op && s.tableRefuses n t) = false
    · by_cases hbad : BadOperand op t idx i e
      · rw [State.tableOp_invalid hworld hlisted hopen hbad]
        exact .inl ⟨rfl, .inr (.inl rfl)⟩
      · exact .inr (State.tableOp_accepted hworld hlisted hopen hbad)
    · obtain ⟨hwrites, hrefuses⟩ := (Bool.and_eq_true _ _).mp (Bool.of_not_eq_false hopen)
      rw [State.tableOp_busy hworld hlisted hwrites hrefuses]
      exact .inl ⟨rfl, .inr (.inr rfl)⟩
  · rw [State.tableOp_unlisted hworld (Bool.of_not_eq_true hlisted)]
    exact .inl ⟨rfl, .inr (.inl rfl)⟩

/-! ## Commands that are refused (R154, R155, R157, R161) -/

/-- A write of CTRL while BUSY is discarded with OVERRUN (R154). -/
theorem tableCmd_busy {s : State} {n w : Nat} (op t : Nat) (idx : Bool) (took : Nat)
    (hbusy : s.waiting .fwdBusy (2 * n + w) = true) :
    tableCmd n w op t idx took s = s.raise (Fld.FWD_CMD_STAT_OVERRUN n w) := by
  unfold tableCmd
  rw [fwdBusy, if_pos hbusy]

/-- Staged fields that no entry of their kind may hold: a port above 259, a source beside STAR, ID_MODE 4 to 7 or GATE 0b11
(R155). -/
def FieldsInvalid (k : Nat) (e : TEntry) : Prop :=
  (k = 0 ∧ e.f 2 14 1 = 0 ∧ 259 < e.f 2 0 14) ∨ (k = 3 ∧ e.f 8 13 1 = 1 ∧ ∃ j, 4 ≤ j ∧ j < 8 ∧ e.w j ≠ 0) ∨
    (k = 4 ∧ (3 < e.f 4 28 3 ∨ e.f 5 26 2 = 3))

section
variable {k : Nat} {e : TEntry} (h : FieldsInvalid k e)
include h

theorem FieldsInvalid.entryOk : entryOk k e = false := by
  rcases h with ⟨rfl, hport, hnumber⟩ | ⟨rfl, hstar, j, hlo, hhi, hword⟩ | ⟨rfl, hmode⟩
  · simp [Machine.entryOk, hport, hnumber]
  · have hsource : ¬(e.w 4 = 0 ∧ e.w 5 = 0 ∧ e.w 6 = 0 ∧ e.w 7 = 0) := by
      rintro ⟨h4, h5, h6, h7⟩
      interval_cases j <;> contradiction
    simpa [Machine.entryOk, hstar] using hsource
  · rcases hmode with hid | hgate
    · simp [Machine.entryOk, Nat.not_le.2 hid]
    · simp [Machine.entryOk, hgate]

/-- VALID is none of these fields. -/
theorem FieldsInvalid.setValid (b : Bool) : FieldsInvalid k (e.setValid k b) := by
  rcases h with ⟨rfl, hfields⟩ | ⟨rfl, hstar, j, hlo, hhi, hword⟩ | ⟨rfl, hmode⟩
  · refine .inl ⟨rfl, ?_⟩
    simpa (disch := decide) only [TEntry.setValid, validAt, TEntry.f_setF_beside] using hfields
  · refine .inr (.inl ⟨rfl, ?_, j, hlo, hhi, ?_⟩)
    · simpa (disch := decide) only [TEntry.setValid, validAt, TEntry.f_setF_beside] using hstar
    · rwa [TEntry.setValid, TEntry.w_setF_ne e (i := (validAt 3).1) _ _ _ hhi.le (Nat.ne_of_lt hhi)]
  · refine .inr (.inr ⟨rfl, ?_⟩)
    simpa (disch := decide) only [TEntry.setValid, validAt, TEntry.f_setF_beside] using hmode

end

/-- What a command makes changes no table unless it answers OK or KEPT_HIT. -/
def LeavesTables (s : State) (r : TResult × State) : Prop := r.1.code ∉ [tOk, tKeptHit] → r.2.dies = s.dies

theorem leavesTables_of_code {s : State} {r : TResult × State} (h : r.1.code = tOk ∨ r.1.code = tKeptHit) : LeavesTables s r :=
  fun hnot => absurd (List.mem_pair.2 h) hnot

theorem leavesTables_of_dies {s : State} {r : TResult × State} (h : r.2.dies = s.dies) : LeavesTables s r := fun _ => h

section
variable (s : State) (n t op i : Nat) (e : TEntry)

theorem State.actOn_leavesTables : LeavesTables s (s.actOn n t op i e) := by
  unfold State.actOn
  dsimp only
  generalize (if opWrites op then s.entryFor n t i else s.entry n t i) = cur
  split
  · exact leavesTables_of_dies rfl
  · exact leavesTables_of_code (.inl rfl)
  · exact leavesTables_of_code (.inl rfl)
  · exact leavesTables_of_code (.inl rfl)
  · split
    · exact leavesTables_of_dies rfl
    split
    · exact leavesTables_of_dies rfl
    split
    · exact leavesTables_of_code (.inr rfl)
    · exact leavesTables_of_code (.inl rfl)

theorem State.byIndex_leavesTables : LeavesTables s (s.byIndex n t op i e) := by
  unfold State.byIndex
  dsimp only
  split
  · split
    · exact leavesTables_of_dies rfl
    split
    · exact leavesTables_of_dies rfl
    · exact State.actOn_leavesTables s n t op i e
  · exact State.actOn_leavesTables s n t op i e

theorem State.byKey_leavesTables : LeavesTables s (s.byKey n t op e) := by
  unfold State.byKey
  dsimp only
  split
  · split
    · exact leavesTables_of_dies rfl
    · exact State.actOn_leavesTables s n t op _ e
  · split
    · split
      · exact leavesTables_of_code (.inl rfl)
      · exact leavesTables_of_dies (State.raise_dies s _)
    · exact leavesTables_of_dies rfl

theorem State.tableOp_leavesTables (w : Nat) (idx : Bool) : LeavesTables s (s.tableOp n w op t idx i e) := by
  rcases State.tableOp_cases s n w op t idx i e with ⟨hsame, -⟩ | hr
  · exact leavesTables_of_dies (by rw [hsame])
  · rw [hr]
    split
    · exact leavesTables_of_dies rfl
    split
    · exact State.byIndex_leavesTables s n t op i e
    · exact State.byKey_leavesTables s n t op e

end

/-- Settles O54: each refusal, in the order the model chooses for them (SPEC.md, log entry 49), then what every command but an
accepted one leaves. -/
theorem tableCommandRefusals : Obligations.TableCommandRefusals := by
  refine ⟨fun n w op t idx took s => tableCmd_busy op t idx took, fun s n w op t idx i e => ⟨fun hsecure hw => ?world,
    fun hallowed => ?allowed⟩, fun s n w op t idx i e => State.tableOp_leavesTables s n t op i e w idx⟩
  case world => exact State.tableOp_world ⟨hsecure, hw⟩
  case allowed =>
    have hworld : ¬(s.fwdSecure n t = true ∧ w = 0) := by
      rintro ⟨hsecure, hw⟩
      rcases hallowed with h | h
      · exact Bool.false_ne_true (h.symm.trans hsecure)
      · exact h hw
    refine ⟨State.tableOp_unlisted hworld, State.tableOp_busy hworld, fun hlisted hopen hdirect hsize => ?index,
      fun hlisted hop hopen (hfields : FieldsInvalid (tableKind t) e) => ?fields⟩
    case index => exact State.tableOp_invalid hworld hlisted (Bool.and_eq_false_iff.2 hopen) (.inl ⟨hdirect, hsize⟩)
    case fields =>
      refine State.tableOp_invalid hworld hlisted (Bool.and_eq_false_iff.2 (.inr hopen)) (.inr ⟨hop, ?_⟩)
      split
      · exact (hfields.setValid true).entryOk
      · exact hfields.entryOk

/-! ## An entry inserted is found again (R155) -/

/-- The one element of a list that meets a test is the one found. -/
theorem find?_eq_some_of_unique {α : Type} {p : α → Bool} {l : List α} {a : α} (ha : a ∈ l) (hp : p a = true)
    (hunique : ∀ b ∈ l, p b = true → b = a) : l.find? p = some a := by
  obtain ⟨b, hb⟩ := Option.isSome_iff_exists.1 (List.find?_isSome.2 ⟨a, ha, hp⟩)
  rw [hb, hunique b (List.mem_of_find?_eq_some hb) (List.find?_some hb)]

theorem mem_of_kfind {α : Type} {m : KMap α} {i : Nat} {x : α} (h : kfind m i = some x) : (i, x) ∈ m := by
  induction m with
  | nil => cases h
  | cons c m ih =>
    obtain ⟨k, v⟩ := c
    rw [kfind] at h
    split at h
    · next hk =>
      cases h
      exact hk ▸ List.mem_cons_self ..
    · exact List.mem_cons_of_mem _ (ih h)

/-- An entry is VALID with a key. -/
abbrev TEntry.HasKey (e : TEntry) (k : Nat) (key : List Nat) : Prop := e.valid k = true ∧ e.key k = key

section
variable {s : State} {n t : Nat} {key : List Nat}

/-- A key that is not found stands in none of its places, and in no place of the CAM. -/
theorem State.findKey_none (h : s.findKey n t key = none) :
    (∀ j ∈ s.places n t key, ¬(s.entry n t j).HasKey (tableKind t) key) ∧
      (tableKind t = 0 → ∀ x ∈ s.tbl n t, camBase ≤ x.1 → ¬x.2.HasKey (tableKind t) key) := by
  unfold State.findKey at h
  dsimp only at h
  split at h
  · cases h
  · next hplaces =>
    refine ⟨by simpa using hplaces, fun hk => ?_⟩
    rw [if_pos hk, Option.map_eq_none_iff] at h
    simpa using h

/-- A key in one of its places, and in no other of them, is found there. -/
theorem State.findKey_place {i : Nat} (hi : i ∈ s.places n t key) (hkey : (s.entry n t i).HasKey (tableKind t) key)
    (hother : ∀ j ∈ s.places n t key, j ≠ i → ¬(s.entry n t j).HasKey (tableKind t) key) : s.findKey n t key = some i := by
  have hfind : (s.places n t key).find? (fun j => (s.entry n t j).valid (tableKind t) &&
      (s.entry n t j).key (tableKind t) == key) = some i := by
    refine find?_eq_some_of_unique hi (by simp [hkey]) (fun j hj hmatch => ?_)
    by_contra hne
    exact hother j hj hne (by simpa using hmatch)
  simp only [State.findKey, hfind]

/-- A key in no place of its bucket, and in one place alone of the CAM, is found there. -/
theorem State.findKey_cam {x : Nat × TEntry} (hk : tableKind t = 0)
    (hnone : ∀ j ∈ s.places n t key, ¬(s.entry n t j).HasKey (tableKind t) key) (hx : x ∈ s.tbl n t) (hcam : camBase ≤ x.1)
    (hkey : x.2.HasKey (tableKind t) key)
    (hother : ∀ y ∈ s.tbl n t, camBase ≤ y.1 → y ≠ x → ¬y.2.HasKey (tableKind t) key) : s.findKey n t key = some x.1 := by
  have hbucket : (s.places n t key).find? (fun j => (s.entry n t j).valid (tableKind t) &&
      (s.entry n t j).key (tableKind t) == key) = none := by
    simpa using hnone
  have hfind : (s.tbl n t).find? (fun y => decide (camBase ≤ y.1) && y.2.valid (tableKind t) &&
      y.2.key (tableKind t) == key) = some x := by
    refine find?_eq_some_of_unique hx (by simp [hcam, hkey]) (fun y hy hmatch => ?_)
    simp only [Bool.and_eq_true, decide_eq_true_eq, beq_iff_eq, and_assoc] at hmatch
    by_contra hne
    exact hother y hy hmatch.1 hne hmatch.2
  simp only [State.findKey, hbucket, if_pos hk, hfind, Option.map_some]

/-- The buckets of the MAC table end where its CAM begins (R145). -/
theorem State.lt_camBase_of_mem_places {j : Nat} (hk : tableKind t = 0) (hj : j ∈ s.places n t key) : j < camBase := by
  simp only [State.places, hk, List.mem_map, List.mem_range] at hj
  obtain ⟨slot, hslot, rfl⟩ := hj
  have hbucket : bucketOf (s.fld (Fld.FWD_HASH_SEED_SEED n)) 0 key < 2 ^ 15 := Nat.mod_lt _ (by decide)
  generalize bucketOf (s.fld (Fld.FWD_HASH_SEED_SEED n)) 0 key = b at hbucket
  simp only [bucketSlots, if_true, camBase] at hslot ⊢
  omega

theorem State.headD_mem_places (s : State) (n t : Nat) (key : List Nat) :
    (s.places n t key).headD 0 ∈ s.places n t key := by
  have hne : s.places n t key ≠ [] := by
    simp only [State.places, ne_eq, List.map_eq_nil_iff, List.range_eq_nil, bucketSlots]
    split <;> decide
  obtain ⟨i, rest, hplaces⟩ := List.exists_cons_of_ne_nil hne
  rw [hplaces]
  exact List.mem_cons_self ..

/-- A place of a table whose listed entries there are not VALID holds no VALID entry. -/
theorem State.entry_not_valid_of_tbl {i : Nat} (hk : tableKind t = 0)
    (h : ∀ x ∈ s.tbl n t, x.1 = i → x.2.valid (tableKind t) = false) : (s.entry n t i).valid (tableKind t) = false := by
  unfold State.entry kget
  cases hfind : kfind (s.tbl n t) i with
  | none => rw [hk]; rfl
  | some x => exact h (i, x) (mem_of_kfind hfind) rfl

/-- The place a new entry would take holds no VALID entry: a slot of its bucket, or a place of the CAM (R145). -/
theorem State.freePlace_free {e : TEntry} {i : Nat} (h : s.freePlace n t e = some i) :
    (s.entry n t i).valid (tableKind t) = false ∧
      (i ∈ s.places n t (e.key (tableKind t)) ∨ tableKind t = 0 ∧ camBase ≤ i) := by
  unfold State.freePlace at h
  dsimp only at h
  split at h
  · split at h
    · cases h
    · next hfree =>
      cases h
      have hmem := State.headD_mem_places s n t (e.key (tableKind t))
      have hall := List.any_eq_false.1 (Bool.eq_false_iff.2 hfree)
      exact ⟨Bool.eq_false_iff.2 (hall _ hmem), .inl hmem⟩
  split at h
  · cases h
  split at h
  · next hslot =>
    cases h
    exact ⟨by simpa using List.find?_some hslot, .inl (List.mem_of_find?_eq_some hslot)⟩
  split at h
  · next hk =>
    have hplace := List.find?_some h
    obtain ⟨j, -, rfl⟩ := List.mem_map.1 (List.mem_of_find?_eq_some h)
    refine ⟨State.entry_not_valid_of_tbl hk (fun x hx hat => ?_), .inr ⟨hk, Nat.le_add_right ..⟩⟩
    simp only [Bool.and_eq_true, Bool.not_eq_true', List.contains_eq_mem, decide_eq_true_eq, decide_eq_false_iff_not,
      List.mem_map, List.mem_filter, not_exists, not_and] at hplace
    by_contra hvalid
    exact hplace.2 x ⟨hx, by simp [hat], by simpa using hvalid⟩ hat
  · cases h

end

/-- An entry with a key that was not found, stored in a place where a look for its key comes, is found there. -/
theorem State.findKey_store {s : State} {n t i : Nat} {e : TEntry} {key : List Nat} (hnone : s.findKey n t key = none)
    (hplace : i ∈ s.places n t key ∨ tableKind t = 0 ∧ camBase ≤ i)
    (hkey : (asStored (tableKind t) e).HasKey (tableKind t) key) : (s.store n t i e).findKey n t key = some i := by
  obtain ⟨hbucket, hcam⟩ := State.findKey_none hnone
  have hother : ∀ j ∈ (s.store n t i e).places n t key, j ≠ i →
      ¬((s.store n t i e).entry n t j).HasKey (tableKind t) key := fun j hj hne => by
    rw [State.entry_store_ne s e (.inr (.inr hne))]
    exact hbucket j (by rwa [State.places_store] at hj)
  rcases hplace with hi | ⟨hk, hi⟩
  · refine State.findKey_place (by rwa [State.places_store]) ?_ hother
    rwa [State.entry_store_same]
  · have htbl : (s.store n t i e).tbl n t = kput (s.tbl n t) i (asStored (tableKind t) e) := by
      rw [State.tbl_store, if_pos ⟨rfl, rfl⟩]
    refine State.findKey_cam (x := (i, asStored (tableKind t) e)) hk (fun j hj => hother j hj ?_) ?_ hi hkey
      (fun y hy hat hne => ?_)
    · rw [State.places_store] at hj
      exact Nat.ne_of_lt ((State.lt_camBase_of_mem_places hk hj).trans_le hi)
    · rw [htbl]
      exact mem_of_kfind (kfind_kput_same _ _ _)
    · rw [htbl] at hy
      exact hcam hk y ((mem_kput hy).resolve_left hne) hat

/-- Staged words have 32 bits. -/
theorem State.staged_w_lt (s : State) (n w : Nat) {j : Nat} (hj : j < 8) : (s.staged n w).w j < 2 ^ 32 := by
  simp only [State.staged, TEntry.w, if_neg (Nat.ne_of_lt hj), List.getElem?_map, List.getElem?_range hj, Option.map_some,
    Option.getD_some]
  exact BitVec.isLt _

/-- What an INSERT by key answers: the entry that has its key, the place that the new one takes, or no room. -/
theorem State.byKey_insert (s : State) (n t : Nat) (e : TEntry) :
    (∃ j, s.findKey n t (e.key (tableKind t)) = some j ∧ s.byKey n t 3 e = ({ code := tExists, idx := j }, s)) ∨
      (∃ j, s.findKey n t (e.key (tableKind t)) = none ∧ s.freePlace n t e = some j ∧
        s.byKey n t 3 e = ({ code := tOk, idx := j }, s.store n t j (e.setValid (tableKind t) true))) ∨
      (s.byKey n t 3 e).1.code = tFull := by
  cases hfind : s.findKey n t (e.key (tableKind t)) with
  | some j => exact .inl ⟨j, rfl, by simp only [State.byKey, hfind, if_true]⟩
  | none =>
    cases hplace : s.freePlace n t e with
    | some j => exact .inr (.inl ⟨j, rfl, rfl, by simp only [State.byKey, hfind, hplace, if_true]⟩)
    | none => exact .inr (.inr (by simp only [State.byKey, hfind, hplace, if_true]))

/-- An INSERT into a hashed table that is not refused is by key (R155). -/
theorem State.tableOp_insert (s : State) (n w : Nat) {t : Nat} (i : Nat) (e : TEntry) (ht : isHashed t = true) :
    let r := s.tableOp n w 3 t false i e
    (r.1.code = tWorld ∨ r.1.code = tInvalid ∨ r.1.code = tBusy) ∨ r = s.byKey n t 3 e := by
  refine (State.tableOp_cases s n w 3 t false i e).imp And.right (fun hr => hr.trans ?_)
  rw [if_neg (by decide), ht]
  rfl

/-- Settles O55: an INSERT by key, through the entry that has its key and through the place that a new one takes. -/
theorem insertedEntryIsFound : Obligations.InsertedEntryIsFound := by
  intro s n w t i ht e k r
  have hkind := kind_of_hashed ht
  have hinserted := TEntry.inserted hkind (fun j hj => State.staged_w_lt s n w hj)
  rcases State.tableOp_insert s n w i e ht with hcode | hr
  · rcases hcode with h | h | h
    all_goals exact ⟨fun hok => absurd (h.symm.trans hok) (by decide), fun hex => absurd (h.symm.trans hex) (by decide)⟩
  · rcases State.byKey_insert s n t e with ⟨j, hfind, hj⟩ | ⟨j, hnone, hplace, hj⟩ | hfull
    · have hrj : r = ({ code := tExists, idx := j }, s) := hr.trans hj
      rw [hrj]
      exact ⟨fun hok => absurd hok (show tExists ≠ tOk by decide), fun _ => ⟨rfl, hfind⟩⟩
    · have hrj : r = ({ code := tOk, idx := j }, s.store n t j (e.setValid k true)) := hr.trans hj
      obtain ⟨hfree, hwhere⟩ := State.freePlace_free hplace
      rw [hrj]
      refine ⟨fun _ => ⟨State.findKey_store hnone hwhere hinserted, hfree, ?_, ?_, fun n' t' j' hne =>
        State.entry_store_ne s _ hne⟩, fun hex => absurd hex (show tOk ≠ tExists by decide)⟩
      · rw [State.entry_store_same]
        exact hinserted.1
      · rw [State.entry_store_same]
        exact hinserted.2
    · have hcode : r.1.code = tFull := (congrArg (fun r => r.1.code) hr).trans hfull
      exact ⟨fun hok => absurd (hcode.symm.trans hok) (by decide), fun hex => absurd (hcode.symm.trans hex) (by decide)⟩

end Sys2Proof.Machine
end

section
/-!
Proofs of the family of the buffers and the crossing: the limits of the buffers, the calendar and its slots, cells that arrive,
frames that do not cross, and a stitch module removed.
-/
namespace Sys2Proof.Machine

/-! ## Limits (R169 to R171) -/

/-- The field of QLIM or PLIM that a write of a limit names: a class's, or the port's own. -/
def limitF (p : Nat) : Option Nat → FRef
  | some c => qlimF p c
  | none => plimF p

/-- The state with a limit of port p written: the one before it governs admissions in this tick still, and OVERCOMMIT follows
(R169, R170). -/
def State.limitSet (s : State) (p : Nat) (f : FRef) (w : Word) : State :=
  ({ s with limWas := kput s.limWas f.addr (s.ticks, s.limit f) }.setFld f
    (bitsOf w 0 (if dieOf p < 8 then 17 else 15))).poolShow (dieOf p)

/-- A limit that the buffer can hold is set. -/
theorem bufLimitWrite_fits {s : State} {p : Nat} {w : Word} (c : Option Nat)
    (h : bitsOf w 0 (if dieOf p < 8 then 17 else 15) ≤ poolCells (dieOf p)) :
    bufLimitWrite p c w s = s.limitSet p (limitF p c) w := by
  cases c <;> simp only [bufLimitWrite, limitF, State.limitSet, if_neg (Nat.not_lt.2 h)]

/-- BUF_LIMIT_WRITE of a port that exists completes where the checks pass and the buffer can hold the limit. -/
theorem completes_bufLimitWrite {src : Src} {p : Nat} {c : Option Nat} {w : Word} (hp : p < 260) (hc : ∀ k ∈ c, k < 8) :
    Completes (fun dt => .bufLimitWrite dt src p c w)
      (fun s => s.access src (limitF p c).addr = .ok ∧ bitsOf w 0 (if dieOf p < 8 then 17 else 15) ≤ poolCells (dieOf p))
      (fun s => s.limitSet p (limitF p c) w) := by
  have hex : (decide (p < 260) && c.all (fun k => decide (k < 8))) = true := by
    simpa [hp, Option.all_eq_true] using hc
  refine completes_of_onlyIf_eq (b := fun _ => decide (p < 260) && c.all (fun k => decide (k < 8)))
    (f := fun s => s.guarded src (limitF p c).addr (bufLimitWrite p c w)) (fun _ _ => ?arm) (fun u ⟨hok, hfits⟩ =>
      ⟨hex, (State.guarded_ok _ hok).trans (bufLimitWrite_fits c hfits)⟩)
  case arm => cases c <;> rfl

/-! ## The calendar (R175, R176) -/

/-- A mask that no other link's overlaps waits for the next round (R176; SPEC.md, log entry 54). -/
theorem xbarCalWrite_disjoint {s : State} {l i : Nat} {w : Word}
    (h : ∀ k, k < 9 → k ≠ l → s.calMask k i &&& bitsOf w 0 9 = 0) :
    xbarCalWrite l i w s = { s with calNext := kput s.calNext (64 * l + i) (bitsOf w 0 9) } := by
  have hnone : (List.range 9).any (fun k => k != l && (s.calMask k i &&& bitsOf w 0 9) != 0) = false := by
    simpa [List.any_eq_false, Decidable.or_iff_not_imp_left] using h
  simp only [xbarCalWrite, hnone, Bool.false_eq_true, if_false]

/-- A slot serves the reserved cells of the sources in order, then matches the others in rotating order (R175, R176). The proof
keeps the list of the sources opaque: else the kernel compares the two sides by running the slot. -/
theorem crossbarSlot_eq (s : State) :
    crossbarSlot s =
      (let i := s.slot
       let r := (List.range 9).foldl (reservedCells i) (if i = 0 then s.newRound else s, [], [])
       let q := ((List.range 9).map (fun k => (i % 9 + k) % 9)).foldl (matchedCells i r.2.2) (r.1, r.2.1)
       { q.1 with slot := (i + 1) % 64 }) := by
  obtain ⟨sources, hsources⟩ : ∃ l, l = List.range 9 := ⟨_, rfl⟩
  rw [crossbarSlot, ← hsources]

/-! ## Cells that arrive (R174, R178, R181) -/

/-- The state once link d has taken in the oldest cell on its way there, which source l sent against a credit that is now back
(R174). -/
def State.cellTaken (s : State) (l d : Nat) : State :=
  { s with flight := s.flight.eraseP (fun c => c.dst == d) }.returnCredit l d

section
variable {s : State} {d : Nat} {c : Cell} (hcell : s.flight.find? (fun c => c.dst == d) = some c) (hcredit : c.credit = true)
  (hcut : c.cut = false) (hreceives : (s.cellTaken c.src d).linkReceives d = true)
include hcell hcredit hcut hreceives

/-- At a frame's first cell the die admits the whole frame, as requester 4, and the frame is in arrival (R168, R178). -/
theorem cellArrival_first (hnum : c.num = 0) (hnew : ((s.cellTaken c.src d).die d).arriving.any (sameFrame c) = false) :
    cellArrival d true s =
      (let t := s.cellTaken c.src d
       let r := t.admitAll c.f (t.arrivalPorts d c.f)
       let t := r.2.modDie d (fun x =>
         { x with arriving := x.arriving ++ [⟨c.src, c.f, r.1, false⟩], admitAt := some (r.2.ticks, 4) })
       if cellsOf c.f.bytes ≤ 1 then t.frameArrived d c else t) := by
  unfold State.cellTaken at hreceives hnew ⊢
  simp only [cellArrival, hcell, hcredit, hcut, hreceives, hnum, hnew, if_true, if_false, Bool.false_eq_true, Bool.not_true,
    Bool.not_false, and_self, Nat.zero_add]

/-- A later cell changes nothing more; the last one completes its frame (R178, R181). -/
theorem cellArrival_later (hnum : c.num ≠ 0) :
    cellArrival d true s =
      (let t := s.cellTaken c.src d
       if cellsOf c.f.bytes ≤ c.num + 1 then t.frameArrived d c else t) := by
  unfold State.cellTaken at hreceives ⊢
  simp only [cellArrival, hcell, hcredit, hcut, hreceives, hnum, if_true, if_false, Bool.false_eq_true, Bool.not_true, false_and]

end

/-! ## Frames that do not cross (R177, R180) -/

/-- The late frames of a crossing queue, of which there is one, are discarded whole, SCHED before BULK (R177). -/
theorem crossDeadline_of_late {s : State} {l j : Nat} {x : XFrame} (hx : x ∈ (s.xq l j).sched ++ (s.xq l j).bulk)
    (hlate : s.crossLate l x = true) :
    crossDeadline l j s =
      (let q := s.xq l j
       let keep := fun (x : XFrame) => !s.crossLate l x
       let t := s.setXq l j { sched := headFollow s.ticks q.sched (q.sched.filter keep)
                              bulk := headFollow s.ticks q.bulk (q.bulk.filter keep) }
       let t := ((q.sched ++ q.bulk).filter (s.crossLate l)).foldl (fun t x => t.dropLinks x.f x.links 0x24) t
       if l < 8 then t.raise (Fld.BUF_EVT_CROSS_EXPIRED l) else t) := by
  have hsome : ((s.xq l j).sched ++ (s.xq l j).bulk).filter (s.crossLate l) ≠ [] :=
    List.ne_nil_of_mem (List.mem_filter.2 ⟨hx, hlate⟩)
  simp only [crossDeadline, if_neg hsome]

/-- A replicated head leaves behind a destination that has given no credit for 256 XBAR cycles (R180). -/
theorem replicationSkip_starved {s : State} {l d : Nat} (sched : Bool) {x : XFrame} (hhead : s.xqHead l 9 sched = some x)
    (hd : d ∈ x.links) (hnone : s.credits l d = 0)
    (hwait : max x.headAt (kget (s.die l).gaveAt d 0) + skipTicks ≤ s.ticks) :
    replicationSkip l d sched s =
      ((s.setXq l 9 (if sched then { s.xq l 9 with sched := skipHead s.ticks d (s.xq l 9).sched }
        else { s.xq l 9 with bulk := skipHead s.ticks d (s.xq l 9).bulk })).abandon l d x.f).dropLinks x.f [d] 0x25 := by
  have hstarved : x.links.contains d = true ∧ s.credits l d = 0 ∧
      max x.headAt (kget (s.die l).gaveAt d 0) + skipTicks ≤ s.ticks := ⟨List.contains_iff_mem.2 hd, hnone, hwait⟩
  simp only [replicationSkip, hhead, if_pos hstarved]

/-! ## The family's statement -/

/-- Settles O16: a limit through what the buffer holds, a mask through the other links', a cell through its place in its frame,
a queue through its late frames and its starved head, a module through the Leaf it serves. -/
theorem crossbarComplete : Obligations.CrossbarComplete := by
  refine ⟨fun src p w hp => ?plim, fun src p c w hp hc => ?qlim, fun src l i w hl hi => ?cal, ?slot, fun d c => ?firstCell,
    fun d c => ?laterCell, fun l j hl hj => ?deadline, fun l d x hl => ?skipSched, fun l d x hl => ?skipBulk,
    fun l q hl hq => ?module⟩
  case plim => exact completes_bufLimitWrite (c := none) hp (fun _ h => absurd h (Option.not_mem_none _))
  case qlim => exact completes_bufLimitWrite (c := some c) hp (fun _ h => Option.mem_some.1 h ▸ hc)
  case cal =>
    exact completes_of_indexed (p := l < 9 ∧ i < 64) ⟨hl, hi⟩ (fun _ _ => by rw [Bool.decide_and]; rfl)
      (fun u ⟨hok, hdisjoint⟩ => ⟨hok, xbarCalWrite_disjoint hdisjoint⟩)
  case slot => exact completes_of_onlyIf_eq (fun _ _ => rfl) (fun u hon => ⟨hon, crossbarSlot_eq u⟩)
  case firstCell =>
    exact completes_of_effect (fun _ _ => rfl) (fun u ⟨hcell, hcredit, hcut, hreceives, hnum, hnew⟩ =>
      cellArrival_first hcell hcredit hcut hreceives hnum hnew)
  case laterCell =>
    exact completes_of_effect (fun _ _ => rfl) (fun u ⟨hcell, hcredit, hcut, hreceives, hnum⟩ =>
      cellArrival_later hcell hcredit hcut hreceives hnum)
  case deadline =>
    exact completes_of_onlyIf_eq (b := fun _ => decide (l < 9) && decide (j < 10)) (fun _ _ => rfl) (fun u ⟨x, hx, hlate⟩ =>
      ⟨by simp [hl, hj], crossDeadline_of_late hx hlate⟩)
  case skipSched =>
    exact completes_of_onlyIf_eq (b := fun _ => decide (l < 9)) (fun _ _ => rfl) (fun u ⟨hhead, hd, hnone, hwait⟩ =>
      ⟨decide_eq_true hl, replicationSkip_starved true hhead hd hnone hwait⟩)
  case skipBulk =>
    exact completes_of_onlyIf_eq (b := fun _ => decide (l < 9)) (fun _ _ => rfl) (fun u ⟨hhead, hd, hnone, hwait⟩ =>
      ⟨decide_eq_true hl, replicationSkip_starved false hhead hd hnone hwait⟩)
  case module =>
    exact completes_of_onlyIf_eq (fun _ _ => rfl) (fun u hup => ⟨by simp [hl, hq, hup], rfl⟩)

end Sys2Proof.Machine
end

section
/-!
Proofs of the family of timed egress: transmit opportunities and the Ladle, the gate control lists and hold points, then the link
phase detector and the timing capability exchange.
-/
namespace Sys2Proof.Machine

/-! ## Transmit opportunities (R185 to R188, R197, R203) -/

/-- A port at a transmit opportunity: its credits are brought up to now (R189; SPEC.md, log entry 57), and its held frames judged by
the pauses that stood at their release (R207; log entry 59). -/
abbrev State.atOpportunity (s : State) (p : Nat) : State := (s.creditTo p).ladlePause p

section
variable {s : State} {p pos : Nat} (want : Nat)

/-- A fragment gives way to the Ladle's due head, or to an express frame that may start (R197). -/
theorem transmit_cuts {x : Tx} (hx : (s.atOpportunity p).inFragment p = some x)
    (hyields : (s.atOpportunity p).ladleDue p pos = true ∨ ((s.atOpportunity p).chooseClass p pos true).isSome = true) :
    transmit p want pos s = (s.atOpportunity p).cutFragment p x := by
  simp only [transmit, hx, Bool.or_eq_true, if_pos hyields]

section
variable (hidle : (s.atOpportunity p).inFragment p = none)
include hidle

/-- With no fragment in transmission, the Ladle's due head goes before the class queues (R203). -/
theorem transmit_ladle (hdue : (s.atOpportunity p).ladleDue p pos = true) :
    transmit p want pos s = (s.atOpportunity p).ladleSend p want pos := by
  simp only [transmit, hidle, hdue, if_true]

variable (hdue : (s.atOpportunity p).ladleDue p pos = false) (hfree : (s.atOpportunity p).mediumFree p pos = true)
include hdue hfree

/-- On a free medium the head of the class that the choice names is sent, express classes alone while a preempted frame waits. -/
theorem transmit_class {c drr : Nat} {deficit : KMap Nat} {h : Copy} {rest : List Copy}
    (hchoice : (s.atOpportunity p).chooseClass p pos ((s.atOpportunity p).port p).part.isSome = some (c, drr, deficit))
    (hqueue : (s.atOpportunity p).queue p c = h :: rest) :
    transmit p want pos s =
      ((((s.atOpportunity p).modPort p (fun r =>
        { r with drr := drr, deficit := deficit, headAt := kput r.headAt c (s.atOpportunity p).ticks })).setQueue p c
          rest).startFrame p h pos false) := by
  simp only [transmit, hidle, hdue, hfree, hchoice, State.classSend, hqueue, Bool.false_eq_true, Bool.not_true, if_false]

/-- With no express frame to send, a preempted frame that may start goes on (R197). -/
theorem transmit_resumes {x : Tx} (hpart : ((s.atOpportunity p).port p).part = some x)
    (hnone : (s.atOpportunity p).chooseClass p pos true = none)
    (hmay : (s.atOpportunity p).mayStart p x.c true (x.len - x.sent) pos = true) :
    transmit p want pos s = (s.atOpportunity p).resumeFrame p x pos := by
  simp only [transmit, hidle, hdue, hfree, hpart, Option.isSome_some, hnone, hmay, Bool.false_eq_true, Bool.not_true, if_false,
    if_true]

end

end

/-- FRAME_TRANSMIT completes on an ACTIVE port with an SFD position in this tick. -/
theorem completes_frameTransmit {p want pos : Nat} {H : State → Prop} {f : State → State}
    (h : ∀ u, H u → (u.sends p = true ∧ u.inTick pos = true) ∧ transmit p want pos u = f u) :
    Completes (fun dt => .frameTransmit dt p want pos) H f := by
  refine completes_of_onlyIf_eq (fun _ _ => rfl) (fun u hu => ?_)
  obtain ⟨⟨hsends, htick⟩, heq⟩ := h u hu
  exact ⟨by rw [hsends, htick, Bool.and_true], heq⟩

/-! ## Departures from the Ladle (R202, R206, R207) -/

/-- A deferral from `want` to `pos` of a frame of class c counts, is raised, and enters MAX_DEFER if it is the longest (R206).
That it is rounded to the nearest picosecond is the model's choice. -/
def State.countDeferral (s : State) (p c want pos fl : Nat) : State :=
  let ps := ((pos - want) * 1000 + 32768) / 65536
  let t := (s.countQueue p c 3 1 pos fl).raise (Fld.EGR_PORT_EVT_DEFERRED p)
  if t.fld (Fld.EGR_PORT_MAX_DEFER_PS p) < ps then t.setFld (Fld.EGR_PORT_MAX_DEFER_PS p) (sat 32 ps) else t

/-- The Ladle's head departs on a free medium within G of its release, or at any time after it once it is late. It is deferred if
it departs after the position it wanted, where the medium was not free (R202, R206). -/
theorem State.ladleSend_departs {s : State} {p want pos : Nat} {h : Held} (hhead : s.ladleHead p = some h)
    (hwant : h.earliest ≤ want) (hpos : want ≤ pos) (hwindow : want < h.earliest + s.gapU p ∨ h.c.late = true)
    (hpause : s.paused p h.c.cls = false) (hfree : s.mediumFree p pos = true)
    (hbusy : want < pos → s.mediumFree p want = false) :
    s.ladleSend p want pos =
      (let fl := s.stampFlags p (s.physOf pos) false
       let t := if want < pos then (s.ladleRemove h).countDeferral p h.c.cls want pos fl else s.ladleRemove h
       (t.modPort p (fun r => { r with holdTo := none })).startFrame p h.c pos true) := by
  have hcome : ¬(pos < h.earliest ∨ want < h.earliest ∨ pos < want) := by omega
  have hin : (decide (h.earliest + s.gapU p ≤ want) && !h.c.late) = false := by
    rcases hwindow with hlt | hlate
    · rw [decide_eq_false (Nat.not_le.2 hlt), Bool.false_and]
    · rw [hlate, Bool.not_true, Bool.and_false]
  by_cases hlt : want < pos
  · simp only [State.ladleSend, hhead, if_neg hcome, hpause, hfree, hin, hlt, hbusy hlt, State.countDeferral, decide_true,
      Bool.false_eq_true, Bool.not_true, Bool.not_false, Bool.and_false, Bool.and_true, Bool.false_and, if_false, if_true]
  · simp only [State.ladleSend, hhead, if_neg hcome, hpause, hfree, hin, hlt, decide_false, Bool.false_eq_true, Bool.not_true,
      Bool.false_and, if_false]

/-- LADLE_DEPARTURE completes on an ACTIVE port with no fragment in transmission and an SFD position in this tick. -/
theorem completes_ladleDeparture {p want pos : Nat} {H : State → Prop} {f : State → State}
    (h : ∀ u, H u → (u.sends p = true ∧ u.inTick pos = true ∧ u.inFragment p = none) ∧
      (u.atOpportunity p).ladleSend p want pos = f u) :
    Completes (fun dt => .ladleDeparture dt p want pos) H f := by
  refine completes_of_onlyIf_eq (fun _ _ => rfl) (fun u hu => ?_)
  obtain ⟨⟨hsends, htick, hidle⟩, heq⟩ := h u hu
  exact ⟨by simp only [hsends, htick, hidle, Option.isNone_none, Bool.and_true], heq⟩

/-! ## Gate control lists and hold points (R194, R195, R199) -/

/-- The head of a queue goes as GATE_NO_FIT, and the next frame is the head from now (R194). -/
theorem gateNoFit_head {s : State} {p c : Nat} {h : Copy} {rest : List Copy} (hqueue : s.queue p c = h :: rest) :
    gateNoFit p c s =
      (((s.setQueue p c rest).modPort p (fun r => { r with headAt := kput r.headAt c s.ticks })).discardHeld h.f p h.cls
        0x2B).raise (Fld.EGR_PORT_EVT_GATE_NO_FIT p) := by
  simp only [gateNoFit, hqueue]

/-- SWAP makes the other list active where that may be; the old one governs what it still must (R195, R196). -/
theorem gclSwapWrite_swaps {s : State} {p : Nat} (hother : 1 - s.gclActive p ≠ s.gclActive p)
    (hok : s.listOk p (1 - s.gclActive p) s.now = true) :
    gclSwapWrite p s =
      (let t := (s.creditTo p).setFld (Fld.EGR_PORT_GCL_CTRL_ACTIVE p) (1 - s.gclActive p)
       let t := t.raise (Fld.EGR_PORT_GCL_CTRL_RETAIN p)
       (t.modPort p (fun r => { r with oldList := some (s.gclActive p, s.now, t.ticks) })).egrShow p) := by
  simp only [gclSwapWrite, State.gclSwap, if_true, if_neg hother, hok, Bool.not_true, Bool.false_eq_true, if_false]

/-- The state with a port's preemptable starts held up to an instant (R199). -/
def State.holdUpTo (s : State) (p t : Nat) : State := s.modPort p (fun r => { r with holdTo := some t })

section
variable {s : State} {p t : Nat}
  (h : (s.protects p).find? (fun t => decide (s.now < t) && decide (t ≤ s.now + s.holdAdvance p)) = some t)
include h

/-- At a hold point the fragment in transmission ends (R199). -/
theorem holdPoint_cuts {x : Tx} (hx : (s.holdUpTo p t).inFragment p = some x) :
    holdPoint p s = (((s.holdUpTo p t).creditTo p).cutFragment p x).egrShow p := by
  unfold State.holdUpTo at hx ⊢
  simp only [holdPoint, h, hx]

/-- At a hold point with no fragment in transmission, preemptable starts wait (R199). -/
theorem holdPoint_waits (hx : (s.holdUpTo p t).inFragment p = none) : holdPoint p s = (s.holdUpTo p t).egrShow p := by
  unfold State.holdUpTo at hx ⊢
  simp only [holdPoint, h, hx]

end

/-! ## The statement of egress -/

/-- Settles O17: an opportunity through what the port has to send, the lists through the frames they govern, a hold through the
instant it protects, a departure through the head of the Ladle. -/
theorem egressComplete : Obligations.EgressComplete := by
  refine ⟨fun p want pos c drr deficit h rest => ?sent, fun p want pos x => ?resumed, fun p want pos x => ?cut,
    fun p want pos => ?ladle, fun p => ?gates, fun p c h rest hc => ?noFit, fun src p hp => ?swap, fun p => ?release,
    fun p t => ?hold, fun p pos h => ?departs, fun p want pos h => ?deferred⟩
  case sent =>
    exact completes_frameTransmit (fun u ⟨hsends, htick, hidle, hdue, hfree, hchoice, hqueue⟩ =>
      ⟨⟨hsends, htick⟩, transmit_class want hidle hdue hfree hchoice hqueue⟩)
  case resumed =>
    exact completes_frameTransmit (fun u ⟨hsends, htick, hidle, hdue, hfree, hpart, hnone, hmay⟩ =>
      ⟨⟨hsends, htick⟩, transmit_resumes want hidle hdue hfree hpart hnone hmay⟩)
  case cut =>
    exact completes_frameTransmit (fun u ⟨hsends, htick, hx, hyields⟩ => ⟨⟨hsends, htick⟩, transmit_cuts want hx hyields⟩)
  case ladle =>
    exact completes_frameTransmit (fun u ⟨hsends, htick, hidle, hdue⟩ => ⟨⟨hsends, htick⟩, transmit_ladle want hidle hdue⟩)
  case gates => exact completes_of_onlyIf (fun _ _ => rfl) (fun _ => id)
  case noFit =>
    exact completes_of_onlyIf_eq (fun _ _ => rfl) (fun u ⟨hname, hfits, hqueue⟩ =>
      ⟨by simp [hname, hc, hfits], gateNoFit_head hqueue⟩)
  case swap =>
    exact completes_of_indexed hp (fun _ _ => rfl) (fun u ⟨hok, hother, hlist⟩ => ⟨hok, gclSwapWrite_swaps hother hlist⟩)
  case release =>
    exact completes_of_onlyIf (fun _ _ => rfl) (fun u ⟨hname, hover⟩ => by rw [hname, hover, Bool.and_true])
  case hold =>
    refine completes_of_onlyIf_eq (fun _ _ => rfl) (fun u ⟨hsends, hmerge, hinstant⟩ =>
      ⟨by rw [hsends, hmerge, Bool.and_true], ?_⟩)
    change _ = (match (u.holdUpTo p t).inFragment p with
      | some x => _
      | none => _)
    cases hx : (u.holdUpTo p t).inFragment p with
    | some x => exact holdPoint_cuts hinstant hx
    | none => exact holdPoint_waits hinstant hx
  case departs =>
    refine completes_ladleDeparture (fun u ⟨hsends, htick, hidle, hhead, hcome, hwindow, hpause, hfree⟩ =>
      ⟨⟨hsends, htick, hidle⟩, ?_⟩)
    rw [State.ladleSend_departs hhead hcome le_rfl hwindow hpause hfree (fun hlt => absurd hlt (lt_irrefl pos))]
    simp only [lt_irrefl, if_false]
  case deferred =>
    refine completes_ladleDeparture
      (fun u ⟨hsends, htick, hidle, hhead, hcome, hlater, hwindow, hpause, hbusy, hfree⟩ => ⟨⟨hsends, htick, hidle⟩, ?_⟩)
    rw [State.ladleSend_departs hhead hcome hlater.le hwindow hpause hfree (fun _ => hbusy)]
    simp only [hlater, if_true, State.countDeferral]

/-! ## Link phase (R222, R223) -/

/-- The state with a sample of phases stored, numbered and shown as new, and the interval's slips forgotten (R223). -/
def State.storeSample (s : State) (p rx tx : Nat) : State :=
  let x := s.port p
  let fl := s.lphFlags p
  let l : Lph := { rx := rx, tx := tx, flags := fl, seq := (x.lph.seq + 1) % 2 ^ 16, at_ := s.ticks,
                   validAt := if fl % 2 = 1 then s.ticks else x.lph.validAt,
                   freshAt := if fl / 2 % 2 = 0 then s.ticks else x.lph.freshAt }
  ((s.setPort p { x with lph := l, slip := false, tcx := { x.tcx with sampled := true } }).set (Reg.LPH_RX_PHASE p)
    (BitVec.ofNat 32 rx)).raise (Fld.LPH_STAT_NEW p)

/-- At the end of an interval the phases measured are stored, or the last ones while a calibration run holds them (R223, R436). -/
theorem linkPhaseSample_eq (p rx tx : Nat) (s : State) :
    linkPhaseSample p rx tx s =
      s.storeSample p (if s.calHolds p then (s.port p).lph.rx else rx) (if s.calHolds p then (s.port p).lph.tx else tx) := by
  unfold linkPhaseSample
  cases s.calHolds p with
  | true => rfl
  | false => rfl

/-- A read of a set of a port's registers completes where the number names a port and the checks pass. -/
theorem completes_of_portRead {c : Nat → Instr} {H : State → Prop} {src : Src} {p a : Nat} {f : State → State}
    (harm : ∀ dt s, exec (c dt) s =
      effect dt (fun u => onlyIf (u.laneExists p) (fun u => u.guarded src a (u.portRead src p f)) u) s)
    (h : ∀ u, H u → u.laneExists p = true ∧ u.access src a = .ok ∧ u.namesPort p = true) : Completes c H f := by
  refine completes_of_onlyIf_eq harm (fun u hu => ?_)
  obtain ⟨hlane, hok, hname⟩ := h u hu
  exact ⟨hlane, by rw [State.guarded_ok _ hok, State.portRead, if_pos hname]⟩

/-! ## The exchange (R203, R225, R228 to R232) -/

/-- A message fits before every release known to the port (R203). -/
theorem State.messageFits_of {s : State} {p pos n : Nat}
    (h : ∀ x ∈ s.known p, pos + bytesU (s.portMode p) (1 + n + 12 + 8) ≤ x.release) : s.messageFits p pos n = true :=
  List.all_eq_true.2 (fun x hx => decide_eq_true (h x hx))

section
variable {s : State} {p pos : Nat} (hfits : (s.creditTo p).messageFits p pos 87 = true)
include hfits

/-- A message that fits goes on a free medium (R228). -/
theorem tcxSend_transmits (hidle : (s.creditTo p).inFragment p = none) (hfree : (s.creditTo p).mediumFree p pos = true) :
    tcxSend p pos s = (s.creditTo p).tcxTransmit p pos := by
  simp only [tcxSend, hfits, hidle, hfree, Bool.not_true, Bool.false_eq_true, if_false, if_true]

/-- A fragment gives way to a message that fits (R197). -/
theorem tcxSend_cuts {x : Tx} (hx : (s.creditTo p).inFragment p = some x) :
    tcxSend p pos s = (s.creditTo p).cutFragment p x := by
  simp only [tcxSend, hfits, hx, Bool.not_true, Bool.false_eq_true, if_false]

end

/-- TCX_SEND completes on a port in EXCHANGE or ACTIVE with its exchange enabled and a message due that fits. -/
theorem completes_tcxSend {p pos : Nat} {H : State → Prop} {f : State → State}
    (h : ∀ u, H u → (u.namesPort p = true ∧ 4 ≤ u.portState p ∧ u.on (Fld.TCX_CTRL_EN p) = true ∧ u.inTick pos = true ∧
      u.tcxDue p = true) ∧ tcxSend p pos u = f u) :
    Completes (fun dt => .tcxSend dt p pos) H f := by
  refine completes_of_onlyIf_eq (fun _ _ => rfl) (fun u hu => ?_)
  obtain ⟨⟨hname, hst, hen, htick, hdue⟩, heq⟩ := h u hu
  exact ⟨by simp only [hname, hst, hen, htick, hdue, decide_true, Bool.and_true], heq⟩

section
variable {s : State} {p : Nat} {full : List Byte} {i : RxInfo}

/-- A message of the right address, version, type and length whose FCS is right is accepted (R229; SPEC.md, log entry 61). -/
theorem State.tcxReceive_accepted {b : List Byte} (hb : full.take (full.length - 4) = b) (hen : s.on (Fld.TCX_CTRL_EN p) = true)
    (hst : 4 ≤ s.portState p) (hcrc : crc32 b = leAt full (full.length - 4) 4) (hda : daOf b = tcxDa)
    (hversion : byteAt b 19 = 1) (htype : byteAt b 20 = 1) (hlen : 64 ≤ beAt b 21 2) (hwhole : 83 ≤ b.length) :
    s.tcxReceive p full false = s.tcxAccept p b := by
  have hwell : ¬(byteAt b 20 ≠ 1 ∨ beAt b 21 2 < 64 ∨ b.length < 83) := by omega
  simp only [State.tcxReceive, hb, hen, hst, hcrc, hda, hversion, if_neg hwell, bne_self_eq_false, decide_true, Bool.not_true,
    Bool.or_false, Bool.false_eq_true, ne_eq, not_true_eq_false, if_false]

/-- On a port whose claim is not refused, a message's phases stand (R322). -/
theorem State.tcxTake_heard (bad : Bool) (h : s.portRefused p = false) : s.tcxTake p full bad = s.tcxReceive p full bad := by
  simp only [State.tcxTake, h, Bool.false_eq_true, if_false]

/-- In EXCHANGE a message that no drain and no disabled port keeps out is taken, then trapped to port 259 (R137, R229; SPEC.md, log entry
62). -/
theorem State.receive_tcx_in_exchange (hst : s.portState p = 4) (htcx : isTcx full = true)
    (hdrain : s.drainedAt p (s.rxPhys p i) = false)
    (hup : s.stampedDown p (s.rxStamp p i) (s.stampFlags p (s.rxPhys p i) false) = false) :
    s.receive p full i =
      (s.tcxTake p full (i.codeErr || (i.uncorrectable != 0 && s.fld (Fld.PORT_MODE_FEC p) != 0))).tcxTrap p full i
        (s.rxStamp p i) (s.stampFlags p (s.rxPhys p i) false) (s.rxPhys p i) := by
  simp only [State.receive, hst, htcx, hdrain, hup, lt_irrefl, beq_self_eq_true, Bool.not_false, Bool.and_self, if_true,
    if_false]

/-- A frame with no code error and no codeword that a FEC in force could not correct arrives without error. -/
theorem State.noError_of_fec (hcode : i.codeErr = false) (hfec : i.uncorrectable = 0 ∨ s.fld (Fld.PORT_MODE_FEC p) = 0) :
    (i.codeErr || (i.uncorrectable != 0 && s.fld (Fld.PORT_MODE_FEC p) != 0)) = false := by
  rcases hfec with h | h <;> simp [hcode, h]

end

/-- A port waits for messages in LOCK or later while it holds a peer's values or exchanges (R231; SPEC.md, log entry 62). -/
theorem State.tcxWaits_of {s : State} {p : Nat} (hst : 3 ≤ s.portState p)
    (h : s.on (Fld.TCX_STAT_PEER_VALID p) = true ∨ s.fld (Fld.TCX_STAT_XSTATE p) = 2 ∨
      4 ≤ s.portState p ∧ s.on (Fld.TCX_CTRL_EN p) = true) : s.tcxWaits p = true := by
  simp only [State.tcxWaits, Bool.and_eq_true, Bool.or_eq_true, decide_eq_true_eq, beq_iff_eq, or_assoc]
  exact ⟨hst, h⟩

/-- COMMIT with a coefficient within ±0.01 takes the local set into use as the next generation, and an exchange that was complete
begins again (R225, R232). -/
theorem tcxCommit_in_range {s : State} {p : Nat} (h : asymOk (s.getWide (Reg.TCX_ASYM0 p) 2) = true) :
    tcxCommit p s =
      (let t := s.modTcx p (fun t => { t with
         cap := s.fld (Fld.TCX_CAP_CAP p), txfix := s.fld (Fld.TCX_TXFIX_TXFIX p), rxfix := s.fld (Fld.TCX_RXFIX_RXFIX p),
         asym := s.getWide (Reg.TCX_ASYM0 p) 2, extra := true })
       let t := t.wrapAdd (Fld.TCX_GEN_GEN p) 1
       (if t.fld (Fld.TCX_STAT_XSTATE p) = 2 then t.setFld (Fld.TCX_STAT_XSTATE p) 1 else t).checkAsym p) := by
  simp only [tcxCommit, h, Bool.not_true, Bool.false_eq_true, if_false]

/-! ## The statement of the link phase detector and of the exchange -/

/-- Settles O18: a sample through what a calibration run holds, the reads through their port, a message through the medium, one
received through what makes it good, the time-out through what waits, COMMIT through its coefficient. -/
theorem linkPhaseAndExchangeComplete : Obligations.LinkPhaseAndExchangeComplete := by
  refine ⟨fun p rx tx => ?sample, fun src p => ?read, fun p pos => ?sent, fun p pos x => ?cut, fun p full i => ?accepted,
    fun p => ?timeout, fun src p => ?commit, fun src p => ?peer⟩
  case sample =>
    exact completes_of_onlyIf_eq (fun _ _ => rfl) (fun u ⟨hname, hdie, hen, hrx, htx, hend⟩ =>
      ⟨by simp only [hname, hdie, hen, hrx, htx, hend, decide_true, Bool.and_true], linkPhaseSample_eq p rx tx u⟩)
  case read => exact completes_of_portRead (fun _ _ => rfl) (fun _ => id)
  case sent =>
    exact completes_tcxSend (fun u ⟨hname, hst, hen, htick, hdue, hidle, hfree, hfits⟩ =>
      ⟨⟨hname, hst, hen, htick, hdue⟩, tcxSend_transmits (State.messageFits_of hfits) hidle hfree⟩)
  case cut =>
    exact completes_tcxSend (fun u ⟨hname, hst, hen, htick, hdue, hx, hfits⟩ =>
      ⟨⟨hname, hst, hen, htick, hdue⟩, tcxSend_cuts (State.messageFits_of hfits) hx⟩)
  case accepted =>
    refine completes_of_onlyIf_eq (fun _ _ => rfl) (fun u ⟨hup, hst, htcx, hdrain, hdown, hheard, hen, hcode, hfec, hcrc, hda,
      hversion, htype, hlen, hwhole⟩ => ⟨by rw [hup, htcx, Bool.and_true], ?_⟩)
    rw [State.receive_tcx_in_exchange hst htcx hdrain hdown, State.noError_of_fec hcode hfec, State.tcxTake_heard false hheard,
      State.tcxReceive_accepted rfl hen hst.ge hcrc hda hversion htype hlen hwhole]
  case timeout =>
    exact completes_of_onlyIf (fun _ _ => rfl) (fun u ⟨hname, hst, hwaits, hlong⟩ => by
      rw [hname, State.tcxWaits_of hst hwaits, decide_eq_true hlong]; rfl)
  case commit =>
    exact completes_of_port (fun _ _ => rfl) (fun u ⟨hname, hok, hrange⟩ => ⟨hname, hok, tcxCommit_in_range hrange⟩)
  case peer => exact completes_of_portRead (fun _ _ => rfl) (fun _ => id)

end Sys2Proof.Machine
end

section
/-!
Proofs of the family of time transfer: the commands of the PTP stack.
-/
namespace Sys2Proof.Machine

/-! ## The services at port 259 (R217) -/

section
variable {f : Frame} {s t : State} {svc : Nat}

/-- While the firmware runs, a service acts on its first frame at port 259, taken. -/
theorem State.svcRun_taken (take : Frame → State → State) (hfw : s.fwRuns = true)
    (htake : s.dropUnserved.svcTake svc = some (f, t)) : s.svcRun svc take = take f t := by
  simp only [State.svcRun, hfw, htake, Bool.not_true, Bool.false_eq_true, if_false]

/-- A service's command completes where the firmware runs and the hypotheses give the frame taken and what it makes. -/
theorem completes_of_svcRun {c : Nat → Instr} {H : State → Prop} {take : Frame → State → State} {g : State → State}
    (harm : ∀ dt s, exec (c dt) s = effect dt (fun u => u.svcRun svc take) s)
    (h : ∀ u, H u → u.fwRuns = true ∧ u.dropUnserved.svcTake svc = some (f, t) ∧ take f t = g u) : Completes c H g := by
  refine completes_of_effect harm (fun u hu => ?_)
  obtain ⟨hfw, htake, heq⟩ := h u hu
  exact (State.svcRun_taken take hfw htake).trans heq

end

/-! ## Sync and Follow_Up (R214, R215) -/

section
variable {s : State} {i p : Nat} (hanswer : (s.ptp i p).answer = none) (hmaster : s.ptpState i p = 6)
include hanswer hmaster

/-- A master with no answer to follow up sends the Follow_Up of its last Sync once that has its transmit stamp. -/
theorem ptpSyncSend_follows {st : FwStamp} {t : State}
    (hstamp : s.fwStamp p 0 i (((s.ptp i p).seqSync + 65535) % 65536) = some (st, t)) :
    ptpSyncSend i p s = t.followUp i p (((s.ptp i p).seqSync + 65535) % 65536) st.ts := by
  simp only [ptpSyncSend, hanswer, hmaster, hstamp, Option.bind_none, ne_eq, not_true_eq_false, if_false]

/-- A master with nothing to follow up sends the next Sync once its interval has passed, and asks for that Sync's stamp. -/
theorem ptpSyncSend_sends (hstamp : s.fwStamp p 0 i (((s.ptp i p).seqSync + 65535) % 65536) = none)
    (hdue : s.passed (s.ptp i p).syncAt (s.ptpTicks p 2) = true) :
    ptpSyncSend i p s =
      (s.modPtp i p (fun y => { y with seqSync := ((s.ptp i p).seqSync + 1) % 65536, syncAt := some s.ticks })).ptpSend i p true
        false (some (.firmware 0 i (s.ptp i p).seqSync))
        (s.ptpHead i p 0 44 0x0200 0 (s.ptp i p).seqSync 0 (s.ptpPortOf p 2) ++ zeros 10) := by
  simp only [ptpSyncSend, hanswer, hmaster, hstamp, hdue, Option.bind_none, ne_eq, not_true_eq_false, if_false, if_true]

end

/-! ## Messages received (R214, R322) -/

/-- What a message that is for one of the stack's clocks does, by its type. -/
def State.takeForInst (s : State) (i : Nat) (f : Frame) (o : Nat) : State :=
  match byteAt f.bytes o % 16 with
  | 0 | 8 => s.takeSync i f.inPort f o
  | 9 => s.takeDelayResp i f.inPort f.bytes o
  | 2 => s.takePdelayReq i f.inPort f o
  | 3 | 0xA => s.takePdelay i f.inPort f o
  | 0xB => (s.takeSm i f.inPort f.bytes (o + 64)).takeAnnounce i f.inPort f.bytes o
  | _ => s

/-- A message from a link that its port's claim does not refuse goes to the clock it is for (R322). -/
theorem ptpTake_heard {f : Frame} {s : State} {o i : Nat} (hlink : f.inPort < 258)
    (hoff : ptpOffset (parseFrame true f.bytes) = some o)
    (hheard : (refusable (byteAt f.bytes o % 16) && s.portRefused f.inPort) = false)
    (hinst : s.ptpInstFor f.inPort f.bytes (parseFrame true f.bytes) o = some i) : ptpTake f s = s.takeForInst i f o := by
  simp only [ptpTake, hoff, if_neg hlink.not_ge, hheard, hinst, Bool.false_eq_true, if_false]
  rfl

/-! ## The statement of the PTP stack -/

/-- Where a port asks for the delay: in the peer profiles wherever it is not DISABLED, in the others as SLAVE (R213, R426). -/
theorem State.asksDelay_of {s : State} {i p : Nat}
    (h : if peerProfile (s.ptpProfile i) then s.ptpState i p ≠ 3 else s.ptpState i p = 9) :
    (if peerProfile (s.ptpProfile i) then s.ptpState i p != 3 else s.ptpState i p == 9) = true := by
  split_ifs at h ⊢
  · exact bne_iff_ne.2 h
  · exact beq_iff_eq.2 h

/-- Settles O19: a Sync and a Follow_Up through the stamp that waits or not, the other sends and the time-out through when they are
due, the two kinds of message through the service that takes them. -/
theorem ptpComplete : Obligations.PtpComplete := by
  refine ⟨fun i p => ?sync, fun i p st t => ?followUp, fun i p => ?announce, fun i p => ?delayReq, fun f t o i => ?message,
    fun i p => ?timeout, fun f t o i => ?management⟩
  case sync =>
    exact completes_of_onlyIf_eq (fun _ _ => rfl) (fun u ⟨hruns, hanswer, hmaster, hstamp, hdue⟩ =>
      ⟨hruns, ptpSyncSend_sends hanswer hmaster hstamp hdue⟩)
  case followUp =>
    exact completes_of_onlyIf_eq (fun _ _ => rfl) (fun u ⟨hruns, hanswer, hmaster, hstamp⟩ =>
      ⟨hruns, ptpSyncSend_follows hanswer hmaster hstamp⟩)
  case announce =>
    exact completes_of_onlyIf (fun _ _ => rfl) (fun u ⟨hruns, hmaster, hdue⟩ => by simp [hruns, hmaster, hdue])
  case delayReq =>
    exact completes_of_onlyIf (fun _ _ => rfl) (fun u ⟨hruns, hdue, hasks⟩ => by
      rw [hruns, hdue, State.asksDelay_of hasks]; rfl)
  case message =>
    exact completes_of_svcRun (fun _ _ => rfl) (fun u ⟨hfw, htake, hlink, hoff, hheard, hinst⟩ =>
      ⟨hfw, htake, ptpTake_heard hlink hoff hheard hinst⟩)
  case timeout =>
    exact completes_of_onlyIf (fun _ _ => rfl) (fun u ⟨hruns, hstate, hlong⟩ => by simp [hruns, hstate, hlong])
  case management => exact completes_of_svcRun (fun _ _ => rfl) (fun u ⟨hfw, htake, _⟩ => ⟨hfw, htake, rfl⟩)

end Sys2Proof.Machine
end

section
/-!
Proofs of the family of the references and holdover: entries that fire on the clocks, the reference slots, the digital PLLs in
tracking and in their modes, and the requests of the clocks, the claims, the power and the telemetry.
-/
namespace Sys2Proof.Machine

/-! ## Entries that fire on the clocks, a parameter set or a claim domain (R74, R256, R285, R328, R419) -/

section
variable {s : State} {e : Nat} {a : ActEntry}

theorem phaseAction_ok (hworld : s.worldBars e (Reg.DPLL_PSTEP_CTRL a.target) = false) :
    phaseAction e a s = (.ok, s.applySteps a.target (signed 64 a.arg)) := by
  simp only [phaseAction, hworld, Bool.false_eq_true, if_false]

/-- A staging set whose items all pass is emptied and committed whole (R418). -/
theorem State.commitStaged_passes {i : Nat} (tag : Nat) (late : Bool) (h : s.commitFails (s.pset i).entries = none) :
    s.commitStaged i tag late = (none, (s.setPset i { s.pset i with
      entries := [], lastTag := tag, lastResult := if late then 3 else 1, failKey := 0 }).commitSet (s.pset i).entries) := by
  simp only [State.commitStaged, h]

/-- A set of the entry's own world whose items all pass is committed, with the result late after a pause (R417 to R420). -/
theorem commitAction_ok (hworld : s.psetForeign a.target (s.actWorld e) = false)
    (h : s.commitFails (s.pset a.target).entries = none) :
    commitAction e a s = (.ok, (s.commitStaged a.target a.arg (a.carried.isNone && s.pausedAt a.trigger)).2) := by
  simp only [commitAction, hworld, State.commitStaged_passes _ _ h, Option.isSome_none, Bool.false_eq_true, if_false]

theorem dividerAction_ok (hworld : s.worldBars e Reg.SYN_UPDATE = false) :
    dividerAction e a s = (.ok, s.loadOuts a.target s.ticks) := by
  simp only [dividerAction, hworld, Bool.false_eq_true, if_false]

theorem drillAction_ok (hworld : s.worldBars e (Reg.CLM_DOM_CFG a.target) = false)
    (hbegins : (clmDrill a.target a.arg s).1 = false) : drillAction e a s = (.ok, (clmDrill a.target a.arg s).2) := by
  simp only [drillAction, hworld, hbegins, Bool.false_eq_true, if_false]

end

/-- Settles O6: a step whose second has come where no entry takes it along, and each action taken whole. -/
theorem clockActionsComplete : Obligations.ClockActionsComplete := by
  refine ⟨fun d hd => ?second, fun e => ?phase, fun e => ?commit, fun e => ?divider, fun e => ?drill⟩
  case second =>
    refine completes_of_onlyIf (fun _ _ => rfl) (fun u ⟨hentry, hdue⟩ => ?_)
    simp [hd, hentry, hdue]
  case phase => exact completes_of_fires (fun _ _ => rfl) (fun _ ⟨hf, hworld⟩ => ⟨hf, phaseAction_ok hworld⟩)
  case commit =>
    refine completes_of_fires (fun _ _ => rfl) (fun u ⟨hf, hworld, hpass⟩ => ⟨hf, ?_⟩)
    rw [commitAction_ok hworld hpass, State.commitStaged_passes _ _ hpass]
  case divider => exact completes_of_fires (fun _ _ => rfl) (fun _ ⟨hf, hworld⟩ => ⟨hf, dividerAction_ok hworld⟩)
  case drill =>
    exact completes_of_fires (fun _ _ => rfl) (fun _ ⟨hf, hworld, hbegins⟩ => ⟨hf, drillAction_ok hworld hbegins⟩)

/-! ## Reference slots (R237, R238, R241) -/

section
variable {s : State} {i : Nat} {w : Word}

/-- The state with the results of an enabled slot's checks cleared (R241). -/
def State.clearSlotStat (s : State) (i : Nat) : State :=
  (((s.setFld (Fld.REF_SLOT_STAT_ACT_FAULT i) 0).setFld (Fld.REF_SLOT_STAT_FREQ_FAULT i) 0).setFld
    (Fld.REF_SLOT_STAT_FOFF_VALID i) 0).setFld (Fld.REF_SLOT_STAT_FORCED_OUT i) 0

/-- The state with a slot that comes up judged: its activity fault, and whether R46 disqualifies it. -/
def State.judgeSlot (s : State) (i : Nat) (fault : Bool) : State :=
  let t := (s.freshEdges i fault).setBit (Fld.REF_SLOT_STAT_ACT_FAULT i) (if i < 4 then fault else s.actFault i)
  t.setBit (Fld.REF_SLOT_STAT_FORCED_OUT i) (t.slotForced i)

/-- A write that enables one of slots 0 to 14 judges it: FAILED or RESTORING (R241). -/
theorem slotCfgWrite_enables (fault : Bool) (hi : i < 15) (hgood : s.slotCfgBad i w = false)
    (hoff : s.on (Fld.REF_SLOT_CFG_EN i) = false) (hen : bitsOf w 31 1 = 1) (hqual : bitsOf w 30 1 = 0) :
    slotCfgWrite i w fault s =
      (let t := (s.set (Reg.REF_SLOT_CFG i) (w &&& 0x8F0111FF#32)).judgeSlot i fault
       t.setSlot i (if t.slotFault i || t.on (Fld.REF_SLOT_STAT_FORCED_OUT i) then 3 else 4)) := by
  simp [slotCfgWrite, State.judgeSlot, hgood, hoff, hen, hqual, hi.ne]

/-- A write that disables a slot clears what its checks showed: DISABLED (R241). -/
theorem slotCfgWrite_disables (fault : Bool) (hgood : s.slotCfgBad i w = false) (hon : s.on (Fld.REF_SLOT_CFG_EN i) = true)
    (hdis : bitsOf w 31 1 = 0) (hqual : bitsOf w 30 1 = 0) :
    slotCfgWrite i w fault s = ((s.set (Reg.REF_SLOT_CFG i) (w &&& 0x8F0111FF#32)).clearSlotStat i).setSlot i 0 := by
  simp [slotCfgWrite, State.clearSlotStat, hgood, hon, hdis, hqual]

end

/-- A command on the activity of one of slots 0 to 14 completes while the slot is enabled (R238). -/
theorem completes_of_activity {c : Nat → Instr} {H : State → Prop} {i : Nat} {runs : List (Nat × Nat)} {f g : State → State}
    (hi : i < 15)
    (harm : ∀ dt s, exec (c dt) s =
      effect dt (fun u => onlyIf (decide (i < 15) && u.on (Fld.REF_SLOT_CFG_EN i)) (fun u => f (u.takeEdges i runs)) u) s)
    (h : ∀ u, H u → u.on (Fld.REF_SLOT_CFG_EN i) = true ∧ f (u.takeEdges i runs) = g u) : Completes c H g :=
  completes_of_onlyIf_eq harm (fun u hu => by
    obtain ⟨hon, heq⟩ := h u hu
    exact ⟨by rw [decide_eq_true hi, hon, Bool.and_true], heq⟩)

/-- Settles O20: CFG by what becomes of EN, FORCE_QUAL on a RESTORING slot, an activity fault and its end by the condition after
the edges taken, the two timers in their states, and a second's readings. -/
theorem referenceSlotsComplete : Obligations.ReferenceSlotsComplete := by
  refine ⟨fun src i w fault hi hen hqual => ?enable, fun src i w fault hi hdis hqual => ?disable, fun src i hi => ?force,
    fun i runs hi => ?fault, fun i runs hi => ?clear, fun i runs hi => ?edges, fun i hi => ?holdoff, fun i hi => ?restore,
    fun foffs => ?reading⟩
  case enable =>
    exact completes_of_indexed (show i < 16 by omega) (fun _ _ => rfl) (fun u ⟨hok, hgood, hoff⟩ =>
      ⟨hok, slotCfgWrite_enables fault hi hgood hoff hen hqual⟩)
  case disable =>
    exact completes_of_indexed hi (fun _ _ => rfl) (fun u ⟨hok, hgood, hon⟩ =>
      ⟨hok, slotCfgWrite_disables fault hgood hon hdis hqual⟩)
  case force => exact completes_of_indexed hi (fun _ _ => rfl) (fun u ⟨hok, hst⟩ => ⟨hok, if_pos hst⟩)
  case fault => exact completes_of_activity hi (fun _ _ => rfl) (fun u ⟨hon, hfault⟩ => ⟨hon, if_pos hfault⟩)
  case clear => exact completes_of_activity hi (fun _ _ => rfl) (fun u ⟨hon, hends⟩ => ⟨hon, if_pos hends⟩)
  case edges =>
    exact completes_of_activity (show i < 15 by omega) (fun _ _ => rfl) (fun u ⟨hon, hlasts⟩ =>
      ⟨hon, if_neg (Bool.eq_false_iff.1 hlasts)⟩)
  case holdoff =>
    exact completes_of_onlyIf (fun _ _ => rfl) (fun u ⟨hst, hdue⟩ => by simp [hi, hst, hdue])
  case restore =>
    exact completes_of_onlyIf (fun _ _ => rfl) (fun u ⟨hst, hdue⟩ => by simp [hi, hst, hdue])
  case reading =>
    exact completes_of_onlyIf (fun _ _ => rfl) (fun u ⟨hpow, hsecond⟩ => by simp [hpow, hsecond])

/-! ## DPLLs that track a reference (R247 to R249, R252, R253, R258) -/

/-- A switch of DPLL-T sets network time only while that is not valid (R248). -/
theorem not_sets_time {s : State} {d : Nat} (hvalid : d = 0 → s.on Fld.TIME_STATUS_VALID = true) :
    ¬(d = 0 ∧ s.on Fld.TIME_STATUS_VALID = false) :=
  fun ⟨hd, hno⟩ => Bool.eq_false_iff.1 hno (hvalid hd)

section
variable {s : State} {d i : Nat} {offset : Int} (hsel : s.selected d = some i)
  (hvalid : d = 0 → s.on Fld.TIME_STATUS_VALID = true)
include hsel hvalid

/-- A switch to a reference within SLEW_THRESH ends in a slew of the whole offset (R248). -/
theorem switchEnd_slews (halign : s.on (Fld.DPLL_CTRL_ALIGN d) = true)
    (hnear : (s.reduceOffset i offset).natAbs ≤ s.fld (Fld.DPLL_SLEW_THRESH_NS d) * nsU) :
    switchEnd d offset s = ((s.setOffset d 0).acquire d).setSlew d (-(s.reduceOffset i offset)) := by
  simp only [switchEnd, hsel, Bool.not_eq_true', if_neg (not_sets_time hvalid), halign, Bool.not_true, Bool.false_eq_true,
    if_false, Nat.not_lt.2 hnear, decide_false, Bool.not_false, if_true]

/-- With ALIGN = 0 a switch keeps the output's phase and shows the offset (R248). -/
theorem switchEnd_keeps_phase (halign : s.on (Fld.DPLL_CTRL_ALIGN d) = false) :
    switchEnd d offset s = (s.setOffset d (s.reduceOffset i offset)).acquire d := by
  simp only [switchEnd, hsel, Bool.not_eq_true', if_neg (not_sets_time hvalid), halign, if_true]

end

/-- A span that began at an instant is over where it ends by now. -/
theorem any_passed_of {x : Option Nat} {t now : Nat} {p : Nat → Nat} (hx : x = some t) (hdue : p t ≤ now) :
    x.any (fun t => decide (p t ≤ now)) = true := by
  rw [hx, Option.any_some, decide_eq_true hdue]

/-- The state with a comparison's phase, sequence number and flags reported in PD (R258). -/
def State.reportPd (s : State) (d : Nat) (err : Int) (valid stale : Bool) : State :=
  ((((s.modDpll d (fun x => { x with pdAt := s.ticks })).setWide (Reg.DPLL_PD0 d) 2 (unsigned 64 err)).wrapAdd
    (Fld.DPLL_PDX_PD_SEQ d) 1).setBit (Fld.DPLL_PDX_PD_STALE d) stale).setBit (Fld.DPLL_PDX_PD_VALID d) valid

/-- A comparison is reported with its sample's flags; a usable one drives a tracking loop or shows the offset that waits for
software (R258, R267). -/
theorem pdComparison_eq (d i : Nat) (err : Int) (valid stale : Bool) (word : Int) (s : State) :
    pdComparison d i err valid stale word s =
      (let f := s.sampleFlags i valid stale
       let t := s.reportPd d err f.1 f.2
       if f.1 = true ∧ f.2 = false ∧ t.slotState i = 1 then
         if t.dstate d = 1 ∨ t.dstate d = 2 then (t.applyWord d word).judgeError d err
         else if t.on (Fld.DPLL_STAT_RETURN_PENDING d) then t.setPend d (t.reduceOffset i err)
         else t
       else t) := by
  have huse (v st : Bool) (n : Nat) : (!(v && !st && n == 1)) = true ↔ ¬(v = true ∧ st = false ∧ n = 1) := by
    cases v <;> cases st <;> simp
  simp only [pdComparison, huse, ite_not]
  rfl

/-- Settles O21: each command through the condition it waits for; a switch that ends by ALIGN, a comparison by what it reports. -/
theorem dpllTrackingComplete : Obligations.DpllTrackingComplete := by
  refine ⟨fun d hd => ?reevaluate, fun d hd => ?slewEnd, fun d offset i hd => ?slews, fun d offset i hd => ?keeps,
    fun d t hd => ?lock, fun d t hd => ?loss, fun d t hd => ?bandwidth, fun d err valid stale word i hd => ?compare⟩
  case reevaluate => exact completes_of_onlyIf (fun _ _ => rfl) (fun u hpow => by simp [hpow, hd])
  case slewEnd => exact completes_of_onlyIf (fun _ _ => rfl) (fun u ⟨hslewing, hleft⟩ => by simp [hd, hslewing, hleft])
  case slews =>
    exact completes_of_onlyIf_eq (fun _ _ => rfl) (fun u ⟨hst, hsel, hvalid, halign, hnear⟩ =>
      ⟨by simp [hd, hst], switchEnd_slews hsel hvalid halign hnear⟩)
  case keeps =>
    exact completes_of_onlyIf_eq (fun _ _ => rfl) (fun u ⟨hst, hsel, hvalid, halign⟩ =>
      ⟨by simp [hd, hst], switchEnd_keeps_phase hsel hvalid halign⟩)
  case lock =>
    refine completes_of_onlyIf (fun _ _ => rfl) (fun u ⟨hst, hend, hslewing, hin, hdwell⟩ => ?_)
    simp [hd, hst, hend, hslewing, hin, hdwell]
  case loss =>
    refine completes_of_onlyIf (fun _ _ => rfl) (fun u ⟨hst, hout, hdue⟩ => ?_)
    have hlost : (u.dpll d).outSince.any (fun t => decide (t + secT ≤ u.ticks)) = true := any_passed_of hout hdue
    simp only [hd, hst, hlost, decide_true, beq_self_eq_true, Bool.and_true]
  case bandwidth =>
    refine completes_of_effect (fun _ _ => rfl) (fun u ⟨hst, hwide, hin, hdwell⟩ => ?_)
    exact onlyIf_true _ u (by simp [hd, hst, hwide, hin, hdwell])
  case compare =>
    refine completes_of_effect (fun _ _ => rfl) (fun u ⟨hcmp, hdue⟩ => ?_)
    simp only [hcmp]
    exact (onlyIf_true _ u (by simp [hd, hdue])).trans (pdComparison_eq d i err valid stale word u)

/-! ## Modes, steps and holdover (R250, R253, R255 to R258, R261 to R267) -/

section
variable {s : State} {d : Nat} {w : Word}

/-- A mode and a bandwidth that the DPLL has are taken (R250, R253). -/
theorem dpllCtrlWrite_legal (hmode : bitsOf w 0 3 ≠ 7) (hfollow : d = 0 → bitsOf w 0 3 ≠ 6)
    (hbw : s.bwOk (bitsOf w 24 8) = true) :
    dpllCtrlWrite d w s =
      (let t := (s.set (Reg.DPLL_CTRL d) (w &&& 0xFFFF1C07#32)).modDpll d (fun x => { x with
         avoid := none, profile := max x.profile (bitsOf w 24 8) })
       (if s.dmode d = bitsOf w 0 3 then t else t.enterMode d (s.dmode d) (bitsOf w 0 3)).showBw d) := by
  have hlegal : ¬(bitsOf w 0 3 = 7 ∨ (bitsOf w 0 3 = 6 ∧ d = 0) ∨ (!s.bwOk (bitsOf w 24 8)) = true) := by
    rintro (h7 | ⟨h6, hd⟩ | hno)
    · exact hmode h7
    · exact hfollow hd h6
    · simp [hbw] at hno
  simp only [dpllCtrlWrite, if_neg hlegal]

/-- A word within ±500 ppm is stored, and applied at once in OPEN (R17, R258). -/
theorem freqSwWrite_inRange (h : (signed 64 (s.wideValue (Reg.DPLL_FREQ_SW0 d) 2 w)).natAbs ≤ wordLimit) :
    freqSwWrite d w s =
      (let v := s.wideValue (Reg.DPLL_FREQ_SW0 d) 2 w
       let t := (s.dropHeld (Reg.DPLL_FREQ_SW0 d) 2).setWide (Reg.DPLL_FREQ_SW0 d) 2 v
       if t.dstate d = 6 then t.applyWord d (signed 64 v) else t) := by
  simp only [freqSwWrite, if_neg (Nat.not_lt.2 h)]

end

/-- The bound of a second of holdover is shown, and the event that it raises where it first exceeds HO_LIMIT (R266). -/
theorem State.showBound_eq (s : State) (d t : Nat) :
    s.showBound d t =
      (let b := s.boundScaled d t
       let v := (s.setFld (Fld.DPLL_HO_TIME_S d) (sat 32 t)).setFld (Fld.DPLL_HO_BOUND_NS d) (sat 32 (b / 2 ^ 49))
       let v := v.modDpll d (fun x => { x with hoDone := t })
       if v.fld (Fld.DPLL_HO_LIMIT_NS d) * 2 ^ 49 < b ∧ (v.dpll d).hoOver = false then
         (v.modDpll d (fun x => { x with hoOver := true })).raise (Fld.DPLL_EVT_HO_LIMIT d)
       else v) := by
  simp only [State.showBound, Bool.and_eq_true, decide_eq_true_eq, Bool.not_eq_true']

/-- The word of a second of holdover is applied while the DPLL holds over with its frequency known (R261, R262). -/
theorem holdoverRecompute_eq (d t0 : Nat) (s : State) :
    holdoverRecompute d t0 s =
      (let u := if (s.dstate d = 3 ∨ s.dstate d = 4 ∨ s.dstate d = 5) ∧ s.on (Fld.DPLL_STAT_HO_READY d) = true then
         s.applyWord d (s.holdWord d) else s
       u.showBound d ((u.ticks - t0) / secT)) := by
  simp only [holdoverRecompute, Bool.and_eq_true, Bool.or_eq_true, beq_iff_eq, or_assoc]

/-! ### Ageing (R264) -/

/-- The state with a day of the ageing fit over, and the daily means so far. -/
def State.ageDay (s : State) (l : List (Int × Int)) : State :=
  { s.ageNote with age := { noted := s.ticks, at_ := s.ticks, means := l } }

/-- The mean of the day that ends now, under the middle of the day. -/
def State.dayMean (s : State) : Int × Int :=
  ((s.now / secU : Nat) - (43200 : Int), s.ageNote.age.sum / s.ageNote.age.span)

/-- The state with A1 and A2 rewritten by a fit, where the days fix both. -/
def State.putFit (s : State) : Option (Int × Int) → State
  | some (a1, a2) => { s with
      params := kput (kput s.params (pkey 7 0 0x11) (max (-2 ^ 62) (min (2 ^ 62) a1))) (pkey 7 0 0x12)
        (max (-2 ^ 62) (min (2 ^ 62) a2)) }
  | none => s

theorem State.ageNote_means (s : State) : s.ageNote.age.means = s.age.means := by
  simp only [State.ageNote]
  repeat' split
  all_goals rfl

/-- The daily means after this day: a day without a word applied LOCKED has none. -/
def State.daysAfter (s : State) : List (Int × Int) :=
  s.age.means ++ (if s.ageNote.age.span = 0 then [] else [s.dayMean])

section
variable {s : State} (up1 up2 : Bool)

theorem ageFit_eq :
    ageFit up1 up2 s =
      if s.param (pkey 7 0 0x14) = 1 ∧ 3 ≤ s.daysAfter.length then
        (s.ageDay s.daysAfter).putFit
          (lsFit up1 up2 (s.paramNat (pkey 7 0 0x13)) (s.param (pkey 7 0 0x10)) s.daysAfter)
      else s.ageDay s.daysAfter := by
  rw [State.daysAfter, ← State.ageNote_means]
  rfl

/-- A day with a mean joins the fit; with it the third day, and AGE_LEARN on, A1 and A2 are rewritten. -/
theorem ageFit_learns (hspan : s.ageNote.age.span ≠ 0) (hlearn : s.param (pkey 7 0 0x14) = 1)
    (hdays : 2 ≤ s.age.means.length) :
    ageFit up1 up2 s = (s.ageDay (s.age.means ++ [s.dayMean])).putFit
      (lsFit up1 up2 (s.paramNat (pkey 7 0 0x13)) (s.param (pkey 7 0 0x10)) (s.age.means ++ [s.dayMean])) := by
  have hday : s.daysAfter = s.age.means ++ [s.dayMean] := by rw [State.daysAfter, if_neg hspan]
  have hthree : 3 ≤ (s.age.means ++ [s.dayMean]).length := by simpa using hdays
  rw [ageFit_eq, hday, if_pos ⟨hlearn, hthree⟩]

/-- A day without a mean leaves the means; without AGE_LEARN, A1 and A2 stay too. -/
theorem ageFit_skips (hspan : s.ageNote.age.span = 0) (hlearn : s.param (pkey 7 0 0x14) = 0) :
    ageFit up1 up2 s = s.ageDay s.age.means := by
  have hday : s.daysAfter = s.age.means := by rw [State.daysAfter, if_pos hspan, List.append_nil]
  rw [ageFit_eq, hday, if_neg (by simp [hlearn])]

end

/-! ### A pending return (R267) -/

section
variable {s : State} {d : Nat} (hpending : s.on (Fld.DPLL_STAT_RETURN_PENDING d) = true)
include hpending

theorem dpllReturn_step :
    dpllReturn d 1 s = (s.setFld (Fld.DPLL_STAT_RETURN_PENDING d) 0).returnStep d (s.pendOffset d) :=
  if_neg (by simp [hpending])

/-- The answer is a variable here: with a numeral in its place the kernel unfolds the slew before the choice of the answer. -/
theorem dpllReturn_slew {cmd : Nat} (hcmd : cmd = 2) :
    dpllReturn d cmd s =
      (((s.setFld (Fld.DPLL_STAT_RETURN_PENDING d) 0).setOffset d 0).acquire d).setSlew d (-(s.pendOffset d)) := by
  unfold dpllReturn
  rw [hpending, Bool.not_true, if_neg Bool.false_ne_true]
  split
  · contradiction
  · rfl
  · contradiction
  · contradiction

theorem dpllReturn_hold :
    dpllReturn d 3 s = (s.modDpll d (fun x => { x with avoid := s.selected d })).enterHoldover d :=
  if_neg (by simp [hpending])

end

/-- Settles O22: the writes through what the register takes, a second of holdover and a day of ageing by their parts, a return by
its answer. -/
theorem dpllControlComplete : Obligations.DpllControlComplete := by
  refine ⟨fun src d w hd hmode hfollow => ?mode, fun src d hd => ?atSecond, fun src d hd => ?slew, fun src d w hd => ?word,
    fun d t0 hd => ?holdover, fun d hd => ?stale, fun up1 up2 => ?learns, fun up1 up2 => ?skips, fun src d hd => ?returnStep,
    fun src d hd => ?returnSlew, fun src d hd => ?returnHold⟩
  case mode =>
    exact completes_of_indexed hd (fun _ _ => rfl) (fun u ⟨hok, hbw⟩ => ⟨hok, dpllCtrlWrite_legal hmode hfollow hbw⟩)
  case atSecond => exact completes_of_indexed hd (fun _ _ => rfl) (fun u hok => ⟨hok, rfl⟩)
  case slew => exact completes_of_indexed hd (fun _ _ => rfl) (fun u hok => ⟨hok, rfl⟩)
  case word => exact completes_of_indexed hd (fun _ _ => rfl) (fun u ⟨hok, hrange⟩ => ⟨hok, freqSwWrite_inRange hrange⟩)
  case holdover =>
    refine completes_of_effect (fun _ _ => rfl) (fun u ⟨hat, hdue⟩ => ?_)
    simp only [hat]
    refine (onlyIf_true _ u (by simp [hd, hdue])).trans ?_
    rw [holdoverRecompute_eq]
    exact State.showBound_eq _ d _
  case stale =>
    exact completes_of_onlyIf (fun _ _ => rfl) (fun u ⟨hpow, hten, hfresh⟩ => by simp [hd, hpow, hten, hfresh])
  case learns =>
    refine completes_of_onlyIf_eq (fun _ _ => rfl) (fun u ⟨hpow, hday, hspan, hlearn, hdays⟩ => ⟨by simp [hpow, hday], ?_⟩)
    exact ageFit_learns up1 up2 hspan hlearn hdays
  case skips =>
    exact completes_of_onlyIf_eq (fun _ _ => rfl) (fun u ⟨hpow, hday, hspan, hlearn⟩ =>
      ⟨by simp [hpow, hday], ageFit_skips up1 up2 hspan hlearn⟩)
  case returnStep =>
    exact completes_of_indexed hd (fun _ _ => rfl) (fun u ⟨hok, hpending⟩ => ⟨hok, dpllReturn_step hpending⟩)
  case returnSlew =>
    exact completes_of_indexed hd (fun _ _ => rfl) (fun u ⟨hok, hpending⟩ => ⟨hok, dpllReturn_slew hpending rfl⟩)
  case returnHold =>
    exact completes_of_indexed hd (fun _ _ => rfl) (fun u ⟨hok, hpending⟩ => ⟨hok, dpllReturn_hold hpending⟩)

/-! ## Requests of the clocks, the claims, the power and the telemetry (R409) -/

section
variable {s : State} {m : Nat} (hm : worldOf m = 1)
include hm

theorem dpllChecks_pass {d : Nat} (hd : d < 3) : ∀ c ∈ s.dpllChecks m d, c.1 = false := by
  simp [State.dpllChecks, s.barred_of_secure hm, hd]

/-- A request without operands, whose one check is the world of a register, completes from a secure mailbox. -/
theorem completes_of_worldServed {c : Nat → Instr} {op a : Nat} {act : State → State}
    (harm : ∀ dt s, exec (c dt) s = served dt m op 0 (fun u => [(u.barred m a, stWorld)]) act s) :
    Completes c (AtRequest m op 0) act :=
  completes_of_served harm (fun u hreq => ⟨hreq, by simp [u.barred_of_secure hm], rfl⟩)

end

/-- Settles O41: each request through its checks. -/
theorem clockAndPowerRequestsComplete : Obligations.ClockAndPowerRequestsComplete := by
  refine ⟨fun m hm => ?refStatus, fun m hm => ?dpllStatus, fun m hm => ?dpllReturn, fun m hm => ?synStatus,
    fun m hm => ?gnssStatus, fun m hm => ?gnssSurvey, fun m hm => ?claimStatus, fun m hm => ?claimNotice,
    fun m hm => ?powerStatus, fun m data n hm hn => ?pmbus, fun m hm => ?snapshot, fun m hm => ?freeze, fun m hm => ?window⟩
  case refStatus => exact completes_of_worldServed hm (fun _ _ => rfl)
  case dpllStatus => exact completes_of_served (fun _ _ => rfl) (fun u ⟨hreq, hd⟩ => ⟨hreq, dpllChecks_pass hm hd, rfl⟩)
  case dpllReturn =>
    refine completes_of_served (fun _ _ => rfl) (fun u ⟨hreq, hd, hlo, hhi, hpending⟩ => ⟨hreq, ?_, rfl⟩)
    exact List.forall_mem_append.2 ⟨dpllChecks_pass hm hd, by simp [hhi, hpending, Nat.pos_iff_ne_zero.1 hlo]⟩
  case synStatus => exact completes_of_worldServed hm (fun _ _ => rfl)
  case gnssStatus => exact completes_of_worldServed hm (fun _ _ => rfl)
  case gnssSurvey => exact completes_of_worldServed hm (fun _ _ => rfl)
  case claimStatus =>
    exact completes_of_served (fun _ _ => rfl) (fun u ⟨hreq, hd⟩ => ⟨hreq, by simp [u.barred_of_secure hm, hd], rfl⟩)
  case claimNotice =>
    refine completes_of_served (fun _ _ => rfl) (fun u ⟨hreq, hd, hop, hpeer, hrole⟩ => ⟨hreq, ?_, rfl⟩)
    have hkind : (u.arg m 1 != 1 && u.arg m 1 != 2) = false := by rcases hop with h | h <;> rw [h] <;> rfl
    have hnamed : (u.arg m 2 != u.peer (u.arg m 0) 0 && u.arg m 2 != u.peer (u.arg m 0) 1) = false := by
      rcases hpeer with h | h <;> simp [← h]
    simp [u.barred_of_secure hm, hd, hkind, hnamed, show 1 < u.role (u.arg m 0) from hrole]
  case powerStatus => exact completes_of_worldServed hm (fun _ _ => rfl)
  case pmbus =>
    refine completes_of_effect (fun _ _ => rfl) (fun u ⟨hreq, ha, hpage, hcmd, hlen, hread⟩ => ?_)
    refine (serve_passes hreq (by simp [hlen]) ?_).trans (by rw [hlen]; rfl)
    simp [u.barred_of_secure hm, ha, hpage, hcmd, hlen, hn, hread]
  case snapshot =>
    exact completes_of_served (fun _ _ => rfl) (fun u ⟨hreq, hvalid, hopen⟩ => ⟨hreq, by simp [hm, hvalid, hopen], rfl⟩)
  case freeze =>
    exact completes_of_served (fun _ _ => rfl) (fun u ⟨hreq, hflag⟩ =>
      ⟨hreq, by simp [u.barred_of_secure hm, hflag], rfl⟩)
  case window =>
    exact completes_of_served (fun _ _ => rfl) (fun u ⟨hreq, hgroups⟩ => ⟨hreq, by simp [hm, hgroups], rfl⟩)

end Sys2Proof.Machine
end

section
/-!
Proofs of the family of the synthesis and the clock outputs: the analogue PLLs, and the outputs with their alignment and
dividers.
-/
namespace Sys2Proof.Machine

/-! ## Analogue PLLs (R271 to R273, R275, R276, R286) -/

section
variable {s : State} {a : Nat} {w : Word}

/-- A write of CTRL that leaves SRC, or that finds the APLL disabled, is stored and followed (R271, R272). -/
theorem apllCtrlWrite_keepsSrc
    (h : s.on (Fld.APLL_CTRL_EN a) = false ∨ bitsOf w 1 1 = s.fld (Fld.APLL_CTRL_SRC a)) :
    apllCtrlWrite a w s =
      (let t := (s.storeRw (Reg.APLL_CTRL a) w).apllFollow a
       if t.apllState a = 1 then t.apllAcquire a else t) := by
  have hkept : (s.on (Fld.APLL_CTRL_EN a) && bitsOf w 1 1 != s.fld (Fld.APLL_CTRL_SRC a)) = false := by
    rcases h with hoff | hsrc
    · rw [hoff, Bool.false_and]
    · rw [hsrc, bne_self_eq_false, Bool.and_false]
  simp only [apllCtrlWrite, hkept, Bool.false_eq_true, if_false]

/-- A band entry that is not VALID, or whose limits rise, is stored in OFF and NO_BAND (R273). -/
theorem bandWrite_legal {b : Nat} (hlimits : bitsOf w 31 1 = 1 → bitsOf w 0 14 < bitsOf w 14 14) (hst : s.apllState a < 2) :
    bandWrite a b w s =
      (let t := s.storeRw (Reg.SYN_BAND a b) w
       if t.apllState a = 1 then t.apllAcquire a else t) := by
  have hlegal : ¬(2 ≤ s.apllState a ∨ (bitsOf w 31 1 = 1 ∧ bitsOf w 14 14 ≤ bitsOf w 0 14)) := by
    rintro (hruns | ⟨hvalid, hfall⟩)
    · exact Nat.not_le.2 hst hruns
    · exact Nat.not_le.2 (hlimits hvalid) hfall
  simp only [bandWrite, if_neg hlegal]

end

/-- A command of an APLL that waits for a condition completes where the APLL exists and the condition holds. -/
theorem completes_of_apll {c : Nat → Instr} {a : Nat} {b : State → Bool} {f : State → State} (ha : a < 3)
    (harm : ∀ dt s, exec (c dt) s = effect dt (fun u => onlyIf (decide (a < 3) && b u) f u) s) :
    Completes c (fun u => b u = true) f :=
  completes_of_onlyIf harm (fun u hb => by rw [decide_eq_true ha, hb, Bool.and_true])

/-- Settles O23: the writes through what the register takes, the others through the state or the timer each waits for. -/
theorem apllComplete : Obligations.ApllComplete := by
  refine ⟨fun src a w ha => ?ctrl, fun src a b w ha hb hlimits => ?band, fun a ha => ?lock, fun a ha => ?fail,
    fun a ha => ?retry, fun a ha => ?loss, fun a ha => ?moved⟩
  case ctrl => exact completes_of_indexed ha (fun _ _ => rfl) (fun u ⟨hok, hsrc⟩ => ⟨hok, apllCtrlWrite_keepsSrc hsrc⟩)
  case band =>
    refine completes_of_effect (fun _ _ => rfl) (fun u ⟨hok, hst⟩ => ?_)
    exact (onlyIf_true _ u (by simp [ha, hb])).trans ((State.guarded_ok _ hok).trans (bandWrite_legal hlimits hst))
  case lock => exact completes_of_onlyIf (fun _ _ => rfl) (fun u ⟨hst, htry⟩ => by simp [ha, hst, htry])
  case fail => exact completes_of_apll ha (fun _ _ => rfl)
  case retry => exact completes_of_apll ha (fun _ _ => rfl)
  case loss => exact completes_of_onlyIf (fun _ _ => rfl) (fun u hst => by simp [ha, hst])
  case moved => exact completes_of_apll ha (fun _ _ => rfl)

/-! ## Clock outputs and their dividers (R277, R281, R283 to R285) -/

section
variable {s : State} {j : Nat} {w : Word}

/-- A write of CFG without a reserved encoding, and with SRC and FORMAT kept while the output is enabled, is stored; a change of
EN is a cause (R277, R281). -/
theorem outCfgWrite_legal (hfmt : bitsOf w 8 3 < 6) (hsrc : bitsOf w 4 2 ≠ 3) (halign : bitsOf w 12 2 ≠ 3)
    (hkept : s.on (Fld.OUT_CFG_EN j) = true →
      bitsOf w 4 2 = s.outSrc j ∧ bitsOf w 8 3 = s.fld (Fld.OUT_CFG_FORMAT j)) :
    outCfgWrite j w s =
      (let t := s.storeRw (Reg.OUT_CFG j) w
       if (bitsOf w 0 1 == 1) = s.on (Fld.OUT_CFG_EN j) then t.outShow j else t.outFollow j) := by
  have hgood : (decide (6 ≤ bitsOf w 8 3) || bitsOf w 4 2 == 3 || bitsOf w 12 2 == 3 ||
      (s.on (Fld.OUT_CFG_EN j) && (bitsOf w 4 2 != s.outSrc j || bitsOf w 8 3 != s.fld (Fld.OUT_CFG_FORMAT j)))) = false := by
    cases hen : s.on (Fld.OUT_CFG_EN j) with
    | false => simp [hfmt, hsrc, halign]
    | true =>
      obtain ⟨hs, hf⟩ := hkept hen
      simp [hfmt, hsrc, halign, ← hs, ← hf]
  simp only [outCfgWrite, hgood, Bool.false_eq_true, if_false, bne_iff_ne, ne_eq, ite_not]

/-- A write of UPDATE with GO stages a load of its mask 1 µs later (R284). -/
theorem divUpdate_go (hgo : bitsOf w 31 1 = 1) :
    divUpdate w s =
      (let t := s.setFld Fld.SYN_UPDATE_MASK (bitsOf w 0 12)
       { t with divLoads := t.divLoads ++ [(t.ticks + usT, bitsOf w 0 12)] }) := if_pos hgo

/-- The first load, once its instant has come, loads the masks of every load of that instant together (R284). -/
theorem dividerLoad_due {l mask : Nat} {rest : List (Nat × Nat)} (hfirst : s.divLoads = (l, mask) :: rest) (hdue : l ≤ s.ticks) :
    dividerLoad s =
      { s with divLoads := s.divLoads.filter (fun (x : Nat × Nat) => x.1 != l) }.loadOuts
        ((s.divLoads.filter (fun (x : Nat × Nat) => x.1 == l)).foldl (fun m (x : Nat × Nat) => m ||| x.2) 0) l := by
  simp only [dividerLoad, hfirst, if_neg (Nat.not_lt.2 hdue)]

end

/-- Settles O24: the writes through what the register takes, an edge and a load through the instant each waits for. -/
theorem clockOutputsComplete : Obligations.ClockOutputsComplete := by
  refine ⟨fun src j w hj hfmt hsrc halign => ?cfg, fun j hj => ?align, fun falling sub settled hsub => ?edge,
    fun src w => ?arm, fun src j w hj => ?stage, fun src w hgo => ?update, fun l mask rest => ?load⟩
  case cfg =>
    exact completes_of_indexed hj (fun _ _ => rfl) (fun u ⟨hok, hkept⟩ => ⟨hok, outCfgWrite_legal hfmt hsrc halign hkept⟩)
  case align =>
    refine completes_of_effect (fun _ _ => rfl) (fun u hruns => ?_)
    exact (onlyIf_true _ u (decide_eq_true hj)).trans (if_pos hruns)
  case edge =>
    exact completes_of_onlyIf (fun _ _ => rfl) (fun u ⟨hpow, haccept⟩ => by simp [hpow, hsub, haccept])
  case arm => exact completes_of_guarded (fun _ _ => rfl) (fun u hok => ⟨hok, rfl⟩)
  case stage => exact completes_of_indexed hj (fun _ _ => rfl) (fun u ⟨hok, _⟩ => ⟨hok, rfl⟩)
  case update => exact completes_of_guarded (fun _ _ => rfl) (fun u hok => ⟨hok, divUpdate_go hgo⟩)
  case load => exact completes_of_effect (fun _ _ => rfl) (fun u ⟨hfirst, hdue⟩ => dividerLoad_due hfirst hdue)

end Sys2Proof.Machine
end

section
/-!
Proofs of the event controller and of the queue: what a step leaves of both, what the event controller leaves alone, and when a
write of an event route is accepted.
-/
namespace Sys2Proof.Machine

/-! ## What the event controller leaves of the register file (R459, R464) -/

/-- The registers the event controller writes: RAW, PEND and the two PBAs. -/
def IsEventWord (a : Nat) : Prop :=
  (∃ k, k < 3 ∧ (a = Reg.EVT_RAW k ∨ a = Reg.EVT_PEND k)) ∨ a = Reg.MSIX_PBA0 ∨ a = Reg.MSIX_PBA1

/-- The pending sources, as settling finds them. -/
def State.pendNow (s : State) : Nat := s.rawNow &&& s.enables

/-- The state whose vectors have followed the pending sources. -/
def State.vectorsFollowed (s : State) : State :=
  (s.vecsToFollow s.pendNow).foldl (fun t v => t.followVector s.pendNow v) s

theorem settle_eq (s : State) :
    settle s = (({ s.vectorsFollowed with irqLow := s.irqWanted s.pendNow }.setWide (Reg.EVT_RAW 0) 3 s.rawNow).setWide
      (Reg.EVT_PEND 0) 3 s.pendNow) := rfl

theorem EVT_RAW_word (k : Nat) : Reg.EVT_RAW k = Reg.EVT_RAW 0 + 4 * k := by unfold Reg.EVT_RAW; omega

theorem EVT_PEND_word (k : Nat) : Reg.EVT_PEND k = Reg.EVT_PEND 0 + 4 * k := by unfold Reg.EVT_PEND; omega

theorem EVT_ENABLE_word (k : Nat) : Reg.EVT_ENABLE k = Reg.EVT_ENABLE 0 + 4 * k := by unfold Reg.EVT_ENABLE; omega

/-- Settling changes no other register. -/
theorem settle_get (s : State) {a : Nat} (h : ¬IsEventWord a) : (settle s).get a = s.get a := by
  simp only [IsEventWord, not_or, not_exists, not_and] at h
  obtain ⟨hevt, hpba0, hpba1⟩ := h
  have hraw (i : Nat) (hi : i < 3) : a ≠ Reg.EVT_RAW 0 + 4 * i := EVT_RAW_word i ▸ (hevt i hi).1
  have hpend (i : Nat) (hi : i < 3) : a ≠ Reg.EVT_PEND 0 + 4 * i := EVT_PEND_word i ▸ (hevt i hi).2
  rw [settle_eq, State.get_setWide_ne _ _ _ hpend, State.get_setWide_ne _ _ _ hraw]
  exact foldl_followVector_get _ _ _ hpba0 hpba1

theorem not_isEventWord_route {i : Nat} (hi : i < 96) : ¬IsEventWord (Reg.EVT_ROUTE i) := by
  unfold IsEventWord Reg.EVT_ROUTE Reg.EVT_RAW Reg.EVT_PEND Reg.MSIX_PBA0 Reg.MSIX_PBA1 pf1
  rintro (⟨k, hk, h | h⟩ | h | h) <;> omega

theorem not_isEventWord_enable {k : Nat} (hk : k < 3) : ¬IsEventWord (Reg.EVT_ENABLE k) := by
  unfold IsEventWord Reg.EVT_ENABLE Reg.EVT_RAW Reg.EVT_PEND Reg.MSIX_PBA0 Reg.MSIX_PBA1 pf1
  rintro (⟨j, hj, h | h⟩ | h | h) <;> omega

/-- The two registers that IRQn depends on beside the routes (R393). -/
theorem not_isEventWord_world : ¬IsEventWord Reg.SEC_WORLD := by
  unfold IsEventWord Reg.SEC_WORLD Reg.EVT_RAW Reg.EVT_PEND Reg.MSIX_PBA0 Reg.MSIX_PBA1 pf1
  rintro (⟨j, hj, h | h⟩ | h | h) <;> omega

theorem not_isEventWord_bootStatus : ¬IsEventWord Reg.SYS_BOOT_STATUS := by
  unfold IsEventWord Reg.SYS_BOOT_STATUS Reg.EVT_RAW Reg.EVT_PEND Reg.MSIX_PBA0 Reg.MSIX_PBA1 pf1
  rintro (⟨j, hj, h | h⟩ | h | h) <;> omega

theorem settle_route (s : State) {i : Nat} (hi : i < 96) : (settle s).get (Reg.EVT_ROUTE i) = s.get (Reg.EVT_ROUTE i) :=
  settle_get s (not_isEventWord_route hi)

theorem settle_enables (s : State) : (settle s).enables = s.enables :=
  State.getWide_congr 3 (fun i hi => EVT_ENABLE_word i ▸ settle_get s (not_isEventWord_enable hi))

/-! ## What the event controller leaves in RAW, PEND, IRQn and the vectors (R392, R393, R459, R464) -/

theorem State.getWide_lt (s : State) (a n : Nat) : s.getWide a n < 2 ^ (32 * n) := by
  induction n generalizing a with
  | zero => exact Nat.one_pos
  | succ n ih =>
    have hword : (s.get a).toNat < 2 ^ 32 := (s.get a).isLt
    have hrest := ih (a + 4)
    rw [State.getWide, Nat.mul_succ, pow_add]
    omega

theorem settle_pend (s : State) : (settle s).pend = s.pendNow := by
  have hlt : s.pendNow < 2 ^ (32 * 3) := Nat.and_le_right.trans_lt (s.getWide_lt _ 3)
  rw [State.pend, settle_eq, State.getWide_setWide, Nat.mod_eq_of_lt hlt]

theorem settle_raw (s : State) : (settle s).getWide (Reg.EVT_RAW 0) 3 = s.rawNow % 2 ^ (32 * 3) := by
  have hapart (i : Nat) (hi : i < 3) (j : Nat) (hj : j < 3) : Reg.EVT_RAW 0 + 4 * i ≠ Reg.EVT_PEND 0 + 4 * j := by
    unfold Reg.EVT_RAW Reg.EVT_PEND
    omega
  rw [settle_eq, State.getWide_congr 3 (fun i hi => State.get_setWide_ne _ _ _ (hapart i hi)), State.getWide_setWide]

/-- IRQn depends on the world map's lock, the boot's state and the routes alone. -/
theorem State.irqWanted_congr {s t : State} (p : Nat) (hworld : t.get Reg.SEC_WORLD = s.get Reg.SEC_WORLD)
    (hboot : t.get Reg.SYS_BOOT_STATUS = s.get Reg.SYS_BOOT_STATUS)
    (hroute : ∀ i, i < 96 → t.get (Reg.EVT_ROUTE i) = s.get (Reg.EVT_ROUTE i)) : t.irqWanted p = s.irqWanted p := by
  have hlocked : t.on Fld.SEC_WORLD_LOCKED = s.on Fld.SEC_WORLD_LOCKED := by
    simp only [State.on, State.fld, Fld.SEC_WORLD_LOCKED, hworld]
  have hstate : t.fld Fld.SYS_BOOT_STATUS_STATE = s.fld Fld.SYS_BOOT_STATUS_STATE := by
    simp only [State.fld, Fld.SYS_BOOT_STATUS_STATE, hboot]
  have hirq (i : Nat) (hi : i < 96) : t.on (Fld.EVT_ROUTE_IRQ i) = s.on (Fld.EVT_ROUTE_IRQ i) := by
    simp only [State.on, State.fld, Fld.EVT_ROUTE_IRQ, hroute i hi]
  have hany : (List.range 96).any (fun i => p / 2 ^ i % 2 == 1 && t.on (Fld.EVT_ROUTE_IRQ i)) =
      (List.range 96).any (fun i => p / 2 ^ i % 2 == 1 && s.on (Fld.EVT_ROUTE_IRQ i)) := by
    rw [Bool.eq_iff_iff, List.any_eq_true, List.any_eq_true]
    exact exists_congr fun i => and_congr_right fun hi => by rw [hirq i (List.mem_range.1 hi)]
  rw [State.irqWanted, State.irqWanted, hlocked, hstate, hany]

theorem settle_irqLow (s : State) : (settle s).irqLow = s.irqWanted s.pendNow := by
  simp only [settle_eq, State.setWide_irqLow]

/-- Sources that are not pending do not stand in a vector. -/
theorem State.vecSources_zero (s : State) (v : Nat) : s.vecSources 0 v = 0 := by
  refine List.foldlRecOn (motive := fun acc => acc = 0) _ _ rfl (fun acc h i _ => ?_)
  rw [h, Nat.zero_div, if_neg (by simp)]

theorem State.vecsToFollow_subset (s : State) (p : Nat) : s.vecsToFollow p ⊆ List.range 32 := by
  unfold State.vecsToFollow
  split
  · exact List.nil_subset _
  · exact List.Subset.refl _

theorem settle_vecMem (s : State) {v : Nat} (hv : v < 32) : kget (settle s).vecMem v 0 = s.vecSources s.pendNow v := by
  have hnodup : (s.vecsToFollow s.pendNow).Nodup := by
    unfold State.vecsToFollow
    split
    · exact List.nodup_nil
    · exact List.nodup_range
  simp only [settle_eq, State.setWide_vecMem, State.vectorsFollowed]
  rw [foldl_followVector_mem _ _ hnodup]
  by_cases hrest : s.pendNow = 0 ∧ s.vecMem = []
  · rw [State.vecsToFollow, if_pos hrest, if_neg List.not_mem_nil, hrest.1, hrest.2, State.vecSources_zero]
    rfl
  · rw [State.vecsToFollow, if_neg hrest, if_pos (List.mem_range.2 hv)]

/-- Settling brings the event controller to rest. -/
theorem settle_eventsFollow (s : State) : EventsFollow (settle s) where
  pend := by
    have hlt : s.enables < 2 ^ (32 * 3) := s.getWide_lt _ 3
    have hpend : s.pendNow < 2 ^ (32 * 3) := Nat.and_le_right.trans_lt hlt
    rw [settle_pend, settle_raw, settle_enables, ← Nat.mod_eq_of_lt hpend, State.pendNow, Nat.and_mod_two_pow,
      Nat.mod_eq_of_lt hlt]
  irq := by
    rw [settle_irqLow, settle_pend]
    exact (State.irqWanted_congr _ (settle_get s not_isEventWord_world) (settle_get s not_isEventWord_bootStatus)
      (fun _ => settle_route s)).symm
  vectors v hv := by
    rw [settle_vecMem s hv, settle_pend]
    exact (State.vecSources_congr _ _ (fun _ => settle_route s)).symm

/-- The event controller's rest does not depend on the queue. -/
theorem State.after_eventsFollow (s : State) (dt : Nat) (f : State → State) : EventsFollow (s.after dt f) :=
  let ⟨hpend, hirq, hvectors⟩ := settle_eventsFollow (f (s.later dt))
  ⟨hpend, hirq, hvectors⟩

/-! ## One step, and a run of steps (R393, R459, R464) -/

/-- Settles O46: both cases of the queue, as `step` distinguishes them. -/
theorem stepTakesFrontCommand : Obligations.StepTakesFrontCommand :=
  ⟨fun c rest s h => by rw [step, h], fun s h => by rw [step, h, effect]⟩

/-- Every step has the shape of a command: time passes, an effect, the event controller follows, and the queue has lost its front. -/
theorem step_shape (s : State) :
    ∃ dt f, step s = .next ({ s with pending := s.pending.drop 1 }.after dt f) := by
  cases h : s.pending with
  | nil => exact ⟨1, id, by rw [List.drop_nil, ← h]; exact stepTakesFrontCommand.2 s h⟩
  | cons c rest =>
    obtain ⟨dt, f, hexec⟩ := exec_shape c { s with pending := rest }
    exact ⟨dt, f, (stepTakesFrontCommand.1 c rest s h).trans hexec⟩

/-- Settles O50: a step ends by settling, and settling brings the event controller to rest. -/
theorem everyStepSettlesEvents : Obligations.EveryStepSettlesEvents := by
  intro s t hstep
  obtain ⟨dt, f, hshape⟩ := step_shape s
  obtain rfl : _ = t := Host.Outcome.next.inj (hshape.symm.trans hstep)
  exact State.after_eventsFollow _ dt f

/-- Settles O47: one step answers a next state whose queue has lost its front; then by induction on the number of steps. -/
theorem stepsNeverStop : Obligations.StepsNeverStop := by
  intro k
  induction k with
  | zero => exact fun s => ⟨s, rfl, rfl⟩
  | succ k ih =>
    intro s
    obtain ⟨dt, f, hstep⟩ := step_shape s
    obtain ⟨t, hrun, hqueue⟩ := ih ({ s with pending := s.pending.drop 1 }.after dt f)
    refine ⟨t, ?_, ?_⟩
    · rw [Host.Core.run, show core.step s = _ from hstep]
      exact hrun
    · rw [hqueue, State.after_pending, List.drop_drop, Nat.add_comm]

/-! ## The reset state -/

/-- Settles O49: at reset nothing is pending and no word, byte or vector is listed. -/
theorem resetIsSettled : Obligations.ResetIsSettled := by
  refine ⟨⟨?_, ?_, fun v _ => ?_⟩, ⟨rfl, fun e he => absurd he List.not_mem_nil⟩, rfl, fun e he => absurd he List.not_mem_nil⟩
  · decide
  · decide
  · have hpend : State.reset.pend = 0 := by decide
    rw [hpend, State.vecSources_zero]
    rfl

/-! ## What the event controller leaves alone (R392, R393) -/

/-- Messages of the vectors. -/
def AreMessages (l : List Out) : Prop := ∀ o ∈ l, ∃ v a d, v < 32 ∧ o = .msix v a d

/-- Following vectors changes the register file, the memory of the vectors and the outputs, and nothing else. -/
theorem foldl_followVector_frame (p : Nat) (l : List Nat) (s : State) :
    l.foldl (fun t v => t.followVector p v) s = { s with
      regs := (l.foldl (fun t v => t.followVector p v) s).regs, out := (l.foldl (fun t v => t.followVector p v) s).out,
      vecMem := (l.foldl (fun t v => t.followVector p v) s).vecMem } := by
  induction l generalizing s with
  | nil => rfl
  | cons v l ih => rw [List.foldl_cons, ih, State.followVector_frame]

/-- What following vectors sends is messages. -/
theorem foldl_followVector_out (p : Nat) (l : List Nat) (hl : ∀ v ∈ l, v < 32) (s : State) :
    ∃ m, (l.foldl (fun t v => t.followVector p v) s).out = s.out ++ m ∧ AreMessages m := by
  induction l generalizing s with
  | nil => exact ⟨[], (List.append_nil _).symm, fun o ho => absurd ho List.not_mem_nil⟩
  | cons v l ih =>
    obtain ⟨m, hout, hmsg⟩ := ih (fun u hu => hl u (List.mem_cons_of_mem v hu)) (s.followVector p v)
    rcases State.followVector_out s p v with hquiet | ⟨a, d, hsent⟩
    · exact ⟨m, by rw [List.foldl_cons, hout, hquiet], hmsg⟩
    · refine ⟨.msix v a d :: m, by rw [List.foldl_cons, hout, hsent, List.append_assoc]; rfl, fun o ho => ?_⟩
      rcases List.mem_cons.1 ho with rfl | ho
      · exact ⟨v, a, d, hl v List.mem_cons_self, rfl⟩
      · exact hmsg o ho

/-- Settles O51: the vectors through what following one changes, RAW and PEND through the words they are. -/
theorem eventControllerFrame : Obligations.EventControllerFrame := by
  refine fun s => ⟨?_, ?_, fun a hevt hpba0 hpba1 => settle_get s ?_⟩
  · rw [settle_eq, State.setWide_frame, State.setWide_frame, State.vectorsFollowed, foldl_followVector_frame]
  · obtain ⟨m, hout, hmsg⟩ := foldl_followVector_out s.pendNow (s.vecsToFollow s.pendNow)
      (fun v hv => List.mem_range.1 (s.vecsToFollow_subset _ hv)) s
    exact ⟨m, by rw [settle_eq, State.setWide_out, State.setWide_out]; exact hout, hmsg⟩
  · rintro (⟨k, hk, h | h⟩ | h | h)
    · exact (hevt k hk).1 h
    · exact (hevt k hk).2 h
    · exact hpba0 h
    · exact hpba1 h

/-! ## Writes of an event route (R465) -/

theorem evtSecureMsix_iff (i : Nat) :
    evtSecureMsix i = true ↔ i = 1 ∨ i = 2 ∨ (68 ≤ i ∧ i ≤ 71) ∨ (76 ≤ i ∧ i ≤ 79) := by
  simp [evtSecureMsix, or_assoc]

/-- When a write of a route is accepted, in R465's words. -/
theorem State.routeOk_iff (s : State) (src : Src) (i : Nat) (w : Word) :
    s.routeOk src i w = true ↔
      (bitsOf w 31 1 = s.fld (Fld.EVT_ROUTE_WORLD i) ∨ (src = .core ∧ evtFixed i = false)) ∧
      (bitsOf w 16 1 = 1 → (bitsOf w 31 1 = 0 → bitsOf w 0 5 ≤ 23) ∧ (bitsOf w 31 1 = 1 → 24 ≤ bitsOf w 0 5 ∧
        (i = 1 ∨ i = 2 ∨ (68 ≤ i ∧ i ≤ 71) ∨ (76 ≤ i ∧ i ≤ 79)))) ∧
      (bitsOf w 31 1 = 1 → bitsOf w 17 1 = 0) := by
  have hworld := bitsOf_lt w 31 1
  have hmsix := bitsOf_lt w 16 1
  rw [← evtSecureMsix_iff]
  simp only [State.routeOk, Bool.and_eq_true, Bool.or_eq_true, beq_iff_eq, Bool.not_eq_true', and_assoc]
  refine and_congr_right fun _ => and_congr ?_ ?_
  · split
    · next h => simp only [h, Bool.and_eq_true, decide_eq_true_eq]; grind
    · next h => simp only [decide_eq_true_eq]; grind
  · grind

/-- Settles O59: a route that the requester sees, by whether the write is accepted. -/
theorem routeWriteRule : Obligations.RouteWriteRule := by
  intro dt src i w s hi u haccess hseen world msix vec reached accepted
  have hvisible : u.evtVisible src i = true := by
    rcases hseen with h | h
    · simp [State.evtVisible, h]
    · simp [State.evtVisible, h]
  have hexec : exec (.evtRouteWrite dt src i w) s = .next (s.after dt (routeWrite src i w)) :=
    effect_eq ((onlyIf_true _ _ (decide_eq_true hi)).trans (State.guarded_ok _ haccess))
  rw [hexec]
  refine ⟨fun h => effect_eq ?_, fun h => effect_eq ?_⟩
  · change routeWrite src i w u = u.set _ _
    simp only [routeWrite, hvisible, (State.routeOk_iff u src i w).2 h, Bool.not_true, Bool.false_eq_true, if_false, if_true]
  · change routeWrite src i w u = u.raise _
    have hrefused : u.routeOk src i w = false := Bool.eq_false_iff.2 (fun hok => h ((State.routeOk_iff u src i w).1 hok))
    simp only [routeWrite, hvisible, hrefused, Bool.not_true, Bool.false_eq_true, if_false]

end Sys2Proof.Machine
end

section
/-!
Proofs of the family of the GNSS baseband: the sample ports, the channels, acquisition, the Kettle, the measurement epochs, the
navigation queue and the time service.
-/
namespace Sys2Proof.Machine

/-! ## Writes of the baseband's registers (R297, R299) -/

/-- A bit that a word has is not changed by setting it. -/
theorem or_bit_of_set {w m : Word} (i : Nat) (hm : m = BitVec.ofNat 32 (2 ^ i)) (h : bitsOf w i 1 = 1) : w ||| m = w := by
  have hbit : w.getLsbD i = true := by
    have hread := bitsOf_testBit w i 1 0
    rw [h, Nat.zero_add] at hread
    simpa [← BitVec.testBit_toNat] using hread.symm
  apply BitVec.eq_of_getLsbD_eq
  intro j hj
  rw [hm, BitVec.getLsbD_or, BitVec.getLsbD_ofNat, Nat.testBit_two_pow]
  by_cases hij : i = j
  · rw [← hij, hbit, Bool.true_or]
  · rw [decide_eq_false hij, Bool.and_false, Bool.or_false]

section
variable {s : State} {src : Src} {f : State → State}

/-- A write of a register that software may own acts for the cores, and for software while SW_OWN is 1. -/
theorem State.owned_acts (h : isSoftware src = true → s.on Fld.GNSS_CTRL_SW_OWN = true) : s.owned src f = f s := by
  have hmay : (isSoftware src && !s.on Fld.GNSS_CTRL_SW_OWN) = false := by
    cases hsoft : isSoftware src with
    | false => rfl
    | true => rw [h hsoft]; rfl
  simp only [State.owned, hmay, Bool.false_eq_true, if_false]

end

section
variable {s : State} {c : Nat} {w : Word}

/-- START of an IDLE channel, with a PRN of its signal and the band within its port's, begins PULL_IN (R299). -/
theorem chanCtrlWrite_start (hstart : bitsOf w 31 1 = 1) (hstop : bitsOf w 30 1 = 0)
    (hprn : prnOk (bitsOf w 16 3) (bitsOf w 0 8) = true) (hidle : s.chanState c = 0) (hband : s.bandWithin (bitsOf w 16 3) = true) :
    chanCtrlWrite c w s =
      (let t := s.storeRw (Reg.GNSS_CH_CTRL c) w
       (t.chanStart c (t.fld (Fld.GNSS_CH_INIT_CODE_CODE c)) (t.fld (Fld.GNSS_CH_INIT_DOPPLER_DOPPLER c))).gnssFollow) := by
  simp [chanCtrlWrite, hstart, hstop, hprn, hidle, hband]

/-- STOP that names the channel's own SIGNAL and PRN sends it to IDLE (R299). -/
theorem chanCtrlWrite_stop (hstop : bitsOf w 30 1 = 1) (hsignal : bitsOf w 16 3 = s.chanSignal c)
    (hprn : bitsOf w 0 8 = s.fld (Fld.GNSS_CH_CTRL_PRN c)) :
    chanCtrlWrite c w s = ((s.storeRw (Reg.GNSS_CH_CTRL c) w).chanIdle c).gnssFollow := by
  simp [chanCtrlWrite, hstop, hsignal, hprn]

/-- A request with GO joins a queue that has room (R297). -/
theorem acqRequest_queued (hgo : bitsOf w 31 1 = 1) (hroom : (s.storeRw Reg.GNSS_ACQ_REQ0 w).gnss.reqs.length < 16) :
    acqRequest w s =
      (let t := s.storeRw Reg.GNSS_ACQ_REQ0 w
       (t.modGnss (fun g => { g with
         reqs := g.reqs ++ [[t.get Reg.GNSS_ACQ_REQ0, t.get Reg.GNSS_ACQ_REQ1, t.get Reg.GNSS_ACQ_REQ2]] })).acqShow) := by
  simp only [acqRequest, hgo, Nat.one_ne_zero, if_false, if_neg (Nat.not_le.2 hroom)]

/-- A change of SW_OWN sends every channel to IDLE and empties the acquisition queues (R299). -/
theorem ownerChange_changes (h : (bitsOf w 0 1 == 1) ≠ s.on Fld.GNSS_CTRL_SW_OWN) :
    ownerChange w s =
      (let t := (s.setFld Fld.GNSS_CTRL_SW_OWN (bitsOf w 0 1)).forAll allChans (fun c s => s.chanIdle c)
       ((t.modGnss (fun g => { g with reqs := [], res := [], capAt := none })).set Reg.GNSS_ACQ_STAT 0#32).gnssFollow) :=
  if_neg h

end

/-! ## Channels and acquisition (R293, R298 to R302) -/

section
variable {s : State}

theorem State.pulledIn_of {c t : Nat} (hst : s.chanState c = 1) (hsince : (s.chan c).goodSince = some t)
    (hheld : t + 200 * msT ≤ s.ticks) : s.pulledIn c = true := by
  simp [State.pulledIn, hst, hsince, hheld]

/-- A channel in PULL_IN or TRACKING that is lost shows no lock, and its NCOs stop where they are (R302). -/
theorem State.chanLost_tracking {c : Nat} (hst : s.chanState c = 1 ∨ s.chanState c = 2) :
    s.chanLost c = (((s.setFld (Fld.GNSS_CH_STAT_STATE c) 5).raise Fld.GNSS_EVT_CHAN_LOST).chanUnlock c).modChan c
      (fun x => { x with meas := s.predicted c }) := by
  have hne : ¬(s.chanState c = 0 ∨ s.chanState c = 5) := by omega
  simp only [State.chanLost, if_neg hne]

/-- A reading beyond 200 ppm of a port whose frequency was good loses its channels (R293). -/
theorem gnssFmeas_eq (x : Nat) (ppb : Int) :
    gnssFmeas x ppb s =
      (let t := s.modGnss (fun g => { g with fmeasSec := kput g.fmeasSec x (s.now / secU) })
       let t := (t.setFld (Fld.GNSS_PORT_FMEAS_PPB x) (unsigned 32 ppb)).setBit (Fld.GNSS_PORT_STAT_FREQ_BAD x)
         (decide (200000 < ppb.natAbs))
       if 200000 < ppb.natAbs ∧ s.on (Fld.GNSS_PORT_STAT_FREQ_BAD x) = false then (t.raise (portEvt x)).portLost x else t) := by
  simp only [gnssFmeas, Bool.and_eq_true, decide_eq_true_eq, Bool.not_eq_true']

/-- An acquisition whose capture has taken its time ends by its C/N0 and by HANDOVER (R298). -/
theorem acqComplete_captured {code cn0 t : Nat} {doppler : Int} {r : List Word} {rest : List (List Word)}
    (hhead : s.gnss.reqs = r :: rest) (hroom : s.gnss.res.length < 16) (hvalid : s.acqValid = true) (hup : s.acqPortUp = true)
    (hat : s.gnss.capAt = some t) (hdone : t + s.acqCapture ≤ s.ticks) (hgrid : s.acqOnGrid code doppler = true) :
    acqComplete code doppler cn0 s =
      (if cn0 < 10 * bitsOf (s.acqHead 2) 0 10 then s.acqResult 1 code (unsigned 32 doppler) cn0
       else if bitsOf (s.acqHead 0) 30 1 = 1 then s.acqHandover code (unsigned 32 doppler) cn0
       else s.acqResult 0 code (unsigned 32 doppler) cn0) := by
  have hmay : ¬(s.gnss.reqs.isEmpty ∨ 16 ≤ s.gnss.res.length) := by simp [hhead, hroom]
  have hcaptured : ¬(s.ticks < t + s.acqCapture ∨ !s.acqOnGrid code doppler) := by simp [hdone, hgrid]
  simp only [acqComplete, if_neg hmay, hvalid, hup, hat, if_neg hcaptured, Bool.not_true, Bool.false_eq_true, if_false]

theorem acqRead_oldest {src : Src} {r : List Word} {rest : List (List Word)} (h : s.gnss.res = r :: rest) :
    acqRead src s =
      (let t := (s.modGnss (fun g => { g with res := g.res.drop 1 })).acqShow
       (t.setWide Reg.GNSS_ACQ_RES0 4 (r.foldr (fun w a => w.toNat + 2 ^ 32 * a) 0)).emit (.readData src [r.headD 0#32])) := by
  simp only [acqRead, h, List.headD_cons]

end

/-- Settles O26: the writes through what the register takes, the others through the condition each waits for. -/
theorem gnssChannelsComplete : Obligations.GnssChannelsComplete := by
  refine ⟨fun x hx => ?clockLost, fun x hx => ?clockBack, fun x ppb hx => ?reading, fun src c w hc hstart hstop hprn => ?start,
    fun src c w hc hstop => ?stop, fun c t hc => ?pulledIn, fun c i q sync half slip hc => ?dump, fun c hc => ?lost,
    fun src w => ?owner, fun src w hgo => ?request, fun r rest => ?capture, fun code doppler cn0 r rest t => ?peak,
    fun src r rest => ?result⟩
  case clockLost =>
    exact completes_of_onlyIf (fun _ _ => rfl) (fun u ⟨hruns, hon, hclock⟩ => by simp [hx, hruns, hon, hclock])
  case clockBack =>
    exact completes_of_onlyIf (fun _ _ => rfl) (fun u ⟨hruns, hedges⟩ => by simp [hx, hruns, hedges])
  case reading =>
    exact completes_of_onlyIf_eq (fun _ _ => rfl) (fun u ⟨hruns, hclock, hsec⟩ =>
      ⟨by simp [hx, hruns, hclock, hsec], gnssFmeas_eq x ppb⟩)
  case start =>
    refine completes_of_indexed hc (fun _ _ => rfl) (fun u ⟨hok, hown, hidle, hband⟩ => ⟨hok, ?_⟩)
    rw [State.owned_acts hown, or_bit_of_set (m := 0x80000000#32) 31 rfl hstart]
    exact chanCtrlWrite_start hstart hstop hprn hidle hband
  case stop =>
    refine completes_of_indexed hc (fun _ _ => rfl) (fun u ⟨hok, hown, hsignal, hprn⟩ => ⟨hok, ?_⟩)
    rw [State.owned_acts hown, or_bit_of_set (m := 0x40000000#32) 30 rfl hstop]
    exact chanCtrlWrite_stop hstop hsignal hprn
  case pulledIn =>
    exact completes_of_onlyIf (fun _ _ => rfl) (fun u ⟨hst, hsince, hheld⟩ => by
      simp [hc, State.pulledIn_of hst hsince hheld])
  case dump =>
    exact completes_of_onlyIf (fun _ _ => rfl) (fun u ⟨hdom, hst, hdue⟩ => by simp [hc, hdom, hst, hdue])
  case lost =>
    exact completes_of_onlyIf_eq (fun _ _ => rfl) (fun u ⟨hst, hgone⟩ =>
      ⟨by simp [hc, hst, hgone], State.chanLost_tracking hst⟩)
  case owner => exact completes_of_guarded (fun _ _ => rfl) (fun u ⟨hok, hother⟩ => ⟨hok, ownerChange_changes hother⟩)
  case request =>
    refine completes_of_guarded (fun _ _ => rfl) (fun u ⟨hok, hown, hroom⟩ => ⟨hok, ?_⟩)
    rw [State.owned_acts hown, or_bit_of_set (m := 0x80000000#32) 31 rfl hgo]
    exact acqRequest_queued hgo hroom
  case capture =>
    exact completes_of_onlyIf (fun _ _ => rfl) (fun u ⟨hhead, hfree, hroom, hvalid, hup⟩ => by
      simp [hhead, hfree, hroom, hvalid, hup])
  case peak =>
    exact completes_of_effect (fun _ _ => rfl) (fun u ⟨hhead, hroom, hvalid, hup, hat, hdone, hgrid⟩ =>
      acqComplete_captured hhead hroom hvalid hup hat hdone hgrid)
  case result => exact completes_of_guarded (fun _ _ => rfl) (fun u ⟨hok, hres⟩ => ⟨hok, acqRead_oldest hres⟩)

/-! ## The Kettle (R303 to R305) -/

section
variable {s : State} {n miss fin : Nat}

/-- A waking channel has its signal by S - 1 ms, after the check by its C/N0 or after the search (R304). -/
theorem State.reacquired_of {cn0 : Nat} {found : Bool} (hawake : s.gnss.awake = some (n, miss, fin)) (hmiss : s.ticks ≤ miss)
    (h : s.burstBegan + 4 * msT ≤ s.ticks ∧ 50 * s.fld Fld.KETTLE_CTRL_REACQ_CN0 ≤ cn0 ∨
      s.burstBegan + 8 * msT ≤ s.ticks ∧ found = true) : s.reacquired cn0 found = true := by
  simp [State.reacquired, hawake, hmiss, h]

end

/-- Settles O27: each command through the condition it waits for. -/
theorem kettleComplete : Obligations.KettleComplete := by
  refine ⟨?power, ?lead, ?begins, ?skips, fun c cn0 found n miss fin hc => ?reacquired, fun c n miss fin hc => ?missed,
    fun n miss fin => ?ends, ?endsFirst⟩
  case power => exact completes_of_onlyIf (fun _ _ => rfl) (fun u ⟨hburst, hnear⟩ => by simp [hburst, hnear])
  case lead =>
    exact completes_of_onlyIf (fun _ _ => rfl) (fun u ⟨hburst, hgate, hdom, hnear⟩ => by simp [hburst, hgate, hdom, hnear])
  case begins =>
    exact completes_of_onlyIf (fun _ _ => rfl) (fun u ⟨hdue, hgrant, hdom⟩ => by simp [hdue, hgrant, hdom])
  case skips => exact completes_of_onlyIf (fun _ _ => rfl) (fun u ⟨hdue, hgrant⟩ => by simp [hdue, hgrant])
  case reacquired =>
    exact completes_of_onlyIf (fun _ _ => rfl) (fun u ⟨hst, hawake, hmiss, hsignal⟩ => by
      simp [hc, hst, State.reacquired_of hawake hmiss hsignal])
  case missed =>
    exact completes_of_onlyIf (fun _ _ => rfl) (fun u ⟨hst, hawake, hmiss⟩ => by simp [hc, hst, hawake, hmiss])
  case ends => exact completes_of_onlyIf (fun _ _ => rfl) (fun u ⟨hawake, hfin⟩ => by simp [hawake, hfin])
  case endsFirst =>
    exact completes_of_onlyIf (fun _ _ => rfl) (fun u ⟨hawake, hon, hnew, hpast⟩ => by simp [hawake, hon, hnew, hpast])

end Sys2Proof.Machine
end

section
/-!
Proofs of the family of the GNSS time service: the measurement epochs, the navigation queue, and solutions with their jumps,
survey and renewals.
-/
namespace Sys2Proof.Machine

/-! ## Epochs and navigation records (R307, R309) -/

/-- A queue none of whose entries must stand after a new one takes it at its end. -/
theorem putBefore_last {α : Type} {after : α → Bool} (x : α) {l : List α} (h : ∀ y ∈ l, after y = false) :
    putBefore after x l = l ++ [x] := by
  induction l with
  | nil => rfl
  | cons y l ih =>
    obtain ⟨hy, hl⟩ := List.forall_mem_cons.1 h
    rw [putBefore, hy, ih hl, List.cons_append]
    rfl

/-- Such a queue with room loses no entry. -/
theorem pushOrdered_last {α : Type} {cap : Nat} {after : α → Bool} (x : α) {l : List α} (hroom : l.length < cap)
    (h : ∀ y ∈ l, after y = false) : pushOrdered cap after x l = (l ++ [x], none) := by
  have hlen : (l ++ [x]).length ≤ cap := by rw [List.length_append]; exact hroom
  rw [pushOrdered, putBefore_last x h, List.take_of_length_le hlen, List.getElem?_eq_none hlen]

section
variable {s : State}

theorem epochComplete_latched {t : Nat} {recs : List (Nat × List Word)} (h : s.gnss.recs = some (t, recs)) :
    epochComplete s =
      (let b := 1 - s.fld Fld.GNSS_EPOCH_STAT_BANK
       let u := s.forAll allChans (fun c s => s.forAll (List.range 8) (fun e s =>
         s.set (Reg.GNSS_MEAS b c e) ((((kfind recs c).getD [])[e]?).getD 0#32)))
       let u := (u.setFld Fld.GNSS_EPOCH_STAT_BANK b).wrapAdd Fld.GNSS_EPOCH_STAT_SEQ 1
       ((u.setWide Reg.GNSS_EPOCH_TIME0 3 (rawOfTime t)).raise Fld.GNSS_EVT_EPOCH).modGnss (fun g => { g with recs := none })) := by
  simp only [epochComplete, h]

/-- A record joins the end of a queue that has room, when none of this tick stands there (R309). -/
theorem navRecord_queued {c t prev : Nat} {inverted : Bool} {raw : List Nat} (hroom : s.gnss.nav.length < 512)
    (hpast : ∀ e ∈ s.gnss.nav, e.1 < s.ticks) :
    navRecord c t inverted ⟨prev, raw⟩ s =
      (let w0 := s.fld (Fld.GNSS_CH_CTRL_PRN c) + 2 ^ 8 * c + 2 ^ 16 * (s.chanSignal c + 1) + (if inverted then 2 ^ 20 else 0)
       let r := [BitVec.ofNat 32 w0] ++ timeWords t ++
         (navData (s.chanSignal c) inverted prev raw).map (fun (v : Nat) => BitVec.ofNat 32 v)
       let n := s.gnss.nav.length
       let u := (s.modGnss (fun g => { g with nav := g.nav ++ [(s.ticks, r)] })).setFld Fld.GNSS_NAV_STAT_LEVEL (n + 1)
       if n = 0 then u.raise Fld.GNSS_EVT_NAV else u) := by
  have hbefore : ∀ e ∈ s.gnss.nav, (e.1 == s.ticks && decide (c < bitsOf (e.2.headD 0#32) 8 6)) = false := by
    intro e he
    rw [beq_false_of_ne (Nat.ne_of_lt (hpast e he)), Bool.false_and]
  simp only [navRecord, pushOrdered_last _ hroom hbefore, Option.isSome_none, Bool.false_eq_true, if_false, List.length_append,
    List.length_singleton]
  rfl

theorem navRead_oldest {src : Src} {r : Nat × List Word} {rest : List (Nat × List Word)} (h : s.gnss.nav = r :: rest) :
    navRead src s =
      (let t := s.modGnss (fun g => { g with nav := g.nav.drop 1 })
       let t := t.setFld Fld.GNSS_NAV_STAT_LEVEL t.gnss.nav.length
       (t.forAll (List.range 16) (fun e s => s.set (Reg.GNSS_NAV_REC e) ((r.2[e]?).getD 0#32))).emit
         (.readData src [r.2.headD 0#32])) := by
  simp only [navRead, h, List.headD_cons]

end

/-! ## Solutions (R311, R312) -/

/-- The state that an epoch's solution has been made from. -/
abbrev State.solvedNow (s : State) : State :=
  s.modGnss (fun g => { g with solved := some (s.fld Fld.GNSS_EPOCH_STAT_SEQ) })

/-- The offsets a solution is made from: those the satellites give, less the ones excluded (R311). -/
def State.solutionOffsets (s : State) (sats : List SatObs) : List Int :=
  excludeFar (s.gnssParam 5 * 65536) (sats.filterMap (fun o => s.satOffset o)).length (sats.filterMap (fun o => s.satOffset o))

/-- The state that shows a solution's satellites and offset. -/
def State.solutionShown (s : State) (n : Nat) (x : Int) : State :=
  (s.setFld Fld.GNSS_SOL_STAT_NSATS (sat 8 n)).setWide Reg.GNSS_SOL_OFFSET0 2 (unsigned 64 x)

section
variable (s : State) (n : Nat) (x : Int)

theorem State.solutionShown_frame : s.solutionShown n x = { s with regs := (s.solutionShown n x).regs } := by
  rw [State.solutionShown, State.setWide_frame]
  rfl

/-- Showing a solution leaves the registers outside SOL. -/
theorem State.solutionShown_fld {f : FRef} (h : f.addr < Reg.GNSS_SOL_STAT) : (s.solutionShown n x).fld f = s.fld f := by
  have hoffset : ∀ i, i < 2 → f.addr ≠ Reg.GNSS_SOL_OFFSET0 + 4 * i := by
    unfold Reg.GNSS_SOL_STAT at h
    unfold Reg.GNSS_SOL_OFFSET0
    omega
  rw [State.fld, State.solutionShown, State.get_setWide_ne _ _ _ hoffset, State.get_setFld_ne _ _ _ (Nat.ne_of_lt h), State.fld]

theorem State.solutionShown_gnssParam (i : Nat) : (s.solutionShown n x).gnssParam i = s.gnssParam i := by
  rw [State.solutionShown_frame]
  rfl

theorem State.solutionShown_jumpLimit : (s.solutionShown n x).jumpLimit = s.jumpLimit := by
  have hstate : (s.solutionShown n x).dstate 0 = s.dstate 0 := s.solutionShown_fld n x (by decide)
  have hbound : (s.solutionShown n x).fld (Fld.DPLL_HO_BOUND_NS 0) = s.fld (Fld.DPLL_HO_BOUND_NS 0) :=
    s.solutionShown_fld n x (by decide)
  simp only [State.jumpLimit, hstate, hbound, State.solutionShown_gnssParam]

theorem State.solutionShown_valid : (s.solutionShown n x).on Fld.TIME_STATUS_VALID = s.on Fld.TIME_STATUS_VALID := by
  rw [State.on, s.solutionShown_fld n x (by decide), State.on]

end

section
variable {s : State} {sats : List SatObs} {up : Bool} (hheld : s.positionHeld = true)
include hheld

/-- A solution of enough satellites, before network time is valid or near enough to it, is handed on (R312). -/
theorem timeSolution_near {x : Int} (hsats : s.gnssParam 4 ≤ ((s.solutionOffsets sats).length : Int))
    (hx : meanOf up (s.solutionOffsets sats) = x) (hnear : s.on Fld.TIME_STATUS_VALID = false ∨ (x.natAbs : Int) ≤ s.jumpLimit) :
    timeSolution sats up s =
      ((s.solvedNow.solutionShown (s.solutionOffsets sats).length x).modGnss (fun g => { g with
        withheld := [], accepted := none })).handOn := by
  have hheld' : s.solvedNow.positionHeld = true := hheld
  have hoffsets : s.solvedNow.solutionOffsets sats = s.solutionOffsets sats := rfl
  have henough : ¬((s.solvedNow.solutionOffsets sats).length : Int) < s.solvedNow.gnssParam 4 := Int.not_lt.2 hsats
  have hhand : ((!(s.solvedNow.solutionShown (s.solutionOffsets sats).length x).on Fld.TIME_STATUS_VALID) ||
      decide ((x.natAbs : Int) ≤ (s.solvedNow.solutionShown (s.solutionOffsets sats).length x).jumpLimit)) = true := by
    rw [State.solutionShown_valid, State.solutionShown_jumpLimit, Bool.or_eq_true, Bool.not_eq_true', decide_eq_true_eq]
    exact hnear
  subst hx
  unfold timeSolution
  dsimp only
  rw [hheld', Bool.not_true, if_neg Bool.false_ne_true]
  exact (if_neg henough).trans (if_pos hhand)

/-- A solution of too few satellites shows FEW_SATS (R311). -/
theorem timeSolution_few (hsats : ((s.solutionOffsets sats).length : Int) < s.gnssParam 4) :
    timeSolution sats up s = s.solvedNow.raise Fld.GNSS_FW_EVT_FEW_SATS := by
  have hheld' : s.solvedNow.positionHeld = true := hheld
  have hfew : ((s.solvedNow.solutionOffsets sats).length : Int) < s.solvedNow.gnssParam 4 := hsats
  unfold timeSolution
  dsimp only
  rw [hheld', Bool.not_true, if_neg Bool.false_ne_true]
  exact if_pos hfew

end

/-! ## Renewals of an ephemeris (R306) -/

section
variable {s : State} {c life : Nat} (hc : c < 64) (hkeep : s.fld Fld.PWR_STATE_STATE ≠ 1)
include hc hkeep

/-- Outside KEEP a renewal acts on a channel, and shows EPH_LOW by what it leaves. -/
theorem ephemerisRenewal_acts {done : Bool} {t : State} (h : s.renew c done life = t) :
    ephemerisRenewal c done life s =
      (if (t.ephsPast (t.ticks + 1800 * secT) : Int) < t.gnssParam 4 then t.raise Fld.GNSS_FW_EVT_EPH_LOW else t) := by
  have hacts : ¬(s.fld Fld.PWR_STATE_STATE = 1 ∨ 64 ≤ c) := by omega
  simp only [ephemerisRenewal, if_neg hacts, h]

end

section
variable {s : State} {c life : Nat}

theorem State.renew_begins (hburst : s.burstCh c = true) (hend : kget s.gnss.ephs (s.satKey c) 0 ≤ s.ticks + 1800 * secT) :
    s.renew c false life =
      ((s.setFld (Fld.GNSS_CH_CTRL_BURST c) 0).modGnss (fun g => { g with
        renewing := kput g.renewing c s.ticks })).gnssFollow := by
  simp only [State.renew, hburst, hend, decide_true, Bool.and_self, if_true]

/-- An ephemeris collected for 36 s since its renewal began sends its channel back to bursts where it may. -/
theorem State.renew_ends {t0 : Nat} (hst : s.chanState c = 2) (hburst : s.burstCh c = false)
    (hsince : kfind s.gnss.renewing c = some t0) (hlong : t0 + 36 * secT ≤ s.ticks) :
    s.renew c true life =
      (let t := s.modGnss (fun g => { g with
         ephs := kput g.ephs (s.satKey c) (s.ticks + life * secT), renewing := kdel g.renewing c })
       if t.mayBurst c then (t.setFld (Fld.GNSS_CH_CTRL_BURST c) 1).gnssFollow else t) := by
  have hready : ¬(s.chanState c ≠ 2 ∨ s.burstCh c ∨ s.ticks < t0 + 36 * secT) := by simp [hst, hburst, hlong]
  simp only [State.renew, hsince, Option.getD_some, if_neg hready, Option.isSome_some, Bool.true_and]

end

/-- Settles O28: an epoch and a record through their queues, a solution through its satellites and its jump, a renewal through
its channel. -/
theorem gnssServiceComplete : Obligations.GnssServiceComplete := by
  refine ⟨fun ms => ?epoch, fun t recs => ?shown, fun c t inverted prev raw hc => ?record, fun src r rest => ?read,
    fun src w => ?flush, fun sats up x => ?near, fun sats up => ?few, ?jump, fun x y z => ?survey, fun c n hc => ?renewal,
    fun c n t0 hc => ?renewed⟩
  case epoch =>
    exact completes_of_onlyIf (fun _ _ => rfl) (fun u ⟨hpow, hcounts, hnone, hsec, hactive⟩ => by
      simp [hpow, hcounts, hnone, hsec, List.any_eq_true, hactive])
  case shown => exact completes_of_effect (fun _ _ => rfl) (fun u hrecs => epochComplete_latched hrecs)
  case record =>
    exact completes_of_onlyIf_eq (fun _ _ => rfl) (fun u ⟨hdom, hst, hsync, hsignal, hkeep, hroom, hpast⟩ =>
      ⟨by simp [hc, hdom, hst, hsync, hsignal, hkeep], navRecord_queued hroom hpast⟩)
  case read => exact completes_of_guarded (fun _ _ => rfl) (fun u ⟨hok, hnav⟩ => ⟨hok, navRead_oldest hnav⟩)
  case flush => exact completes_of_guarded (fun _ _ => rfl) (fun u hok => ⟨hok, rfl⟩)
  case near =>
    exact completes_of_onlyIf_eq (fun _ _ => rfl) (fun u ⟨hruns, hnew, hheld, hsats, hx, hnear⟩ =>
      ⟨by simp [hruns, hnew], timeSolution_near hheld hsats hx hnear⟩)
  case few =>
    exact completes_of_onlyIf_eq (fun _ _ => rfl) (fun u ⟨hruns, hnew, hheld, hsats⟩ =>
      ⟨by simp [hruns, hnew], timeSolution_few hheld hsats⟩)
  case jump => exact completes_of_onlyIf (fun _ _ => rfl) (fun u ⟨hruns, hsure⟩ => by simp [hruns, hsure])
  case survey =>
    exact completes_of_onlyIf (fun _ _ => rfl) (fun u ⟨hruns, hheld, hdue⟩ => by simp [hruns, hheld, hdue])
  case renewal =>
    exact completes_of_onlyIf_eq (fun _ _ => rfl) (fun u ⟨hruns, hkeep, hburst, hend⟩ =>
      ⟨hruns, ephemerisRenewal_acts hc hkeep (State.renew_begins hburst hend)⟩)
  case renewed =>
    exact completes_of_onlyIf_eq (fun _ _ => rfl) (fun u ⟨hruns, hkeep, hst, hburst, hsince, hlong⟩ =>
      ⟨hruns, ephemerisRenewal_acts hc hkeep (State.renew_ends hst hburst hsince hlong)⟩)

end Sys2Proof.Machine
end

section
/-!
Proofs of the family of claims and failover: heartbeats, accepted claims, witnesses and drills.
-/
namespace Sys2Proof.Machine

/-! ## Heartbeats (R318, R319) -/

section
variable {s : State} {p pos : Nat}

/-- A heartbeat leaves where no fragment is in progress, the medium is free and no hold would be late (R203, R318). -/
theorem hbSend_transmits (hidle : (s.creditTo p).inFragment p = none) (hfree : (s.creditTo p).mediumFree p pos = true)
    (hfits : (s.creditTo p).messageFits p pos 133 = true) : hbSend p pos s = (s.creditTo p).hbTransmit p pos := by
  simp only [hbSend, hfits, hidle, hfree, Bool.not_true, Bool.false_eq_true, if_false, if_true]

end

section
variable {s : State} {p : Nat} {full : List Byte} {i : RxInfo}

/-- A heartbeat under the tests of R229, with TYPE 2 and LENGTH at least 110, is accepted (R319). -/
theorem State.hbReceive_accepted {b : List Byte} (hb : full.take (full.length - 4) = b) (hon : s.clmOn = true)
    (hactive : s.portActive p = true) (hcrc : crc32 b = leAt full (full.length - 4) 4) (hda : daOf b = tcxDa)
    (hversion : byteAt b 19 = 1) (htype : byteAt b 20 = 2) (hlen : 110 ≤ beAt b 21 2) (hwhole : 129 ≤ b.length) :
    s.hbReceive p full false = s.hbTake p
      { at_ := s.ticks, serial := beAt b 25 2 % 2 ^ 12, sa := saOf b, member := beAt b 27 2, seen := beAt b 29 2
        drill := beAt b 127 2, claims := allDoms.map (fun d => beAt b (31 + 2 * d) 2) }
      (allDoms.map (fun d => beAt b (63 + 4 * d) 4)) := by
  simp only [State.hbReceive, hb, hon, hactive, hcrc, hda, hversion, htype, Nat.not_lt.2 hlen, Nat.not_lt.2 hwhole,
    bne_self_eq_false, decide_false, Bool.not_true, Bool.or_false, Bool.false_eq_true, if_false]

/-- A heartbeat that no drain and no disabled port keeps out is taken, then received by the MAC (R319). -/
theorem State.receive_heartbeat (hup : s.linkUp p = true) (htcx : isTcx full = false) (hhb : isHb full = true)
    (hdrain : s.drainedAt p (s.rxPhys p i) = false)
    (hopen : s.stampedDown p (s.rxStamp p i) (s.stampFlags p (s.rxPhys p i) false) = false) :
    s.receive p full i =
      (s.hbReceive p full (i.codeErr || (i.uncorrectable != 0 && s.fld (Fld.PORT_MODE_FEC p) != 0))).macReceive p full i
        (s.rxStamp p i) (s.stampFlags p (s.rxPhys p i) false) (s.rxPhys p i) := by
  simp only [State.linkUp, Bool.and_eq_true, decide_eq_true_eq] at hup
  simp only [State.receive, htcx, hhb, hdrain, hopen, if_neg (Nat.not_lt.2 hup.2), Bool.not_false, Bool.and_self, Bool.false_and,
    Bool.false_eq_true, if_true, if_false]

end

/-! ## Gated candidates (R323) -/

/-- With GATE_SLOTS set in some domain the firmware writes CAND of every DPLL. -/
theorem candGating_gates {s : State} (h : ∃ d ∈ allDoms, s.on (Fld.CLM_DOM_CFG_GATE_SLOTS d) = true) :
    candGating s = { s with gateDue := false }.forAll [0, 1, 2] (fun d s =>
      s.setFld (Fld.DPLL_CAND_MASK d) (s.gatedMask (s.paramNat (pkey 7 d 0x30)))) := by
  have hany : allDoms.any (fun d => { s with gateDue := false }.on (Fld.CLM_DOM_CFG_GATE_SLOTS d)) = true :=
    List.any_eq_true.2 h
  simp only [candGating, hany, if_true]

/-! ## Notices by software (R325) -/

section
variable {op d m : Nat} (hop : op < 4) (hd : d < 16) (hm : m < 2 ^ 12)
include hop hd hm

theorem clmCmdWord_toNat : (clmCmdWord op d m).toNat = 2 ^ 31 + op * 2 ^ 24 + d * 2 ^ 16 + m := by
  rw [clmCmdWord, BitVec.toNat_ofNat, Nat.mod_eq_of_lt hd, Nat.mod_eq_of_lt hm]
  omega

/-- The fields of a write of CMD. -/
theorem clmCmdWord_fields :
    bitsOf (clmCmdWord op d m) 31 1 = 1 ∧ bitsOf (clmCmdWord op d m) 24 2 = op ∧ bitsOf (clmCmdWord op d m) 16 4 = d ∧
      bitsOf (clmCmdWord op d m) 0 12 = m := by
  simp only [bitsOf, clmCmdWord_toNat hop hd hm]
  omega

/-- DEPOSE or ADMIT of a peer by a witness issues a notice. -/
theorem clmCmd_issues {s t : State} (hstore : s.storeRw Reg.CLM_CMD (clmCmdWord op d m) = t) (hlisted : op = 1 ∨ op = 2)
    (hrole : 2 ≤ t.role d) (hpeer : m = t.peer d 0 ∨ m = t.peer d 1) :
    clmCmd (clmCmdWord op d m) s = (t.setFld Fld.CLM_CMD_STAT_RESULT 0).issue d op m := by
  obtain ⟨hgo, hcode, hdom, hserial⟩ := clmCmdWord_fields hop hd hm
  have hacts : ¬((1 : Nat) = 0 ∨ (op ≠ 1 ∧ op ≠ 2)) := by omega
  have hknown : ¬(m ≠ t.peer d 0 ∧ m ≠ t.peer d 1) := by tauto
  simp only [clmCmd, hstore, hgo, hcode, hdom, hserial, if_neg hacts, if_neg (Nat.not_lt.2 hrole), if_neg hknown]

end

/-- Settles O29: a heartbeat through the medium and through what makes it good, a notice through its word, the others through
the condition each waits for. -/
theorem claimsComplete : Obligations.ClaimsComplete := by
  refine ⟨fun p pos => ?sent, fun p full i => ?heard, fun p h => ?lapsed, fun d hd => ?accepted, ?gated, fun d i hd hi => ?admits,
    fun d hd => ?alone, fun src d m hd hm => ?depose, fun src d m hd hm => ?admission, fun d t hd => ?drill⟩
  case sent =>
    refine completes_of_onlyIf_eq (fun _ _ => rfl) (fun u ⟨hport, htick, hruns, hdue, hidle, hfree, hfits⟩ =>
      ⟨?_, hbSend_transmits hidle hfree (State.messageFits_of hfits)⟩)
    cases hbefore : kfind u.hbSent p with
    | none => simp [hport, htick, hruns]
    | some x => simp [hport, htick, hruns, hdue x hbefore]
  case heard =>
    refine completes_of_onlyIf_eq (fun _ _ => rfl) (fun u ⟨hup, htcx, hhb, hdrain, hopen, hon, hactive, hcode, hfec, hcrc, hda,
      hversion, htype, hlen, hwhole⟩ => ⟨by rw [hup, hhb, Bool.and_true], ?_⟩)
    rw [State.receive_heartbeat hup htcx hhb hdrain hopen, State.noError_of_fec hcode hfec,
      State.hbReceive_accepted rfl hon hactive hcrc hda hversion htype hlen hwhole]
  case lapsed => exact completes_of_onlyIf (fun _ _ => rfl) (fun u ⟨hheard, hlapsed⟩ => by simp [hheard, hlapsed])
  case accepted => exact completes_of_onlyIf (fun _ _ => rfl) (fun u hpow => by simp [hpow, hd])
  case gated =>
    exact completes_of_onlyIf_eq (fun _ _ => rfl) (fun u ⟨hruns, hdue, hgates⟩ =>
      ⟨by rw [hruns, hdue, Bool.and_true], candGating_gates hgates⟩)
  case admits => exact completes_of_onlyIf (fun _ _ => rfl) (fun u hmay => by simp [hd, hi, hmay])
  case alone => exact completes_of_onlyIf (fun _ _ => rfl) (fun u halone => by simp [hd, halone])
  case depose =>
    exact completes_of_guarded (fun _ _ => rfl) (fun u ⟨hok, hrole, hpeer⟩ =>
      ⟨hok, clmCmd_issues (by decide) hd hm rfl (.inl rfl) hrole hpeer⟩)
  case admission =>
    exact completes_of_guarded (fun _ _ => rfl) (fun u ⟨hok, hrole, hpeer⟩ =>
      ⟨hok, clmCmd_issues (by decide) hd hm rfl (.inr rfl) hrole hpeer⟩)
  case drill => exact completes_of_onlyIf (fun _ _ => rfl) (fun u ⟨hend, hdue⟩ => by simp [hd, hend, hdue])

end Sys2Proof.Machine
end

section
/-!
Proofs of the family of power and sleep: the arbiter, the regulators and the throttle.
-/
namespace Sys2Proof.Machine

/-! ## Regulators, the arbiter and the throttle (R337, R338, R343, R348) -/

section
variable {s : State}

/-- A round hands the waiting requesters what it can, in their order (R337). -/
theorem arbiterRound_eq :
    arbiterRound s =
      (let t := s.modPower (fun x => { x with roundAt := s.ticks })
       let t := (t.waitOrder.foldl roundStep (t, false)).1.regsFollow.showGrant
       t.setBit Fld.PWR_GRANT_OVER (decide (t.budgetRoom < t.grantedTokens))) := rfl

/-- A ceiling within the member's, above the guard, is stored (R335, R338). -/
theorem budgetWrite_legal {w : Word} (hguard : bitsOf w 16 16 < bitsOf w 0 16) (hceil : bitsOf w 0 16 ≤ s.member.budget.1) :
    budgetWrite w s = s.storeRw Reg.PWR_BUDGET w := by
  have hlegal : ¬(s.member.budget.1 < bitsOf w 0 16 ∨ bitsOf w 0 16 ≤ bitsOf w 16 16) := by omega
  simp only [budgetWrite, if_neg hlegal]

end

/-- A regulator of a requester that is granted and not yet powered fails by its time or its transaction (R348). -/
theorem completes_regulatorFail {i r : Nat} {tx : Bool} (hi : i < 16) :
    Completes (fun dt => .regulatorFail dt i tx)
      (fun s => s.regOf i = some r ∧ i ∈ s.regsOf r ∧ s.rq r = 2 ∧ s.domOn r = false ∧
        (tx = true ∨ kget s.power.grantAt r 0 + s.delayOf (s.regsUpTo r i) + s.fld (Fld.PWR_REG_TIME_PG_TMO i) * msT ≤ s.ticks))
      (regulatorFail i r) := by
  refine completes_of_effect (fun _ _ => rfl) (fun u ⟨hreg, hmem, hgrant, hoff, hfail⟩ => ?_)
  simp only [hreg]
  exact onlyIf_true _ u (by simp [hi, hmem, hgrant, hoff, hfail])

/-- Settles O31: a regulator through its requester, BUDGET through its limits, the others through the condition each waits for. -/
theorem powerBudgetComplete : Obligations.PowerBudgetComplete := by
  refine ⟨fun r hr => ?powerUp, fun i tx r hi => ?fails, fun reads => ?poll, fun reads => ?alert, ?round, fun o ho => ?release,
    fun src w hguard => ?budget, fun n => ?rise, fun n => ?fall, fun n hn => ?leafHot, ?spineHot⟩
  case powerUp =>
    exact completes_of_onlyIf (fun _ _ => rfl) (fun u ⟨hgrant, hoff, hdue⟩ => by simp [hr, hgrant, hoff, hdue])
  case fails => exact completes_regulatorFail hi
  case poll => exact completes_of_onlyIf (fun _ _ => rfl) (fun u ⟨hpow, hen, hdue⟩ => by simp [hpow, hen, hdue])
  case alert => exact completes_of_onlyIf (fun _ _ => rfl) (fun _ => id)
  case round =>
    exact completes_of_onlyIf_eq (fun _ _ => rfl) (fun u ⟨hpow, hdue⟩ => ⟨by simp [hpow, hdue], arbiterRound_eq⟩)
  case release => exact completes_of_onlyIf (fun _ _ => rfl) (fun u hdue => by simp [ho, hdue])
  case budget => exact completes_of_guarded (fun _ _ => rfl) (fun u ⟨hok, hceil⟩ => ⟨hok, budgetWrite_legal hguard hceil⟩)
  case rise =>
    refine completes_of_onlyIf (fun _ _ => rfl) (fun u ⟨hon, hlevel, hhot, hlast⟩ => ?_)
    cases hrose : kfind u.power.roseAt n with
    | none => simp [hon, hlevel, hhot]
    | some t => simp [hon, hlevel, hhot, hlast t hrose]
  case fall =>
    exact completes_of_onlyIf (fun _ _ => rfl) (fun u ⟨hon, hlevel, hcold⟩ => by simp [hon, hlevel, hcold])
  case leafHot =>
    exact completes_of_onlyIf (fun _ _ => rfl) (fun u ⟨hlo, hhi, hcrit⟩ => by simp [hn, hlo, hhi, hcrit])
  case spineHot => exact completes_of_onlyIf (fun _ _ => rfl) (fun u ⟨hpow, hcrit⟩ => by simp [hpow, hcrit])

end Sys2Proof.Machine
end

section
/-!
Proofs of the family of boot images and worlds: the images that are judged and started, and the debug unlock.
-/
namespace Sys2Proof.Machine

/-! ## Images that are judged (R355 to R357) -/

section
variable {s : State} {slot : Nat}

/-- A flash slot that was read is judged: it fails by its reason, or passes; the other slot shows NO_COMMIT where it is no candidate
and was not judged (R355; SPEC.md, log entry 108). -/
theorem slotJudged_read (hslot : slot < 2) :
    slotJudged slot true s =
      (let r := s.validateSlot slot true
       let t := s.modBoot (fun b => { b with tried := slot :: b.tried })
       if r ≠ 0 then (t.setReason slot r).flashNext
       else if 1 - slot ∈ s.boot.tried ∨ s.candidate (1 - slot) = true then t.imagePassed slot
       else (t.setReason (1 - slot) 4).imagePassed slot) := by
  have hother : 1 - slot ≠ slot := by omega
  have hknown : ((slot :: s.boot.tried).contains (1 - slot) || s.candidate (1 - slot)) = true ↔
      1 - slot ∈ s.boot.tried ∨ s.candidate (1 - slot) = true := by
    rw [Bool.or_eq_true, List.contains_iff_mem, List.mem_cons, or_iff_right hother]
  have hjudged (t : State) : (if 1 - slot ∈ s.boot.tried ∨ s.candidate (1 - slot) = true then t
      else t.setReason (1 - slot) 4).imagePassed slot =
      if 1 - slot ∈ s.boot.tried ∨ s.candidate (1 - slot) = true then t.imagePassed slot
      else (t.setReason (1 - slot) 4).imagePassed slot := by
    split <;> rfl
  unfold slotJudged
  refine if_congr Iff.rfl rfl ?_
  rw [← hjudged]
  exact congrArg (State.imagePassed · slot) (if_congr hknown rfl rfl)

end

/-! ## GO of IMG (R357) -/

section
variable {s : State} {src : Src} {page : Nat}

theorem imgGo_bit (page : Nat) : bitsOf (BitVec.ofNat 32 (2 ^ 31 + page % 16)) 31 1 = 1 := by
  rw [bitsOf, BitVec.toNat_ofNat]
  omega

/-- GO while IMG accepts writes and validates nothing sets BUSY; in WAIT_HOST the boot shows VALIDATING (R357; SPEC.md, log entry
108). -/
theorem imgWrite_go (hpage : page < 16) (hidle : s.on Fld.IMG_STAT_BUSY = false) (hopen : s.imgOpen = true) :
    imgWrite src Reg.IMG_CTRL (BitVec.ofNat 32 (2 ^ 31 + page % 16)) s =
      (let t := ((s.storeRw Reg.IMG_CTRL (BitVec.ofNat 32 (2 ^ 31 + page))).raise Fld.IMG_STAT_BUSY).modBoot (fun b => { b with
         hostSrc := if src = .pf1 then 3 else 4 })
       if t.bootState = bootWaitHost then t.setBootState bootValidating else t) := by
  simp only [imgWrite, imgGo_bit, hidle, hopen, beq_self_eq_true, Bool.and_self, Bool.and_false, Bool.not_true, Bool.false_eq_true,
    if_false, if_true]
  rw [Nat.mod_eq_of_lt hpage]

end

/-! ## The firmware that starts (R361, R373) -/

/-- At boot the firmware that reports runs for the first time; the update's rules do not apply. -/
theorem firmwareRunning_boots {s : State} (h : s.bootState = bootStarting) :
    firmwareRunning s = bootRuns { s.stopTimer .fwStart 0 with gateDue := true } := by
  have hboot : ¬{ s.stopTimer .fwStart 0 with gateDue := true }.bootState = bootUpdating := by
    change ¬s.bootState = bootUpdating
    rw [h]
    decide
  exact if_neg hboot

/-- Settles O33: a slot and the staged image through their reason, GO through what IMG holds, the firmware through the boot's state. -/
theorem bootComplete : Obligations.BootComplete := by
  refine ⟨fun slot hslot => ?slot, ?staged, fun src page hpage => ?go, ?starts, ?reports, ?late, fun new prev hnew => ?update⟩
  case slot =>
    refine completes_of_effect (fun _ _ => rfl) (fun u ⟨hpow, hst, hnew, hnext⟩ => ?_)
    rw [if_neg (Nat.ne_of_lt hslot), onlyIf_true _ u (by simp [hpow, hslot, hst, hnew, hnext])]
    exact slotJudged_read hslot
  case staged =>
    refine completes_of_effect (fun _ _ => rfl) (fun u ⟨hpow, hbusy⟩ => ?_)
    rw [if_pos rfl, onlyIf_true _ u (by rw [hpow, hbusy, Bool.and_true])]
    rfl
  case go => exact completes_of_guarded (fun _ _ => rfl) (fun u ⟨hok, hidle, hopen⟩ => ⟨hok, imgWrite_go hpage hidle hopen⟩)
  case starts =>
    exact completes_of_onlyIf (fun _ _ => rfl) (fun u ⟨hpow, hst, hnew⟩ => by simp [hpow, hst, hnew])
  case reports =>
    exact completes_of_onlyIf_eq (fun _ _ => rfl) (fun u ⟨hpow, hst, hstarted⟩ =>
      ⟨by simp [hpow, hst, hstarted], firmwareRunning_boots hst⟩)
  case late => exact completes_of_onlyIf (fun _ _ => rfl) (fun u ⟨hpow, hst, hdue⟩ => by simp [hpow, hst, hdue])
  case update => exact completes_of_onlyIf (fun _ _ => rfl) (fun u ⟨hpow, hst, hdue, _⟩ => by simp [hpow, hst, hdue])

/-! ## The debug unlock (R369 to R371) -/

/-- The word of a GO of DBG_CTRL: by password or not, and the scope. -/
def dbgGoWord (password : Bool) (scope : Nat) : Word :=
  BitVec.ofNat 32 (2 ^ 31 + (if password then 2 ^ 8 else 0) + scope)

theorem dbgGoWord_fields {password : Bool} {scope : Nat} (h : scope < 4) :
    bitsOf (dbgGoWord password scope) 31 1 = 1 ∧ (bitsOf (dbgGoWord password scope) 8 1 == 1) = password ∧
      bitsOf (dbgGoWord password scope) 0 2 = scope := by
  simp only [bitsOf, dbgGoWord, BitVec.toNat_ofNat]
  cases password with
  | false => simp only [Bool.false_eq_true, if_false, beq_eq_false_iff_ne]; omega
  | true => simp only [if_true, beq_iff_eq]; omega

/-- GO of DBG_CTRL while the engine is not BUSY begins an attempt (R371). -/
theorem dbgCtrlWrite_go {s : State} {password : Bool} {scope : Nat} (took : Nat) (hscope : scope < 4)
    (hidle : s.waiting .dbgBusy 0 = false) :
    dbgCtrlWrite (dbgGoWord password scope) took s =
      (let t := s.storeRw Reg.SEC_DBG_CTRL (dbgGoWord password scope)
       debugAttempt password scope took t.respBytes t) := by
  obtain ⟨hgo, hpassword, hfield⟩ := dbgGoWord_fields (password := password) hscope
  simp only [dbgCtrlWrite, hgo, hpassword, hfield, hidle, Nat.one_ne_zero, Bool.false_eq_true, if_false]

/-- Settles O34: the attempts through the word that begins them, the read as the model takes it. -/
theorem debugUnlockComplete : Obligations.DebugUnlockComplete := by
  refine ⟨fun src scope took hscope => ?challenge, fun src scope took hscope => ?password, fun password scope resp took => ?jtag,
    fun src => ?read⟩
  case challenge =>
    refine completes_of_guarded (fun _ _ => rfl) (fun u ⟨hok, hidle⟩ => ⟨hok, ?_⟩)
    rw [Nat.mod_eq_of_lt hscope]
    exact dbgCtrlWrite_go (password := false) took hscope hidle
  case password =>
    refine completes_of_guarded (fun _ _ => rfl) (fun u ⟨hok, hidle⟩ => ⟨hok, ?_⟩)
    rw [Nat.mod_eq_of_lt hscope]
    exact dbgCtrlWrite_go (password := true) took hscope hidle
  case jtag => exact completes_of_onlyIf (fun _ _ => rfl) (fun u ⟨hpow, hidle⟩ => by rw [hpow, hidle]; rfl)
  case read => exact completes_of_guarded (fun _ _ => rfl) (fun u hok => ⟨hok, rfl⟩)

end Sys2Proof.Machine
end

section
/-!
Proofs of the requests of the IMAGE, SEC and CAL families.
-/
namespace Sys2Proof.Machine

/-! ## IMAGE and SEC -/

/-- A FLASH_WRITE of n bytes passes its checks where the slot, the range and the running slot allow it (R414). -/
theorem flashWrite_passes {m n : Nat} {u : State} (hreq : AtRequest m 0x0D02 (8 + n) u) (hslot : u.arg m 0 < 2)
    (hroom : u.arg m 1 + n ≤ slotBytes) (hrest : u.slotRuns (u.arg m 0) = false) :
    ∀ c ∈ [(decide (2 ≤ u.arg m 0) || decide (slotBytes < u.arg m 1 + (u.reqLength m - 8)), stInvalid),
      (u.slotRuns (u.arg m 0), stState), (!true, stHwError)], c.1 = false := by
  obtain ⟨-, -, -, hlen⟩ := hreq
  simp [hlen, hslot, hroom, hrest]

/-- What IMAGE_ACTIVATE does once its checks pass: the reason of a slot that fails, the activation of a slot of the locked map, or a
REASON the spec does not name (R372; SPEC.md, log entry 127). -/
theorem imageActivate_branches {r : Nat} {same : Bool} {bad good other : State} :
    (if r ≠ 0 then bad else if !same then other else good) =
      if r ≠ 0 then bad else if same = true then good else other := by
  cases same <;> rfl

/-- The answered form of WARM_RESET, whose timer does not run yet (R352). -/
theorem warmReset_answered {m : Nat} {u : State} (hreq : AtRequest m 0x0E02 0 u) (hidle : u.running .warmCmd 0 = false) :
    serve m 0x0E02 (fun n => n == 0) (fun _ => [])
      (fun s => (if s.running .warmCmd 0 then s else s.startTimer .warmCmd 0 (10 * msT)).answer m []) u =
      (u.startTimer .warmCmd 0 (10 * msT)).answer m [] := by
  rw [serve_passes hreq rfl (by simp), hidle]
  rfl

/-! ## The settlement -/

/-- Settles O42: each request through its checks. Flash bytes changing whole, the REASON of a map that differs, WARM_RESET's two forms,
the moment CAL_RUN is answered and SEC_STATUS clearing source 2 are the model's choices (SPEC.md, log entries 127 to 131). -/
theorem imageAndCalibrationRequestsComplete : Obligations.ImageAndCalibrationRequestsComplete := by
  refine ⟨fun m => ?erase, fun m n h4 hlo hhi => ?write, fun m => ?read, fun m => ?check, fun m => ?activate, fun m => ?status,
    fun m => ?warmAsked, fun m => ?warmDue, fun m hm => ?calRun, fun m hm => ?bandCal, fun m t0 hm => ?calStatus⟩
  case erase =>
    exact completes_of_served (fun _ _ => rfl) (fun u ⟨hreq, hslot, hoff, hlen, hroom, hrest⟩ =>
      ⟨hreq, by simp [hslot, hoff, hlen, hroom, hrest], rfl⟩)
  case write =>
    refine completes_of_effect (fun _ _ => rfl) (fun u ⟨hreq, hslot, hroom, hrest⟩ => ?_)
    refine (serve_passes hreq ?_ (flashWrite_passes hreq hslot hroom hrest)).trans ?_
    · simp only [Bool.and_eq_true, decide_eq_true_eq, beq_iff_eq]
      omega
    · obtain ⟨-, -, -, hlen⟩ := hreq
      simp only [hlen, Nat.add_sub_cancel_left]
  case read =>
    exact completes_of_served (fun _ _ => rfl) (fun u ⟨hreq, hslot, hlo, hhi, hroom⟩ =>
      ⟨hreq, by simp [hslot, hlo, hhi, hroom], rfl⟩)
  case check => exact completes_of_served (fun _ _ => rfl) (fun u ⟨hreq, hslot⟩ => ⟨hreq, by simp [hslot], rfl⟩)
  case activate =>
    exact completes_of_served (fun _ _ => rfl) (fun u ⟨hreq, hslot, hfree, hidle⟩ =>
      ⟨hreq, by simp [hslot, hfree, hidle], imageActivate_branches⟩)
  case status => exact completes_of_served (fun _ _ => rfl) (fun u hreq => ⟨hreq, by simp, rfl⟩)
  case warmAsked =>
    exact completes_of_effect (fun _ _ => rfl) (fun u ⟨hearly, hreq, hidle⟩ =>
      (if_neg (by simp [hearly])).trans (warmReset_answered hreq hidle))
  case warmDue => exact completes_of_effect (fun _ _ => rfl) (fun u hdue => if_pos hdue)
  case calRun =>
    exact completes_of_served (fun _ _ => rfl) (fun u ⟨hreq, hpresent, hpowered, hfree⟩ =>
      ⟨hreq, by simp [u.barred_of_secure hm, hpresent, hpowered], if_pos hfree⟩)
  case bandCal =>
    exact completes_of_served (fun _ _ => rfl) (fun u ⟨hreq, ha, hon, hstate, hfree⟩ =>
      ⟨hreq, by simp [u.barred_of_secure hm, ha, hon, hstate], if_pos hfree⟩)
  case calStatus =>
    refine completes_of_served (fun _ _ => rfl) (fun u ⟨hreq, hpresent, hknown, hran⟩ =>
      ⟨hreq, by simp [u.barred_of_secure hm, hpresent, hknown], ?_⟩)
    simp only [hran]

end Sys2Proof.Machine
end

section
/-!
Proofs of the family of the host interface: the mailboxes, messages to the host and the DMA rings.
-/
namespace Sys2Proof.Machine

/-! ## A write of DOORBELL and of STATUS (R387) -/

section
variable {s : State} {m : Nat}

/-- GO is 1 in the word MAILBOX_SUBMIT writes. -/
theorem mbxSubmit_go_bit : bitsOf 0x80000000#32 31 1 = 1 := by decide

/-- GO at a free mailbox: its request joins those that wait. -/
theorem mbxSubmit_free (hbusy : s.on (Fld.MBX_STATUS_BUSY m) = false) (hready : s.on (Fld.MBX_STATUS_RESP_READY m) = false) :
    mbxSubmit m 0x80000000#32 s =
      { s with mbxQueue := s.goOrder m, goAt := kput s.goAt m s.ticks }.raise (Fld.MBX_STATUS_BUSY m) := by
  simp [mbxSubmit, mbxSubmit_go_bit, hbusy, hready]

/-- GO at a mailbox that is busy, or whose response still stands. -/
theorem mbxSubmit_taken (h : s.on (Fld.MBX_STATUS_BUSY m) = true ∨ s.on (Fld.MBX_STATUS_RESP_READY m) = true) :
    mbxSubmit m 0x80000000#32 s = s.raise (Fld.MBX_STATUS_OVERRUN m) := by
  simp [mbxSubmit, mbxSubmit_go_bit, h]

/-- RESP_READY written 1 releases the mailbox and clears nothing else of STATUS. -/
theorem mbxStatusWrite_release :
    mbxStatusWrite m 2#32 s =
      (let t := s.set (Reg.MBX_STATUS m) (s.get (Reg.MBX_STATUS m) &&& ~~~(2#32))
       { t with quiet := t.quiet.filter (fun x => x != m) }) := rfl

end

/-- Settles O36. What MSIX_PENDING_SEND brings and what a function level reset clears are the model's reading (SPEC.md, log entries
22 and 23). -/
theorem mailboxAndMessagesComplete : Obligations.MailboxAndMessagesComplete := by
  refine ⟨fun src m hm => ?submit, fun src m hm => ?release, fun m => ?turnedAway, fun v en busMaster masked hv => ?message,
    fun f hf => ?reset⟩
  case submit =>
    exact completes_of_indexed hm (fun _ _ => rfl) (fun u ⟨hok, hbusy, hready⟩ => ⟨hok, mbxSubmit_free hbusy hready⟩)
  case release => exact completes_of_indexed hm (fun _ _ => rfl) (fun u hok => ⟨hok, mbxStatusWrite_release⟩)
  case turnedAway => exact completes_of_onlyIf (fun _ _ => rfl) (fun u ⟨htakes, herr⟩ => by simp [htakes, herr])
  case message => exact completes_of_onlyIf (fun _ _ => rfl) (fun u hon => by simp [hv, hon])
  case reset => exact completes_of_onlyIf (fun _ _ => rfl) (fun u hon => by simp [hf, hon])

/-! ## Requests that break the transport (R390) -/

section
variable {s : State} {m st : Nat}

/-- The code is one whose condition holds, and 0 where none holds. -/
theorem State.transportError_cases (s : State) (m : Nat) :
    let op := s.reqOpcode m
    let x := s.transportError m
    let badLength := 4080 < s.reqLength m
    let badHeader := s.reqWord m 2 ≠ 0 ∨ s.reqWord m 3 ≠ 0 ∨ 1 < s.reqFlags m
    let unknown := opcodeKnown op = false
    let wrongWorld := m < 4 ∧ (op / 256 = 0x0D ∨ op / 256 = 0x0E)
    (x = 0 ∧ ¬badLength ∧ ¬badHeader ∧ ¬unknown ∧ ¬wrongWorld) ∨ (x = 0xFF01 ∧ badLength) ∨ (x = 0xFF02 ∧ badHeader) ∨
      (x = 0xFF03 ∧ unknown) ∨ (x = 0xFF04 ∧ wrongWorld) := by
  intro op x badLength badHeader unknown wrongWorld
  have hx : x = if badLength then 0xFF01 else if badHeader then 0xFF02 else if !opcodeKnown op then 0xFF03
    else if wrongWorld then 0xFF04 else 0 := rfl
  by_cases h1 : badLength
  · exact .inr (.inl ⟨by rw [hx, if_pos h1], h1⟩)
  by_cases h2 : badHeader
  · exact .inr (.inr (.inl ⟨by rw [hx, if_neg h1, if_pos h2], h2⟩))
  cases h3 : opcodeKnown op
  · exact .inr (.inr (.inr (.inl ⟨by rw [hx, if_neg h1, if_neg h2, h3]; rfl, h3⟩)))
  have h3' : ¬(!opcodeKnown op) = true := by rw [h3]; decide
  by_cases h4 : wrongWorld
  · exact .inr (.inr (.inr (.inr ⟨by rw [hx, if_neg h1, if_neg h2, if_neg h3', if_pos h4], h4⟩)))
  · exact .inl ⟨by rw [hx, if_neg h1, if_neg h2, if_neg h3', if_neg h4], h1, h2, by simp [unknown, h3], h4⟩

/-- The registers of a response without payload: LAST_TAG, its header, then RESP_READY and BUSY. -/
def State.emptyResponse (s : State) (m st : Nat) : State :=
  let t := s.setFld (Fld.MBX_STATUS_LAST_TAG m) (s.reqTag m)
  let t := t.set (Reg.MBX_RESP m 0) (BitVec.ofNat 32 (s.reqOpcode m + 65536 * s.reqTag m))
  let t := ((t.set (Reg.MBX_RESP m 1) 0#32).set (Reg.MBX_RESP m 2) (BitVec.ofNat 32 st)).set (Reg.MBX_RESP m 3) 0#32
  (t.raise (Fld.MBX_STATUS_RESP_READY m)).setFld (Fld.MBX_STATUS_BUSY m) 0

/-- A state that differs from another in its registers only. -/
def State.RegsOnly (s t : State) : Prop := t = { s with regs := t.regs }

theorem State.RegsOnly.set {s t : State} (h : s.RegsOnly t) (a : Nat) (w : Word) : s.RegsOnly (t.set a w) := by
  rw [State.RegsOnly] at h
  rw [h]
  rfl

theorem State.RegsOnly.setFld {s t : State} (h : s.RegsOnly t) (f : FRef) (v : Nat) : s.RegsOnly (t.setFld f v) := h.set _ _

theorem State.RegsOnly.boot_eq {s t : State} (h : s.RegsOnly t) : t.boot = s.boot :=
  (congrArg State.boot (show t = _ from h)).trans rfl
theorem State.RegsOnly.mbxQueue_eq {s t : State} (h : s.RegsOnly t) : t.mbxQueue = s.mbxQueue :=
  (congrArg State.mbxQueue (show t = _ from h)).trans rfl
theorem State.RegsOnly.quiet_eq {s t : State} (h : s.RegsOnly t) : t.quiet = s.quiet :=
  (congrArg State.quiet (show t = _ from h)).trans rfl

section
variable {s t e : State} {q u : List Nat} (ht : t = { e with mbxQueue := q, quiet := u })
include ht

/-- A state that differs from such a one in its queue and the quiet mailboxes. -/
theorem State.RegsOnly.withQueues (h : s.RegsOnly e) : t = { s with regs := t.regs, mbxQueue := t.mbxQueue, quiet := t.quiet } := by
  rw [h] at ht
  rw [ht]

theorem State.get_of_withQueues (a : Nat) : t.get a = e.get a := by
  rw [ht]
  rfl

theorem State.fld_of_withQueues (f : FRef) : t.fld f = e.fld f := by
  rw [State.fld, State.get_of_withQueues ht, State.fld]

end

theorem State.regsOnly_emptyResponse (s : State) (m st : Nat) : s.RegsOnly (s.emptyResponse m st) := by
  have hself : s.RegsOnly s := rfl
  simp only [State.emptyResponse, State.raise]
  exact ((((((hself.setFld _ _).set _ _).set _ _).set _ _).set _ _).setFld _ _).setFld _ _

/-- The words of a response without payload, one by one. -/
theorem foldl_emptyHead (s : State) (w x : Word) :
    ((List.range ([w, BitVec.ofNat 32 ([] : List Byte).length, x, 0#32] ++ wordsOf []).length).zip
      ([w, BitVec.ofNat 32 ([] : List Byte).length, x, 0#32] ++ wordsOf [])).foldl
      (fun s (e : Nat × Word) => s.set (Reg.MBX_RESP m e.1) e.2) s =
    (((s.set (Reg.MBX_RESP m 0) w).set (Reg.MBX_RESP m 1) 0#32).set (Reg.MBX_RESP m 2) x).set (Reg.MBX_RESP m 3) 0#32 := rfl

/-- What ends a request once its response is written: it leaves the queue, and a restart that waits for the last one begins. -/
def State.closeRequest (s : State) (m : Nat) (quiet : Bool) : State :=
  let others := s.quiet.filter (fun x => x != m)
  let t := { s with mbxQueue := s.mbxQueue.filter (fun x => x != m), quiet := if quiet then m :: others else others }
  match t.boot.activate, t.mbxQueue with
  | some slot, [] => t.updateBegin slot
  | _, _ => t

/-- A response without payload is its registers, then the end of its request. -/
theorem State.reply_empty_eq (hmem : m ∈ s.mbxQueue) :
    s.reply m st 0 [] = (s.emptyResponse m st).closeRequest m (s.reqFlags m % 2 == 1) := by
  unfold State.reply
  rw [if_neg (by simp [hmem])]
  dsimp only
  rw [foldl_emptyHead]
  rfl

/-- A response without payload, while no restart waits for it, changes the mailbox's registers and ends its request. -/
theorem State.reply_empty (hmem : m ∈ s.mbxQueue) (hstay : s.boot.activate = none) :
    s.reply m st 0 [] =
      { s.emptyResponse m st with
        mbxQueue := s.mbxQueue.filter (fun x => x != m)
        quiet := if s.reqFlags m % 2 == 1 then m :: s.quiet.filter (fun x => x != m) else s.quiet.filter (fun x => x != m) } := by
  have hregs := s.regsOnly_emptyResponse m st
  rw [State.reply_empty_eq hmem]
  simp only [State.closeRequest, hregs.boot_eq, hregs.mbxQueue_eq, hregs.quiet_eq, hstay]

theorem State.emptyResponse_status_ready : (s.emptyResponse m st).fld (Fld.MBX_STATUS_RESP_READY m) = 1 := by
  rw [State.emptyResponse, State.fld_setFld_beside _ (Fld.MBX_STATUS_BUSY m) _ _ (by simp [Fld.MBX_STATUS_BUSY])
    (.inr (.inr (by simp [Fld.MBX_STATUS_BUSY, Fld.MBX_STATUS_RESP_READY])))]
  exact State.fld_setFld_same _ _ 1 (by simp [Fld.MBX_STATUS_RESP_READY])

theorem State.emptyResponse_status_busy : (s.emptyResponse m st).fld (Fld.MBX_STATUS_BUSY m) = 0 :=
  State.fld_setFld_same _ _ 0 (by simp [Fld.MBX_STATUS_BUSY])

/-- The words of an empty response's header lie apart from STATUS and from one another. -/
theorem mbxResp_ne_status (i : Nat) : Reg.MBX_RESP m i ≠ Reg.MBX_STATUS m := by
  simp only [Reg.MBX_RESP, Reg.MBX_STATUS]
  omega

theorem State.emptyResponse_code : (s.emptyResponse m st).get (Reg.MBX_RESP m 2) = BitVec.ofNat 32 st := by
  have hlast : Reg.MBX_RESP m 2 ≠ Reg.MBX_RESP m 3 := by simp [Reg.MBX_RESP]
  simp only [State.emptyResponse, State.raise]
  rw [State.get_setFld_ne _ _ _ (mbxResp_ne_status 2), State.get_setFld_ne _ _ _ (mbxResp_ne_status 2),
    State.get_set_ne _ _ hlast, State.get_set_same]

/-- Every word outside STATUS and the response's header stays. -/
theorem State.emptyResponse_get {a : Nat} (hstat : a ≠ Reg.MBX_STATUS m) (hresp : ∀ i, i < 4 → a ≠ Reg.MBX_RESP m i) :
    (s.emptyResponse m st).get a = s.get a := by
  simp only [State.emptyResponse, State.raise]
  rw [State.get_setFld_ne _ _ _ hstat, State.get_setFld_ne _ _ _ hstat, State.get_set_ne _ _ (hresp 3 (by decide)),
    State.get_set_ne _ _ (hresp 2 (by decide)), State.get_set_ne _ _ (hresp 1 (by decide)),
    State.get_set_ne _ _ (hresp 0 (by decide)), State.get_setFld_ne _ _ _ hstat]

/-- The oldest request, once ended, leaves the later ones. -/
theorem filter_ne_head {l : List Nat} (hhead : l.head? = some m) (hnodup : l.Nodup) : l.filter (fun x => x != m) = l.tail := by
  obtain ⟨rest, rfl⟩ := List.head?_eq_some_iff.1 hhead
  have hout : ∀ x ∈ rest, (x != m) = true := fun x hx => bne_iff_ne.2 (fun h => (List.nodup_cons.1 hnodup).1 (h ▸ hx))
  rw [List.filter_cons_of_neg (by simp), List.filter_eq_self.2 hout, List.tail_cons]

/-- What answering a turned-away request changes, and what it leaves (R390). -/
theorem State.reply_empty_effects (hhead : s.mbxQueue.head? = some m) (hnodup : s.mbxQueue.Nodup) (hstay : s.boot.activate = none) :
    let t := s.reply m st 0 []
    t = { s with regs := t.regs, mbxQueue := t.mbxQueue, quiet := t.quiet } ∧ t.mbxQueue = s.mbxQueue.tail ∧
    t.fld (Fld.MBX_STATUS_RESP_READY m) = 1 ∧ t.fld (Fld.MBX_STATUS_BUSY m) = 0 ∧
    t.get (Reg.MBX_RESP m 2) = BitVec.ofNat 32 st ∧
    ∀ a, a ≠ Reg.MBX_STATUS m → (∀ i, i < 4 → a ≠ Reg.MBX_RESP m i) → t.get a = s.get a := by
  intro t
  have ht : t = _ := State.reply_empty (List.mem_of_mem_head? hhead) hstay
  have hq : t.mbxQueue = s.mbxQueue.filter (fun x => x != m) := congrArg State.mbxQueue ht
  have hfld := State.fld_of_withQueues ht
  have hget := State.get_of_withQueues ht
  clear_value t
  refine ⟨(s.regsOnly_emptyResponse m st).withQueues ht, hq.trans (filter_ne_head hhead hnodup), ?_⟩
  exact ⟨(hfld _).trans State.emptyResponse_status_ready, (hfld _).trans State.emptyResponse_status_busy,
    (hget _).trans State.emptyResponse_code, fun a hstat hresp => (hget a).trans (State.emptyResponse_get hstat hresp)⟩

end

/-- Settles O58: the code by the rule's conditions in their order; the answer through its empty response. -/
theorem mailboxRequestsTurnedAway : Obligations.MailboxRequestsTurnedAway := by
  refine ⟨fun s m _ => s.transportError_cases m, fun dt m s htakes herr => ?answered,
    fun s m st _ _ hhead hnodup hstay => ?response, fun dt src m s hm hok htaken => ?overrun⟩
  case answered =>
    exact completes_of_onlyIf (c := fun dt => .mailboxTransportError dt m)
      (H := fun u => u.fwTakes m = true ∧ u.transportError m ≠ 0) (fun _ _ => rfl)
      (fun u ⟨htakes, herr⟩ => by simp [htakes, herr]) dt s ⟨htakes, herr⟩
  case response => exact State.reply_empty_effects hhead hnodup hstay
  case overrun =>
    exact completes_of_indexed (c := fun dt => .mailboxSubmit dt src m)
      (H := fun u => u.access src (Reg.MBX_DOORBELL m) = .ok ∧
        (u.on (Fld.MBX_STATUS_BUSY m) = true ∨ u.on (Fld.MBX_STATUS_RESP_READY m) = true))
      hm (fun _ _ => rfl) (fun u ⟨hok, htaken⟩ => ⟨hok, mbxSubmit_taken htaken⟩) dt s ⟨hok, htaken⟩

/-! ## What a copy taken from the Spine port buffer leaves (R447) -/

section
variable {s : State}

theorem State.get_setFld_above (f : FRef) (v : Nat) {a : Nat} (ha : a < 0x120000) (hf : 0x120000 ≤ f.addr) :
    (s.setFld f v).get a = s.get a := State.get_setFld_ne _ _ _ (Nat.ne_of_lt (Nat.lt_of_lt_of_le ha hf))

theorem State.count_get (die off n inst a : Nat) : (s.count die off n inst).get a = s.get a := by
  unfold State.count
  dsimp only
  split
  · split <;> rfl
  · rfl

theorem qlevelF_above {p : Nat} (c : Nat) (hp : 256 ≤ p) : 0x120000 ≤ (qlevelF p c).addr := by
  rw [qlevelF, if_neg (Nat.not_lt.2 hp)]
  simp only [Fld.SPB_QLEVEL_CELLS, Reg.SPB_QLEVEL]
  omega

theorem plevelF_above {p : Nat} (hp : 256 ≤ p) : 0x120000 ≤ (plevelF p).addr := by
  rw [plevelF, if_neg (Nat.not_lt.2 hp)]
  simp only [Fld.SPB_PLEVEL_CELLS, Reg.SPB_PLEVEL]
  omega

theorem dieOf_spine {p : Nat} (hp : 256 ≤ p) : dieOf p = 8 := if_neg (Nat.not_lt.2 hp)

/-- The cells of a Spine port's copy change only the Spine port buffer's registers. -/
theorem State.freeCells_get {p a : Nat} (c : Nat) (f : Frame) (hp : 256 ≤ p) (ha : a < 0x120000) :
    (s.freeCells p c f).get a = s.get a := by
  have hpool : (poolF 8).addr = 0x120090 := rfl
  have hshow (t : State) : (t.poolShow 8).get a = t.get a := State.get_setFld_above _ _ ha (by decide)
  have hdie (t : State) (g : Die → Die) : (t.modDie 8 g).get a = t.get a := rfl
  simp only [State.freeCells, dieOf_spine hp]
  rw [hshow, hdie]
  split <;> simp only [State.get_setFld_above _ _ ha (hpool ▸ by decide : 0x120000 ≤ (poolF 8).addr),
    State.get_setFld_above _ _ ha (plevelF_above hp), State.get_setFld_above _ _ ha (qlevelF_above c hp)]

/-- A sampler's registers lie in its Leaf's window. -/
theorem leafWindow_above (n x : Nat) : 0x120000 ≤ leafBase n + x := by
  simp only [leafBase]
  omega

theorem State.smpLost_get (n : Nat) {a : Nat} (ha : a < 0x120000) : (s.smpLost n).get a = s.get a := by
  simp only [State.smpLost, State.raise, State.bump]
  rw [State.get_setFld_above _ _ ha (leafWindow_above _ _), State.get_setFld_above _ _ ha (leafWindow_above _ _)]

theorem State.smpStop_get (n : Nat) {a : Nat} (ha : a < 0x120000) : (s.smpStop n).get a = s.get a := by
  unfold State.smpStop
  split
  · exact State.get_setFld_above _ _ ha (leafWindow_above _ _)
  · rfl

theorem State.smpShow_get (n : Nat) {a : Nat} (ha : a < 0x120000) : (s.smpShow n).get a = s.get a := by
  simp only [State.smpShow, State.setBit]
  rw [State.get_setFld_above _ _ ha (leafWindow_above _ _), State.get_setFld_above _ _ ha (leafWindow_above _ _)]

theorem State.smpStore_get (n : Nat) (r : List Word) {a : Nat} (ha : a < 0x120000) : (s.smpStore n r).get a = s.get a := by
  have hdie (g : Die → Die) : (s.modDie n g).get a = s.get a := rfl
  unfold State.smpStore
  dsimp only
  split
  · exact State.smpLost_get n ha
  · split
    · split
      · rw [State.smpStop_get n ha, State.raise, State.get_setFld_above _ _ ha (leafWindow_above _ _), State.smpShow_get n ha, hdie]
      · rw [State.smpShow_get n ha, hdie]
    · rw [State.bump, State.get_setFld_above _ _ ha (leafWindow_above _ _), hdie]

theorem State.smpPut_get (n : Nat) (r : List Word) {a : Nat} (ha : a < 0x120000) : (s.smpPut n r).get a = s.get a := by
  unfold State.smpPut
  dsimp only
  split
  · exact State.smpLost_get n ha
  · exact State.smpStore_get n r ha

/-- The record of a copy that departed changes only a sampler's registers. -/
theorem State.smpCopyEnd_sent_get (f : Frame) (p stamp flags : Nat) {a : Nat} (ha : a < 0x120000) :
    (s.smpCopyEnd f p (.sent stamp flags)).get a = s.get a := by
  unfold State.smpCopyEnd
  split
  · rfl
  · dsimp only
    split
    · rfl
    · split
      · exact State.smpPut_get _ _ ha
      · rfl

/-- A copy taken from the Spine port buffer changes no register below the buffer's own: its levels, its counters and the samplers'
registers lie above them. -/
theorem State.takenAt_get {p a : Nat} (x : Copy) (hp : 256 ≤ p) (ha : a < 0x120000) : (s.takenAt p x).get a = s.get a := by
  rw [State.takenAt, State.smpCopyEnd_sent_get _ _ _ _ ha, State.countQueue, State.countQueue, State.countTx, State.countTx,
    State.count_get, State.count_get, State.count_get, State.count_get,
    State.freeCells_get _ _ hp ha]

/-- A ring's world is kept with it (R394). -/
theorem State.takenAt_ringWorld {p : Nat} (x : Copy) (hp : 256 ≤ p) (q r : Nat) : (s.takenAt p x).ringWorld q r = s.ringWorld q r := by
  have hworld : (s.takenAt p x).get Reg.DMA_WORLD = s.get Reg.DMA_WORLD := State.takenAt_get x hp (by decide)
  have hbit (f : FRef) (hf : f.addr = Reg.DMA_WORLD) : (s.takenAt p x).fldBit f r = s.fldBit f r := by
    simp only [State.fldBit, State.fld, hf, hworld]
  simp only [State.ringWorld]
  rw [hbit _ (by split <;> rfl)]

end

/-! ## Rings (R395 to R404) -/

section
variable {s : State} {r : Nat}

/-- A TAIL below the ring's size is stored (R395). -/
theorem ringTailWrite_legal {q : Nat} {w : Word} (h : bitsOf w 0 16 < s.ringSize q r) :
    ringTailWrite q r w s = s.setFld (Fld.RING_TAIL_TAIL q r) (bitsOf w 0 16) := if_neg (Nat.not_le.2 h)

/-- A legal descriptor that asks for no stamp is done when its frame leaves for its port or for lookup (R397). -/
theorem descriptorFetch_sends {d : List Word} {bytes : List Byte} (hts : dw d 3 18 1 = 0) (hpick : s.txPick = some r)
    (hgood : s.descBad d = false) :
    descriptorFetch d bytes s =
      (let slot := (s.ring 0 r).next
       let x : Desc := { slot := slot, tsReq := false, tag := dw d 2 16 16, readAt := s.ticks, res := some (0, 0, 0, 0, 0) }
       let t := s.modRing 0 r (fun y => { y with fetched := y.fetched ++ [x], next := (slot + 1) % s.ringSize 0 r })
       let t := { t with txTurn := kput t.txTurn (t.fld (Fld.RING_CTRL_PRIO 0 r)) r }
       if dw d 3 16 1 = 1 then t.sendNamed (t.descFrame r slot d bytes) (dw d 3 0 9)
       else t.toHeader (t.descFrame r slot d bytes) t.phys) := by
  simp only [descriptorFetch, hpick, hgood, hts]
  rfl

/-- The oldest fetched descriptor whose outcome is known is written back (R398). -/
theorem txWriteback_known {x : Desc} {rest : List Desc} {res : Nat × Nat × Nat × Nat × Nat}
    (hhead : (s.ring 0 r).fetched = x :: rest) (hres : x.res = some res) :
    txWriteback r s =
      ((s.modRing 0 r (fun y => { y with fetched := rest })).writeBack 0 r x.slot (txWords x res)).ringIdle r := by
  simp only [txWriteback, hhead, hres]

/-- A frame whose ring is on and whose buffer holds it is delivered (R400, R401). -/
theorem rxDelivery_fits {buf c : Nat} {x : Copy} {rest : List Copy} (hclass : s.rxClass = some c)
    (hhead : s.queue 258 c = x :: rest) (hon : (s.setQueue 258 c rest).ringOn 1 (s.rxRing x.f) = true)
    (hfits : (s.egressBytes x.f 258).length ≤ (s.setQueue 258 c rest).bufBytes (s.rxRing x.f)) :
    rxDelivery buf s =
      (let r := s.rxRing x.f
       let b := s.egressBytes x.f 258
       let t := (s.setQueue 258 c rest).takenAt 258 x
       let t := t.emit (.hostWrite (t.ringWorld 1 r) buf b)
       t.writeBack 1 r (t.ringHead 1 r) (rxWords x.f b.length)) := by
  simp only [rxDelivery, hclass, hhead, hon, Bool.not_true, Bool.false_eq_true, if_false, if_neg (Nat.not_lt.2 hfits),
    State.takenAt_ringWorld x (by decide : 256 ≤ 258)]

end

/-- Settles O37. When a frame for port 258 counts, what a stopped ring writes back, and that host memory lies outside the block are
the model's choices (SPEC.md, log entries 60, 116 and 117). -/
theorem ringsComplete : Obligations.RingsComplete := by
  refine ⟨fun src q r w hq hr => ?tail, fun src q r hq hr => ?disable, fun q r hq hr => ?error, fun q r hq hr => ?timer,
    fun d bytes r hts => ?fetch, fun r x rest res hr => ?writeBack, fun r hr => ?late, fun buf c x rest => ?receive⟩
  case tail =>
    exact completes_of_indexed (p := q < 2 ∧ r < 16) ⟨hq, hr⟩ (fun _ _ => by rw [Bool.decide_and]; rfl)
      (fun u ⟨hok, htail⟩ => ⟨hok, ringTailWrite_legal htail⟩)
  case disable =>
    exact completes_of_indexed (p := q < 2 ∧ r < 16) ⟨hq, hr⟩ (fun _ _ => by rw [Bool.decide_and]; rfl)
      (fun u ⟨hok, hon⟩ => ⟨hok, if_pos hon⟩)
  case error => exact completes_of_onlyIf (fun _ _ => rfl) (fun u ⟨hpow, hrun⟩ => by simp [hq, hr, hpow, hrun])
  case timer =>
    exact completes_of_onlyIf (fun _ _ => rfl) (fun u ⟨hpow, hset, hsome, hdue⟩ => by simp [hq, hr, hpow, hset, hsome, hdue])
  case fetch =>
    exact completes_of_onlyIf_eq (fun _ _ => rfl) (fun u ⟨hpow, hpick, hgood⟩ => ⟨hpow, descriptorFetch_sends hts hpick hgood⟩)
  case writeBack =>
    exact completes_of_onlyIf_eq (fun _ _ => rfl) (fun u ⟨hpow, hhead, hres⟩ =>
      ⟨by simp [hr, hpow], txWriteback_known hhead hres⟩)
  case late => exact completes_of_onlyIf (fun _ _ => rfl) (fun u hpow => by simp [hr, hpow])
  case receive =>
    exact completes_of_onlyIf_eq (fun _ _ => rfl) (fun u ⟨hpow, hclass, hhead, hon, hfits⟩ =>
      ⟨hpow, rxDelivery_fits hclass hhead hon hfits⟩)

end Sys2Proof.Machine
end

section
/-!
Proofs of the requests of the PARAM family.
-/
namespace Sys2Proof.Machine

/-! ## The checks of a parameter request (R408, R415 to R422) -/

section
variable {u : State} {m : Nat}

/-- A check that binds the non-secure world only. -/
theorem nonSecureCheck_passes {b : Bool} (h : worldOf m = 0 → b = false) : (worldOf m == 0 && b) = false := by
  cases b
  · rw [Bool.and_false]
  · rw [Bool.and_true, beq_eq_false_iff_ne]
    exact fun hm => absurd (h hm) (by decide)

/-- A value that may be staged: an item of the mailbox's world and the member, in range, in a set that is neither locked nor full. -/
theorem paramStage_passes {p : ParamSpec} (hworld : worldOf m = 0 → u.keySecure (u.arg m 1) = false)
    (hown : u.psetForeign (u.arg m 0) (worldOf m) = false) (hpresent : u.keyAbsent (u.arg m 1) = false)
    (hspec : paramSpec (u.arg m 1) = some p) (hset : u.arg m 0 < 16)
    (hrange : p.inRange (paramValue p (u.arg m 2) (u.arg m 3)) = true) (hopen : u.setLocked (u.arg m 0) = false)
    (hroom : (u.pset (u.arg m 0)).entries.length < 512 ∨ (kfind (u.pset (u.arg m 0)).entries (u.arg m 1)).isSome = true) :
    ∀ c ∈ [((worldOf m == 0 && u.keySecure (u.arg m 1)) || u.psetForeign (u.arg m 0) (worldOf m), stWorld),
       (u.keyAbsent (u.arg m 1), stAbsent), ((paramSpec (u.arg m 1)).isNone, stUnknownKey),
       (decide (16 ≤ u.arg m 0) || !(paramSpec (u.arg m 1)).any (fun p => p.inRange (paramValue p (u.arg m 2) (u.arg m 3))),
        stInvalid),
       (u.setLocked (u.arg m 0), stBusy),
       (decide (512 ≤ (u.pset (u.arg m 0)).entries.length) && (kfind (u.pset (u.arg m 0)).entries (u.arg m 1)).isNone, stFull)],
      c.1 = false := by
  have hfull : (decide (512 ≤ (u.pset (u.arg m 0)).entries.length) &&
      (kfind (u.pset (u.arg m 0)).entries (u.arg m 1)).isNone) = false := by
    rcases hroom with hlen | hheld
    · rw [decide_eq_false (Nat.not_le.2 hlen), Bool.false_and]
    · rw [← Option.not_isSome, hheld, Bool.not_true, Bool.and_false]
  simp only [List.forall_mem_cons, nonSecureCheck_passes hworld, hown, hpresent, hspec, hopen, hfull]
  simp [hset, hrange]

end

/-- Settles O39: each request through its checks. What a locked set bars, and when TIME is checked, are the model's choice
(SPEC.md, log entry 124). -/
theorem parameterRequestsComplete : Obligations.ParameterRequestsComplete := by
  refine ⟨fun m => ?get, fun m p => ?stage, fun m => ?commitNow, fun m e t => ?commitAt, fun m => ?discard, fun m hm => ?list,
    fun m => ?status⟩
  case get =>
    refine completes_of_served (fun _ _ => rfl) (fun u ⟨hreq, hworld, hpresent, hspec⟩ => ⟨hreq, ?_, rfl⟩)
    simp only [List.forall_mem_cons, nonSecureCheck_passes hworld, hpresent, ← Option.not_isSome, hspec]
    simp
  case stage =>
    refine completes_of_served (fun _ _ => rfl)
      (fun u ⟨hreq, hworld, hown, hpresent, hspec, hset, hrange, hopen, hroom⟩ => ⟨hreq, ?_, ?_⟩)
    · exact paramStage_passes hworld hown hpresent hspec hset hrange hopen hroom
    · simp only [hspec, Option.map_some, Option.getD_some]
  case commitNow =>
    refine completes_of_serve (fun _ _ => rfl) (fun u ⟨hidle, hreq, hnow, hset, hown, hpass⟩ =>
      ⟨by rw [hidle, Bool.not_false], hreq, rfl, by simp [hnow, hset, hown], ?_⟩)
    simp only [hnow, hpass, if_true, Option.isSome_none, Bool.false_eq_true, if_false]
  case commitAt =>
    refine completes_of_serve (fun _ _ => rfl) (fun u ⟨hidle, hreq, hat, hset, hown, htime, hok, hentry⟩ =>
      ⟨by rw [hidle, Bool.not_false], hreq, rfl, by simp [hat, hset, hown, htime], ?_⟩)
    simp only [hat, hok, hentry, Nat.one_ne_zero, if_false, if_true]
  case discard =>
    exact completes_of_served (fun _ _ => rfl) (fun u ⟨hreq, hown, hset, hopen⟩ => ⟨hreq, by simp [hown, hset, hopen], rfl⟩)
  case list =>
    refine completes_of_served (fun _ _ => rfl) (fun u ⟨hreq, hclass⟩ => ⟨hreq, by simp [hm, hclass], ?_⟩)
    simp only [hm, beq_self_eq_true, Bool.true_or, Bool.true_and]
  case status => exact completes_of_served (fun _ _ => rfl) (fun u ⟨hreq, hown, hset⟩ => ⟨hreq, by simp [hown, hset], rfl⟩)

end Sys2Proof.Machine
end

section
/-!
Proof that a set of parameters commits whole or not at all: the first failing key, the committed values, and that the firmware's
register writes leave the sets and the values alone.
-/
namespace Sys2Proof.Machine

/-! ## Tables in rising order of their keys -/

section
variable {α : Type}

/-- In a rising table the entry found first is the one no earlier entry of which meets the test. -/
theorem find?_key_of_first {m : KMap α} {p : Nat → Bool} {k : Nat} {x : α} (hrise : krising m = true) (hmem : (k, x) ∈ m)
    (hk : p k = true) (hmin : ∀ j y, (j, y) ∈ m → j < k → p j = false) : m.find? (fun e => p e.1) = some (k, x) := by
  rw [krising_iff] at hrise
  induction m with
  | nil => cases hmem
  | cons e m ih =>
    obtain ⟨hfirst, hrest⟩ := List.pairwise_cons.1 hrise
    rcases List.mem_cons.1 hmem with rfl | hlater
    · exact List.find?_cons_of_pos hk
    · have hpass : p e.1 = false := hmin e.1 e.2 (List.mem_cons_self ..) (hfirst _ hlater)
      rw [List.find?_cons_of_neg (by simp [hpass])]
      exact ih hrest hlater (fun j y hj => hmin j y (List.mem_cons_of_mem e hj))

/-- The values of a table put into another one, one by one. -/
def kputAll (e m : KMap α) : KMap α := e.foldl (fun m x => kput m x.1 x.2) m

theorem kfind_kputAll_of_not_mem {e m : KMap α} {k : Nat} (h : ∀ x, (k, x) ∉ e) : kfind (kputAll e m) k = kfind m k := by
  induction e generalizing m with
  | nil => rfl
  | cons f e ih =>
    have hne : k ≠ f.1 := fun hk => h f.2 (hk ▸ List.mem_cons_self ..)
    exact (ih (fun x hx => h x (List.mem_cons_of_mem f hx))).trans (kfind_kput_ne m f.2 hne)

theorem kfind_kputAll_of_mem {e m : KMap α} {k : Nat} {x : α} (hrise : krising e = true) (h : (k, x) ∈ e) :
    kfind (kputAll e m) k = some x := by
  rw [krising_iff] at hrise
  induction e generalizing m with
  | nil => cases h
  | cons f e ih =>
    obtain ⟨hfirst, hrest⟩ := List.pairwise_cons.1 hrise
    rcases List.mem_cons.1 h with rfl | hlater
    · have hout : ∀ y, (k, y) ∉ e := fun y hy => Nat.lt_irrefl k (hfirst _ hy)
      exact (kfind_kputAll_of_not_mem hout).trans (kfind_kput_same m k x)
    · exact ih hrest hlater

end

/-- What every function of a fold leaves, the fold leaves. -/
theorem foldl_kept {α β : Type} {v : State → α} {f : State → β → State} (hkeep : ∀ s x, v (f s x) = v s) (l : List β) (s : State) :
    v (l.foldl f s) = v s := by
  induction l generalizing s with
  | nil => rfl
  | cons x l ih => exact (ih (f s x)).trans (hkeep s x)

/-! ## What the firmware's writes for a set leave: the committed values and the sets (R418) -/

/-- The committed values and the staged sets. -/
def State.paramTables (s : State) : KMap Int × KMap PSet := (s.params, s.psets)

section
variable (s : State)

@[simp] theorem State.paramTables_set (a : Nat) (w : Word) : (s.set a w).paramTables = s.paramTables := rfl
@[simp] theorem State.paramTables_setFld (f : FRef) (v : Nat) : (s.setFld f v).paramTables = s.paramTables := s.paramTables_set _ _
@[simp] theorem State.paramTables_setBit (f : FRef) (b : Bool) : (s.setBit f b).paramTables = s.paramTables := s.paramTables_set _ _
@[simp] theorem State.paramTables_raise (f : FRef) : (s.raise f).paramTables = s.paramTables := s.paramTables_set _ _
@[simp] theorem State.paramTables_wrapAdd (f : FRef) (n : Nat) : (s.wrapAdd f n).paramTables = s.paramTables := s.paramTables_set _ _
@[simp] theorem State.paramTables_modTcx (p : Nat) (f : Tcx → Tcx) : (s.modTcx p f).paramTables = s.paramTables := rfl

@[simp] theorem State.paramTables_shadowReg (a : Nat) (w : Word) : (s.shadowReg a w).paramTables = s.paramTables := by
  unfold State.shadowReg
  split <;> rfl

@[simp] theorem State.paramTables_fwReg (a : Nat) (w : Word) : (s.fwReg a w).paramTables = s.paramTables := by
  unfold State.fwReg
  dsimp only
  split <;> simp

@[simp] theorem State.paramTables_fwFld (f : FRef) (v : Nat) : (s.fwFld f v).paramTables = s.paramTables :=
  s.paramTables_fwReg _ _

@[simp] theorem State.paramTables_checkAsym (p : Nat) : (s.checkAsym p).paramTables = s.paramTables := by
  unfold State.checkAsym
  split <;> simp

@[simp] theorem paramTables_tcxCommit (p : Nat) : (tcxCommit p s).paramTables = s.paramTables := by
  unfold tcxCommit
  dsimp only
  split
  · simp
  · rw [State.paramTables_checkAsym]
    split <;> simp

@[simp] theorem State.paramTables_ptpDerive (p : Nat) : (s.ptpDerive p).paramTables = s.paramTables := by
  have htrap (v : Nat) (l : List (Nat × Nat)) (t : State) :
      (l.foldl (fun s e => s.fwFld (Fld.FWD_PORT_CFG_PTP_TRAP e.1 e.2) v) t).paramTables = t.paramTables :=
    foldl_kept (v := State.paramTables) (fun t e => t.paramTables_fwFld _ _) l t
  have hcommit (on : Bool) (t : State) : (if on = true then tcxCommit p t else t).paramTables = t.paramTables := by
    split <;> simp
  unfold State.ptpDerive
  dsimp only
  rw [hcommit]
  simp only [State.paramTables_fwFld, State.paramTables_fwReg]
  exact htrap _ _ s

@[simp] theorem State.paramTables_keyEffect (k : Nat) : (s.keyEffect k).paramTables = s.paramTables := by
  unfold State.keyEffect
  dsimp only
  split
  · simp
  · split <;> simp
  · split <;> simp
  · exact State.forAll_kept (v := State.paramTables) (fun n t => by simp) _ _
  · exact State.forAll_kept (v := State.paramTables) (fun n t => by simp) _ _
  · exact State.forAll_kept (v := State.paramTables) (fun n t => by simp) _ _
  · rfl

@[simp] theorem State.paramTables_showBw (d : Nat) : (s.showBw d).paramTables = s.paramTables := by
  simp only [State.showBw, State.paramTables_setBit, State.paramTables_setFld]

@[simp] theorem State.paramTables_showBws : s.showBws.paramTables = s.paramTables :=
  State.forAll_kept (v := State.paramTables) (fun d t => by split <;> simp) _ _

@[simp] theorem State.paramTables_ptpBind (i p : Nat) : (s.ptpBind i p).paramTables = s.paramTables := by
  unfold State.ptpBind
  dsimp only
  split
  · rfl
  · exact State.paramTables_showBws _

@[simp] theorem State.paramTables_ptpFollow : s.ptpFollow.paramTables = s.paramTables := by
  unfold State.ptpFollow
  exact foldl_kept (v := State.paramTables) (fun t e => by split <;> simp) _ _

/-- Committing a set changes the values it holds, and no staged set. -/
theorem State.paramTables_commitSet (e : KMap Int) : (s.commitSet e).paramTables = (kputAll e s.params, s.psets) := by
  rw [State.commitSet, State.paramTables_ptpFollow]
  exact foldl_kept (v := State.paramTables) (fun t x => t.paramTables_keyEffect x.1) e (s.putParams e)

end

/-! ## The check of a set (R418) -/

section
variable {s : State} {i k tag : Nat}

theorem State.commitFails_first {e : KMap Int} {x : Int} (hrise : krising e = true) (hmem : (k, x) ∈ e)
    (hk : (s.putParams e).keyOk k = false) (hmin : ∀ j y, (j, y) ∈ e → j < k → (s.putParams e).keyOk j = true) :
    s.commitFails e = some k := by
  have hfirst := find?_key_of_first (p := fun j => !(s.putParams e).keyOk j) hrise hmem (by simp [hk])
    (fun j y hj hlt => by simp [hmin j y hj hlt])
  rw [State.commitFails, hfirst]
  rfl

theorem State.commitFails_none {e : KMap Int} (h : ∀ k x, (k, x) ∈ e → (s.putParams e).keyOk k = true) : s.commitFails e = none := by
  rw [State.commitFails, List.find?_eq_none.2 (fun x hx => by simp [h x.1 x.2 hx])]
  rfl

/-- A set with a failing key commits nothing: it records the key. -/
theorem State.commitStaged_fails (late : Bool) (h : s.commitFails (s.pset i).entries = some k) :
    s.commitStaged i tag late = (some k, s.setPset i { s.pset i with lastTag := tag, lastResult := 2, failKey := k }) := by
  simp only [State.commitStaged, h]

@[simp] theorem State.pset_setPset (x : PSet) : (s.setPset i x).pset i = x := kget_kput_same ..

/-- A set that passes is shown empty, with its tag and result, and its values are the committed ones. -/
theorem State.commitSet_setPset (x : PSet) (e : KMap Int) :
    ((s.setPset i x).commitSet e).pset i = x ∧ ((s.setPset i x).commitSet e).params = kputAll e s.params := by
  have hkept := State.paramTables_commitSet (s.setPset i x) e
  obtain ⟨hparams, hsets⟩ := Prod.ext_iff.1 hkept
  refine ⟨?_, hparams⟩
  have hsets : ((s.setPset i x).commitSet e).psets = (s.setPset i x).psets := hsets
  rw [State.pset, hsets]
  exact State.pset_setPset x

end

/-- Settles O60: the first failing key by the order of the entries; a passing set by what its register writes leave. -/
theorem setsCommitWholeOrNotAtAll : Obligations.SetsCommitWholeOrNotAtAll := by
  intro s i tag hrise e r fails
  have hpassed (k : Nat) (h : ¬fails k) : (s.putParams e).keyOk k = true := Bool.eq_true_of_not_eq_false h
  constructor
  · intro k x hmem hfails hmin
    have hfirst : s.commitFails e = some k :=
      State.commitFails_first hrise hmem hfails (fun j y hj hlt => hpassed j (hmin j y hj hlt))
    have hr : r = _ := State.commitStaged_fails (tag := tag) false hfirst
    rw [hr]
    exact ⟨rfl, rfl, by rw [State.pset_setPset], by rw [State.pset_setPset], by rw [State.pset_setPset]⟩
  · intro hall
    have hnone : s.commitFails e = none := State.commitFails_none (fun k x hk => hpassed k (hall k x hk))
    have hr : r = _ := State.commitStaged_passes tag false hnone
    obtain ⟨hset, hparams⟩ := State.commitSet_setPset (s := s) (i := i)
      { s.pset i with entries := [], lastTag := tag, lastResult := if false then 3 else 1, failKey := 0 } e
    rw [hr]
    dsimp only
    rw [hset, hparams]
    exact ⟨rfl, rfl, rfl, rfl, fun k x hk => kfind_kputAll_of_mem hrise hk, fun k hk => kfind_kputAll_of_not_mem hk⟩

end Sys2Proof.Machine
end

section
/-!
Proofs of the families of calibration, monitors and telemetry.
-/
namespace Sys2Proof.Machine

/-! ## Requests and runs of the calibration engine (R437 to R440) -/

section
variable {s : State}

/-- The fields of a CAL.REQ word: GO, the item and the unit it names. -/
theorem calReqWord_fields {item inst : Nat} (hitem : item < 16) (hinst : inst < 512) :
    bitsOf (BitVec.ofNat 32 (2 ^ 31 + item * 2 ^ 24 + inst)) 31 1 = 1 ∧
    bitsOf (BitVec.ofNat 32 (2 ^ 31 + item * 2 ^ 24 + inst)) 24 4 = item ∧
    bitsOf (BitVec.ofNat 32 (2 ^ 31 + item * 2 ^ 24 + inst)) 0 9 = inst := by
  simp only [bitsOf, BitVec.toNat_ofNat]
  omega

/-- GO at an idle interface for a run that is not refused queues it (R437). -/
theorem calReqWrite_go {w item inst : Nat} (hitem : item < 16) (hinst : inst < 512)
    (hidle : s.on (Fld.CAL_REQ_STAT_BUSY w) = false)
    (hfree : (s.storeRw (Reg.CAL_REQ w) (BitVec.ofNat 32 (2 ^ 31 + item * 2 ^ 24 + inst))).calRefusal item inst = 0) :
    calReqWrite w (BitVec.ofNat 32 (2 ^ 31 + item * 2 ^ 24 + inst)) s =
      (let t := s.storeRw (Reg.CAL_REQ w) (BitVec.ofNat 32 (2 ^ 31 + item * 2 ^ 24 + inst))
       ((t.raise (Fld.CAL_REQ_STAT_BUSY w)).setFld (Fld.CAL_REQ_STAT_DONE w) 0).calQueue item inst w) := by
  obtain ⟨hgo, hword, hplace⟩ := calReqWord_fields hitem hinst
  simp only [calReqWrite, hgo, hword, hplace, hidle, hfree, Bool.false_eq_true, and_false, Nat.one_ne_zero, if_false, if_true]

/-- The head of the queue starts when its preconditions hold (R438). -/
theorem calRunStart_starts {r : CalRun} {rest : List CalRun} (hhead : s.cal.queue = r :: rest)
    (hpre : (s.modCal (fun c => { c with queue := rest })).calPrecondition r.item r.inst = 0) :
    calRunStart s =
      (let t := s.modCal (fun c => { c with queue := rest })
       (t.modCal (fun c => { c with runs := c.runs ++ [{ r with at_ := t.ticks }] })).calHold r.item r.inst) := by
  simp only [calRunStart, hhead, hpre, if_true]

/-- A measurement with a correction in range is applied, and its run ends with the result (R434, R435, R440). -/
theorem calComplete_inRange {r : CalRun} {dac : Option Int} {el : Option (Nat × Int)} {bands : List Word} {m e : Nat} {v : Int}
    (hres : s.calResult r.item r.inst dac el bands = some (m, e, v)) :
    calComplete r dac el bands s =
      (let w := BitVec.ofNat 32 (m * 2 ^ 26 + e % 256 * 2 ^ 16 + unsigned 16 v)
       let t := (((s.raise Fld.CAL_EVT_DONE).calApply r.item r.inst bands).calEnd r w)
       t.modCal (fun c => { c with applied := kput c.applied (calKey r.item r.inst) w })) := by
  simp only [calComplete, hres]

/-! ## Conversions (R441, R442) -/

/-- A temperature conversion while MONITOR does not run on the die (R441, R443). -/
theorem tempConvert_free {m : Nat} (t : Int) (h : calHas s.cal.runs 6 (tempInst m) = false) :
    tempConvert m t s =
      (let before := !s.on (Fld.CAL_MON_TEMP_VALID m) || s.tempIn m (s.fldInt (Fld.CAL_MON_TEMP_VALUE m))
       let u := s.set (Reg.CAL_MON_TEMP m) (BitVec.ofNat 32 (2 ^ 31 + unsigned 16 t))
       let u := if before && !u.tempIn m t then u.setFldBit Fld.CAL_MON_TEMP_EVT_CROSS m true else u
       if m = 0 then u.forAll [0, 1, 2] (fun d s => if s.fld (Fld.DPLL_HO_CFG_TEMP_SRC d) = 0 then s.dpllTemp d t else s)
       else u.judgeTemp (if m = 1 then 8 else m - 2) t) :=
  if_neg (by rw [h]; decide)

/-- A voltage conversion while MONITOR does not run on the die (R442, R443). -/
theorem voltConvert_free {v mv : Nat} (hmv : mv < 65536) (h : calHas s.cal.runs 6 (voltInst v) = false) :
    voltConvert v mv s =
      (let before := !s.on (Fld.CAL_MON_VOLT_VALID v) || s.voltIn v (s.fld (Fld.CAL_MON_VOLT_MV v))
       let u := s.set (Reg.CAL_MON_VOLT v) (BitVec.ofNat 32 (2 ^ 31 + mv))
       if before && !u.voltIn v mv then u.setFldBit Fld.CAL_MON_VOLT_EVT_CROSS v true else u) := by
  rw [voltConvert, Nat.mod_eq_of_lt hmv]
  exact if_neg (by rw [h]; decide)

end

/-- Settles O43. Measurements as operands, the order of the preconditions and the limits the previous reading is judged against are the
model's choices (SPEC.md, log entries 136 to 138). -/
theorem calibrationComplete : Obligations.CalibrationComplete := by
  refine ⟨fun src w item inst hw hitem hinst => ?request, fun item inst => ?schedule, fun r rest => ?start,
    fun item inst dac el bands r m e v => ?complete, fun m value hm => ?temperature, fun v mv hv hmv => ?voltage⟩
  case request =>
    exact completes_of_indexed (p := (w < 2 ∧ item < 16) ∧ inst < 512) ⟨⟨hw, hitem⟩, hinst⟩
      (fun _ _ => by rw [Bool.decide_and, Bool.decide_and]; rfl)
      (fun u ⟨hok, hidle, hfree⟩ => ⟨hok, calReqWrite_go hitem hinst hidle hfree⟩)
  case schedule =>
    exact completes_of_onlyIf (fun _ _ => rfl) (fun u ⟨hpow, hknown, hon, hdue⟩ => by simp [hpow, hknown, hon, hdue])
  case start =>
    exact completes_of_onlyIf_eq (fun _ _ => rfl) (fun u ⟨hpow, hroom, hhead, hpre⟩ =>
      ⟨by simp [hpow, hroom], calRunStart_starts hhead hpre⟩)
  case complete =>
    refine completes_of_effect (fun _ _ => rfl) (fun u ⟨hfind, hres⟩ => ?_)
    simp only [hfind]
    exact calComplete_inRange hres
  case temperature =>
    refine completes_of_effect (fun _ _ => rfl) (fun u ⟨hon, hfree⟩ => ?_)
    exact (onlyIf_true _ u (by simp [hm, hon])).trans (tempConvert_free value hfree)
  case voltage =>
    refine completes_of_effect (fun _ _ => rfl) (fun u ⟨hon, hfree⟩ => ?_)
    exact (onlyIf_true _ u (by simp [hv, hon])).trans (voltConvert_free hmv hfree)

/-! ## Telemetry (R450 to R452) -/

section
variable {s : State}

/-- The fields of a SNAP_REQ word: GO and the target. -/
theorem snapReqWord_fields {target : Nat} (h : target < 512) :
    bitsOf (BitVec.ofNat 32 (2 ^ 31 + target % 512)) 31 1 = 1 ∧ bitsOf (BitVec.ofNat 32 (2 ^ 31 + target % 512)) 0 9 = target := by
  simp only [bitsOf, BitVec.toNat_ofNat]
  omega

/-- GO with a legal mask while no snapshot of another tick is under way (R452). -/
theorem snapReqWrite_go {target : Nat} (h : target < 512) (hmask : groupsOk (s.getWide Reg.TEL_SNAP_MASK0 2) = true)
    (hopen : s.snapOpen = true) :
    snapReqWrite (BitVec.ofNat 32 (2 ^ 31 + target % 512)) s =
      (let t := s.storeRw Reg.TEL_SNAP_REQ (BitVec.ofNat 32 (2 ^ 31 + target))
       snapBegin (s.getWide Reg.TEL_SNAP_MASK0 2) target t.now t) := by
  obtain ⟨hgo, htarget⟩ := snapReqWord_fields h
  simp only [snapReqWrite, hgo, htarget, hmask, hopen, Bool.not_true, Bool.or_false, Bool.false_eq_true, Nat.one_ne_zero, if_false,
    snapNow]
  rw [Nat.mod_eq_of_lt h]

/-! ## The sampler's registers (R454, R457) -/

/-- CTRL of an idle sampler starts it: EN rises, and its sequence begins at the seed (R454; SPEC.md, log entry 140). -/
theorem smpWrite_start {n : Nat} {w : Word} (hsel : bitsOf w 28 2 ≠ 3) (hflush : bitsOf w 30 1 = 0) (hen : bitsOf w 31 1 = 1)
    (hoff : s.on (Fld.SMP_CTRL_EN n) = false) :
    smpWrite n 0 w s =
      (let t := (s.storeRw (Reg.SMP_CTRL n) w).smpStop n
       t.modDie n (fun d => { d with lfsr := t.get (Reg.SMP_SEED n) })) := by
  simp [smpWrite, smpCtrlWrite, hsel, hflush, hen, hoff]

/-- SEED, FILT or FILT_STREAM of an idle sampler is stored; a seed of 0 is none (R454). -/
theorem smpWrite_config {n e : Nat} {w : Word} (he : 1 ≤ e) (hseed : e = 1 → w ≠ 0#32)
    (hoff : s.on (Fld.SMP_CTRL_EN n) = false) : smpWrite n e w s = s.storeRw (Reg.SMP_CTRL n + 4 * e) w := by
  have hlegal : ¬(s.on (Fld.SMP_CTRL_EN n) = true ∨ (e = 1 ∧ w = 0#32)) := by
    rintro (hon | ⟨h1, hzero⟩)
    · rw [hoff] at hon
      cases hon
    · exact hseed h1 hzero
  rw [smpWrite, if_neg (Nat.ne_of_gt he), smpCfgWrite, if_neg hlegal]

/-- The oldest record is removed and latched (R457). -/
theorem smpRead_oldest {src : Src} {n : Nat} {r : List Word} {rest : List (List Word)} (h : (s.die n).recs = r :: rest) :
    smpRead src n s =
      (let t := (s.modDie n (fun d => { d with recs := rest })).smpShow n
       (t.forAll (List.range 16) (fun i s => s.set (Reg.SMP_REC n i) ((r[i]?).getD 0#32))).emit
         (.readData src [(r[0]?).getD 0#32])) := by
  simp only [smpRead, h, List.headD_cons, List.drop_succ_cons, List.drop_zero]

end

/-- Settles O44. When a snapshot copies its counters and when the sampler's sequence restarts are the model's choices (SPEC.md, log
entries 139 and 140). -/
theorem telemetryComplete : Obligations.TelemetryComplete := by
  refine ⟨fun src on => ?freeze, fun src target htarget => ?snapshot, fun x => ?swap,
    fun src n w hn hsel hflush hen => ?start, fun src n e w hn he hlt hseed => ?config, fun src n hn => ?flush,
    fun src n r rest hn => ?read⟩
  case freeze => exact completes_of_guarded (fun _ _ => rfl) (fun u hok => ⟨hok, rfl⟩)
  case snapshot =>
    exact completes_of_guarded (fun _ _ => rfl) (fun u ⟨hok, hmask, hopen⟩ => ⟨hok, snapReqWrite_go htarget hmask hopen⟩)
  case swap =>
    refine completes_of_effect (fun _ _ => rfl) (fun u hsnap => ?_)
    simp only [hsnap]
  case start =>
    exact completes_of_indexed (p := n < 8 ∧ 0 < 4) ⟨hn, by decide⟩ (fun _ _ => by rw [Bool.decide_and]; rfl)
      (fun u ⟨hok, hoff⟩ => ⟨hok, smpWrite_start hsel hflush hen hoff⟩)
  case config =>
    exact completes_of_indexed (p := n < 8 ∧ e < 4) ⟨hn, hlt⟩ (fun _ _ => by rw [Bool.decide_and]; rfl)
      (fun u ⟨hok, hoff⟩ => ⟨hok, smpWrite_config he hseed hoff⟩)
  case flush => exact completes_of_indexed hn (fun _ _ => rfl) (fun u hok => ⟨hok, rfl⟩)
  case read => exact completes_of_indexed hn (fun _ _ => rfl) (fun u ⟨hok, hrecs⟩ => ⟨hok, smpRead_oldest hrecs⟩)

end Sys2Proof.Machine
end

section
/-!
Proofs of the family of the firmware's services: broadcasts, LLDP and snooping.
-/
namespace Sys2Proof.Machine

section
variable {s : State}

/-- An LLDP frame with its three first TLVs, on a port that receives, sets or removes the port's neighbour (R429). -/
theorem lldpTake_parsed {f : Frame} {x : Neighbour} (hparse : lldpParse (f.bytes.drop (parseFrame true f.bytes).body) s.ticks = some x)
    (hadmin : 2 ≤ s.lldpAdmin f.inPort) :
    lldpTake f s =
      { s with neighbours := if x.ttl = 0 then kdel s.neighbours f.inPort else kput s.neighbours f.inPort x } := by
  simp only [lldpTake, hparse, if_neg (Nat.not_lt.2 hadmin)]

/-- A membership not heard for MEMBER_TIMEOUT is one that lives no more (R428). -/
theorem members_any_late {x : SnoopMember} (hmem : x ∈ s.snoop.members) (hlate : x.heard + s.snoopItem 4 * secT ≤ s.ticks) :
    s.snoop.members.any (fun z => !decide (s.ticks < z.heard + s.snoopItem 4 * secT)) = true :=
  List.any_eq_true.2 ⟨x, hmem, by rw [decide_eq_false (Nat.not_lt.2 hlate), Bool.not_false]⟩

end

/-- Settles O45. The class services send in, when a broadcast counts as accepted, the LLDP frame, the query and the services' table writes
are the model's reading (SPEC.md, log entries 132 to 135). -/
theorem servicesComplete : Obligations.ServicesComplete := by
  refine ⟨fun f t => ?broadcast, fun p => ?transmit, fun f t x => ?receive, fun p x => ?expiry, fun f t => ?report,
    fun vid v6 hvid => ?query, fun x => ?timeout⟩
  case broadcast =>
    exact completes_of_onlyIf_eq (fun _ _ => rfl) (fun u ⟨hidle, hfw, htake⟩ =>
      ⟨by rw [hidle, Bool.not_false], State.svcRun_taken bcastTake hfw htake⟩)
  case transmit =>
    exact completes_of_onlyIf (fun _ _ => rfl) (fun u ⟨hfw, hport, hadmin, hdue⟩ => by simp [hfw, hport, hadmin, hdue])
  case receive =>
    exact completes_of_svcRun (fun _ _ => rfl) (fun u ⟨hfw, htake, hparse, hadmin⟩ =>
      ⟨hfw, htake, lldpTake_parsed hparse hadmin⟩)
  case expiry =>
    exact completes_of_onlyIf (fun _ _ => rfl) (fun u ⟨hfw, hheld, hlate⟩ => by
      rw [hfw, hheld, Option.any_some, decide_eq_true hlate, Bool.and_self])
  case report => exact completes_of_svcRun (fun _ _ => rfl) (fun u ⟨hfw, htake⟩ => ⟨hfw, htake, rfl⟩)
  case query =>
    refine completes_of_effect (fun _ _ => rfl) (fun u ⟨hfw, hon, hquery, hvlan, hdue⟩ => ?_)
    exact onlyIf_true _ u (by simp [hfw, hon, hquery, hvid, hvlan, hdue])
  case timeout =>
    refine completes_of_effect (fun _ _ => rfl) (fun u ⟨hfw, hmem, hlate⟩ => ?_)
    exact onlyIf_true _ u (by rw [hfw, members_any_late hmem hlate, Bool.and_self])

end Sys2Proof.Machine
end
